-- ==== Sys2Proof/Word.lean ====
section
/-! DEFINITION. The word types of the KB60/9 model and their plainest arithmetic: 32-bit registers (R8),
64-bit maintenance messages (R126), 128-byte data fields (R54), and the shape of a sparse table. -/

namespace Sys2Proof

/-- A 32-bit register word (Registers, 00_scope). -/
abbrev Word := BitVec 32

/-- A 64-bit maintenance-ring message (R126). -/
abbrev Msg := BitVec 64

/-- The 128-byte data field of a flit (R54): data byte `n` is bits `[8n+7:8n]`. -/
abbrev Data := BitVec 1024

/-- A sparse table: the entries that differ from the table's default, keys strictly rising. -/
abbrev Tbl (α : Type) := List (Nat × α)

/-- The field of `w` bits at bit `lo` of a number. -/
def nbits (n lo w : Nat) : Nat := n / 2 ^ lo % 2 ^ w

/-- Bit `i` of a number. -/
def nbit (n i : Nat) : Bool := nbits n i 1 == 1

/-- A number built from fields `(lo, width, value)`; each value is cut to its width. -/
def packBits : List (Nat × Nat × Nat) → Nat
  | [] => 0
  | (lo, w, v) :: rest => v % 2 ^ w * 2 ^ lo + packBits rest

/-- The field of `w` bits at bit `lo` of a bit vector, as a number. -/
def vbits {n : Nat} (v : BitVec n) (lo w : Nat) : Nat := nbits v.toNat lo w

/-- 1 for true, 0 for false. -/
def b2n (b : Bool) : Nat := if b then 1 else 0

/-- `a - b` modulo `2^w`. -/
def wrapSub (w a b : Nat) : Nat := (a % 2 ^ w + 2 ^ w - b % 2 ^ w) % 2 ^ w

/-- `a + b` modulo `2^w`. -/
def wrapAdd (w a b : Nat) : Nat := (a + b) % 2 ^ w

/-- The difference `a - b` modulo `2^w`, read as signed, is at least 0 (R41, R75). -/
def atOrAfter (w a b : Nat) : Bool := wrapSub w a b < 2 ^ (w - 1)

/-- The difference `a - b` modulo `2^w`, read as signed. -/
def signedDiff (w a b : Nat) : Int :=
  if wrapSub w a b < 2 ^ (w - 1) then (wrapSub w a b : Int) else (wrapSub w a b : Int) - 2 ^ w

/-- Sum limited to the largest value of `w` bits (a saturating counter). -/
def satAdd (w a b : Nat) : Nat := min (a + b) (2 ^ w - 1)

/-- Division rounded up. -/
def ceilDiv (a b : Nat) : Nat := (a + b - 1) / b

end Sys2Proof
end

