-- ==== Sys2Proof/Syntax.lean ====
section
/-! DEFINITION. The commands of the KB60/9 block (one constructor of `Instr` per row of the opcode table) and the
types their operands have: page classes, flits, transaction-layer packets, link events. -/

namespace Sys2Proof

/-- Page classes (Table 20-2). -/
inductive Cls where
  | glb | tick | ring | stop | arb | gate | pmu | eng | mem | repl | pair | pwr | xb | fi | ctl | mbox | slice
  deriving DecidableEq, Repr

/-- The CLASS code of PG_ID (Table 20-2). -/
def Cls.code : Cls → Nat
  | .glb => 1 | .tick => 2 | .ring => 3 | .stop => 4 | .arb => 5 | .gate => 6 | .pmu => 7 | .eng => 8 | .mem => 9
  | .repl => 10 | .pair => 11 | .pwr => 12 | .xb => 13 | .fi => 14 | .ctl => 15 | .mbox => 16 | .slice => 17

/-- Origin of a register access (R7, R132). -/
inductive Origin where
  | mgmt | firmware | tenant
  deriving DecidableEq, Repr

/-- A stop, 0–59 (R18). -/
abbrev Stop := Fin 60
/-- A maintenance node, 0–63 (R126). -/
abbrev Node := Fin 64
/-- A data ring, 0–8. -/
abbrev RingNo := Fin 9
/-- A ring direction: 0 ascending, 1 descending (R21). -/
abbrev Dir := Fin 2
/-- A sector, 0–7. -/
abbrev Sector := Fin 8
/-- A socket, 0–31 (R19). -/
abbrev Socket := Fin 32
/-- A link of a port stop, 0–3. -/
abbrev Link := Fin 4
/-- A slice, 0–4095. -/
abbrev SliceNo := Fin 4096
/-- A tag, 0–4095 (R73). -/
abbrev TagNo := Fin 4096
/-- An engine (data mover), 0–7. -/
abbrev EngNo := Fin 8
/-- A memory channel, 0–7. -/
abbrev Chan := Fin 8
/-- An engine queue, 0–65535. -/
abbrev QueueNo := Fin 65536
/-- A byte offset inside the 64 MiB window (R522). -/
abbrev WinOff := BitVec 26

/-- A flit: the header fields of Table 3-1 and the data field. -/
structure Flit where
  dst : BitVec 6
  src : BitVec 6
  ring : BitVec 4
  dir : BitVec 1
  cls : BitVec 2
  ep : BitVec 1
  opc : BitVec 6
  slice : BitVec 12
  sgen : BitVec 4
  tag : BitVec 12
  seq : BitVec 16
  len : BitVec 10
  fidx : BitVec 5
  last : BitVec 1
  pois : BitVec 1
  attr : BitVec 4
  sgid : BitVec 24
  dgid : BitVec 24
  pasid : BitVec 20
  addr : BitVec 64
  be : BitVec 16
  ackp : BitVec 1
  ackSeq : BitVec 16
  crc : BitVec 32
  rsvd : BitVec 32
  data : Data
  deriving DecidableEq, Repr

/-- Kinds of a TLP at the block edge (Table 0-1); `io` is not carried. -/
inductive TlpKind where
  | mwr | mrd | atom | cfg | msg | lockrd | unlock | cpl | cpld | io
  deriving DecidableEq, Repr, Inhabited

/-- The header fields of a TLP that the port stop uses, in the form of Table 3-5: `target` is the target ID of a CFG or
an ID-routed MSG and the Completer ID of a completion; `otherPrefix` marks an end-to-end prefix other than PASID. -/
structure TlpHead where
  kind : TlpKind
  otherPrefix : Bool
  reqId : BitVec 16
  tag : BitVec 16
  target : BitVec 16
  addr : BitVec 64
  be : BitVec 16
  len : BitVec 10
  attr : BitVec 4
  pasid : BitVec 20
  ep : Bool
  deriving DecidableEq, Repr, Inhabited

/-- A TLP on the link controller interface: the header as received (RX_HDR, R545), its fields, the payload in units of
128 bytes and the payload DWs delivered. -/
structure Tlp where
  raw : BitVec 256
  head : TlpHead
  dws : Nat
  payload : List Data
  deriving DecidableEq, Repr, Inhabited

/-- The commands of the block, in the order of the opcode table. -/
inductive Instr where
  /-- COLD_RESET (R481): Cold reset asserted or VAON lost: every field takes its reset value and every state table takes its cold reset row. -/
  | coldReset
  /-- COLD_RESET_RELEASE (R543): COLD_RST_N is released: each domain leaves reset, and KEYHASH and INST_ID are sampled and held. -/
  | coldResetRelease (keyHash : BitVec 384) (instId : BitVec 16)
  /-- FABRIC_RESET_REQUEST (R482): A write of RST_CTL with KEY 0xFAB0 and GO broadcasts a fabric reset that takes effect at the next boundary b. -/
  | fabricResetRequest (o : Origin)
  /-- FABRIC_RESET_ENTER (R482): At boundary b the RESET message applies: stops, stations, engines, bridges and cores enter reset, and LCI_RST_N and FAIL_OUT assert. -/
  | fabricResetEnter
  /-- FABRIC_RESET_EXIT (R482): At boundary b + 2 the reset units leave reset; slices become FREE, the fabric state becomes STARTUP and sequence spaces restart. -/
  | fabricResetExit
  /-- REFERENCE_TICK_EDGE (R32): Every 50th TICKREF edge increments the tick count and sends a tick mark, whose SWAP, SNAP, FREEZE and fabric-state bits GLB sets. -/
  | referenceTickEdge
  /-- TICK_CAL_START (R33): A write of TICK_CTL.EN from 0 to 1 starts calibration of the maintenance ring with timed echoes in both directions. -/
  | tickCalStart
  /-- TICK_CAL_DONE (R33): Calibration completes: CAL_DONE is set and the count starts at the next reference tick edge. -/
  | tickCalDone
  /-- TICK_STOP_WRITE (R42): A write of TICK_CTL.EN = 0 stops the tick and holds the count. -/
  | tickStopWrite
  /-- TICK_MARK (R36): A node takes the first tick-mark copy whose CHECK is correct, discards the other and counts failed copies in MARK_ERR. -/
  | tickMark (n : Node) (d : Dir) (m : Msg)
  /-- LOCAL_TICK_BOUNDARY (R42): At its local boundary a stop performs the per-tick duties in order: epoch commit, latch, window close, gate advance, timer scan, acknowledgement check and census. -/
  | localTickBoundary (n : Node) (unfinished : Option (Fin 8)) (beats : BitVec 2)
  /-- TICK_SLIP (R37): No valid mark copy has arrived 256 cycles after the edge: the boundary is missed, and the duties run once at the next mark. -/
  | tickSlip (n : Node)
  /-- TICKREF_LOSS (R38): TICKREF shows no edge for 40 ns: the generator enters holdover, or stops and sets RECOVERY when HOLD_EN is 0. -/
  | tickrefLoss
  /-- HOLDOVER_TICK (R38): After HOLD_DIV FCLK cycles a holdover tick edge increments the count, with HOLDOVER set in the mark. -/
  | holdoverTick
  /-- TICKREF_RETURN (R40): TICKREF has been valid for 64 cycles: the generator leaves holdover or restarts at the first reference tick edge 500 ns or more after its last boundary. -/
  | tickrefReturn
  /-- EPOCH_REQ (R51): A write of EPOCH_CTL.REQ is accepted as PENDING or refused with a REFUSE code. -/
  | epochReq (o : Origin) (w : Word)
  /-- EPOCH_CANCEL (R52): A write of EPOCH_CTL.CANCEL withdraws a PENDING swap that is not yet in a mark. -/
  | epochCancel
  /-- WE_WRITE (R533): A WE write stores the register in the inactive bank, or is not performed while the bank is closed or the gate list is PEND. -/
  | weWrite (off : WinOff) (w : Word) (o : Origin)
  /-- WE_ACK (R389): A WE write becomes usable in every domain, and the page acknowledges it so that a pending swap may proceed. -/
  | weAck (off : WinOff)
  /-- CENSUS (R50): GLB or the slice page owner takes a stop's CENSUS message and, once all 60 reports are in, sets DRAINED and INACTIVE_OPEN. -/
  | census (n : Node) (m : Msg)
  /-- OLD_EPOCH_DRAINED (R50): All stops report no old-epoch flit at least one tick after the swap: DRAINED and INACTIVE_OPEN are set, and a LEAVING ring leaves. -/
  | oldEpochDrained
  /-- BANK_SYNC (R535): A write of BANK_SYNC.GO copies every active bank into its inactive bank, or sets REFUSED while the inactive bank is closed. -/
  | bankSync
  /-- BANK_SYNC_DONE (R535): Every owner's copy-done message has arrived: BUSY clears and a held swap may proceed. -/
  | bankSyncDone (m : Msg)
  /-- STATION_SLOT (R86): A slot arrives at a ring station: it is decoded and corrected, removed if required, ejected or forwarded, and may be refilled by injection. -/
  | stationSlot (k : Stop) (r : RingNo) (d : Dir) (noise : BitVec 1384)
  /-- SLOT_RELEASE (R92): A flit has waited 10 cycles in its injection register: it is released and a miss indication is sent to its stop. -/
  | slotRelease (k : Stop) (r : RingNo) (d : Dir)
  /-- SLOT_MISS (R93): A miss indication reaches the stop: the flit is re-presented from its retained copy on the next ring map index. -/
  | slotMiss (k : Stop) (r : RingNo) (d : Dir)
  /-- FI_HELD_RELEASE (R477): A delayed or reordered flit held by a ring FI unit is placed, or dropped after 64 cycles. -/
  | fiHeldRelease (k : Stop) (r : RingNo) (d : Dir)
  /-- FLIT_LANDING (R167): A REQ or RSP flit lands: E2E_CRC is checked, the duplicate filter runs, the flit is charged and acknowledged, and in-order release proceeds. -/
  | flitLanding (k : Stop) (lane : Fin 19)
  /-- ACK_FLIT (R165): An ACK flit or piggybacked acknowledgement frees the retained copies it names; a stale one is counted. -/
  | ackFlit (k : Stop) (lane : Fin 19)
  /-- ACK_DELAY_EXPIRE (R164): The oldest pending acknowledgement has waited ACK_DELAY cycles, or eight are pending, and an ACK flit is formed. -/
  | ackDelayExpire (k : Stop) (src : Stop)
  /-- ACK_TIMEOUT (R166): At a boundary with g + 5 ≤ b, every expired retained copy for that destination is replayed in sequence order. -/
  | ackTimeout (k : Stop) (d : Stop)
  /-- OVERFLOW_READBACK (R162): An overflowed copy needed for replay returns by MRD and is replayed. -/
  | overflowReadback (k : Stop)
  /-- ARBITER_DECISION (R189): The stop arbiter grants a replay, an ACK flit or a requester burst, taking retention slots and bridge credits. -/
  | arbiterDecision (k : Stop)
  /-- GRANT_RECHECK (R197): At the first beat of a burst, conditions 2, 5, 6 and 7 are checked again, and a failing grant is withdrawn. -/
  | grantRecheck (k : Stop)
  /-- BRIDGE_CREDIT_RETURN (R184): A bridge credit returns to the stop once its flit has left the crossing FIFO. -/
  | bridgeCreditReturn (k : Stop) (r : RingNo) (d : Dir)
  /-- SLOT_SETTLE (R435): An injection slot whose flit crossed is settled as RETIRED, at least 16 FCLK cycles after its credit returned. -/
  | slotSettle (k : Stop)
  /-- EGRESS_SEND (R159): An egress head that its passing rules, credits and STALL allow leaves to its link, channel, engine or replicator, and its entry is freed. -/
  | egressSend (k : Stop) (l : Link)
  /-- CREDIT (R125): A CREDIT message reaches the source, which adds the cumulative floor returns, or takes SYNC floors. -/
  | credit (n : Stop) (m : Msg)
  /-- RES_REQ (R136): A destination takes a RES_REQ as new, as a repeat to re-grant, or as a duplicate to discard. -/
  | resReq (n : Stop) (m : Msg)
  /-- RES_GRANT_DECISION (R137): A destination grants the head of a class pending queue once the pool, class cap and NP_MAX allow it. -/
  | resGrantDecision (d : Stop)
  /-- RES_GNT (R138): The source takes a RES_GNT for its outstanding RID, adding P or A credits and applying FCUM. -/
  | resGnt (n : Stop) (m : Msg)
  /-- RES_REQ_RETRY (R135): No grant has arrived after REQ_TO full ticks, and the RES_REQ is resent with RETRY = 1. -/
  | resReqRetry (k : Stop) (d : Stop) (c : Fin 4)
  /-- FLOOR_RECALL (R143): A source takes a RECALL, marks the destination closed, and surrenders its shared credits once its flits are acknowledged. -/
  | floorRecall (n : Stop) (m : Msg)
  /-- SURRENDER (R143): A closing stop takes a SURRENDER and adds the returned counts to its pool. -/
  | surrender (n : Stop) (m : Msg)
  /-- FLOOR_REISSUE (R146): A source takes a REISSUE, marks the destination open and, when FRESH is set, restores its floors and restarts its pair state. -/
  | floorReissue (n : Stop) (m : Msg)
  /-- FLOOR_SYNC_REQ (R147): A destination answers a SYNC_REQ with a CREDIT that has SYNC = 1. -/
  | floorSyncReq (n : Stop) (m : Msg)
  /-- REG_RD (R132): An owner takes a REG_RD, performs the read and answers with a REG_RSP. -/
  | regRd (n : Node) (m : Msg)
  /-- REG_WR_A (R132): An owner takes the address half of a register write and holds it until the data half arrives. -/
  | regWrA (n : Node) (m : Msg)
  /-- REG_WR_D (R132): An owner takes the data half and performs the write once both halves have arrived. -/
  | regWrD (n : Node) (m : Msg)
  /-- REG_WR_HALF_TIMEOUT (R132): One half of a write has been alone for 256 MCLK cycles: it is discarded, and REG_RSP answers with STATUS 1. -/
  | regWrHalfTimeout (n : Node)
  /-- REG_RSP (R132): The sender takes a REG_RSP and completes the access with the same TAG. -/
  | regRsp (n : Node) (m : Msg)
  /-- MGMT_REQUEST (R549): A management port request enters at node 60, is checked for narrowness and tenant rights, and is forwarded as REG messages. -/
  | mgmtRequest (wr : Bool) (a : WinOff) (be : BitVec 4) (w : Word) (tenant : Bool) (x : SliceNo) (tag : Fin 8)
  /-- TENANT_ERR (R351): The slice page owner takes a TENANT_ERR, counts the denied access and records TENANT_ACCESS. -/
  | tenantErr (m : Msg)
  /-- REGISTER_WRITE (R12): A write to a register without a row of its own acts under its access type and the range checks of its rule. -/
  | registerWrite (off : WinOff) (w : Word) (o : Origin)
  /-- RC_READ (R12): A manager or firmware read of an RC field returns its value and clears it. -/
  | rcRead (off : WinOff) (o : Origin)
  /-- LOW_REGISTER_READ (R11): A read of the lowest register of a hardware-changed wide value latches its upper bits into the holding copy. -/
  | lowRegisterRead (off : WinOff) (o : Origin)
  /-- PG_LOCK_WRITE (R532): A write to PG_LOCK unlocks the page's RWK fields with the page key, or locks them with any other value. -/
  | pgLockWrite (off : WinOff) (w : Word) (o : Origin)
  /-- PG_ERR_CLEAR (R529): A write of PG_ERR_FIRST.CLEAR empties CODE, INJ, INFO0 and INFO1. -/
  | pgErrClear (off : WinOff) (o : Origin)
  /-- PG_INT_SET (R528): A write of PG_INT_SET sets the written cause bits of PG_INT_STS. -/
  | pgIntSet (off : WinOff) (w : Word) (o : Origin)
  /-- DRAIN_REQ (R527): A write of PG_CTL.DRAIN_REQ clears QUIET and requests a drain report. -/
  | drainReq (off : WinOff) (w : Word) (o : Origin)
  /-- DRAIN_QUIET (R527): Every earlier write has taken effect and no command is in progress, so QUIET is set. -/
  | drainQuiet (off : WinOff)
  /-- IRQ_PRESENT (R552): A change of a page interrupt request, or a pending SLICE_IRQ, is presented on the interrupt group. -/
  | irqPresent (page : Option WinOff)
  /-- RING_CAL (R104): A CAL command takes an OUT ring into calibration, or is refused. -/
  | ringCal (r : RingNo)
  /-- RING_TEST (R112): A TEST command takes an OUT ring into TEST, to start at the next boundary, or is refused. -/
  | ringTest (r : RingNo)
  /-- RING_FAIL (R104): A FAIL command marks the ring SUSPECT or FAILED, depending on its state. -/
  | ringFail (r : RingNo)
  /-- RING_CLEAR (R104): A CLEAR command takes a FAILED ring to OUT. -/
  | ringClear (r : RingNo)
  /-- RING_CAL_DONE (R110): Calibration ends: the ring passes to IN_SVC or OUT, or fails to FAILED. -/
  | ringCalDone (r : RingNo) (cyc0 cyc1 : BitVec 8) (m0 m1 : BitVec 6) (w0 w1 : Stop)
  /-- RING_TEST_START (R111): At the first boundary after the command, stations start sending PATTERN MAINT flits. -/
  | ringTestStart (r : RingNo)
  /-- RING_TEST_END (R111): After TEST_LEN ticks the run ends: with no error, READY is set and the ring goes to OUT; with an error it goes to FAILED. -/
  | ringTestEnd (r : RingNo)
  /-- RING_THRESHOLD (R107): Removals in one FAIL_WIN window reach FAIL_UE: SUSPECT is set, a fence notice is sent and an interrupt is raised. -/
  | ringThreshold (r : RingNo)
  /-- FENCE (R108): A stop takes a FENCE notice naming a ring and a target count. -/
  | fence (n : Node) (m : Msg)
  /-- FENCE_APPLY (R108): At the fence target boundary the ring becomes unusable for new grants. -/
  | fenceApply (n : Node) (r : RingNo)
  /-- TRANSACTION_FORMED (R139): A transaction is formed into flits, reserving response entries and opening a tag for a non-posted request. -/
  | transactionFormed (k : Stop)
  /-- METER_COLOUR (R209): A transaction at the head of its queue is coloured green, yellow or red by its meter. -/
  | meterColour (k : Stop) (rq : Fin 16384)
  /-- RED_RECOLOUR (R216): At its wake tick, a swap or a binding change, a red head is coloured again. -/
  | redRecolour (k : Stop)
  /-- BIND_WRITE (R205): A BIND_DATA write binds a requester to a meter, filling a newly bound meter, or is refused. -/
  | bindWrite (k : Stop) (w : Word)
  /-- GATE_ADVANCE (R220): At a boundary each gate list advances its position and close counts and takes a new bank at a cycle start. -/
  | gateAdvance (k : Stop)
  /-- GATE_RECOMPUTE_DONE (R221): The recomputation after a gate list write completes, and the write is acknowledged with READY set. -/
  | gateRecomputeDone (k : Stop)
  /-- TLP_RECEIVED (R233): A TLP arrives from a link into its receive part, is discarded when the part is full, and drives XOFF. -/
  | tlpReceived (k : Stop) (l : Link) (t : Tlp)
  /-- INGRESS_CHECK (R238): The TLP at the head of its part is checked, translated and admitted, or rejected with a UR completion or discard. -/
  | ingressCheck (k : Stop) (l : Link) (p : Fin 3)
  /-- XLT_FILL_DONE (R280): The completion of a translation fill installs the entry and answers the waiting lookups, or retries on poison. -/
  | xltFillDone (x : Sector)
  /-- XLT_FILL_TIMEOUT (R280): A fill has had no completion for FILL_TO ticks and is reissued to the other copy. -/
  | xltFillTimeout (x : Sector)
  /-- BIND_FILL_DONE (R341): A PASID binding fill completes and installs the entry, or rejects the waiting TLPs on poison. -/
  | bindFillDone (x : Sector)
  /-- TX_CREDIT_UPDATE (R241): The link controller returns cumulative transmit credits for P, NP or CPL. -/
  | txCreditUpdate (k : Stop) (l : Link) (p : Fin 3) (n : BitVec 16)
  /-- STALL_CHANGE (R241): The link controller changes its STALL level. -/
  | stallChange (k : Stop) (l : Link) (level : Bool)
  /-- PAUSE (R243): A link reports PAUSE and goes from UP to PAUSED, holding its egress. -/
  | pause (k : Stop) (l : Link)
  /-- RESUME (R243): A link reports RESUME and goes from PAUSED to UP. -/
  | resume (k : Stop) (l : Link)
  /-- DOWN (R243): A link reports DOWN: in SERVICE it holds its traffic with a HOLD notice, otherwise it drops it with a DROP notice. -/
  | down (k : Stop) (l : Link)
  /-- RETURN_KEPT (R254): A link returns with kept state: RESUME_KEPT notice, and spilled entries are read back. -/
  | returnKept (k : Stop) (l : Link)
  /-- RETURN_FRESH (R255): A link returns fresh: held entries are discarded, records ended and a RESUME_FRESH notice is sent. -/
  | returnFresh (k : Stop) (l : Link)
  /-- PORT_MODE_WRITE (R246): A write of PORT_MODE.MODE is accepted for the next boundary, or refused. -/
  | portModeWrite (k : Stop) (w : Word)
  /-- PORT_MODE_CHANGE (R246): MODE_NOW changes at the boundary, applying the mode-change rows of the link table. -/
  | portModeChange (k : Stop)
  /-- LINK_NOTICE (R248): A requester takes a LINK_NOTICE whose NN it has not applied, for application at the next boundary. -/
  | linkNotice (n : Stop) (m : Msg)
  /-- LINK_NOTICE_APPLY (R249): At the boundary a notice sets the target NORMAL, HELD or DROPPED and applies the tag events. -/
  | linkNoticeApply (n : Stop)
  /-- SPILL_AGE (R242): A P head has waited P_AGE ticks, and the link's P queue enters spill mode. -/
  | spillAge (k : Stop) (l : Link)
  /-- SPILL_READBACK (R254): A spilled entry read back by MRD lands and is delivered in release-stamp order. -/
  | spillReadback (k : Stop) (l : Link)
  /-- LINK_WATCH (R244): A link has been PAUSED, or stuck with a non-empty queue, for WATCH ticks, so LINK_WATCH is recorded with an interrupt. -/
  | linkWatch (k : Stop) (l : Link)
  /-- LOCK_TIMEOUT (R258): A link semaphore has been held for LOCK_MAX ticks, and it is released with an unlock message. -/
  | lockTimeout (k : Stop) (l : Link)
  /-- ATOM_EMU_READ_DONE (R260): The read of an emulated AtomicOp completes or times out: the new value is written and the original answered. -/
  | atomEmuReadDone (k : Stop) (l : Link)
  /-- SPARE_CLAIM_REPAIR (R262): A SPARE_CTL write claims the spare for REPAIR of a socket. -/
  | spareClaimRepair (k : Stop) (sock : Fin 4) (forced : Bool)
  /-- SPARE_CLAIM_TEST (R262): A SPARE_CTL write claims the spare for TEST, or is refused while a REPAIR holds it. -/
  | spareClaimTest (k : Stop)
  /-- SPARE_GO (R264): A GO write switches a socket onto its spare, planned or forced. -/
  | spareGo (k : Stop) (sock : Fin 4) (forced : Bool)
  /-- SPARE_RETURN (R266): A write of CLAIM NONE with GO returns the socket from the spare to its port stop. -/
  | spareReturn (k : Stop) (forced : Bool)
  /-- CPL_LANDING (R172): A completion lands for a tag and is delivered, counted as near miss, discarded as late, stale or unexpected, or overruns. -/
  | cplLanding (k : Stop)
  /-- TAG_DEADLINE_PASSED (R173): At the boundary where its deadline has passed, an OPEN tag becomes EXPIRING. -/
  | tagDeadlinePassed (k : Stop) (t : TagNo)
  /-- TAG_EXPIRE (R174): At the next boundary an EXPIRING tag becomes EXPIRED, and a synthetic CPL of status CA is formed. -/
  | tagExpire (k : Stop) (t : TagNo)
  /-- QUARANTINE_END (R172): An EXPIRED tag whose quarantine has ended returns to IDLE with its entries. -/
  | quarantineEnd (k : Stop) (t : TagNo)
  /-- COMPLETER_RECORD_EXPIRE (R175): A completer-side record reaches OUT_LIMIT ticks of age and ends. -/
  | completerRecordExpire (k : Stop)
  /-- XLT_UPDATE (R284): A write of XLT_CMD.GO writes both copies of an entry and then broadcasts XLT_INV, or is refused. -/
  | xltUpdate (c : Chan)
  /-- XLT_INV (R284): A sector node drops the key from its cache, marks in-flight fills stale and acknowledges. -/
  | xltInv (n : Node) (m : Msg)
  /-- INV_ACK (R284): An invalidation acknowledgement arrives, and the update becomes DONE when all eight are in. -/
  | invAck (n : Node) (m : Msg)
  /-- PB_UPDATE (R342): A write of PB_CMD.GO writes a PASID binding entry and broadcasts PB_INV, or is refused. -/
  | pbUpdate
  /-- PB_INV (R343): A sector drops a binding index, or a whole domain, from its binding cache and acknowledges. -/
  | pbInv (n : Node) (m : Msg)
  /-- PB_DCNT_WRITE (R343): A write of PB_DCNT sets a domain's count, and a value of 0 broadcasts a domain PB_INV. -/
  | pbDcntWrite (w : Word)
  /-- MEM_REQUEST (R563): A memory stop hands an egress head to its channel, with the pool fence, row holds and parity delta. -/
  | memRequest (c : Chan)
  /-- MEM_RESPONSE (R548): The memory controller answers a request, and an uncorrectable read is counted towards UE_LIM. -/
  | memResponse (c : Chan) (t : Fin 256) (d : Data) (ue : Bool)
  /-- PARITY_DELTA (R294): A parity stop takes a delta write and XORs it into the parity unit. -/
  | parityDelta (c : Chan)
  /-- ROW_READ (R295): A data stop answers a row read once it has no open write on the row, and holds the row. -/
  | rowRead (c : Chan)
  /-- ROW_RELEASE (R295): A row release ends one hold on a row, letting held writes proceed. -/
  | rowRelease (c : Chan)
  /-- RECONSTRUCT_DONE (R295): All row reads have answered: the span is rebuilt by XOR, or poisoned when a second span is lost. -/
  | reconstructDone (c : Chan)
  /-- CH_FAIL (R296): The controller reports channel failure, and the channel becomes LOST. -/
  | chFail (c : Chan)
  /-- CH_CMD_FAIL (R296): A FAIL command makes the channel LOST. -/
  | chCmdFail (c : Chan) (w : Word)
  /-- CH_CMD_REBUILD (R296): A REBUILD command starts a rebuild of a LOST channel when CTRL_READY is set, or is refused. -/
  | chCmdRebuild (c : Chan) (w : Word)
  /-- CH_CMD_CLEAR (R296): A CLEAR command abandons a rebuild, or is refused. -/
  | chCmdClear (c : Chan) (w : Word)
  /-- REBUILD_TICK (R298): At each tick, RATE rows of the channel are reconstructed, and the channel is ONLINE when the pointer passes the end. -/
  | rebuildTick (c : Chan)
  /-- CTRL_READY_CHANGE (R296): The memory controller changes its CTRL_READY level. -/
  | ctrlReadyChange (c : Chan) (level : Bool)
  /-- DIRECT_READ (R300): A write of DR_CTL.GO reads 64 bytes of the channel directly. -/
  | directRead (c : Chan)
  /-- DIRECT_READ_DONE (R300): The direct read returns, and VALID and STATUS are set. -/
  | directReadDone (c : Chan)
  /-- DOORBELL_WRITE (R352): A DOORBELL write on a slice page sends a DOORBELL message, or records DB_RANGE. -/
  | doorbellWrite (x : SliceNo) (tail : BitVec 16) (qoff : BitVec 8)
  /-- DOORBELL (R311): An engine takes a DOORBELL and updates TAIL, counts it as stale or old, stops the queue, or forwards it by stub. -/
  | doorbell (n : Node) (m : Msg)
  /-- DESC_FETCH_DONE (R312): Fetched descriptors arrive and become startable in index order. -/
  | descFetchDone (e : EngNo)
  /-- DESC_START (R313): The engine starts a descriptor, chosen by slice virtual time, or retires an invalid one with BAD_DESC. -/
  | descStart (e : EngNo)
  /-- CHUNK_READ_DONE (R314): All read data of a COPY chunk has landed, and its MWR is formed. -/
  | chunkReadDone (e : EngNo)
  /-- DESC_RETIRE (R317): A descriptor whose transactions have settled retires, writes its record, advances HEAD and may stop its queue. -/
  | descRetire (e : EngNo)
  /-- COMPLETION_EVENT (R353): The IRQ read completes, setting EVT_PEND and presenting SLICE_IRQ when the slice is armed. -/
  | completionEvent (e : EngNo)
  /-- EVT_REARM (R353): A write of EVT_CFG.ARMED re-arms the slice, presenting at once when a bit is pending. -/
  | evtRearm (x : SliceNo)
  /-- QC_READ (R307): A READ command copies a queue context into QC_DATA. -/
  | qcRead (e : EngNo)
  /-- QC_WRITE (R307): A WRITE command writes a DISABLED queue's context, or is refused. -/
  | qcWrite (e : EngNo)
  /-- QC_ENABLE (R323): An ENABLE command takes a DISABLED queue to READY. -/
  | qcEnable (e : EngNo)
  /-- QC_DISABLE (R323): A DISABLE command takes a quiet CLOSED or STOPPED queue to DISABLED. -/
  | qcDisable (e : EngNo)
  /-- QC_RESTART (R323): A RESTART command takes a STOPPED queue to READY with FETCHED = HEAD. -/
  | qcRestart (e : EngNo)
  /-- ENG_LEAVE (R325): A LEAVE command starts moving every resident queue to the DEST engines. -/
  | engLeave (e : EngNo) (dest : BitVec 8)
  /-- ENG_JOIN (R324): A JOIN command returns an OUT engine to IN_SVC. -/
  | engJoin (e : EngNo) (dest : BitVec 8)
  /-- ENG_CLEAR (R324): A CLEAR command takes a FAILED engine to OUT and clears its SRAM. -/
  | engClear (e : EngNo) (dest : BitVec 8)
  /-- ENG_MOVEQ (R325): A MOVEQ command moves one queue to the lowest DEST engine. -/
  | engMoveq (e : EngNo) (dest : BitVec 8)
  /-- CONTEXT_SEND (R326): A MOVING queue with nothing in execution is sent in a CONTEXT flit. -/
  | contextSend (e : EngNo)
  /-- CONTEXT_LAND (R326): A receiving engine installs a CONTEXT, broadcasts QMAP_UPD and lets the queue take LAND. -/
  | contextLand (e : EngNo)
  /-- QMAP_UPD (R326): GLB and the slice page owners apply a QMAP_UPD to their copy of QMAP. -/
  | qmapUpd (n : Node) (m : Msg)
  /-- STUB_EXPIRE (R327): Two ticks after QMAP_UPD reached the old engine, its stub is discarded. -/
  | stubExpire (e : EngNo)
  /-- ENG_CTX_UE (R324): Both copies of a queue context are uncorrectable, and the engine becomes FAILED. -/
  | engCtxUe (e : EngNo) (q : QueueNo)
  /-- PUSH (R322): A PUSH DESC flit appends descriptors to a push queue, or is discarded. -/
  | push (e : EngNo)
  /-- REPL_COPY (R332): The replicator forms one copy flit of a pending transaction for a member link. -/
  | replCopy
  /-- SLICE_CREATE (R346): CREATE checks the accord, takes ownership of its resources and opens the slice LIVE. -/
  | sliceCreate (x : SliceNo)
  /-- SLICE_DRYDOWN (R349): DRYDOWN takes a census tracker and closes a LIVE slice to DRYING. -/
  | sliceDrydown (x : SliceNo)
  /-- SLICE_OPEN (R349): OPEN returns a DRYING or DRY slice to LIVE with the same generation. -/
  | sliceOpen (x : SliceNo)
  /-- SLICE_RESET (R349): RESET of a DRY slice bumps the generation and reopens it with its queues reset. -/
  | sliceReset (x : SliceNo)
  /-- SLICE_REMOVE (R349): REMOVE takes a DRY or FROZEN slice to REMOVED with a generation bump. -/
  | sliceRemove (x : SliceNo)
  /-- SLICE_FREEZE (R365): FREEZE takes a DRY slice to FROZEN and arms a migration freeze. -/
  | sliceFreeze (x : SliceNo)
  /-- SLICE_THAW (R349): THAW returns a FROZEN slice to LIVE. -/
  | sliceThaw (x : SliceNo)
  /-- SLICE_FORCE (R359): FORCE bumps the generation and broadcasts ABORT, taking the slice to REMOVED. -/
  | sliceForce (x : SliceNo)
  /-- SLICE_UPD (R348): A stop takes a SLICE_UPD whose NN it has not applied, for application at the next boundary. -/
  | sliceUpd (n : Node) (m : Msg)
  /-- SLICE_UPD_APPLY (R348): At the boundary the admission state, generation, queue events and tag removals of the update apply. -/
  | sliceUpdApply (k : Stop)
  /-- UNIT_RNG (R346): A memory stop takes a UNIT_RNG message carrying a slice's pool unit range. -/
  | unitRng (n : Node) (m : Msg)
  /-- DRY_REACHED (R349): Two consecutive censuses find no residue of a DRYING slice: it becomes DRY and releases its tracker. -/
  | dryReached (x : SliceNo)
  /-- CLEARED (R349): A REMOVED slice clears the census: it becomes FREE and releases its resources and tracker. -/
  | cleared (x : SliceNo)
  /-- DRYDOWN_FLUSH (R357): FLUSH_AGE ticks after close, a DRYING slice's posted entries are moved to the flush spill. -/
  | drydownFlush (k : Stop) (x : SliceNo)
  /-- MTR_SEL_WRITE (R354): A MTR_SEL write on a slice page copies the selected meter's state into MTR_ registers. -/
  | mtrSelWrite (x : SliceNo) (g : Fin 16384)
  /-- FL_SAVE (R371): SAVE writes the state of a FROZEN slice into a flacon slot and sets VALID last. -/
  | flSave
  /-- FL_LOAD (R372): LOAD checks a flacon and restores it into a FREE slice, ending with CREATE. -/
  | flLoad
  /-- FL_REBIND (R373): REBIND moves a FROZEN slice to a FREE target slice and domain in this fabric. -/
  | flRebind
  /-- FL_COPY (R374): COPY pushes COPY descriptors for every pool unit of a FROZEN slice through a push queue. -/
  | flCopy
  /-- FL_DROP (R375): DROP clears the VALID byte of a flacon slot. -/
  | flDrop
  /-- FL_OFF_WRITE (R375): A write of FL_OFF reads 4 slot bytes into FL_DATA and sets VALID. -/
  | flOffWrite (w : Word)
  /-- FL_DATA_WRITE (R375): A write of FL_DATA writes 4 slot bytes at FL_OFF and advances it. -/
  | flDataWrite (w : Word)
  /-- BRIDGE_RESYNC (R393): A bridge side leaving reset runs the SYNC handshake, discarding unread entries, until both sides are READY. -/
  | bridgeResync (g : Fin 10) (i : Fin 64)
  /-- CLOCK_SWITCH (R392): FCLK, SCLK or CCLK changes frequency without a glitch, keeping every FIFO and holding register. -/
  | clockSwitch
  /-- XB_SEL_WRITE (R396): A write of XB_SEL copies a bridge's status and counts into the XB registers. -/
  | xbSelWrite (b : Fin 10) (w : Word)
  /-- PS_TARGET_RUN (R399): A write of PS_CTL.TARGET = RUN shifts from TRIM, or wakes a sleeping sector as an MGR wake. -/
  | psTargetRun (x : Sector) (w : Word)
  /-- PS_TARGET_TRIM (R399): A write of PS_CTL.TARGET = TRIM halves the clock and lowers the supply, or wakes a sleeping sector. -/
  | psTargetTrim (x : Sector) (w : Word)
  /-- PS_TARGET_DOZE (R403): A write of PS_CTL.TARGET = DOZE begins closing the sector, or is refused. -/
  | psTargetDoze (x : Sector) (w : Word)
  /-- PS_TARGET_OFF (R403): A write of PS_CTL.TARGET = OFF begins closing the sector, or goes from DOZE to OFF, or is refused. -/
  | psTargetOff (x : Sector) (w : Word)
  /-- PWR_CMD_CLOSE (R403): A stop node takes a CLOSE command and its stop begins to close. -/
  | pwrCmdClose (n : Stop) (m : Msg)
  /-- PWR_CMD_REOPEN (R405): A stop node takes a REOPEN command and its stop reopens. -/
  | pwrCmdReopen (n : Stop) (m : Msg)
  /-- PWR_CMD_EMPTY (R404): The PWR owner takes a stop's EMPTY report. -/
  | pwrCmdEmpty (n : Stop) (m : Msg)
  /-- SECTOR_EMPTY (R404): All seven stops are empty at a boundary, and entry into DOZE or OFF begins. -/
  | sectorEmpty (x : Sector)
  /-- CLOSE_TIMEOUT (R405): The sector is not empty within CLOSE_TO ticks, so the close is abandoned and its stops reopen. -/
  | closeTimeout (x : Sector)
  /-- WAKE_DEMAND (R409): A RES_REQ pending at a closed stop of the sector raises a DEMAND wake. -/
  | wakeDemand (x : Sector)
  /-- WAKE_SIGDET (R409): A lane comparator stays asserted for the filter time and raises a SIGDET wake. -/
  | wakeSigdet (x : Sector) (ch : Fin 32)
  /-- WAKE_SUPPLY (R409): A supply comparator crosses its threshold and raises a SUPPLY wake. -/
  | wakeSupply (x : Sector) (c : Fin 2)
  /-- WAKE_THERM (R409): A thermal comparator crosses its threshold and raises a THERM wake. -/
  | wakeTherm (x : Sector) (c : Fin 4)
  /-- WAKE_TIMER (R409): The count reaches WAKE_AT, which raises a TIMER wake and clears WAKE_EN.TIMER. -/
  | wakeTimer (x : Sector)
  /-- WAKE_PAIR (R515): A WAKE frame from the partner raises a PAIR wake in the sectors it names. -/
  | wakePair (x : Sector)
  /-- GOVERNOR_INTERVAL (R416): Every 100 MCLK cycles the governor takes sector phases within budget and sets injection caps and ballast. -/
  | governorInterval
  /-- SVOK_ASSERTED (R408): The regulator asserts SVOK, and the transition continues with SRAM, bias and clock. -/
  | svokAsserted (x : Sector)
  /-- SVOK_TIMEOUT (R414): SVOK is not asserted within 16 µs of the last raise phase, so the sector goes to OFF with PWR_FAULT. -/
  | svokTimeout (x : Sector)
  /-- SVOK_LOST (R414): SVOK is deasserted in RUN, TRIM or DOZE, so the sector goes to OFF and is isolated. -/
  | svokLost (x : Sector)
  /-- TRANSITION_DONE (R413): A sector power transition completes, and STATE and PHASE are updated. -/
  | transitionDone (x : Sector)
  /-- SPINE_PWR_WRITE (R400): A write of SPINE_PWR.TARGET changes the spine between RUN and TRIM, or is refused. -/
  | spinePwrWrite (w : Word)
  /-- CORE_PWR_WRITE (R400): A write of CORE_PWR.TARGET changes the core between RUN and TRIM. -/
  | corePwrWrite (w : Word)
  /-- LSG_SET (R417): A stop takes an LSG_SET message with its new cap and ballast level. -/
  | lsgSet (n : Stop) (m : Msg)
  /-- SNAP_REQ (R430): A write of GLB.SNAP.REQ sets SNAP in the next mark. -/
  | snapReq
  /-- FREEZE_ARM (R431): A write of GLB.FREEZE.ARM arms a counter freeze for a coming mark. -/
  | freezeArm
  /-- FREEZE_RELEASE (R431): A write of FREEZE.RELEASE ends the counter-freeze hold at the next boundary. -/
  | freezeRelease
  /-- CNT_HI_WRITE (R428): A write of CNT_HI sets all 48 bits of a counter, together with the held CNT_LO. -/
  | cntHiWrite (c : Cls) (inst : Fin 60) (i : Fin 8) (w : Word)
  /-- RQ_SEL_WRITE (R201): A write of ARB.RQ_SEL copies a requester's counters, clearing them when CLR is set. -/
  | rqSelWrite (k : Stop) (w : Word)
  /-- METER_SEL_WRITE (R229): A write of METER_SEL copies a meter's buckets and counts, clearing them when CLR is set. -/
  | meterSelWrite (k : Stop) (w : Word)
  /-- CS_SEL_WRITE (R442): A write of CS_SEL gathers a counter set's partials, shadows and record from the sector nodes. -/
  | csSelWrite (w : Word)
  /-- TC_SEL_WRITE (R444): A tenant write of TC_SEL copies its counter set into the TC_ registers. -/
  | tcSelWrite (x : SliceNo) (w : Word)
  /-- WINDOW_CLOSE (R441): At the close count of a window schedule, the accumulator buffers flip and the closed one becomes the record. -/
  | windowClose (j : Fin 16)
  /-- SB_SELECT (R551): A change of SB_SEL presents the selected sideband item and its CSEQ. -/
  | sbSelect (sel : Fin 16)
  /-- SIL_FRAG (R449): A sillage writer takes a fragment and stages the entry once all six have arrived. -/
  | silFrag (n : Stop) (m : Msg)
  /-- SIL_FRAG_TIMEOUT (R449): A fragment is still missing after 2 048 MCLK cycles, so the entry is discarded and SIL_LOST increments. -/
  | silFragTimeout (r : Node) (e : Fin 128)
  /-- SIL_LINE_WRITE (R449): A staged line holding four entries, or one whose oldest entry has waited 2 ticks, is written to attached memory. -/
  | silLineWrite (x : Sector)
  /-- SIL_LINE_ACK (R449): A sillage line write is acknowledged, and SIL_DONE advances. -/
  | silLineAck (x : Sector)
  /-- ERQ_FRAG (R470): GLB takes an error-record fragment and queues the record once it is complete. -/
  | erqFrag (m : Msg)
  /-- ERQ_FRAG_TIMEOUT (R470): A record is still incomplete after 2 048 MCLK cycles and is discarded with ERQ_LOST. -/
  | erqFragTimeout (r : Node) (rnum : Fin 64)
  /-- ERQ_POP (R470): A write of ERQ_POP removes the head record of the error queue. -/
  | erqPop
  /-- ISOLATE (R462): An ISO_CTL GO with OP ISOLATE broadcasts ISOLATE and DROP notices for a stop or sector, or is refused. -/
  | isolate (kind : Fin 2) (id : Fin 64)
  /-- REJOIN (R469): An ISO_CTL GO with OP REJOIN clears a unit's isolation, or is refused. -/
  | rejoin (kind : Fin 2) (id : Fin 64)
  /-- ISOLATE_MSG (R463): A node takes an ISOLATE message whose NN it has not applied, for application at the next boundary. -/
  | isolateMsg (n : Node) (m : Msg)
  /-- ISOLATE_APPLY (R465): At boundary b the isolated stop is reset, and every other stop frees copies, restarts its pairs and ends records. -/
  | isolateApply (n : Node)
  /-- ISOLATION_COMPLETE (R468): Isolation is complete: GLB writes a CONTAIN record and clears BUSY. -/
  | isolationComplete
  /-- MAINT_SEG (R460): A node receives no valid tick mark from one direction at four consecutive boundaries, so MAINT_SEG is recorded. -/
  | maintSeg (n : Node) (d : Dir)
  /-- STOP_UE (R456): An uncorrectable state-SRAM word read for use records STOP_UE with an interrupt. -/
  | stopUe (k : Stop) (which : Fin 9) (idx : Word)
  /-- TEST_KEY_WRITE (R475): A write of GLB.TEST_KEY unlocks TEST with the key, or locks it and disarms every unit. -/
  | testKeyWrite (w : Word)
  /-- FI_LCI_DELAY_EXPIRE (R477): An LCI unit's held TLP reaches FI_DLY ticks and is released. -/
  | fiLciDelayExpire (k : Stop) (l : Link) (d : Fin 2)
  /-- MB_POST (R484): A write of MB_CTL.POST offers the mailbox data to a core's loader, or is refused. -/
  | mbPost (m : Fin 2) (w : Word)
  /-- MB_RESTART (R484): A write of MB_CTL.RESTART discards a core's accepted image bytes. -/
  | mbRestart (m : Fin 2) (w : Word)
  /-- MB_COPY_DONE (R484): The loader has copied a post, and OWNER returns to 0. -/
  | mbCopyDone (m : Fin 2)
  /-- IMAGE_VERIFY_DONE (R487): The loader check ends: the core starts Ladex as ACTIVE or STANDBY, or returns to WAIT_IMAGE with LDR_FAIL. -/
  | imageVerifyDone (c : Fin 2)
  /-- CORE_RESET_EXIT (R489): A core leaves reset and, by its ROM self-check, goes to WAIT_IMAGE, VERIFY or FAILED. -/
  | coreResetExit (c : Fin 2) (ok : Bool)
  /-- CORE_RST (R489): A CORE_CTL.RST write resets a core that is not ACTIVE, or is refused. -/
  | coreRst (c : Fin 2)
  /-- CORE_FAIL (R489): A core misses HB_LIM consecutive heartbeats and becomes FAILED, starting an automatic handover or RECOVERY. -/
  | coreFail (c : Fin 2)
  /-- HANDOVER_REQ (R496): A write of HO_CTL.GO broadcasts a HANDOVER with a target boundary, or is refused. -/
  | handoverReq (w : Word)
  /-- HANDOVER (R496): At the target boundary the active core flips, and GLB commands move to the new core. -/
  | handover
  /-- OLD_CORE_SETTLED (R496): The old core has answered its pending CFGs and its tags have settled, so it becomes STANDBY. -/
  | oldCoreSettled (c : Fin 2)
  /-- MEMEP_CFG (R495): The active core answers a CFG for a pool-memory virtual endpoint. -/
  | memepCfg (c : Fin 2)
  /-- MEM_INIT_DONE (R493): All channels have been zeroed, and MEM_INIT is set. -/
  | memInitDone
  /-- GO_SERVICE (R491): A write of FAB_CTL.GO_SERVICE declares SERVICE at the next mark, or is refused with a code. -/
  | goService
  /-- RECOVERY_CAUSE (R461): A cause of Table 17-2 makes the fabric state RECOVERY and puts SERVICE port stops in RECOVERY. -/
  | recoveryCause (c : Fin 5)
  /-- PAIR_FRAME_XLT (R508): The partner applies mirrored translation entries through its update path, with EG_MAP applied. -/
  | pairFrameXlt (raw : BitVec 1344) (full : Bool)
  /-- PAIR_FRAME_PB (R508): The partner applies mirrored PASID binding entries. -/
  | pairFramePb (raw : BitVec 1344) (full : Bool)
  /-- PAIR_FRAME_ACC (R508): The partner writes a shadow slice's accord. -/
  | pairFrameAcc (raw : BitVec 1344) (full : Bool)
  /-- PAIR_FRAME_QCTX (R508): The partner writes shadow queue contexts as DISABLED. -/
  | pairFrameQctx (raw : BitVec 1344)
  /-- PAIR_FRAME_MTR (R508): The partner writes meter records into both banks. -/
  | pairFrameMtr (raw : BitVec 1344)
  /-- PAIR_FRAME_SLC (R508): The partner marks a slice SHADOW when CREATED or clears it when CLEARED. -/
  | pairFrameSlc (raw : BitVec 1344)
  /-- PAIR_FRAME_FLC (R508): The partner writes 128 bytes of a mirrored flacon, VALID last. -/
  | pairFrameFlc (raw : BitVec 1344)
  /-- PAIR_FRAME_CKPT (R508): The partner writes checkpointed HEAD and TAIL into shadow contexts. -/
  | pairFrameCkpt (raw : BitVec 1344)
  /-- PAIR_FRAME_WAKE (R515): The partner takes a WAKE frame for the sectors in its mask. -/
  | pairFrameWake (raw : BitVec 1344)
  /-- PAIR_FRAME_HB (R506): An HB frame brings the partner's PACK, state and RESTART flag. -/
  | pairFrameHb (raw : BitVec 1344) (refused : Bool)
  /-- PAIR_REPLAY (R506): The oldest retained frame has waited ACK_TO ticks, so every retained frame is replayed. -/
  | pairReplay
  /-- PAIR_CKPT (R508): Every CKPT_PER ticks, CKPT frames are sent for the queues of every LIVE home slice. -/
  | pairCkpt
  /-- PEER_LOST (R510): No valid frame has arrived for HB_LIM ticks, so PEER becomes LOST, with an automatic takeover when PARTNER_FAIL is asserted. -/
  | peerLost
  /-- PL_UP_CHANGE (R504): The pair link controller changes PL_UP, moving the mirror state. -/
  | plUpChange (up : Bool)
  /-- PARTNER_FAIL_CHANGE (R512): The PARTNER_FAIL input level changes. -/
  | partnerFailChange (level : Bool)
  /-- MIRROR_WRITE (R510): A write of PAIR_CTL.MIRROR starts a resync, or turns mirroring off. -/
  | mirrorWrite (w : Word)
  /-- RSYNC_GO (R511): A write of RSYNC.GO starts a full send from DESYNC while the link is UP. -/
  | rsyncGo
  /-- RESYNC_DONE (R510): The full send has been applied at the partner, and the mirror state becomes SYNC. -/
  | resyncDone
  /-- TAKEOVER (R512): A write of TKO_CTL.GO creates every SHADOW slice, or is refused. -/
  | takeover (w : Word)
  /-- TAKEOVER_DONE (R513): Every takeover CREATE has ended: DONE counts the LIVE slices and HOME absorbs SHD. -/
  | takeoverDone
  /-- PWAKE (R515): A write of PAIR.PWAKE sends one WAKE frame. -/
  | pwake (m : BitVec 8)
  /-- PAIR_MARK (R506): A write of PAIR.MARK reads 1 until every earlier frame has been acknowledged. -/
  | pairMark
  /-- LCI_EV_CODE_UNDEFINED (R545): A link controller presents EV_VALID with an EV_CODE of 5 to 7, which is counted in LCI_PROTO_CNT and otherwise ignored. -/
  | lciEvCodeUndefined (k : Stop) (l : Link)
  /-- HANDOVER_MESSAGE (R496): A node takes the broadcast HANDOVER CTRL message and notes the core that will be active and the target boundary. -/
  | handoverMessage (n : Node) (m : Msg)
  /-- RESET_MESSAGE (R482): A node takes the broadcast RESET CTRL message naming boundary b of a fabric reset. -/
  | resetMessage (n : Node) (m : Msg)
  /-- BANK_SYNC_START_MSG (R535): A page owner takes the BANK_SYNC start broadcast, copies its active bank into its inactive bank and sends copy-done to node 60. -/
  | bankSyncStartMsg (n : Node) (m : Msg)
  /-- CTRL_SUB_UNLISTED (R131): A node takes a CTRL message whose SUB is not listed in Table 5-8, discards it and counts it as a failed CHECK. -/
  | ctrlSubUnlisted (n : Node) (m : Msg)
  /-- STANDBY_STATE_COPY_DONE (R489): A verified core finishes copying the active core's state and only then reports STANDBY. -/
  | standbyStateCopyDone (c : Fin 2)
  /-- PAIR_CREDIT_UPDATE (R559): The pair link controller returns cumulative frame credit on PT_CRED, letting stop 59 send further pair frames. -/
  | pairCreditUpdate (c : BitVec 16)
  deriving DecidableEq, Repr

end Sys2Proof
end

