-- ==== Sys2Proof/Decode.lean ====
section
/-! DEFINITION. Commands spelled as words: the opcode table gives no row of this block any bits. -/

namespace Sys2Proof

/-- The command that the low `nbits` bits of a word spell by the table's bits. No row of the table has bits, so no word
spells a command. -/
def decodeTableWord (nbits w : Nat) : Option Instr :=
  match nbits, w with
  | _, _ => none

end Sys2Proof
end

