-- ==== Sys2Proof/Config.lean ====
section
/-! DEFINITION. What an implementation fixes and the manual leaves open: opaque constants, so that nothing can be
proved about the value the hardware takes. -/

namespace Sys2Proof.Config

/-- A fresh value the spec does not state, by the index the step reads from `State.freeNext`. -/
opaque freeValue : Nat → Nat

/-- The 1 024 bits that the PRBS-31 generator gives from a seed (Table 4-5): the manual does not state its polynomial or
its bit order. -/
opaque prbs31 : Nat → BitVec 1024

/-- The wires that the alternating pattern drives to 1 at an even SEQ (Table 4-5): the manual does not state the phase. -/
opaque altPhase : BitVec 1024

/-- The wire of the walking one at SEQ 0 (Table 4-5). -/
opaque walkStart : Nat

/-- The data of a pattern code that Table 4-5 does not list, from the code, SEQ and SRC_STOP. -/
opaque otherPattern : Nat → Nat → Nat → BitVec 1024

/-- The 1 024 bits of test pattern `pat` for SEQ and SRC_STOP (R113, Table 4-5): PRBS-31 from the seed
(SEQ << 8) | SRC_STOP; each wire alternating from flit to flit; a one that walks a wire further with each flit. -/
def patternData (pat seq src : Nat) : BitVec 1024 :=
  match pat with
  | 0 => prbs31 (seq * 256 + src)
  | 1 => if seq % 2 = 0 then altPhase else ~~~altPhase
  | 2 => BitVec.ofNat 1024 (2 ^ ((walkStart + seq) % 1024))
  | _ => otherPattern pat seq src

/-- The station that sends a ring's ECHO in a direction and the hops to the station that returns it (R110, R114), by
ring*2+direction: the manual names neither. -/
opaque echoSender : Nat → Nat
opaque echoDist : Nat → Nat

/-- The pattern a ring's test uses: the manual names three and does not say which is chosen. -/
opaque testPattern : Nat → Nat

/-- The 16-bit number drawn by a fault injection unit for the `n`-th eligible item after arming with a seed (R476): the
manual gives the LFSR polynomial and not which bits are drawn. -/
opaque fiDraw : Nat → Nat → Nat

/-- The fields that a header as received spells after an LCI unit inverted a bit of it (R477): the manual refers to PCI
Express for the header's layout. -/
opaque parseHeader : BitVec 256 → TlpHead

/-- The 256 header bits of a TLP with these fields (R545): the manual refers to PCI Express for the header's layout. -/
opaque formHeader : TlpHead → BitVec 256

/-- Delay of a node from the tick generator in a direction, clock crossing included (R33), by node*2+direction. -/
opaque nodeDelay : Nat → Nat

/-- The crossing latency of a bridge at the current clocks in sixteenths of a nanosecond (R385, R396), by bridge and by
whether its stop runs at half rate: the periods of the clocks are the platform's. -/
opaque latQ : Nat → Bool → Nat

/-- SHA-384 of bytes, digest byte 0 highest (R487, R557): the manual names the algorithm by its standard. -/
opaque sha384 : List (BitVec 8) → BitVec 384

/-- The ECDSA P-384 signature (r, s) of a public key (x, y) verifies over a digest (R487), by its standard. -/
opaque ecdsaOk : (x y r s : Nat) → BitVec 384 → Bool

end Sys2Proof.Config
end

