-- ==== Sys2Proof/Machine/Tbl.lean ====
section
/-! DEFINITION. Sparse tables in canonical form: keys strictly rising and no entry equal to the default, so
that equal contents are equal data. Every array, map and memory of the machine is one of these. -/

namespace Sys2Proof.Machine

/-- The value at a key; the default where no entry stands. -/
def tget {α : Type} (d : α) : Tbl α → Nat → α
  | [], _ => d
  | (k, v) :: t, i => if i = k then v else tget d t i

/-- The table without the entry of one key. -/
def terase {α : Type} (i : Nat) (t : Tbl α) : Tbl α := t.filter (fun e => e.1 != i)

/-- Insert an entry before the first greater key. -/
def tput {α : Type} (i : Nat) (v : α) : Tbl α → Tbl α
  | [] => [(i, v)]
  | (k, w) :: t => if i < k then (i, v) :: (k, w) :: t else (k, w) :: tput i v t

/-- Write one key; writing the default removes the entry. -/
def tset {α : Type} [DecidableEq α] (d : α) (t : Tbl α) (i : Nat) (v : α) : Tbl α :=
  if v = d then terase i t else tput i v (terase i t)

/-- Remove every entry whose key satisfies `p` (those keys read the default again). -/
def tdrop {α : Type} (p : Nat → Bool) (t : Tbl α) : Tbl α := t.filter (fun e => !p e.1)

/-- All keys of the first list element are below the rest, and so on. -/
def keysRise : List Nat → Bool
  | [] => true
  | [_] => true
  | a :: b :: t => decide (a < b) && keysRise (b :: t)

/-- The canonical form: strictly rising keys, no entry equal to the default. -/
def twf {α : Type} [DecidableEq α] (d : α) (t : Tbl α) : Bool :=
  keysRise (t.map (fun e => e.1)) && t.all (fun e => decide (e.2 ≠ d))

/-- Change the value at one key by a function. -/
def tmod {α : Type} [DecidableEq α] (d : α) (t : Tbl α) (i : Nat) (f : α → α) : Tbl α :=
  tset d t i (f (tget d t i))

end Sys2Proof.Machine
end

