-- ==== Sys2Proof/Machine/Operands.lean ====
section
/-! DEFINITION. The formats of what the block moves: flit bits, SECDED words, CRCs and maintenance messages
(03_flits_and_transactions, 05_reservation). -/

namespace Sys2Proof.Machine

/-! ### Opcodes (Table 3-3) and classes (Table 3-2) -/

def opMWR : BitVec 6 := 0x01
def opMRD : BitVec 6 := 0x02
def opATOM : BitVec 6 := 0x03
def opCFG : BitVec 6 := 0x04
def opMSG : BitVec 6 := 0x05
def opLOCKRD : BitVec 6 := 0x06
def opUNLOCK : BitVec 6 := 0x07
def opDESC : BitVec 6 := 0x08
def opCPL : BitVec 6 := 0x10
def opCPLD : BitVec 6 := 0x11
def opACK : BitVec 6 := 0x20
def opMAINT : BitVec 6 := 0x30

def clsCTL : BitVec 2 := 0
def clsLAT : BitVec 2 := 1
def clsBLK : BitVec 2 := 2
def clsSCV : BitVec 2 := 3

/-- The opcodes of Table 3-3. -/
def opcListed (o : BitVec 6) : Bool :=
  [opMWR, opMRD, opATOM, opCFG, opMSG, opLOCKRD, opUNLOCK, opDESC, opCPL, opCPLD, opACK, opMAINT].contains o

/-- Virtual network REQ (Table 3-3). -/
def isReq (o : BitVec 6) : Bool :=
  [opMWR, opMRD, opATOM, opCFG, opMSG, opLOCKRD, opUNLOCK, opDESC].contains o

/-- Virtual network RSP (Table 3-3). -/
def isRsp (o : BitVec 6) : Bool := o == opCPL || o == opCPLD

/-- Posted requests (R120). -/
def isPosted (o : BitVec 6) : Bool := [opMWR, opMSG, opUNLOCK, opDESC].contains o

/-- Non-posted requests (R120). -/
def isNonPosted (o : BitVec 6) : Bool := [opMRD, opATOM, opCFG, opLOCKRD].contains o

/-- The data field is in use (R57): by opcode, for CFG by ADDR[12] (WR), for MSG by LEN. -/
def dataUsed (opc : BitVec 6) (addr : BitVec 64) (len : BitVec 10) : Bool :=
  if opc == opCFG then addr.getLsbD 12
  else if opc == opMSG then len != 0
  else [opMWR, opATOM, opDESC, opCPLD, opMAINT].contains opc

/-! ### Flit bits (Table 3-1) -/

/-- The empty slot: OPC 0x00 and zero header (R88). -/
def emptyFlit : Flit :=
  { dst := 0, src := 0, ring := 0, dir := 0, cls := 0, ep := 0, opc := 0, slice := 0, sgen := 0, tag := 0, seq := 0,
    len := 0, fidx := 0, last := 0, pois := 0, attr := 0, sgid := 0, dgid := 0, pasid := 0, addr := 0, be := 0,
    ackp := 0, ackSeq := 0, crc := 0, rsvd := 0, data := 0 }

/-- The 320 header bits of a flit (Table 3-1). -/
def headerBits (f : Flit) : BitVec 320 :=
  BitVec.ofNat 320 (packBits
    [(0, 6, f.dst.toNat), (6, 6, f.src.toNat), (12, 4, f.ring.toNat), (16, 1, f.dir.toNat), (17, 2, f.cls.toNat),
     (19, 1, f.ep.toNat), (20, 6, f.opc.toNat), (26, 12, f.slice.toNat), (38, 4, f.sgen.toNat), (42, 12, f.tag.toNat),
     (54, 16, f.seq.toNat), (70, 10, f.len.toNat), (80, 5, f.fidx.toNat), (85, 1, f.last.toNat),
     (86, 1, f.pois.toNat), (87, 4, f.attr.toNat), (91, 24, f.sgid.toNat), (115, 24, f.dgid.toNat),
     (139, 20, f.pasid.toNat), (159, 64, f.addr.toNat), (223, 16, f.be.toNat), (239, 1, f.ackp.toNat),
     (240, 16, f.ackSeq.toNat), (256, 32, f.crc.toNat), (288, 32, f.rsvd.toNat)])

/-- The 1 344 bits of a flit (R54). -/
def flitBits (f : Flit) : BitVec 1344 := f.data ++ headerBits f

/-- The flit that 1 344 bits spell (Table 3-1). -/
def flitOfBits (b : BitVec 1344) : Flit :=
  { dst := b.extractLsb' 0 6, src := b.extractLsb' 6 6, ring := b.extractLsb' 12 4, dir := b.extractLsb' 16 1,
    cls := b.extractLsb' 17 2, ep := b.extractLsb' 19 1, opc := b.extractLsb' 20 6, slice := b.extractLsb' 26 12,
    sgen := b.extractLsb' 38 4, tag := b.extractLsb' 42 12, seq := b.extractLsb' 54 16, len := b.extractLsb' 70 10,
    fidx := b.extractLsb' 80 5, last := b.extractLsb' 85 1, pois := b.extractLsb' 86 1, attr := b.extractLsb' 87 4,
    sgid := b.extractLsb' 91 24, dgid := b.extractLsb' 115 24, pasid := b.extractLsb' 139 20,
    addr := b.extractLsb' 159 64, be := b.extractLsb' 223 16, ackp := b.extractLsb' 239 1,
    ackSeq := b.extractLsb' 240 16, crc := b.extractLsb' 256 32, rsvd := b.extractLsb' 288 32,
    data := b.extractLsb' 320 1024 }

/-! ### SECDED (R77, Table 3-10) -/

/-- Position `p` (1–345) of a code word holds a check bit: `p` is a power of two. -/
def isCheckPos (p : Nat) : Bool := [1, 2, 4, 8, 16, 32, 64, 128, 256].contains p

/-- The positions of the data bits 0–335 in ascending order (R77). -/
def dataPositions : List Nat := (List.range' 1 345).filter (fun p => !isCheckPos p)

/-- XOR of the positions of the data bits that are 1: the value of c0–c8. -/
def dataSyndrome (d : Nat) : List Nat → Nat
  | [] => 0
  | p :: ps => (if d % 2 = 1 then p else 0) ^^^ dataSyndrome (d / 2) ps

/-- Parity of the low `n` bits. -/
def parityNat : Nat → Nat → Nat
  | 0, _ => 0
  | n + 1, d => (d % 2 + parityNat n (d / 2)) % 2

/-- The 346-bit SECDED word of 336 data bits: data on the low wires, c0–c9 above (R77). -/
def secEncode (d : Nat) : Nat :=
  let s := dataSyndrome d dataPositions
  let par := (parityNat 336 d + parityNat 9 s) % 2
  packBits [(0, 336, d), (336, 9, s), (345, 1, par)]

/-- The result of decoding one word (Table 3-10). -/
inductive SecResult where
  | clean | corrected | bad
  deriving DecidableEq, Repr

/-- Index of the data bit at position `p`: the data positions below it. -/
def dataIndex (p : Nat) : Nat := (dataPositions.filter (fun q => q < p)).length

/-- Decode one 346-bit word: the corrected 336 data bits and the result (Table 3-10). -/
def secDecode (w : Nat) : Nat × SecResult :=
  let d := nbits w 0 336
  let s := dataSyndrome d dataPositions ^^^ nbits w 336 9
  let par := (parityNat 336 d + parityNat 10 (nbits w 336 10)) % 2
  if par = 0 then (if s = 0 then (d, .clean) else (d, .bad))
  else if s = 0 then (d, .corrected)
  else if s ≤ 345 then (if isCheckPos s then (d, .corrected) else (d ^^^ 2 ^ dataIndex s, .corrected))
  else (d, .bad)

/-- The four words of a flit on the 1 384 wires of a link (R23, R77). -/
def wireOfFlit (f : Flit) : BitVec 1384 :=
  let b := (flitBits f).toNat
  BitVec.ofNat 1384 (packBits
    [(0, 346, secEncode (nbits b 0 336)), (346, 346, secEncode (nbits b 336 336)),
     (692, 346, secEncode (nbits b 672 336)), (1038, 346, secEncode (nbits b 1008 336))])

/-- What a station reads from the wires: the corrected flit, how many words were corrected and which failed (R78).
Words 1–3 are decoded only when the data field is in use, as corrected word 0 says (R57, R64). -/
def decodeWires (w : BitVec 1384) : Flit × Nat × Nat :=
  let n := w.toNat
  let r0 := secDecode (nbits n 0 346)
  let h := flitOfBits (BitVec.ofNat 1344 r0.1)
  let rs := if dataUsed h.opc h.addr h.len then
      [r0, secDecode (nbits n 346 346), secDecode (nbits n 692 346), secDecode (nbits n 1038 346)]
    else [r0, (nbits n 346 336, .clean), (nbits n 692 336, .clean), (nbits n 1038 336, .clean)]
  let bits := packBits ((List.range 4).map (fun k => (336 * k, 336, (rs.getD k (0, .clean)).1)))
  let fixed := (rs.filter (fun r => r.2 == .corrected)).length
  let bad := packBits ((List.range 4).map (fun k => (k, 1, b2n ((rs.getD k (0, .clean)).2 == .bad))))
  (flitOfBits (BitVec.ofNat 1344 bits), fixed, bad)

/-! ### End-to-end CRC (R80) -/

/-- One bit of reflected CRC-32, polynomial 0x04C1_1DB7. -/
def crc32Bit (c : BitVec 32) : BitVec 32 :=
  if c.getLsbD 0 then (c >>> 1) ^^^ 0xEDB88320 else c >>> 1

/-- Apply a function `n` times. -/
def iter {α : Type} (f : α → α) : Nat → α → α
  | 0, x => x
  | n + 1, x => iter f n (f x)

/-- One byte of reflected CRC-32. -/
def crc32Byte (c : BitVec 32) (b : BitVec 8) : BitVec 32 := iter crc32Bit 8 (c ^^^ b.setWidth 32)

/-- CRC-32 of a list of bytes: initial value and final XOR 0xFFFF_FFFF, reflected (R80). -/
def crc32 (bs : List (BitVec 8)) : BitVec 32 := bs.foldl crc32Byte 0xFFFFFFFF ^^^ 0xFFFFFFFF

/-- The first `n` bytes of a number, lowest first. -/
def bytesOf (n v : Nat) : List (BitVec 8) := (List.range n).map (fun i => BitVec.ofNat 8 (v / 2 ^ (8 * i)))

/-- The number a list of bytes spells, lowest first. -/
def numOfBytes : List (BitVec 8) → Nat
  | [] => 0
  | b :: bs => b.toNat + 256 * numOfBytes bs

/-- E2E_CRC of a flit: the header with the field taken as 0, then the data field when in use (R80). -/
def e2eCrc (f : Flit) : BitVec 32 :=
  let h := bytesOf 40 (headerBits { f with crc := 0 }).toNat
  crc32 (if dataUsed f.opc f.addr f.len then h ++ bytesOf 128 f.data.toNat else h)

/-! ### Maintenance messages (R129–R131) -/

/-- CRC-7, polynomial x^7 + x^3 + 1, of the bits of a list, first bit first, from 0.
DEDUCED: the spec names the polynomial alone; the register starts at 0 and the highest bit goes first. -/
def crc7 (bs : List Bool) : Nat :=
  bs.foldl (fun c b => (2 * c % 128) ^^^ (if (64 ≤ c) != b then 0x09 else 0)) 0

/-- Bits `hi` down to `lo` of a number, highest first. -/
def bitsDown (n hi lo : Nat) : List Bool := (List.range (hi + 1 - lo)).map (fun i => nbit n (hi - i))

/-- CHECK of a message other than a tick mark: over bits [63:7] (R129). -/
def msgCheck (m : Nat) : Nat := crc7 (bitsDown m 63 7)

/-- CHECK of a tick mark: over bits [63:55] and [47:0] (Table 2-1). -/
def markCheck (m : Nat) : Nat := crc7 (bitsDown m 63 55 ++ bitsDown m 47 0)

/-- A message from its fields, CHECK filled in (R129). -/
def mkMsg (parts : List (Nat × Nat × Nat)) : Msg :=
  let b := packBits parts
  BitVec.ofNat 64 (b + msgCheck b)

/-- CHECK of a message other than the tick mark is right. -/
def msgOk (m : Msg) : Bool := vbits m 0 7 == msgCheck m.toNat

/-- A message of TYPE `t` from node `src` to `dst` with the remaining fields. -/
def mkTyped (t dst src : Nat) (rest : List (Nat × Nat × Nat)) : Msg :=
  mkMsg ((60, 4, t) :: (54, 6, dst) :: (48, 6, src) :: rest)

/-- A CTRL message of SUB `sub` (Table 5-8). -/
def mkCtrl (sub dst src : Nat) (rest : List (Nat × Nat × Nat)) : Msg :=
  mkTyped 0 dst src ((44, 4, sub) :: rest)

def msgType (m : Msg) : Nat := vbits m 60 4
def msgDst (m : Msg) : Nat := vbits m 54 6
def msgSrc (m : Msg) : Nat := vbits m 48 6
def msgSub (m : Msg) : Nat := vbits m 44 4

/-- A tick mark (Table 2-1). -/
def mkMark (holdover swap epoch snap freeze : Bool) (count : Nat) : Msg :=
  let b := packBits [(60, 4, 1), (59, 1, b2n holdover), (58, 1, b2n swap), (57, 1, b2n epoch), (56, 1, b2n snap),
    (55, 1, b2n freeze), (0, 48, count)]
  BitVec.ofNat 64 (b + markCheck b * 2 ^ 48)

/-- CHECK of a tick mark is right (R36). -/
def markOk (m : Msg) : Bool := vbits m 48 7 == markCheck m.toNat

/-! ### Stops, sectors and distances (R18–R24) -/

/-- The sector of a stop below 56 (Table 1-1). -/
def sectorOf (k : Nat) : Nat := k / 7
def isCoreStop (k : Nat) : Bool := 56 ≤ k
/-- Port stop or spare port stop. -/
def isPortStop (k : Nat) : Bool := k < 56 && k % 7 < 5
def isSpareStop (k : Nat) : Bool := k < 56 && k % 7 == 4
def isMemStop (k : Nat) : Bool := k < 56 && k % 7 == 5
def isEngStop (k : Nat) : Bool := k < 56 && k % 7 == 6
/-- The port stop of a socket (R19). -/
def portStopOf (p : Nat) : Nat := 7 * (p / 4) + p % 4
/-- The seven stops of a sector. -/
def sectorStops (s : Nat) : List Nat := (List.range 7).map (fun j => 7 * s + j)

/-- Hops from `a` to `b` in direction `d` (R24). -/
def hops (d a b : Nat) : Nat := if d = 0 then (b + 60 - a % 60) % 60 else (a + 60 - b % 60) % 60

/-- The shorter direction, with the tie rule of R97. -/
def shorterDir (a b : Nat) : Nat :=
  let up := hops 0 a b
  if up < 30 then 0 else if up > 30 then 1 else if a < 30 then 0 else 1

/-- Entries or flits that a payload of `n` bytes takes (R62). -/
def flitsOfBytes (n : Nat) : Nat := if n = 0 then 1 else ceilDiv n 128

/-- LEN in 4-byte units where 0 means 1 024 (R61). -/
def lenUnits (l : BitVec 10) : Nat := if l = 0 then 1024 else l.toNat

end Sys2Proof.Machine
end

