-- ==== Sys2Proof/Machine/Fields.lean ====
section
/-! DEFINITION. Every register field of the spec's register tables, by page class, register and field name
(PAGE.REGISTER.FIELD): offset, bits, access type (Table 0-4) and reset value. -/

namespace Sys2Proof.Machine

/-- Access types of Table 0-4 (R12). -/
inductive Acc where
  | rw | ro | w1c | w1s | we | rwk | rc
  deriving DecidableEq, Repr

/-- One register field: page class, register offset, lowest bit, width, access type, whether it keeps its value
through warm reset (ST), reset value, and, for a register array, the number and spacing of its elements
(`n` registers `step` bytes apart, `m` fields `fstep` bits apart in each). -/
structure Fld where
  cls : Cls
  off : Nat
  lo : Nat
  width : Nat
  acc : Acc
  st : Bool
  rst : Nat
  n : Nat := 1
  step : Nat := 4
  m : Nat := 1
  fstep : Nat := 0
  deriving DecidableEq, Repr

/-- Offset of the counter block in a page class (Table 16-1). -/
def cbBase (c : Cls) : Nat := if c = .pmu then 0x100 else 0xC00


/-! Table 2-2 -/

def F.TICK.TICK_CTL.EN : Fld := { cls := .tick, off := 0x100, lo := 0, width := 1, acc := .rw, st := false, rst := 0 }
def F.TICK.TICK_CTL.HOLD_EN : Fld := { cls := .tick, off := 0x100, lo := 1, width := 1, acc := .rw, st := false, rst := 1 }
def F.TICK.TICK_STS.RUNNING : Fld := { cls := .tick, off := 0x104, lo := 0, width := 1, acc := .ro, st := false, rst := 0 }
def F.TICK.TICK_STS.HOLDOVER : Fld := { cls := .tick, off := 0x104, lo := 1, width := 1, acc := .ro, st := false, rst := 0 }
def F.TICK.TICK_STS.REF_OK : Fld := { cls := .tick, off := 0x104, lo := 2, width := 1, acc := .ro, st := false, rst := 0 }
def F.TICK.TICK_STS.CAL_DONE : Fld := { cls := .tick, off := 0x104, lo := 3, width := 1, acc := .ro, st := false, rst := 0 }
def F.TICK.COUNT_LO : Fld := { cls := .tick, off := 0x108, lo := 0, width := 32, acc := .ro, st := true, rst := 0 }
def F.TICK.COUNT_HI : Fld := { cls := .tick, off := 0x10C, lo := 0, width := 16, acc := .ro, st := true, rst := 0 }
def F.TICK.HOLD_DIV : Fld := { cls := .tick, off := 0x110, lo := 0, width := 12, acc := .rw, st := false, rst := 1000 }
def F.TICK.HOLD_CNT : Fld := { cls := .tick, off := 0x114, lo := 0, width := 32, acc := .ro, st := true, rst := 0 }
def F.TICK.SLIP_CNT : Fld := { cls := .tick, off := 0x118, lo := 0, width := 32, acc := .rc, st := false, rst := 0 }
def F.TICK.MARK_ERR : Fld := { cls := .tick, off := 0x11C, lo := 0, width := 32, acc := .rc, st := false, rst := 0 }

/-! Table 2-6 -/

def F.GLB.EPOCH_CTL.REQ : Fld := { cls := .glb, off := 0x140, lo := 0, width := 1, acc := .w1s, st := false, rst := 0 }
def F.GLB.EPOCH_CTL.CANCEL : Fld := { cls := .glb, off := 0x140, lo := 1, width := 1, acc := .w1s, st := false, rst := 0 }
def F.GLB.EPOCH_CTL.AT_EN : Fld := { cls := .glb, off := 0x140, lo := 2, width := 1, acc := .rw, st := false, rst := 0 }
def F.GLB.EPOCH_STS.ACTIVE : Fld := { cls := .glb, off := 0x144, lo := 0, width := 1, acc := .ro, st := false, rst := 0 }
def F.GLB.EPOCH_STS.PENDING : Fld := { cls := .glb, off := 0x144, lo := 1, width := 1, acc := .ro, st := false, rst := 0 }
def F.GLB.EPOCH_STS.INACTIVE_OPEN : Fld := { cls := .glb, off := 0x144, lo := 2, width := 1, acc := .ro, st := false, rst := 1 }
def F.GLB.EPOCH_STS.DRAINED : Fld := { cls := .glb, off := 0x144, lo := 3, width := 1, acc := .ro, st := false, rst := 1 }
def F.GLB.EPOCH_STS.REFUSE : Fld := { cls := .glb, off := 0x144, lo := 4, width := 4, acc := .ro, st := false, rst := 0 }
def F.GLB.EPOCH_STS.EPOCH_NUM : Fld := { cls := .glb, off := 0x144, lo := 16, width := 16, acc := .ro, st := false, rst := 0 }
def F.GLB.EPOCH_AT_LO.AT_LO : Fld := { cls := .glb, off := 0x148, lo := 0, width := 32, acc := .rw, st := false, rst := 0 }
def F.GLB.EPOCH_AT_HI.AT_HI : Fld := { cls := .glb, off := 0x14C, lo := 0, width := 16, acc := .rw, st := false, rst := 0 }
def F.GLB.EPOCH_LAST_LO.LAST_LO : Fld := { cls := .glb, off := 0x150, lo := 0, width := 32, acc := .ro, st := false, rst := 0 }
def F.GLB.EPOCH_LAST_HI.LAST_HI : Fld := { cls := .glb, off := 0x154, lo := 0, width := 16, acc := .ro, st := false, rst := 0 }

/-! Table 3-8 -/

def F.STOP.STN_CE_CNT : Fld := { cls := .stop, off := 0x1C0, lo := 0, width := 32, acc := .rc, st := false, rst := 0 }
def F.STOP.STN_UE_CNT : Fld := { cls := .stop, off := 0x1C4, lo := 0, width := 32, acc := .rc, st := false, rst := 0 }
def F.STOP.STN_GUARD_CNT : Fld := { cls := .stop, off := 0x1C8, lo := 0, width := 32, acc := .rc, st := false, rst := 0 }
def F.STOP.E2E_ERR_CNT : Fld := { cls := .stop, off := 0x1CC, lo := 0, width := 32, acc := .rc, st := false, rst := 0 }
def F.STOP.POIS_RX_CNT : Fld := { cls := .stop, off := 0x1D0, lo := 0, width := 32, acc := .rc, st := false, rst := 0 }
def F.RING.CE_CNT : Fld := { cls := .ring, off := 0x1C0, lo := 0, width := 32, acc := .rc, st := false, rst := 0 }
def F.RING.UE_CNT : Fld := { cls := .ring, off := 0x1C4, lo := 0, width := 32, acc := .rc, st := false, rst := 0 }
def F.RING.GUARD_CNT : Fld := { cls := .ring, off := 0x1C8, lo := 0, width := 32, acc := .rc, st := false, rst := 0 }

/-! Table 4-6 -/

def F.STOP.RING_HASH.SEED : Fld := { cls := .stop, off := 0x180, lo := 0, width := 16, acc := .we, st := false, rst := 0 }
def F.STOP.RING_HASH.MULT0 : Fld := { cls := .stop, off := 0x180, lo := 16, width := 1, acc := .ro, st := false, rst := 1 }
def F.STOP.RING_HASH.MULT_HI : Fld := { cls := .stop, off := 0x180, lo := 17, width := 15, acc := .we, st := false, rst := 20251 }
def F.STOP.STN_PASS.PASS : Fld := { cls := .stop, off := 0x184, lo := 0, width := 9, acc := .we, st := false, rst := 0 }
def F.STOP.RING_MAP.ENTRY : Fld := { cls := .stop, off := 0x188, lo := 0, width := 4, acc := .we, st := false, rst := 0, n := 8, step := 4, m := 8, fstep := 4 }
def F.STOP.SLOT_MISS_CNT : Fld := { cls := .stop, off := 0x1A8, lo := 0, width := 32, acc := .rc, st := false, rst := 0 }
def F.STOP.MAP_FIX_CNT : Fld := { cls := .stop, off := 0x1AC, lo := 0, width := 32, acc := .rc, st := false, rst := 0 }
def F.STOP.SLOT_WAIT.MAX : Fld := { cls := .stop, off := 0x1B0, lo := 0, width := 4, acc := .rc, st := false, rst := 0 }
def F.STOP.ROUTE_HOLD_CNT : Fld := { cls := .stop, off := 0x1B4, lo := 0, width := 32, acc := .rc, st := false, rst := 0 }
def F.STOP.ROUTE.PHYS : Fld := { cls := .stop, off := 0x200, lo := 0, width := 6, acc := .we, st := false, rst := 0, n := 60, step := 4, m := 1, fstep := 0 }
def F.STOP.ROUTE.PIN_RING : Fld := { cls := .stop, off := 0x200, lo := 8, width := 4, acc := .we, st := false, rst := 0, n := 60, step := 4, m := 1, fstep := 0 }
def F.STOP.ROUTE.PIN_EN : Fld := { cls := .stop, off := 0x200, lo := 12, width := 1, acc := .we, st := false, rst := 0, n := 60, step := 4, m := 1, fstep := 0 }
def F.STOP.ROUTE.EN : Fld := { cls := .stop, off := 0x200, lo := 15, width := 1, acc := .we, st := false, rst := 1, n := 60, step := 4, m := 1, fstep := 0 }

/-! Table 4-7 -/

def F.GLB.RING_SVC.SVC : Fld := { cls := .glb, off := 0x160, lo := 0, width := 9, acc := .we, st := false, rst := 511 }
def F.GLB.RING_USE.USABLE : Fld := { cls := .glb, off := 0x164, lo := 0, width := 9, acc := .ro, st := false, rst := 0 }
def F.GLB.RING_USE.FENCED : Fld := { cls := .glb, off := 0x164, lo := 16, width := 9, acc := .ro, st := false, rst := 0 }

/-! Table 4-8 -/

def F.RING.RING_CTL.CMD : Fld := { cls := .ring, off := 0x100, lo := 0, width := 3, acc := .rw, st := false, rst := 0 }
def F.RING.RING_CTL.FENCE_EN : Fld := { cls := .ring, off := 0x100, lo := 3, width := 1, acc := .rw, st := false, rst := 1 }
def F.RING.RING_STS.STATE : Fld := { cls := .ring, off := 0x104, lo := 0, width := 3, acc := .ro, st := false, rst := 0 }
def F.RING.RING_STS.READY : Fld := { cls := .ring, off := 0x104, lo := 3, width := 1, acc := .ro, st := false, rst := 0 }
def F.RING.RING_STS.SUSPECT : Fld := { cls := .ring, off := 0x104, lo := 4, width := 1, acc := .ro, st := false, rst := 0 }
def F.RING.RING_STS.CMD_RES : Fld := { cls := .ring, off := 0x104, lo := 5, width := 3, acc := .ro, st := false, rst := 0 }
def F.RING.FAIL_WIN : Fld := { cls := .ring, off := 0x108, lo := 0, width := 16, acc := .rw, st := false, rst := 2000 }
def F.RING.FAIL_UE : Fld := { cls := .ring, off := 0x10C, lo := 0, width := 16, acc := .rw, st := false, rst := 16 }
def F.RING.CAL_CTL.MIN_MARGIN : Fld := { cls := .ring, off := 0x110, lo := 0, width := 6, acc := .rw, st := false, rst := 16 }
def F.RING.CAL_STS.MARGIN0 : Fld := { cls := .ring, off := 0x114, lo := 0, width := 6, acc := .ro, st := false, rst := 0 }
def F.RING.CAL_STS.MARGIN1 : Fld := { cls := .ring, off := 0x114, lo := 8, width := 6, acc := .ro, st := false, rst := 0 }
def F.RING.CAL_STS.WORST0 : Fld := { cls := .ring, off := 0x114, lo := 16, width := 6, acc := .ro, st := false, rst := 0 }
def F.RING.CAL_STS.WORST1 : Fld := { cls := .ring, off := 0x114, lo := 24, width := 6, acc := .ro, st := false, rst := 0 }
def F.RING.TEST_LEN : Fld := { cls := .ring, off := 0x118, lo := 0, width := 16, acc := .rw, st := false, rst := 2000 }
def F.RING.TEST_CTL.TEST_DIST : Fld := { cls := .ring, off := 0x11C, lo := 0, width := 6, acc := .rw, st := false, rst := 30 }
def F.RING.TEST_CTL.TEST_GAP : Fld := { cls := .ring, off := 0x11C, lo := 8, width := 8, acc := .rw, st := false, rst := 4 }
def F.RING.TEST_BERR : Fld := { cls := .ring, off := 0x120, lo := 0, width := 32, acc := .rc, st := false, rst := 0 }
def F.RING.TEST_SKIP : Fld := { cls := .ring, off := 0x124, lo := 0, width := 32, acc := .rc, st := false, rst := 0 }
def F.RING.ECHO_CYC.CYC0 : Fld := { cls := .ring, off := 0x128, lo := 0, width := 8, acc := .ro, st := false, rst := 0 }
def F.RING.ECHO_CYC.CYC1 : Fld := { cls := .ring, off := 0x128, lo := 16, width := 8, acc := .ro, st := false, rst := 0 }

/-! Table 5-5 -/

def F.STOP.RES_CFG.MAX_REQ : Fld := { cls := .stop, off := 0x300, lo := 0, width := 6, acc := .rw, st := false, rst := 32 }
def F.STOP.RES_CFG.REQ_TO : Fld := { cls := .stop, off := 0x300, lo := 8, width := 4, acc := .rw, st := false, rst := 2 }
def F.STOP.RES_CFG.FLOOR_ONLY : Fld := { cls := .stop, off := 0x300, lo := 12, width := 1, acc := .rw, st := false, rst := 0 }
def F.STOP.POOL_CLS.MIN : Fld := { cls := .stop, off := 0x304, lo := 0, width := 11, acc := .rw, st := false, rst := 0, n := 4, step := 4, m := 1, fstep := 0 }
def F.STOP.POOL_CLS.MAX : Fld := { cls := .stop, off := 0x304, lo := 16, width := 11, acc := .rw, st := false, rst := 0, n := 4, step := 4, m := 1, fstep := 0 }
def F.STOP.NP_MAX : Fld := { cls := .stop, off := 0x314, lo := 0, width := 11, acc := .rw, st := false, rst := 1024 }
def F.STOP.POOL_STS.FREE : Fld := { cls := .stop, off := 0x318, lo := 0, width := 11, acc := .ro, st := false, rst := 1536 }
def F.STOP.POOL_STS.NP_USED : Fld := { cls := .stop, off := 0x318, lo := 16, width := 11, acc := .ro, st := false, rst := 0 }
def F.STOP.POOL_STS.CLOSING : Fld := { cls := .stop, off := 0x318, lo := 30, width := 1, acc := .ro, st := false, rst := 0 }
def F.STOP.POOL_STS.EMPTY : Fld := { cls := .stop, off := 0x318, lo := 31, width := 1, acc := .ro, st := false, rst := 0 }
def F.STOP.RSP_STS.RSP_FREE : Fld := { cls := .stop, off := 0x31C, lo := 0, width := 14, acc := .ro, st := false, rst := 0 }
def F.STOP.CLS_USE.USED : Fld := { cls := .stop, off := 0x320, lo := 0, width := 11, acc := .ro, st := false, rst := 0, n := 4, step := 4, m := 1, fstep := 0 }
def F.STOP.CLS_USE.PEND : Fld := { cls := .stop, off := 0x320, lo := 16, width := 6, acc := .ro, st := false, rst := 0, n := 4, step := 4, m := 1, fstep := 0 }
def F.STOP.RES_REQ_CNT : Fld := { cls := .stop, off := 0x330, lo := 0, width := 32, acc := .rc, st := false, rst := 0 }
def F.STOP.RES_GNT_CNT : Fld := { cls := .stop, off := 0x334, lo := 0, width := 32, acc := .rc, st := false, rst := 0 }
def F.STOP.RES_WAIT_MAX : Fld := { cls := .stop, off := 0x338, lo := 0, width := 16, acc := .rc, st := false, rst := 0 }
def F.STOP.RES_RETRY_CNT : Fld := { cls := .stop, off := 0x33C, lo := 0, width := 32, acc := .rc, st := false, rst := 0 }
def F.STOP.MSG_ERR_CNT : Fld := { cls := .stop, off := 0x340, lo := 0, width := 32, acc := .rc, st := false, rst := 0 }
def F.STOP.RSP_OVR_CNT : Fld := { cls := .stop, off := 0x344, lo := 0, width := 32, acc := .rc, st := false, rst := 0 }
def F.STOP.RSP_WAIT_CNT : Fld := { cls := .stop, off := 0x348, lo := 0, width := 32, acc := .rc, st := false, rst := 0 }

/-! Table 6-4 -/

def F.STOP.ACK_CFG.ACK_DELAY : Fld := { cls := .stop, off := 0x380, lo := 0, width := 8, acc := .rw, st := false, rst := 64 }
def F.STOP.ACK_CFG.PIGGY_EN : Fld := { cls := .stop, off := 0x380, lo := 8, width := 1, acc := .rw, st := false, rst := 1 }
def F.STOP.ORD_CFG.RO_BYPASS : Fld := { cls := .stop, off := 0x384, lo := 0, width := 1, acc := .rw, st := false, rst := 1 }
def F.STOP.ORD_CFG.IDO_EN : Fld := { cls := .stop, off := 0x384, lo := 1, width := 1, acc := .rw, st := false, rst := 1 }
def F.STOP.CTO : Fld := { cls := .stop, off := 0x388, lo := 0, width := 24, acc := .rw, st := false, rst := 100000, n := 4, step := 4, m := 1, fstep := 0 }
def F.STOP.OUT_LIMIT : Fld := { cls := .stop, off := 0x398, lo := 0, width := 24, acc := .rw, st := false, rst := 100000 }
def F.STOP.QUAR : Fld := { cls := .stop, off := 0x39C, lo := 0, width := 24, acc := .rw, st := false, rst := 100004 }
def F.STOP.RET_STS.SRAM_USED : Fld := { cls := .stop, off := 0x3A0, lo := 0, width := 11, acc := .ro, st := false, rst := 0 }
def F.STOP.RET_STS.OVF_USED : Fld := { cls := .stop, off := 0x3A0, lo := 16, width := 15, acc := .ro, st := false, rst := 0 }
def F.STOP.RET_STS.FULL : Fld := { cls := .stop, off := 0x3A0, lo := 31, width := 1, acc := .ro, st := false, rst := 0 }
def F.STOP.TAG_STS0.OPEN : Fld := { cls := .stop, off := 0x3A4, lo := 0, width := 13, acc := .ro, st := false, rst := 0 }
def F.STOP.TAG_STS0.HELD : Fld := { cls := .stop, off := 0x3A4, lo := 16, width := 13, acc := .ro, st := false, rst := 0 }
def F.STOP.TAG_STS1.EXPIRING : Fld := { cls := .stop, off := 0x3A8, lo := 0, width := 13, acc := .ro, st := false, rst := 0 }
def F.STOP.TAG_STS1.EXPIRED : Fld := { cls := .stop, off := 0x3A8, lo := 16, width := 13, acc := .ro, st := false, rst := 0 }
def F.STOP.POST_WIN : Fld := { cls := .stop, off := 0x3AC, lo := 0, width := 16, acc := .rw, st := false, rst := 2000 }
def F.STOP.REPLAY_CNT : Fld := { cls := .stop, off := 0x3B0, lo := 0, width := 32, acc := .rc, st := false, rst := 0 }
def F.STOP.ACK_TO_CNT : Fld := { cls := .stop, off := 0x3B4, lo := 0, width := 32, acc := .rc, st := false, rst := 0 }
def F.STOP.DUP_CNT : Fld := { cls := .stop, off := 0x3B8, lo := 0, width := 32, acc := .rc, st := false, rst := 0 }
def F.STOP.ACK_STALE_CNT : Fld := { cls := .stop, off := 0x3BC, lo := 0, width := 32, acc := .rc, st := false, rst := 0 }
def F.STOP.SEQ_RANGE_CNT : Fld := { cls := .stop, off := 0x3C0, lo := 0, width := 32, acc := .rc, st := false, rst := 0 }
def F.STOP.NEAR_MISS_CNT : Fld := { cls := .stop, off := 0x3C4, lo := 0, width := 32, acc := .rc, st := false, rst := 0 }
def F.STOP.LATE_CPL_CNT : Fld := { cls := .stop, off := 0x3C8, lo := 0, width := 32, acc := .rc, st := false, rst := 0 }
def F.STOP.UNEXP_CPL_CNT : Fld := { cls := .stop, off := 0x3CC, lo := 0, width := 32, acc := .rc, st := false, rst := 0 }
def F.STOP.STALE_CPL_CNT : Fld := { cls := .stop, off := 0x3D0, lo := 0, width := 32, acc := .rc, st := false, rst := 0 }
def F.STOP.SYNTH_CPL_CNT : Fld := { cls := .stop, off := 0x3D4, lo := 0, width := 32, acc := .rc, st := false, rst := 0 }
def F.STOP.RET_FULL_CNT : Fld := { cls := .stop, off := 0x3D8, lo := 0, width := 32, acc := .rc, st := false, rst := 0 }
def F.STOP.POST_REJ_CNT : Fld := { cls := .stop, off := 0x3DC, lo := 0, width := 32, acc := .rc, st := false, rst := 0 }

/-! Table 7-4 -/

def F.STOP.ARB_CFG.NTH : Fld := { cls := .stop, off := 0x400, lo := 0, width := 7, acc := .rw, st := false, rst := 16 }
def F.STOP.ARB_CFG.BURST_MAX : Fld := { cls := .stop, off := 0x400, lo := 8, width := 5, acc := .rw, st := false, rst := 16 }

/-! Table 7-5 -/

def F.ARB.CLS_WT.LAT_WT : Fld := { cls := .arb, off := 0x100, lo := 0, width := 8, acc := .we, st := false, rst := 128 }
def F.ARB.CLS_WT.BLK_WT : Fld := { cls := .arb, off := 0x100, lo := 8, width := 8, acc := .we, st := false, rst := 64 }
def F.ARB.CLS_WT.CTL_LIM : Fld := { cls := .arb, off := 0x100, lo := 16, width := 7, acc := .we, st := false, rst := 16 }
def F.ARB.SW_IDX : Fld := { cls := .arb, off := 0x104, lo := 0, width := 12, acc := .rw, st := false, rst := 0 }
def F.ARB.SW_DATA.SLICE_WT : Fld := { cls := .arb, off := 0x108, lo := 0, width := 8, acc := .we, st := false, rst := 16 }
def F.ARB.RQ_SEL.RQ_IDX : Fld := { cls := .arb, off := 0x110, lo := 0, width := 14, acc := .rw, st := false, rst := 0 }
def F.ARB.RQ_SEL.CLR : Fld := { cls := .arb, off := 0x110, lo := 31, width := 1, acc := .w1s, st := false, rst := 0 }
def F.ARB.RQ_STS.VALID : Fld := { cls := .arb, off := 0x114, lo := 0, width := 1, acc := .ro, st := false, rst := 0 }
def F.ARB.RQ_STS.OVF_GRANTS : Fld := { cls := .arb, off := 0x114, lo := 1, width := 1, acc := .ro, st := false, rst := 0 }
def F.ARB.RQ_STS.OVF_WAIT : Fld := { cls := .arb, off := 0x114, lo := 2, width := 1, acc := .ro, st := false, rst := 0 }
def F.ARB.RQ_STS.WAITING : Fld := { cls := .arb, off := 0x114, lo := 3, width := 1, acc := .ro, st := false, rst := 0 }
def F.ARB.RQ_GRANTS_LO.GRANTS_LO : Fld := { cls := .arb, off := 0x118, lo := 0, width := 32, acc := .ro, st := false, rst := 0 }
def F.ARB.RQ_GRANTS_HI.GRANTS_HI : Fld := { cls := .arb, off := 0x11C, lo := 0, width := 16, acc := .ro, st := false, rst := 0 }
def F.ARB.RQ_WAIT_LO.WAIT_LO : Fld := { cls := .arb, off := 0x120, lo := 0, width := 32, acc := .ro, st := false, rst := 0 }
def F.ARB.RQ_WAIT_HI.WAIT_HI : Fld := { cls := .arb, off := 0x124, lo := 0, width := 16, acc := .ro, st := false, rst := 0 }
def F.ARB.RQ_LONGEST.LONGEST : Fld := { cls := .arb, off := 0x128, lo := 0, width := 32, acc := .ro, st := false, rst := 0 }
def F.ARB.NTH_GNT_CNT : Fld := { cls := .arb, off := 0x130, lo := 0, width := 32, acc := .rc, st := false, rst := 0 }
def F.ARB.WITHDRAW_CNT : Fld := { cls := .arb, off := 0x134, lo := 0, width := 32, acc := .rc, st := false, rst := 0 }
def F.ARB.ACK_SLOT_CNT : Fld := { cls := .arb, off := 0x138, lo := 0, width := 32, acc := .rc, st := false, rst := 0 }
def F.ARB.YELLOW_GNT_CNT : Fld := { cls := .arb, off := 0x13C, lo := 0, width := 32, acc := .rc, st := false, rst := 0 }
def F.ARB.WAIT_MAX : Fld := { cls := .arb, off := 0x140, lo := 0, width := 32, acc := .rc, st := false, rst := 0 }
def F.ARB.WAIT_WHO : Fld := { cls := .arb, off := 0x144, lo := 0, width := 14, acc := .ro, st := false, rst := 0 }
def F.ARB.NTH_POS : Fld := { cls := .arb, off := 0x148, lo := 0, width := 7, acc := .ro, st := false, rst := 0 }

/-! Table 8-4 -/

def F.STOP.METER_SEL.IDX : Fld := { cls := .stop, off := 0x480, lo := 0, width := 11, acc := .rw, st := false, rst := 0 }
def F.STOP.METER_SEL.CLR : Fld := { cls := .stop, off := 0x480, lo := 31, width := 1, acc := .w1s, st := false, rst := 0 }
def F.STOP.METER_STS.VALID : Fld := { cls := .stop, off := 0x484, lo := 0, width := 1, acc := .ro, st := false, rst := 0 }
def F.STOP.METER_STS.OVF_G : Fld := { cls := .stop, off := 0x484, lo := 1, width := 1, acc := .ro, st := false, rst := 0 }
def F.STOP.METER_STS.OVF_Y : Fld := { cls := .stop, off := 0x484, lo := 2, width := 1, acc := .ro, st := false, rst := 0 }
def F.STOP.METER_STS.BOUND : Fld := { cls := .stop, off := 0x484, lo := 3, width := 1, acc := .ro, st := false, rst := 0 }
def F.STOP.METER_STS.OWNER : Fld := { cls := .stop, off := 0x484, lo := 16, width := 12, acc := .ro, st := false, rst := 0 }
def F.STOP.METER_CIR.CIR : Fld := { cls := .stop, off := 0x488, lo := 0, width := 17, acc := .we, st := false, rst := 131071 }
def F.STOP.METER_PIR.PIR : Fld := { cls := .stop, off := 0x48C, lo := 0, width := 17, acc := .we, st := false, rst := 131071 }
def F.STOP.METER_CBS.CBS : Fld := { cls := .stop, off := 0x490, lo := 0, width := 25, acc := .we, st := false, rst := 16777216 }
def F.STOP.METER_PBS.PBS : Fld := { cls := .stop, off := 0x494, lo := 0, width := 25, acc := .we, st := false, rst := 16777216 }
def F.STOP.METER_MODE.AWARE : Fld := { cls := .stop, off := 0x498, lo := 0, width := 1, acc := .we, st := false, rst := 0 }
def F.STOP.METER_MODE.TC_YEL : Fld := { cls := .stop, off := 0x498, lo := 8, width := 8, acc := .we, st := false, rst := 0 }
def F.STOP.METER_TOK_C.TC : Fld := { cls := .stop, off := 0x49C, lo := 0, width := 25, acc := .ro, st := false, rst := 0 }
def F.STOP.METER_TOK_P.TP : Fld := { cls := .stop, off := 0x4A0, lo := 0, width := 25, acc := .ro, st := false, rst := 0 }
def F.STOP.METER_GREEN_LO.GREEN_LO : Fld := { cls := .stop, off := 0x4A4, lo := 0, width := 32, acc := .ro, st := false, rst := 0 }
def F.STOP.METER_GREEN_HI.GREEN_HI : Fld := { cls := .stop, off := 0x4A8, lo := 0, width := 16, acc := .ro, st := false, rst := 0 }
def F.STOP.METER_YELLOW_LO.YELLOW_LO : Fld := { cls := .stop, off := 0x4AC, lo := 0, width := 32, acc := .ro, st := false, rst := 0 }
def F.STOP.METER_YELLOW_HI.YELLOW_HI : Fld := { cls := .stop, off := 0x4B0, lo := 0, width := 16, acc := .ro, st := false, rst := 0 }
def F.STOP.METER_RED.RED_CNT : Fld := { cls := .stop, off := 0x4B4, lo := 0, width := 32, acc := .ro, st := false, rst := 0 }
def F.STOP.BIND_SEL.RQ_IDX : Fld := { cls := .stop, off := 0x4B8, lo := 0, width := 14, acc := .rw, st := false, rst := 0 }
def F.STOP.BIND_DATA.METER : Fld := { cls := .stop, off := 0x4BC, lo := 0, width := 11, acc := .rw, st := false, rst := 0 }
def F.STOP.BIND_DATA.BOUND : Fld := { cls := .stop, off := 0x4BC, lo := 15, width := 1, acc := .rw, st := false, rst := 0 }
def F.STOP.RED_HOLD_CNT : Fld := { cls := .stop, off := 0x4C0, lo := 0, width := 32, acc := .rc, st := false, rst := 0 }

/-! Table 8-5 -/

def F.GATE.GATE_CFG.GUARD : Fld := { cls := .gate, off := 0x100, lo := 0, width := 8, acc := .rw, st := false, rst := 48 }
def F.GATE.GATE_CFG.TICK_CYC : Fld := { cls := .gate, off := 0x100, lo := 16, width := 11, acc := .rw, st := false, rst := 1000 }
def F.GATE.LIST_SEL.LIST : Fld := { cls := .gate, off := 0x104, lo := 0, width := 3, acc := .rw, st := false, rst := 0 }
def F.GATE.LIST_CTL.LEN : Fld := { cls := .gate, off := 0x108, lo := 0, width := 9, acc := .we, st := false, rst := 1 }
def F.GATE.LIST_CTL.IMMEDIATE : Fld := { cls := .gate, off := 0x108, lo := 15, width := 1, acc := .we, st := false, rst := 0 }
def F.GATE.LIST_CTL.EN : Fld := { cls := .gate, off := 0x108, lo := 16, width := 1, acc := .we, st := false, rst := 0 }
def F.GATE.LIST_START_LO.START_LO : Fld := { cls := .gate, off := 0x10C, lo := 0, width := 32, acc := .we, st := false, rst := 0 }
def F.GATE.LIST_START_HI.START_HI : Fld := { cls := .gate, off := 0x110, lo := 0, width := 16, acc := .we, st := false, rst := 0 }
def F.GATE.ENT_SEL.ENTRY : Fld := { cls := .gate, off := 0x114, lo := 0, width := 8, acc := .rw, st := false, rst := 0 }
def F.GATE.ENT_DATA.DUR : Fld := { cls := .gate, off := 0x118, lo := 0, width := 16, acc := .we, st := false, rst := 1 }
def F.GATE.ENT_DATA.OPEN : Fld := { cls := .gate, off := 0x118, lo := 16, width := 4, acc := .we, st := false, rst := 15 }
def F.GATE.LIST_STS.READY : Fld := { cls := .gate, off := 0x11C, lo := 0, width := 1, acc := .ro, st := false, rst := 1 }
def F.GATE.LIST_STS.PEND : Fld := { cls := .gate, off := 0x11C, lo := 1, width := 1, acc := .ro, st := false, rst := 0 }
def F.GATE.LIST_STS.BANK : Fld := { cls := .gate, off := 0x11C, lo := 2, width := 1, acc := .ro, st := false, rst := 0 }
def F.GATE.LIST_STS.POS : Fld := { cls := .gate, off := 0x11C, lo := 8, width := 8, acc := .ro, st := false, rst := 0 }
def F.GATE.LIST_STS.SWAP_CNT : Fld := { cls := .gate, off := 0x11C, lo := 16, width := 16, acc := .ro, st := false, rst := 0 }
def F.GATE.LIST_CYC.CYC : Fld := { cls := .gate, off := 0x120, lo := 0, width := 24, acc := .ro, st := false, rst := 1 }
def F.GATE.PORT_MAP.BIND : Fld := { cls := .gate, off := 0x140, lo := 0, width := 4, acc := .we, st := false, rst := 0, n := 30, step := 4, m := 8, fstep := 4 }
def F.GATE.OVR_CNT : Fld := { cls := .gate, off := 0x1C0, lo := 0, width := 32, acc := .rc, st := false, rst := 0 }
def F.GATE.OVR_MAX : Fld := { cls := .gate, off := 0x1C4, lo := 0, width := 16, acc := .rc, st := false, rst := 0 }
def F.GATE.NOFIT_CNT : Fld := { cls := .gate, off := 0x1C8, lo := 0, width := 32, acc := .rc, st := false, rst := 0 }

/-! Table 9-10 -/

def F.STOP.PORT_CFG.BIF : Fld := { cls := .stop, off := 0x500, lo := 0, width := 2, acc := .rw, st := false, rst := 0 }
def F.STOP.PORT_CFG.QCAP : Fld := { cls := .stop, off := 0x500, lo := 8, width := 8, acc := .rw, st := false, rst := 64 }
def F.STOP.PORT_MODE.MODE : Fld := { cls := .stop, off := 0x504, lo := 0, width := 2, acc := .rw, st := false, rst := 0 }
def F.STOP.PORT_MODE.MODE_NOW : Fld := { cls := .stop, off := 0x504, lo := 4, width := 2, acc := .ro, st := false, rst := 0 }
def F.STOP.LCI_FC.XOFF_FREE : Fld := { cls := .stop, off := 0x508, lo := 0, width := 8, acc := .rw, st := false, rst := 64 }
def F.STOP.LCI_FC.XON_FREE : Fld := { cls := .stop, off := 0x508, lo := 8, width := 8, acc := .rw, st := false, rst := 96 }
def F.STOP.SPILL_CFG.P_AGE : Fld := { cls := .stop, off := 0x50C, lo := 0, width := 8, acc := .rw, st := false, rst := 8 }
def F.STOP.LOCK_CFG.LOCK_MAX : Fld := { cls := .stop, off := 0x510, lo := 0, width := 24, acc := .rw, st := false, rst := 2000000 }
def F.STOP.LINK_CFG.ATOM_EMU : Fld := { cls := .stop, off := 0x520, lo := 0, width := 1, acc := .rw, st := false, rst := 0, n := 4, step := 4, m := 1, fstep := 0 }
def F.STOP.LINK_CFG.WATCH : Fld := { cls := .stop, off := 0x520, lo := 16, width := 16, acc := .rw, st := false, rst := 2000, n := 4, step := 4, m := 1, fstep := 0 }
def F.STOP.LINK_STS.STATE : Fld := { cls := .stop, off := 0x530, lo := 0, width := 2, acc := .ro, st := false, rst := 0, n := 4, step := 4, m := 1, fstep := 0 }
def F.STOP.LINK_STS.HOLDING : Fld := { cls := .stop, off := 0x530, lo := 2, width := 1, acc := .ro, st := false, rst := 0, n := 4, step := 4, m := 1, fstep := 0 }
def F.STOP.LINK_STS.LOCKED : Fld := { cls := .stop, off := 0x530, lo := 3, width := 1, acc := .ro, st := false, rst := 0, n := 4, step := 4, m := 1, fstep := 0 }
def F.STOP.LINK_STS.LAST_RET : Fld := { cls := .stop, off := 0x530, lo := 4, width := 2, acc := .ro, st := false, rst := 0, n := 4, step := 4, m := 1, fstep := 0 }
def F.STOP.LINK_STS.XOFF : Fld := { cls := .stop, off := 0x530, lo := 6, width := 3, acc := .ro, st := false, rst := 0, n := 4, step := 4, m := 1, fstep := 0 }
def F.STOP.LINK_STS.NN : Fld := { cls := .stop, off := 0x530, lo := 16, width := 8, acc := .ro, st := false, rst := 0, n := 4, step := 4, m := 1, fstep := 0 }
def F.STOP.LINK_ID.CPL_ID : Fld := { cls := .stop, off := 0x540, lo := 0, width := 16, acc := .rw, st := false, rst := 0, n := 4, step := 4, m := 1, fstep := 0 }
def F.STOP.SPILL_Q.HOLD_Q : Fld := { cls := .stop, off := 0x550, lo := 0, width := 14, acc := .rw, st := false, rst := 96, n := 4, step := 4, m := 1, fstep := 0 }
def F.STOP.SPILL_Q.FLUSH_Q : Fld := { cls := .stop, off := 0x550, lo := 16, width := 14, acc := .rw, st := false, rst := 32, n := 4, step := 4, m := 1, fstep := 0 }
def F.STOP.SPILL_USE.HOLD_USED : Fld := { cls := .stop, off := 0x560, lo := 0, width := 14, acc := .ro, st := false, rst := 0, n := 4, step := 4, m := 1, fstep := 0 }
def F.STOP.SPILL_USE.FLUSH_USED : Fld := { cls := .stop, off := 0x560, lo := 16, width := 14, acc := .ro, st := false, rst := 0, n := 4, step := 4, m := 1, fstep := 0 }
def F.STOP.SPARE_CTL.CLAIM : Fld := { cls := .stop, off := 0x570, lo := 0, width := 2, acc := .rw, st := false, rst := 0 }
def F.STOP.SPARE_CTL.SOCKET : Fld := { cls := .stop, off := 0x570, lo := 2, width := 2, acc := .rw, st := false, rst := 0 }
def F.STOP.SPARE_CTL.FORCED : Fld := { cls := .stop, off := 0x570, lo := 4, width := 1, acc := .rw, st := false, rst := 0 }
def F.STOP.SPARE_CTL.GO : Fld := { cls := .stop, off := 0x570, lo := 5, width := 1, acc := .w1s, st := false, rst := 0 }
def F.STOP.SPARE_CTL.CLAIM_RES : Fld := { cls := .stop, off := 0x570, lo := 6, width := 2, acc := .ro, st := false, rst := 0 }
def F.STOP.SPARE_CTL.PHASE : Fld := { cls := .stop, off := 0x570, lo := 8, width := 3, acc := .ro, st := false, rst := 0 }
def F.STOP.SOCKET_STS.SERVED_BY_SPARE : Fld := { cls := .stop, off := 0x574, lo := 0, width := 1, acc := .ro, st := false, rst := 0 }
def F.STOP.ING_REJ_CNT : Fld := { cls := .stop, off := 0x580, lo := 0, width := 32, acc := .rc, st := false, rst := 0 }
def F.STOP.LCI_OVR_CNT : Fld := { cls := .stop, off := 0x584, lo := 0, width := 32, acc := .rc, st := false, rst := 0 }
def F.STOP.LCI_PROTO_CNT : Fld := { cls := .stop, off := 0x588, lo := 0, width := 32, acc := .rc, st := false, rst := 0 }
def F.STOP.LINK_DOWN_CNT : Fld := { cls := .stop, off := 0x58C, lo := 0, width := 32, acc := .rc, st := false, rst := 0 }
def F.STOP.PAUSE_CNT : Fld := { cls := .stop, off := 0x590, lo := 0, width := 32, acc := .rc, st := false, rst := 0 }
def F.STOP.WATCH_CNT : Fld := { cls := .stop, off := 0x594, lo := 0, width := 32, acc := .rc, st := false, rst := 0 }
def F.STOP.SPILL_FLIT_CNT : Fld := { cls := .stop, off := 0x598, lo := 0, width := 32, acc := .rc, st := false, rst := 0 }
def F.STOP.SPILL_FULL_CNT : Fld := { cls := .stop, off := 0x59C, lo := 0, width := 32, acc := .rc, st := false, rst := 0 }
def F.STOP.DROP_CNT : Fld := { cls := .stop, off := 0x5A0, lo := 0, width := 32, acc := .rc, st := false, rst := 0 }
def F.STOP.LOCK_TO_CNT : Fld := { cls := .stop, off := 0x5A4, lo := 0, width := 32, acc := .rc, st := false, rst := 0 }
def F.STOP.LOCK_DEFER_CNT : Fld := { cls := .stop, off := 0x5A8, lo := 0, width := 32, acc := .rc, st := false, rst := 0 }
def F.STOP.ATOM_EMU_CNT : Fld := { cls := .stop, off := 0x5AC, lo := 0, width := 32, acc := .rc, st := false, rst := 0 }

/-! Table 10-8 -/

def F.STOP.XC_POLICY.PIN_WAYS : Fld := { cls := .stop, off := 0x600, lo := 0, width := 3, acc := .we, st := false, rst := 1 }
def F.STOP.XC_POLICY.REPL : Fld := { cls := .stop, off := 0x600, lo := 3, width := 1, acc := .we, st := false, rst := 0 }
def F.STOP.XC_HIT_CNT : Fld := { cls := .stop, off := 0x604, lo := 0, width := 32, acc := .rc, st := false, rst := 0 }
def F.STOP.XC_MISS_CNT : Fld := { cls := .stop, off := 0x608, lo := 0, width := 32, acc := .rc, st := false, rst := 0 }
def F.STOP.XC_STALE_CNT : Fld := { cls := .stop, off := 0x60C, lo := 0, width := 32, acc := .rc, st := false, rst := 0 }
def F.STOP.XC_FILL_STS.OUT : Fld := { cls := .stop, off := 0x610, lo := 0, width := 7, acc := .ro, st := false, rst := 0 }
def F.STOP.LINK_DOM.DOM : Fld := { cls := .stop, off := 0x620, lo := 0, width := 8, acc := .rw, st := false, rst := 0, n := 4, step := 4, m := 1, fstep := 0 }
def F.STOP.LINK_DOM.KIND : Fld := { cls := .stop, off := 0x620, lo := 8, width := 1, acc := .rw, st := false, rst := 0, n := 4, step := 4, m := 1, fstep := 0 }
def F.STOP.WIN_SEL.IDX : Fld := { cls := .stop, off := 0x640, lo := 0, width := 8, acc := .rw, st := false, rst := 0 }
def F.STOP.WIN_BASE_LO.BASE_LO : Fld := { cls := .stop, off := 0x644, lo := 12, width := 20, acc := .we, st := false, rst := 0 }
def F.STOP.WIN_BASE_HI.BASE_HI : Fld := { cls := .stop, off := 0x648, lo := 0, width := 32, acc := .we, st := false, rst := 0 }
def F.STOP.WIN_XBASE_LO.XBASE_LO : Fld := { cls := .stop, off := 0x64C, lo := 12, width := 20, acc := .we, st := false, rst := 0 }
def F.STOP.WIN_XBASE_HI.XBASE_HI : Fld := { cls := .stop, off := 0x650, lo := 0, width := 32, acc := .we, st := false, rst := 0 }
def F.STOP.WIN_CTL.V : Fld := { cls := .stop, off := 0x654, lo := 0, width := 1, acc := .we, st := false, rst := 0 }
def F.STOP.WIN_CTL.LINK : Fld := { cls := .stop, off := 0x654, lo := 1, width := 2, acc := .we, st := false, rst := 0 }
def F.STOP.WIN_CTL.SIZE : Fld := { cls := .stop, off := 0x654, lo := 3, width := 6, acc := .we, st := false, rst := 12 }
def F.STOP.WIN_CTL.FN : Fld := { cls := .stop, off := 0x654, lo := 16, width := 16, acc := .we, st := false, rst := 0 }
def F.STOP.WIN_MISS_CNT : Fld := { cls := .stop, off := 0x658, lo := 0, width := 32, acc := .rc, st := false, rst := 0 }

/-! Table 10-9 -/

def F.MEM.CH_CTL.CMD : Fld := { cls := .mem, off := 0x100, lo := 0, width := 2, acc := .rw, st := false, rst := 0 }
def F.MEM.CH_CTL.RATE : Fld := { cls := .mem, off := 0x100, lo := 8, width := 5, acc := .rw, st := false, rst := 1 }
def F.MEM.CH_STS.STATE : Fld := { cls := .mem, off := 0x104, lo := 0, width := 2, acc := .ro, st := false, rst := 0 }
def F.MEM.CH_STS.CTRL_READY : Fld := { cls := .mem, off := 0x104, lo := 2, width := 1, acc := .ro, st := false, rst := 0 }
def F.MEM.CH_STS.CMD_RES : Fld := { cls := .mem, off := 0x104, lo := 3, width := 2, acc := .ro, st := false, rst := 0 }
def F.MEM.REBUILD_PTR.PTR : Fld := { cls := .mem, off := 0x108, lo := 0, width := 23, acc := .ro, st := false, rst := 0 }
def F.MEM.UE_WIN : Fld := { cls := .mem, off := 0x10C, lo := 0, width := 16, acc := .rw, st := false, rst := 2000 }
def F.MEM.UE_LIM : Fld := { cls := .mem, off := 0x110, lo := 0, width := 16, acc := .rw, st := false, rst := 64 }
def F.MEM.MAP_SPILL.ROWS : Fld := { cls := .mem, off := 0x114, lo := 0, width := 20, acc := .rw, st := false, rst := 599192 }
def F.MEM.POOL_UNITS : Fld := { cls := .mem, off := 0x118, lo := 0, width := 17, acc := .ro, st := false, rst := 105455 }
def F.MEM.FILL_POLICY.COPY_SEL : Fld := { cls := .mem, off := 0x11C, lo := 0, width := 2, acc := .we, st := false, rst := 0 }
def F.MEM.FILL_POLICY.FILL_TO : Fld := { cls := .mem, off := 0x11C, lo := 8, width := 8, acc := .we, st := false, rst := 16 }
def F.MEM.XLT_KEY.KEY : Fld := { cls := .mem, off := 0x180, lo := 0, width := 24, acc := .rw, st := false, rst := 0 }
def F.MEM.XLT_DATA.DATA : Fld := { cls := .mem, off := 0x184, lo := 0, width := 32, acc := .rw, st := false, rst := 0, n := 4, step := 4, m := 1, fstep := 0 }
def F.MEM.XLT_CMD.GO : Fld := { cls := .mem, off := 0x194, lo := 0, width := 1, acc := .w1s, st := false, rst := 0 }
def F.MEM.XLT_STS.BUSY : Fld := { cls := .mem, off := 0x198, lo := 0, width := 1, acc := .ro, st := false, rst := 0 }
def F.MEM.XLT_STS.DONE : Fld := { cls := .mem, off := 0x198, lo := 1, width := 1, acc := .ro, st := false, rst := 0 }
def F.MEM.XLT_STS.RES : Fld := { cls := .mem, off := 0x198, lo := 2, width := 2, acc := .ro, st := false, rst := 0 }
def F.MEM.XLT_STS.ACKS : Fld := { cls := .mem, off := 0x198, lo := 4, width := 4, acc := .ro, st := false, rst := 0 }
def F.MEM.DR_ADDR_LO.ADDR_LO : Fld := { cls := .mem, off := 0x1A0, lo := 0, width := 32, acc := .rw, st := false, rst := 0 }
def F.MEM.DR_ADDR_HI.ADDR_HI : Fld := { cls := .mem, off := 0x1A4, lo := 0, width := 3, acc := .rw, st := false, rst := 0 }
def F.MEM.DR_CTL.GO : Fld := { cls := .mem, off := 0x1A8, lo := 0, width := 1, acc := .w1s, st := false, rst := 0 }
def F.MEM.DR_STS.VALID : Fld := { cls := .mem, off := 0x1AC, lo := 0, width := 1, acc := .ro, st := false, rst := 0 }
def F.MEM.DR_STS.STATUS : Fld := { cls := .mem, off := 0x1AC, lo := 1, width := 2, acc := .ro, st := false, rst := 0 }
def F.MEM.DR_DATA.DATA : Fld := { cls := .mem, off := 0x1B0, lo := 0, width := 32, acc := .ro, st := false, rst := 0, n := 16, step := 4, m := 1, fstep := 0 }
def F.MEM.RECON_CNT : Fld := { cls := .mem, off := 0x1F0, lo := 0, width := 32, acc := .rc, st := false, rst := 0 }
def F.MEM.POIS_CNT : Fld := { cls := .mem, off := 0x1F4, lo := 0, width := 32, acc := .rc, st := false, rst := 0 }
def F.MEM.ROW_WAIT_CNT : Fld := { cls := .mem, off := 0x1F8, lo := 0, width := 32, acc := .rc, st := false, rst := 0 }
def F.MEM.FILL_RETRY_CNT : Fld := { cls := .mem, off := 0x1FC, lo := 0, width := 32, acc := .rc, st := false, rst := 0 }

/-! Table 11-12 -/

def F.ENG.ENG_CTL.CMD : Fld := { cls := .eng, off := 0x100, lo := 0, width := 3, acc := .rw, st := false, rst := 0 }
def F.ENG.ENG_CTL.DEST : Fld := { cls := .eng, off := 0x100, lo := 8, width := 8, acc := .rw, st := false, rst := 0 }
def F.ENG.ENG_STS.STATE : Fld := { cls := .eng, off := 0x104, lo := 0, width := 2, acc := .ro, st := false, rst := 0 }
def F.ENG.ENG_STS.CMD_RES : Fld := { cls := .eng, off := 0x104, lo := 2, width := 2, acc := .ro, st := false, rst := 0 }
def F.ENG.ENG_STS.RESIDENT : Fld := { cls := .eng, off := 0x104, lo := 8, width := 15, acc := .ro, st := false, rst := 8192 }
def F.ENG.ENG_STS.EXEC : Fld := { cls := .eng, off := 0x104, lo := 23, width := 7, acc := .ro, st := false, rst := 0 }
def F.ENG.BW_CAP : Fld := { cls := .eng, off := 0x108, lo := 0, width := 8, acc := .rw, st := false, rst := 200 }
def F.ENG.CHUNK : Fld := { cls := .eng, off := 0x10C, lo := 0, width := 13, acc := .rw, st := false, rst := 4096 }
def F.ENG.CTO : Fld := { cls := .eng, off := 0x110, lo := 0, width := 24, acc := .rw, st := false, rst := 100000 }
def F.ENG.QSEL.QIDX : Fld := { cls := .eng, off := 0x114, lo := 0, width := 16, acc := .rw, st := false, rst := 0 }
def F.ENG.QC_CMD.OP : Fld := { cls := .eng, off := 0x118, lo := 0, width := 3, acc := .rw, st := false, rst := 0 }
def F.ENG.QC_CMD.QC_RES : Fld := { cls := .eng, off := 0x118, lo := 4, width := 2, acc := .ro, st := false, rst := 0 }
def F.ENG.QC_DATA.DATA : Fld := { cls := .eng, off := 0x140, lo := 0, width := 32, acc := .rw, st := false, rst := 0, n := 16, step := 4, m := 1, fstep := 0 }
def F.ENG.SW_IDX : Fld := { cls := .eng, off := 0x180, lo := 0, width := 12, acc := .rw, st := false, rst := 0 }
def F.ENG.SW_DATA.WEIGHT : Fld := { cls := .eng, off := 0x184, lo := 0, width := 8, acc := .rw, st := false, rst := 16 }
def F.ENG.SMP_CFG.CTR : Fld := { cls := .eng, off := 0x190, lo := 0, width := 3, acc := .rw, st := false, rst := 0 }
def F.ENG.SMP_CFG.EN : Fld := { cls := .eng, off := 0x190, lo := 3, width := 1, acc := .rw, st := false, rst := 0 }
def F.ENG.SMP_STS.VALID : Fld := { cls := .eng, off := 0x194, lo := 0, width := 1, acc := .w1c, st := false, rst := 0 }
def F.ENG.SMP_STS.SKID : Fld := { cls := .eng, off := 0x194, lo := 1, width := 3, acc := .ro, st := false, rst := 0 }
def F.ENG.SMP_STS.CTR : Fld := { cls := .eng, off := 0x194, lo := 4, width := 3, acc := .ro, st := false, rst := 0 }
def F.ENG.SMP_REC.QUEUE : Fld := { cls := .eng, off := 0x198, lo := 0, width := 16, acc := .ro, st := false, rst := 0 }
def F.ENG.SMP_REC.INDEX : Fld := { cls := .eng, off := 0x198, lo := 16, width := 16, acc := .ro, st := false, rst := 0 }
def F.ENG.SMP_TICK_LO.TICK_LO : Fld := { cls := .eng, off := 0x19C, lo := 0, width := 32, acc := .ro, st := false, rst := 0 }
def F.ENG.SMP_TICK_HI.TICK_HI : Fld := { cls := .eng, off := 0x1A0, lo := 0, width := 16, acc := .ro, st := false, rst := 0 }
def F.ENG.SMP_LOST_CNT : Fld := { cls := .eng, off := 0x1A4, lo := 0, width := 32, acc := .rc, st := false, rst := 0 }
def F.ENG.DESC_DONE_CNT : Fld := { cls := .eng, off := 0x1B0, lo := 0, width := 32, acc := .rc, st := false, rst := 0 }
def F.ENG.DESC_ERR_CNT : Fld := { cls := .eng, off := 0x1B4, lo := 0, width := 32, acc := .rc, st := false, rst := 0 }
def F.ENG.BAD_DESC_CNT : Fld := { cls := .eng, off := 0x1B8, lo := 0, width := 32, acc := .rc, st := false, rst := 0 }
def F.ENG.DB_OLD_CNT : Fld := { cls := .eng, off := 0x1BC, lo := 0, width := 32, acc := .rc, st := false, rst := 0 }
def F.ENG.DB_STALE_CNT : Fld := { cls := .eng, off := 0x1C0, lo := 0, width := 32, acc := .rc, st := false, rst := 0 }
def F.ENG.DB_STRAY_CNT : Fld := { cls := .eng, off := 0x1C4, lo := 0, width := 32, acc := .rc, st := false, rst := 0 }
def F.ENG.DESC_REJ_CNT : Fld := { cls := .eng, off := 0x1C8, lo := 0, width := 32, acc := .rc, st := false, rst := 0 }

/-! Table 11-13 -/

def F.REPL.GRP_SEL.GROUP : Fld := { cls := .repl, off := 0x100, lo := 0, width := 6, acc := .rw, st := false, rst := 0 }
def F.REPL.GRP_CTL.V : Fld := { cls := .repl, off := 0x104, lo := 0, width := 1, acc := .rw, st := false, rst := 0 }
def F.REPL.GRP_CTL.RID : Fld := { cls := .repl, off := 0x104, lo := 16, width := 16, acc := .rw, st := false, rst := 0 }
def F.REPL.GRP_MAP.MEMBERS : Fld := { cls := .repl, off := 0x108, lo := 0, width := 32, acc := .rw, st := false, rst := 0, n := 4, step := 4, m := 1, fstep := 0 }
def F.REPL.BC_SEL.DOM : Fld := { cls := .repl, off := 0x120, lo := 0, width := 8, acc := .rw, st := false, rst := 0 }
def F.REPL.BC_MAP.MEMBERS : Fld := { cls := .repl, off := 0x124, lo := 0, width := 32, acc := .rw, st := false, rst := 0, n := 4, step := 4, m := 1, fstep := 0 }
def F.REPL.FAN_STS.PENDING : Fld := { cls := .repl, off := 0x140, lo := 0, width := 9, acc := .ro, st := false, rst := 0 }
def F.REPL.COPY_CNT : Fld := { cls := .repl, off := 0x144, lo := 0, width := 32, acc := .rc, st := false, rst := 0 }
def F.REPL.SKIP_CNT : Fld := { cls := .repl, off := 0x148, lo := 0, width := 32, acc := .rc, st := false, rst := 0 }
def F.GLB.QMAP_SEL.QUEUE : Fld := { cls := .glb, off := 0x180, lo := 0, width := 16, acc := .rw, st := false, rst := 0 }
def F.GLB.QMAP_DATA.ENGINE : Fld := { cls := .glb, off := 0x184, lo := 0, width := 3, acc := .rw, st := false, rst := 0 }

/-! Table 12-9 -/

def F.SLICE.T_STS.STATE : Fld := { cls := .slice, off := 0x100, lo := 0, width := 3, acc := .ro, st := false, rst := 0 }
def F.SLICE.T_STS.SGEN : Fld := { cls := .slice, off := 0x100, lo := 8, width := 4, acc := .ro, st := false, rst := 0 }
def F.SLICE.T_STS.CNT_VIS : Fld := { cls := .slice, off := 0x100, lo := 12, width := 1, acc := .ro, st := false, rst := 0 }
def F.SLICE.DOORBELL.TAIL : Fld := { cls := .slice, off := 0x104, lo := 0, width := 16, acc := .rw, st := false, rst := 0 }
def F.SLICE.DOORBELL.QOFF : Fld := { cls := .slice, off := 0x104, lo := 16, width := 8, acc := .rw, st := false, rst := 0 }
def F.SLICE.QINFO.QBASE : Fld := { cls := .slice, off := 0x108, lo := 0, width := 16, acc := .ro, st := false, rst := 0 }
def F.SLICE.QINFO.QCNT : Fld := { cls := .slice, off := 0x108, lo := 16, width := 9, acc := .ro, st := false, rst := 0 }
def F.SLICE.EVT_PEND.PEND : Fld := { cls := .slice, off := 0x110, lo := 0, width := 32, acc := .w1c, st := false, rst := 0, n := 8, step := 4, m := 1, fstep := 0 }
def F.SLICE.EVT_CFG.EN : Fld := { cls := .slice, off := 0x130, lo := 0, width := 1, acc := .rw, st := false, rst := 0 }
def F.SLICE.EVT_CFG.ARMED : Fld := { cls := .slice, off := 0x130, lo := 1, width := 1, acc := .w1s, st := false, rst := 0 }
def F.SLICE.MTR_SEL.METER : Fld := { cls := .slice, off := 0x140, lo := 0, width := 14, acc := .rw, st := false, rst := 0 }
def F.SLICE.MTR_STS.VALID : Fld := { cls := .slice, off := 0x144, lo := 0, width := 1, acc := .ro, st := false, rst := 0 }
def F.SLICE.MTR_STS.RED : Fld := { cls := .slice, off := 0x144, lo := 1, width := 1, acc := .ro, st := false, rst := 0 }
def F.SLICE.MTR_STS.GATE_WAIT : Fld := { cls := .slice, off := 0x144, lo := 2, width := 1, acc := .ro, st := false, rst := 0 }
def F.SLICE.MTR_STS.OWN : Fld := { cls := .slice, off := 0x144, lo := 3, width := 1, acc := .ro, st := false, rst := 0 }
def F.SLICE.MTR_TC.TC : Fld := { cls := .slice, off := 0x148, lo := 0, width := 25, acc := .ro, st := false, rst := 0 }
def F.SLICE.MTR_TP.TP : Fld := { cls := .slice, off := 0x14C, lo := 0, width := 25, acc := .ro, st := false, rst := 0 }
def F.SLICE.CMD.OP : Fld := { cls := .slice, off := 0x800, lo := 0, width := 4, acc := .rw, st := false, rst := 0 }
def F.SLICE.MSTS.STATE : Fld := { cls := .slice, off := 0x804, lo := 0, width := 3, acc := .ro, st := false, rst := 0 }
def F.SLICE.MSTS.BUSY : Fld := { cls := .slice, off := 0x804, lo := 3, width := 1, acc := .ro, st := false, rst := 0 }
def F.SLICE.MSTS.RES : Fld := { cls := .slice, off := 0x804, lo := 4, width := 4, acc := .ro, st := false, rst := 0 }
def F.SLICE.MSTS.SGEN : Fld := { cls := .slice, off := 0x804, lo := 8, width := 4, acc := .ro, st := false, rst := 0 }
def F.SLICE.MSTS.TRACKER : Fld := { cls := .slice, off := 0x804, lo := 16, width := 5, acc := .ro, st := false, rst := 0 }
def F.SLICE.MSTS.TRACKED : Fld := { cls := .slice, off := 0x804, lo := 21, width := 1, acc := .ro, st := false, rst := 0 }
def F.SLICE.CTL.CNT_VIS : Fld := { cls := .slice, off := 0x808, lo := 0, width := 1, acc := .rw, st := false, rst := 0 }
def F.SLICE.CTL.FLUSH_AGE : Fld := { cls := .slice, off := 0x808, lo := 8, width := 8, acc := .rw, st := false, rst := 16 }
def F.SLICE.ACC_DOM.DOM : Fld := { cls := .slice, off := 0x810, lo := 0, width := 8, acc := .rw, st := false, rst := 0 }
def F.SLICE.ACC_Q.QBASE : Fld := { cls := .slice, off := 0x814, lo := 0, width := 16, acc := .rw, st := false, rst := 0 }
def F.SLICE.ACC_Q.QCNT : Fld := { cls := .slice, off := 0x814, lo := 16, width := 9, acc := .rw, st := false, rst := 0 }
def F.SLICE.ACC_M.MBASE : Fld := { cls := .slice, off := 0x818, lo := 0, width := 14, acc := .rw, st := false, rst := 0 }
def F.SLICE.ACC_M.MCNT : Fld := { cls := .slice, off := 0x818, lo := 16, width := 7, acc := .rw, st := false, rst := 0 }
def F.SLICE.ACC_C.CBASE : Fld := { cls := .slice, off := 0x81C, lo := 0, width := 12, acc := .rw, st := false, rst := 0 }
def F.SLICE.ACC_C.CCNT : Fld := { cls := .slice, off := 0x81C, lo := 16, width := 3, acc := .rw, st := false, rst := 0 }
def F.SLICE.ACC_UFIRST.UNIT_FIRST : Fld := { cls := .slice, off := 0x820, lo := 0, width := 17, acc := .rw, st := false, rst := 0 }
def F.SLICE.ACC_UCNT.UNIT_CNT : Fld := { cls := .slice, off := 0x824, lo := 0, width := 17, acc := .rw, st := false, rst := 0 }
def F.SLICE.ACC_FLUSH.FLUSH_MIB : Fld := { cls := .slice, off := 0x828, lo := 0, width := 14, acc := .rw, st := false, rst := 0 }
def F.SLICE.ACC_EW.ENG_WT : Fld := { cls := .slice, off := 0x82C, lo := 0, width := 8, acc := .rw, st := false, rst := 16 }
def F.SLICE.DRY_STS.PENDING : Fld := { cls := .slice, off := 0x840, lo := 0, width := 7, acc := .ro, st := false, rst := 0 }
def F.SLICE.DRY_STS.FLUSH_FULL : Fld := { cls := .slice, off := 0x840, lo := 7, width := 1, acc := .ro, st := false, rst := 0 }
def F.SLICE.DRY_STS.HELD : Fld := { cls := .slice, off := 0x840, lo := 16, width := 16, acc := .ro, st := false, rst := 0 }
def F.SLICE.DRY_TICKS : Fld := { cls := .slice, off := 0x844, lo := 0, width := 32, acc := .ro, st := false, rst := 0 }
def F.SLICE.FLUSH_USE : Fld := { cls := .slice, off := 0x848, lo := 0, width := 14, acc := .ro, st := false, rst := 0 }
def F.SLICE.STALE_CNT : Fld := { cls := .slice, off := 0x84C, lo := 0, width := 32, acc := .rc, st := false, rst := 0 }

/-! Table 12-10 -/

def F.GLB.PB_DSEL.DOM : Fld := { cls := .glb, off := 0x1C0, lo := 0, width := 8, acc := .rw, st := false, rst := 0 }
def F.GLB.PB_DBASE.BASE : Fld := { cls := .glb, off := 0x1C4, lo := 0, width := 14, acc := .rw, st := false, rst := 0 }
def F.GLB.PB_DCNT.CNT : Fld := { cls := .glb, off := 0x1C8, lo := 0, width := 15, acc := .rw, st := false, rst := 0 }
def F.GLB.PB_KEY.PASID : Fld := { cls := .glb, off := 0x1D0, lo := 0, width := 20, acc := .rw, st := false, rst := 0 }
def F.GLB.PB_KEY.DOM : Fld := { cls := .glb, off := 0x1D0, lo := 20, width := 8, acc := .rw, st := false, rst := 0 }
def F.GLB.PB_DATA0.DATA0 : Fld := { cls := .glb, off := 0x1D4, lo := 0, width := 32, acc := .rw, st := false, rst := 0 }
def F.GLB.PB_DATA1.DATA1 : Fld := { cls := .glb, off := 0x1D8, lo := 0, width := 32, acc := .rw, st := false, rst := 0 }
def F.GLB.PB_CMD.GO : Fld := { cls := .glb, off := 0x1E0, lo := 0, width := 1, acc := .w1s, st := false, rst := 0 }
def F.GLB.PB_STS.BUSY : Fld := { cls := .glb, off := 0x1E4, lo := 0, width := 1, acc := .ro, st := false, rst := 0 }
def F.GLB.PB_STS.DONE : Fld := { cls := .glb, off := 0x1E4, lo := 1, width := 1, acc := .ro, st := false, rst := 0 }
def F.GLB.PB_STS.RES : Fld := { cls := .glb, off := 0x1E4, lo := 2, width := 2, acc := .ro, st := false, rst := 0 }
def F.GLB.PB_STS.ACKS : Fld := { cls := .glb, off := 0x1E4, lo := 4, width := 4, acc := .ro, st := false, rst := 0 }

/-! Table 13-6 -/

def F.GLB.FL_CMD.OP : Fld := { cls := .glb, off := 0x200, lo := 0, width := 3, acc := .rw, st := false, rst := 0 }
def F.GLB.FL_SLICE.SRC : Fld := { cls := .glb, off := 0x204, lo := 0, width := 12, acc := .rw, st := false, rst := 0 }
def F.GLB.FL_SLICE.TGT : Fld := { cls := .glb, off := 0x204, lo := 16, width := 12, acc := .rw, st := false, rst := 0 }
def F.GLB.FL_IDX.SLOT : Fld := { cls := .glb, off := 0x208, lo := 0, width := 12, acc := .rw, st := false, rst := 0 }
def F.GLB.FL_STS.BUSY : Fld := { cls := .glb, off := 0x20C, lo := 0, width := 1, acc := .ro, st := false, rst := 0 }
def F.GLB.FL_STS.DONE : Fld := { cls := .glb, off := 0x20C, lo := 1, width := 1, acc := .ro, st := false, rst := 0 }
def F.GLB.FL_STS.RES : Fld := { cls := .glb, off := 0x20C, lo := 2, width := 3, acc := .ro, st := false, rst := 0 }
def F.GLB.FL_UNIT.UNIT : Fld := { cls := .glb, off := 0x210, lo := 0, width := 17, acc := .ro, st := false, rst := 0 }
def F.GLB.FL_MAP_Q.QBASE : Fld := { cls := .glb, off := 0x214, lo := 0, width := 16, acc := .rw, st := false, rst := 0 }
def F.GLB.FL_MAP_M.MBASE : Fld := { cls := .glb, off := 0x218, lo := 0, width := 14, acc := .rw, st := false, rst := 0 }
def F.GLB.FL_MAP_M.CBASE : Fld := { cls := .glb, off := 0x218, lo := 16, width := 12, acc := .rw, st := false, rst := 0 }
def F.GLB.FL_MAP_U.UNIT_FIRST : Fld := { cls := .glb, off := 0x21C, lo := 0, width := 17, acc := .rw, st := false, rst := 0 }
def F.GLB.FL_MAP_DOM.DOM : Fld := { cls := .glb, off := 0x220, lo := 0, width := 8, acc := .rw, st := false, rst := 0 }
def F.GLB.FL_CPY_Q.QUEUE : Fld := { cls := .glb, off := 0x224, lo := 0, width := 16, acc := .rw, st := false, rst := 0 }
def F.GLB.FL_CPY_FN.SFN : Fld := { cls := .glb, off := 0x228, lo := 0, width := 16, acc := .rw, st := false, rst := 0 }
def F.GLB.FL_CPY_FN.DFN : Fld := { cls := .glb, off := 0x228, lo := 16, width := 16, acc := .rw, st := false, rst := 0 }
def F.GLB.FL_CPY_DADDR_LO.DADDR_LO : Fld := { cls := .glb, off := 0x22C, lo := 0, width := 32, acc := .rw, st := false, rst := 0 }
def F.GLB.FL_CPY_DADDR_HI.DADDR_HI : Fld := { cls := .glb, off := 0x230, lo := 0, width := 32, acc := .rw, st := false, rst := 0 }
def F.GLB.FL_OFF.OFF : Fld := { cls := .glb, off := 0x234, lo := 2, width := 14, acc := .rw, st := false, rst := 0 }
def F.GLB.FL_OFF.VALID : Fld := { cls := .glb, off := 0x234, lo := 31, width := 1, acc := .ro, st := false, rst := 0 }
def F.GLB.FL_DATA.DATA : Fld := { cls := .glb, off := 0x238, lo := 0, width := 32, acc := .rw, st := false, rst := 0 }

/-! Table 13-8 -/

def F.SLICE.FRZ_TICK_LO.FRZ_LO : Fld := { cls := .slice, off := 0x850, lo := 0, width := 32, acc := .ro, st := false, rst := 0 }
def F.SLICE.FRZ_TICK_HI.FRZ_HI : Fld := { cls := .slice, off := 0x854, lo := 0, width := 16, acc := .ro, st := false, rst := 0 }
def F.SLICE.FRZ_TICK_HI.LATCHED : Fld := { cls := .slice, off := 0x854, lo := 16, width := 1, acc := .ro, st := false, rst := 0 }

/-! Table 14-7 -/

def F.XB.XB_SEL.IDX : Fld := { cls := .xb, off := 0x100, lo := 0, width := 6, acc := .rw, st := false, rst := 0 }
def F.XB.XB_SEL.CLR : Fld := { cls := .xb, off := 0x100, lo := 31, width := 1, acc := .w1s, st := false, rst := 0 }
def F.XB.XB_STS.VALID : Fld := { cls := .xb, off := 0x104, lo := 0, width := 1, acc := .ro, st := false, rst := 0 }
def F.XB.XB_STS.PRESENT : Fld := { cls := .xb, off := 0x104, lo := 1, width := 1, acc := .ro, st := false, rst := 0 }
def F.XB.XB_STS.KIND : Fld := { cls := .xb, off := 0x104, lo := 2, width := 4, acc := .ro, st := false, rst := 0 }
def F.XB.XB_STS.READY_A : Fld := { cls := .xb, off := 0x104, lo := 6, width := 1, acc := .ro, st := false, rst := 0 }
def F.XB.XB_STS.READY_B : Fld := { cls := .xb, off := 0x104, lo := 7, width := 1, acc := .ro, st := false, rst := 0 }
def F.XB.XB_STS.OCC_MAX : Fld := { cls := .xb, off := 0x104, lo := 8, width := 7, acc := .ro, st := false, rst := 0 }
def F.XB.XB_STS.LAT_Q : Fld := { cls := .xb, off := 0x104, lo := 16, width := 16, acc := .ro, st := false, rst := 0 }
def F.XB.RESYNC_CNT : Fld := { cls := .xb, off := 0x108, lo := 0, width := 32, acc := .ro, st := false, rst := 0 }
def F.XB.DROP_CNT : Fld := { cls := .xb, off := 0x10C, lo := 0, width := 32, acc := .ro, st := false, rst := 0 }
def F.XB.OVF_CNT : Fld := { cls := .xb, off := 0x110, lo := 0, width := 32, acc := .ro, st := false, rst := 0 }
def F.XB.NRDY : Fld := { cls := .xb, off := 0x114, lo := 0, width := 6, acc := .ro, st := false, rst := 0 }

/-! Table 15-8 -/

def F.PWR.PS_CTL.TARGET : Fld := { cls := .pwr, off := 0x100, lo := 0, width := 2, acc := .rw, st := false, rst := 0 }
def F.PWR.PS_CTL.WAKE_TO : Fld := { cls := .pwr, off := 0x100, lo := 2, width := 1, acc := .rw, st := false, rst := 0 }
def F.PWR.PS_CTL.CLOSE_TO : Fld := { cls := .pwr, off := 0x100, lo := 8, width := 16, acc := .rw, st := false, rst := 2000 }
def F.PWR.PS_STS.STATE : Fld := { cls := .pwr, off := 0x104, lo := 0, width := 2, acc := .ro, st := false, rst := 0 }
def F.PWR.PS_STS.PHASE : Fld := { cls := .pwr, off := 0x104, lo := 2, width := 3, acc := .ro, st := false, rst := 0 }
def F.PWR.PS_STS.RES : Fld := { cls := .pwr, off := 0x104, lo := 5, width := 3, acc := .ro, st := false, rst := 0 }
def F.PWR.PS_STS.STEP : Fld := { cls := .pwr, off := 0x104, lo := 8, width := 4, acc := .ro, st := false, rst := 0 }
def F.PWR.WAKE_EN.DEMAND : Fld := { cls := .pwr, off := 0x108, lo := 0, width := 1, acc := .rw, st := false, rst := 1 }
def F.PWR.WAKE_EN.SIGDET : Fld := { cls := .pwr, off := 0x108, lo := 1, width := 1, acc := .rw, st := false, rst := 1 }
def F.PWR.WAKE_EN.SUPPLY : Fld := { cls := .pwr, off := 0x108, lo := 2, width := 1, acc := .rw, st := false, rst := 0 }
def F.PWR.WAKE_EN.THERM : Fld := { cls := .pwr, off := 0x108, lo := 3, width := 1, acc := .rw, st := false, rst := 0 }
def F.PWR.WAKE_EN.TIMER : Fld := { cls := .pwr, off := 0x108, lo := 4, width := 1, acc := .rw, st := false, rst := 0 }
def F.PWR.WAKE_EN.MGR : Fld := { cls := .pwr, off := 0x108, lo := 5, width := 1, acc := .ro, st := false, rst := 1 }
def F.PWR.WAKE_EN.PAIR : Fld := { cls := .pwr, off := 0x108, lo := 6, width := 1, acc := .rw, st := false, rst := 1 }
def F.PWR.SIG_EN : Fld := { cls := .pwr, off := 0x10C, lo := 0, width := 32, acc := .rw, st := false, rst := 4294967295 }
def F.PWR.SIG_THR.THR : Fld := { cls := .pwr, off := 0x110, lo := 0, width := 6, acc := .rw, st := false, rst := 8, n := 1, step := 4, m := 4, fstep := 8 }
def F.PWR.SIG_FILT : Fld := { cls := .pwr, off := 0x114, lo := 0, width := 8, acc := .rw, st := false, rst := 4 }
def F.PWR.CMP_SUP.SUP_THR : Fld := { cls := .pwr, off := 0x118, lo := 0, width := 6, acc := .rw, st := false, rst := 32, n := 1, step := 4, m := 2, fstep := 8 }
def F.PWR.CMP_SUP.SUP_DIR : Fld := { cls := .pwr, off := 0x118, lo := 6, width := 1, acc := .rw, st := false, rst := 0, n := 1, step := 4, m := 2, fstep := 8 }
def F.PWR.CMP_SUP.SUP_EN : Fld := { cls := .pwr, off := 0x118, lo := 7, width := 1, acc := .rw, st := false, rst := 0, n := 1, step := 4, m := 2, fstep := 8 }
def F.PWR.CMP_THM.THM_THR : Fld := { cls := .pwr, off := 0x11C, lo := 0, width := 6, acc := .rw, st := false, rst := 32, n := 1, step := 4, m := 4, fstep := 8 }
def F.PWR.CMP_THM.THM_DIR : Fld := { cls := .pwr, off := 0x11C, lo := 6, width := 1, acc := .rw, st := false, rst := 0, n := 1, step := 4, m := 4, fstep := 8 }
def F.PWR.CMP_THM.THM_EN : Fld := { cls := .pwr, off := 0x11C, lo := 7, width := 1, acc := .rw, st := false, rst := 0, n := 1, step := 4, m := 4, fstep := 8 }
def F.PWR.WAKE_AT_LO.AT_LO : Fld := { cls := .pwr, off := 0x120, lo := 0, width := 32, acc := .rw, st := false, rst := 0 }
def F.PWR.WAKE_AT_HI.AT_HI : Fld := { cls := .pwr, off := 0x124, lo := 0, width := 16, acc := .rw, st := false, rst := 0 }
def F.PWR.LW_REC.CODE : Fld := { cls := .pwr, off := 0x128, lo := 0, width := 3, acc := .ro, st := true, rst := 0 }
def F.PWR.LW_REC.VALID : Fld := { cls := .pwr, off := 0x128, lo := 3, width := 1, acc := .ro, st := true, rst := 0 }
def F.PWR.LW_REC.FROM : Fld := { cls := .pwr, off := 0x128, lo := 4, width := 2, acc := .ro, st := true, rst := 0 }
def F.PWR.LW_REC.CANCEL : Fld := { cls := .pwr, off := 0x128, lo := 6, width := 1, acc := .ro, st := true, rst := 0 }
def F.PWR.LW_REC.CHAN : Fld := { cls := .pwr, off := 0x128, lo := 8, width := 6, acc := .ro, st := true, rst := 0 }
def F.PWR.LW_REC.THR : Fld := { cls := .pwr, off := 0x128, lo := 16, width := 6, acc := .ro, st := true, rst := 0 }
def F.PWR.LW_TICK_LO.TICK_LO : Fld := { cls := .pwr, off := 0x12C, lo := 0, width := 32, acc := .ro, st := true, rst := 0 }
def F.PWR.LW_TICK_HI.TICK_HI : Fld := { cls := .pwr, off := 0x130, lo := 0, width := 16, acc := .ro, st := true, rst := 0 }
def F.PWR.TR_STS.LSG_WAIT : Fld := { cls := .pwr, off := 0x134, lo := 0, width := 16, acc := .ro, st := false, rst := 0 }
def F.PWR.TR_STS.TR_US : Fld := { cls := .pwr, off := 0x134, lo := 16, width := 16, acc := .ro, st := false, rst := 0 }
def F.PWR.I_EST.I_RUN : Fld := { cls := .pwr, off := 0x138, lo := 0, width := 8, acc := .rw, st := false, rst := 48 }
def F.PWR.I_EST.I_TRIM : Fld := { cls := .pwr, off := 0x138, lo := 8, width := 8, acc := .rw, st := false, rst := 25 }
def F.PWR.I_EST.I_DOZE : Fld := { cls := .pwr, off := 0x138, lo := 16, width := 8, acc := .rw, st := false, rst := 2 }
def F.PWR.WAKE_CNT : Fld := { cls := .pwr, off := 0x140, lo := 0, width := 32, acc := .rc, st := false, rst := 0, n := 7, step := 4, m := 1, fstep := 0 }
def F.PWR.PWR_FAULT_CNT : Fld := { cls := .pwr, off := 0x160, lo := 0, width := 32, acc := .rc, st := false, rst := 0 }

/-! Table 15-9 -/

def F.GLB.SPINE_PWR.TARGET : Fld := { cls := .glb, off := 0x280, lo := 0, width := 1, acc := .rw, st := false, rst := 0 }
def F.GLB.SPINE_PWR.STATE : Fld := { cls := .glb, off := 0x280, lo := 1, width := 1, acc := .ro, st := false, rst := 0 }
def F.GLB.SPINE_PWR.BUSY : Fld := { cls := .glb, off := 0x280, lo := 2, width := 1, acc := .ro, st := false, rst := 0 }
def F.GLB.SPINE_PWR.REFUSED : Fld := { cls := .glb, off := 0x280, lo := 3, width := 1, acc := .ro, st := false, rst := 0 }
def F.GLB.CORE_PWR.TARGET : Fld := { cls := .glb, off := 0x284, lo := 0, width := 1, acc := .rw, st := false, rst := 0 }
def F.GLB.CORE_PWR.STATE : Fld := { cls := .glb, off := 0x284, lo := 1, width := 1, acc := .ro, st := false, rst := 0 }
def F.GLB.CORE_PWR.BUSY : Fld := { cls := .glb, off := 0x284, lo := 2, width := 1, acc := .ro, st := false, rst := 0 }
def F.GLB.LSG_CFG.EN : Fld := { cls := .glb, off := 0x288, lo := 0, width := 1, acc := .rw, st := false, rst := 1 }
def F.GLB.LSG_CFG.MIN_ACT : Fld := { cls := .glb, off := 0x288, lo := 1, width := 5, acc := .rw, st := false, rst := 0 }
def F.GLB.LSG_CFG.IACT : Fld := { cls := .glb, off := 0x288, lo := 8, width := 8, acc := .rw, st := false, rst := 188 }
def F.GLB.LSG_STEP.STEP : Fld := { cls := .glb, off := 0x28C, lo := 0, width := 16, acc := .rw, st := false, rst := 32 }
def F.GLB.LSG_SLEW.SLEW : Fld := { cls := .glb, off := 0x290, lo := 0, width := 16, acc := .rw, st := false, rst := 80 }
def F.GLB.LSG_STS.EST : Fld := { cls := .glb, off := 0x294, lo := 0, width := 16, acc := .ro, st := false, rst := 0 }
def F.GLB.LSG_STS.LIMITING : Fld := { cls := .glb, off := 0x294, lo := 16, width := 1, acc := .ro, st := false, rst := 0 }
def F.GLB.LSG_CAP_CNT : Fld := { cls := .glb, off := 0x298, lo := 0, width := 32, acc := .rc, st := false, rst := 0 }
def F.GLB.LSG_EXCEED_CNT : Fld := { cls := .glb, off := 0x29C, lo := 0, width := 32, acc := .rc, st := false, rst := 0 }

/-! Table 16-2 -/

def F.CB.CB_CTL.INT_EN (c : Cls) : Fld := { cls := c, off := cbBase c + 0x000, lo := 0, width := 8, acc := .rw, st := false, rst := 0 }
def F.CB.CB_OVF.OVF (c : Cls) : Fld := { cls := c, off := cbBase c + 0x004, lo := 0, width := 8, acc := .w1c, st := true, rst := 0 }
def F.CB.CB_OVF.OVF_CYC (c : Cls) : Fld := { cls := c, off := cbBase c + 0x004, lo := 8, width := 1, acc := .w1c, st := true, rst := 0 }
def F.CB.CB_OVF.OVF_TICKS (c : Cls) : Fld := { cls := c, off := cbBase c + 0x004, lo := 9, width := 1, acc := .w1c, st := true, rst := 0 }
def F.CB.SH_TICK_LO.SH_LO (c : Cls) : Fld := { cls := c, off := cbBase c + 0x008, lo := 0, width := 32, acc := .ro, st := false, rst := 0 }
def F.CB.SH_TICK_HI.SH_HI (c : Cls) : Fld := { cls := c, off := cbBase c + 0x00C, lo := 0, width := 16, acc := .ro, st := false, rst := 0 }
def F.CB.SH_TICK_HI.HELD (c : Cls) : Fld := { cls := c, off := cbBase c + 0x00C, lo := 16, width := 1, acc := .ro, st := false, rst := 0 }
def F.CB.EVT_SEL.EVT (c : Cls) : Fld := { cls := c, off := cbBase c + 0x010, lo := 0, width := 12, acc := .rw, st := false, rst := 0, n := 8, step := 4, m := 1, fstep := 0 }
def F.CB.EVT_SEL.MODE (c : Cls) : Fld := { cls := c, off := cbBase c + 0x010, lo := 12, width := 2, acc := .rw, st := false, rst := 0, n := 8, step := 4, m := 1, fstep := 0 }
def F.CB.EVT_SEL.EN (c : Cls) : Fld := { cls := c, off := cbBase c + 0x010, lo := 14, width := 1, acc := .rw, st := false, rst := 0, n := 8, step := 4, m := 1, fstep := 0 }
def F.CB.EVT_SEL.SL_EN (c : Cls) : Fld := { cls := c, off := cbBase c + 0x010, lo := 15, width := 1, acc := .rw, st := false, rst := 0, n := 8, step := 4, m := 1, fstep := 0 }
def F.CB.EVT_SEL.CLS (c : Cls) : Fld := { cls := c, off := cbBase c + 0x010, lo := 16, width := 4, acc := .rw, st := false, rst := 15, n := 8, step := 4, m := 1, fstep := 0 }
def F.CB.EVT_SEL.SLICE (c : Cls) : Fld := { cls := c, off := cbBase c + 0x010, lo := 20, width := 12, acc := .rw, st := false, rst := 0, n := 8, step := 4, m := 1, fstep := 0 }
def F.CB.CB_INJ.INJ (c : Cls) : Fld := { cls := c, off := cbBase c + 0x030, lo := 0, width := 2, acc := .rw, st := false, rst := 0, n := 1, step := 4, m := 8, fstep := 2 }
def F.CB.CNT_LO (c : Cls) : Fld := { cls := c, off := cbBase c + 0x040, lo := 0, width := 32, acc := .rw, st := false, rst := 0, n := 8, step := 8, m := 1, fstep := 0 }
def F.CB.CNT_HI (c : Cls) : Fld := { cls := c, off := cbBase c + 0x044, lo := 0, width := 16, acc := .rw, st := false, rst := 0, n := 8, step := 8, m := 1, fstep := 0 }
def F.CB.SH_LO (c : Cls) : Fld := { cls := c, off := cbBase c + 0x080, lo := 0, width := 32, acc := .ro, st := false, rst := 0, n := 8, step := 8, m := 1, fstep := 0 }
def F.CB.SH_HI (c : Cls) : Fld := { cls := c, off := cbBase c + 0x084, lo := 0, width := 16, acc := .ro, st := false, rst := 0, n := 8, step := 8, m := 1, fstep := 0 }
def F.CB.CYC_LO.CYC (c : Cls) : Fld := { cls := c, off := cbBase c + 0x0C0, lo := 0, width := 32, acc := .ro, st := false, rst := 0 }
def F.CB.CYC_HI.CYC (c : Cls) : Fld := { cls := c, off := cbBase c + 0x0C4, lo := 0, width := 16, acc := .ro, st := false, rst := 0 }
def F.CB.TICKS_LO.TICKS (c : Cls) : Fld := { cls := c, off := cbBase c + 0x0C8, lo := 0, width := 32, acc := .ro, st := false, rst := 0 }
def F.CB.TICKS_HI.TICKS (c : Cls) : Fld := { cls := c, off := cbBase c + 0x0CC, lo := 0, width := 16, acc := .ro, st := false, rst := 0 }
def F.CB.SH_CYC_LO.SH_CYC (c : Cls) : Fld := { cls := c, off := cbBase c + 0x0D0, lo := 0, width := 32, acc := .ro, st := false, rst := 0 }
def F.CB.SH_CYC_HI.SH_CYC (c : Cls) : Fld := { cls := c, off := cbBase c + 0x0D4, lo := 0, width := 16, acc := .ro, st := false, rst := 0 }
def F.CB.SH_TICKS_LO.SH_TICKS (c : Cls) : Fld := { cls := c, off := cbBase c + 0x0D8, lo := 0, width := 32, acc := .ro, st := false, rst := 0 }
def F.CB.SH_TICKS_HI.SH_TICKS (c : Cls) : Fld := { cls := c, off := cbBase c + 0x0DC, lo := 0, width := 16, acc := .ro, st := false, rst := 0 }

/-! Table 16-4 -/

def F.PMU.SLOT_LO.COUNT_LO : Fld := { cls := .pmu, off := 0x200, lo := 0, width := 32, acc := .ro, st := false, rst := 0, n := 20, step := 8, m := 1, fstep := 0 }
def F.PMU.SLOT_HI.COUNT_HI : Fld := { cls := .pmu, off := 0x204, lo := 0, width := 16, acc := .ro, st := false, rst := 0, n := 20, step := 8, m := 1, fstep := 0 }
def F.PMU.SH_SLOT_LO.SH_COUNT : Fld := { cls := .pmu, off := 0x2A0, lo := 0, width := 32, acc := .ro, st := false, rst := 0, n := 20, step := 8, m := 1, fstep := 0 }
def F.PMU.SH_SLOT_HI.SH_COUNT : Fld := { cls := .pmu, off := 0x2A4, lo := 0, width := 16, acc := .ro, st := false, rst := 0, n := 20, step := 8, m := 1, fstep := 0 }
def F.PMU.SLOTS_LO.SLOTS : Fld := { cls := .pmu, off := 0x340, lo := 0, width := 32, acc := .ro, st := false, rst := 0 }
def F.PMU.SLOTS_HI.SLOTS : Fld := { cls := .pmu, off := 0x344, lo := 0, width := 16, acc := .ro, st := false, rst := 0 }
def F.PMU.UNSET : Fld := { cls := .pmu, off := 0x348, lo := 0, width := 9, acc := .ro, st := false, rst := 0 }
def F.PMU.SH_SLOTS_LO.SH_SLOTS : Fld := { cls := .pmu, off := 0x350, lo := 0, width := 32, acc := .ro, st := false, rst := 0 }
def F.PMU.SH_SLOTS_HI.SH_SLOTS : Fld := { cls := .pmu, off := 0x354, lo := 0, width := 16, acc := .ro, st := false, rst := 0 }
def F.PMU.SH_UNSET : Fld := { cls := .pmu, off := 0x358, lo := 0, width := 9, acc := .ro, st := false, rst := 0 }
def F.PMU.SLOT_OVF.OVF : Fld := { cls := .pmu, off := 0x360, lo := 0, width := 20, acc := .w1c, st := true, rst := 0 }
def F.PMU.SLOT_OVF.OVF_SLOTS : Fld := { cls := .pmu, off := 0x360, lo := 20, width := 1, acc := .w1c, st := true, rst := 0 }
def F.PMU.SMP_CFG.CTR : Fld := { cls := .pmu, off := 0x380, lo := 0, width := 3, acc := .rw, st := false, rst := 0 }
def F.PMU.SMP_CFG.EN : Fld := { cls := .pmu, off := 0x380, lo := 3, width := 1, acc := .rw, st := false, rst := 0 }
def F.PMU.SMP_STS.VALID : Fld := { cls := .pmu, off := 0x384, lo := 0, width := 1, acc := .w1c, st := false, rst := 0 }
def F.PMU.SMP_STS.SKID : Fld := { cls := .pmu, off := 0x384, lo := 1, width := 3, acc := .ro, st := false, rst := 0 }
def F.PMU.SMP_STS.KIND : Fld := { cls := .pmu, off := 0x384, lo := 4, width := 2, acc := .ro, st := false, rst := 0 }
def F.PMU.SMP_REC.RQ_IDX : Fld := { cls := .pmu, off := 0x388, lo := 0, width := 14, acc := .ro, st := false, rst := 0 }
def F.PMU.SMP_TICK_LO.SMP_TICK : Fld := { cls := .pmu, off := 0x38C, lo := 0, width := 32, acc := .ro, st := false, rst := 0 }
def F.PMU.SMP_TICK_HI.SMP_TICK : Fld := { cls := .pmu, off := 0x390, lo := 0, width := 16, acc := .ro, st := false, rst := 0 }
def F.PMU.SMP_LOST_CNT : Fld := { cls := .pmu, off := 0x394, lo := 0, width := 32, acc := .rc, st := false, rst := 0 }

/-! Table 16-7 -/

def F.SLICE.TC_SEL.OFF : Fld := { cls := .slice, off := 0x200, lo := 0, width := 2, acc := .rw, st := false, rst := 0 }
def F.SLICE.TC_STS.VALID : Fld := { cls := .slice, off := 0x204, lo := 0, width := 1, acc := .ro, st := false, rst := 0 }
def F.SLICE.TC_STS.OWN : Fld := { cls := .slice, off := 0x204, lo := 1, width := 1, acc := .ro, st := false, rst := 0 }
def F.SLICE.TC_CNT_LO.CNT : Fld := { cls := .slice, off := 0x208, lo := 0, width := 32, acc := .ro, st := false, rst := 0, n := 8, step := 8, m := 1, fstep := 0 }
def F.SLICE.TC_CNT_HI.CNT : Fld := { cls := .slice, off := 0x20C, lo := 0, width := 16, acc := .ro, st := false, rst := 0, n := 8, step := 8, m := 1, fstep := 0 }
def F.SLICE.TC_OVF.OVF : Fld := { cls := .slice, off := 0x248, lo := 0, width := 8, acc := .ro, st := false, rst := 0 }
def F.SLICE.TC_REC_K.K : Fld := { cls := .slice, off := 0x24C, lo := 0, width := 32, acc := .ro, st := false, rst := 0 }
def F.SLICE.TC_REC_CLOSE_LO.CLOSE : Fld := { cls := .slice, off := 0x250, lo := 0, width := 32, acc := .ro, st := false, rst := 0 }
def F.SLICE.TC_REC_CLOSE_HI.CLOSE : Fld := { cls := .slice, off := 0x254, lo := 0, width := 16, acc := .ro, st := false, rst := 0 }
def F.SLICE.TC_REC_RX_LO.RX : Fld := { cls := .slice, off := 0x258, lo := 0, width := 32, acc := .ro, st := false, rst := 0 }
def F.SLICE.TC_REC_RX_HI.RX : Fld := { cls := .slice, off := 0x25C, lo := 0, width := 16, acc := .ro, st := false, rst := 0 }
def F.SLICE.TC_REC_TX_LO.TX : Fld := { cls := .slice, off := 0x260, lo := 0, width := 32, acc := .ro, st := false, rst := 0 }
def F.SLICE.TC_REC_TX_HI.TX : Fld := { cls := .slice, off := 0x264, lo := 0, width := 16, acc := .ro, st := false, rst := 0 }
def F.SLICE.TC_REC_FLAGS.FLAGS : Fld := { cls := .slice, off := 0x268, lo := 0, width := 16, acc := .ro, st := false, rst := 0 }

/-! Table 16-13 -/

def F.GLB.FREEZE.ARM : Fld := { cls := .glb, off := 0x300, lo := 0, width := 1, acc := .w1s, st := false, rst := 0 }
def F.GLB.FREEZE.RELEASE : Fld := { cls := .glb, off := 0x300, lo := 1, width := 1, acc := .w1s, st := false, rst := 0 }
def F.GLB.FREEZE_STS.OWNER : Fld := { cls := .glb, off := 0x304, lo := 0, width := 2, acc := .ro, st := false, rst := 0 }
def F.GLB.FREEZE_STS.HELD : Fld := { cls := .glb, off := 0x304, lo := 2, width := 1, acc := .ro, st := false, rst := 0 }
def F.GLB.SNAP.REQ : Fld := { cls := .glb, off := 0x308, lo := 0, width := 1, acc := .w1s, st := false, rst := 0 }
def F.GLB.SNAP.PER : Fld := { cls := .glb, off := 0x308, lo := 8, width := 24, acc := .rw, st := false, rst := 0 }
def F.GLB.LATCH_LO : Fld := { cls := .glb, off := 0x30C, lo := 0, width := 32, acc := .ro, st := false, rst := 0 }
def F.GLB.LATCH_HI.LATCH_HI : Fld := { cls := .glb, off := 0x310, lo := 0, width := 16, acc := .ro, st := false, rst := 0 }
def F.GLB.LATCH_HI.KIND : Fld := { cls := .glb, off := 0x310, lo := 16, width := 2, acc := .ro, st := false, rst := 0 }
def F.GLB.WS_SEL.SCHED : Fld := { cls := .glb, off := 0x320, lo := 0, width := 4, acc := .rw, st := false, rst := 0 }
def F.GLB.WS_CTL.LEN : Fld := { cls := .glb, off := 0x324, lo := 0, width := 28, acc := .rw, st := false, rst := 120000000 }
def F.GLB.WS_CTL.EN : Fld := { cls := .glb, off := 0x324, lo := 31, width := 1, acc := .rw, st := false, rst := 0 }
def F.GLB.WS_START_LO.START_LO : Fld := { cls := .glb, off := 0x328, lo := 0, width := 32, acc := .rw, st := false, rst := 0 }
def F.GLB.WS_START_HI.START_HI : Fld := { cls := .glb, off := 0x32C, lo := 0, width := 16, acc := .rw, st := false, rst := 0 }
def F.GLB.WS_K.K : Fld := { cls := .glb, off := 0x330, lo := 0, width := 32, acc := .ro, st := false, rst := 0 }
def F.GLB.CS_SEL.SET : Fld := { cls := .glb, off := 0x340, lo := 0, width := 12, acc := .rw, st := false, rst := 0 }
def F.GLB.CS_SEL.CLR : Fld := { cls := .glb, off := 0x340, lo := 31, width := 1, acc := .w1s, st := false, rst := 0 }
def F.GLB.CS_CFG.LINK : Fld := { cls := .glb, off := 0x344, lo := 0, width := 7, acc := .rw, st := false, rst := 0 }
def F.GLB.CS_CFG.ANY : Fld := { cls := .glb, off := 0x344, lo := 7, width := 1, acc := .rw, st := false, rst := 0 }
def F.GLB.CS_CFG.RX : Fld := { cls := .glb, off := 0x344, lo := 8, width := 1, acc := .rw, st := false, rst := 0 }
def F.GLB.CS_CFG.TX : Fld := { cls := .glb, off := 0x344, lo := 9, width := 1, acc := .rw, st := false, rst := 0 }
def F.GLB.CS_CFG.CLS : Fld := { cls := .glb, off := 0x344, lo := 10, width := 4, acc := .rw, st := false, rst := 15 }
def F.GLB.CS_CFG.SCHED : Fld := { cls := .glb, off := 0x344, lo := 14, width := 4, acc := .rw, st := false, rst := 0 }
def F.GLB.CS_CFG.V : Fld := { cls := .glb, off := 0x344, lo := 18, width := 1, acc := .rw, st := false, rst := 0 }
def F.GLB.CS_STS.VALID : Fld := { cls := .glb, off := 0x348, lo := 0, width := 1, acc := .ro, st := false, rst := 0 }
def F.GLB.CS_STS.OWNED : Fld := { cls := .glb, off := 0x348, lo := 1, width := 1, acc := .ro, st := false, rst := 0 }
def F.GLB.CS_STS.OWNER : Fld := { cls := .glb, off := 0x348, lo := 16, width := 12, acc := .ro, st := false, rst := 0 }
def F.GLB.CS_CNT_LO.CNT : Fld := { cls := .glb, off := 0x350, lo := 0, width := 32, acc := .ro, st := false, rst := 0, n := 8, step := 8, m := 1, fstep := 0 }
def F.GLB.CS_CNT_HI.CNT : Fld := { cls := .glb, off := 0x354, lo := 0, width := 16, acc := .ro, st := false, rst := 0, n := 8, step := 8, m := 1, fstep := 0 }
def F.GLB.CS_SH_LO.SH : Fld := { cls := .glb, off := 0x390, lo := 0, width := 32, acc := .ro, st := false, rst := 0, n := 8, step := 8, m := 1, fstep := 0 }
def F.GLB.CS_SH_HI.SH : Fld := { cls := .glb, off := 0x394, lo := 0, width := 16, acc := .ro, st := false, rst := 0, n := 8, step := 8, m := 1, fstep := 0 }
def F.GLB.CS_OVF.OVF : Fld := { cls := .glb, off := 0x3D0, lo := 0, width := 8, acc := .ro, st := false, rst := 0 }
def F.GLB.CS_REC_K.K : Fld := { cls := .glb, off := 0x3D4, lo := 0, width := 32, acc := .ro, st := false, rst := 0 }
def F.GLB.CS_REC_CLOSE_LO.CLOSE : Fld := { cls := .glb, off := 0x3D8, lo := 0, width := 32, acc := .ro, st := false, rst := 0 }
def F.GLB.CS_REC_CLOSE_HI.CLOSE : Fld := { cls := .glb, off := 0x3DC, lo := 0, width := 16, acc := .ro, st := false, rst := 0 }
def F.GLB.CS_REC_RX_LO.RX : Fld := { cls := .glb, off := 0x3E0, lo := 0, width := 32, acc := .ro, st := false, rst := 0 }
def F.GLB.CS_REC_RX_HI.RX : Fld := { cls := .glb, off := 0x3E4, lo := 0, width := 16, acc := .ro, st := false, rst := 0 }
def F.GLB.CS_REC_TX_LO.TX : Fld := { cls := .glb, off := 0x3E8, lo := 0, width := 32, acc := .ro, st := false, rst := 0 }
def F.GLB.CS_REC_TX_HI.TX : Fld := { cls := .glb, off := 0x3EC, lo := 0, width := 16, acc := .ro, st := false, rst := 0 }
def F.GLB.CS_REC_FLAGS.FLAGS : Fld := { cls := .glb, off := 0x3F0, lo := 0, width := 6, acc := .ro, st := false, rst := 0 }
def F.GLB.CS_REC_FLAGS.MISSED : Fld := { cls := .glb, off := 0x3F0, lo := 8, width := 8, acc := .ro, st := false, rst := 0 }
def F.GLB.SIL_CTL.EN : Fld := { cls := .glb, off := 0x400, lo := 0, width := 1, acc := .rw, st := false, rst := 1 }
def F.GLB.SIL_CTL.HALT : Fld := { cls := .glb, off := 0x400, lo := 1, width := 1, acc := .rw, st := false, rst := 0 }
def F.GLB.SB_CTL.EN : Fld := { cls := .glb, off := 0x404, lo := 0, width := 1, acc := .rw, st := false, rst := 1 }

/-! Table 16-14 -/

def F.MEM.SIL_WPTR.WPTR : Fld := { cls := .mem, off := 0x200, lo := 0, width := 32, acc := .ro, st := true, rst := 0 }
def F.MEM.SIL_DONE.DONE : Fld := { cls := .mem, off := 0x204, lo := 0, width := 32, acc := .ro, st := true, rst := 0 }
def F.MEM.SIL_LOST.LOST : Fld := { cls := .mem, off := 0x208, lo := 0, width := 32, acc := .ro, st := true, rst := 0 }
def F.MEM.SIL_STG.STAGED : Fld := { cls := .mem, off := 0x20C, lo := 0, width := 11, acc := .ro, st := false, rst := 0 }
def F.MEM.SIL_ST_SEL.IDX : Fld := { cls := .mem, off := 0x210, lo := 0, width := 10, acc := .rw, st := false, rst := 0 }
def F.MEM.SIL_ST_DATA.DATA : Fld := { cls := .mem, off := 0x214, lo := 0, width := 32, acc := .ro, st := false, rst := 0, n := 8, step := 4, m := 1, fstep := 0 }

/-! Table 17-9 -/

def F.GLB.ERQ_CTL.EN : Fld := { cls := .glb, off := 0x480, lo := 0, width := 1, acc := .rw, st := false, rst := 1 }
def F.GLB.ERQ_STS.COUNT : Fld := { cls := .glb, off := 0x484, lo := 0, width := 10, acc := .ro, st := false, rst := 0 }
def F.GLB.ERQ_POP.POP : Fld := { cls := .glb, off := 0x488, lo := 0, width := 1, acc := .w1s, st := false, rst := 0 }
def F.GLB.ERQ_DATA.DATA : Fld := { cls := .glb, off := 0x490, lo := 0, width := 32, acc := .ro, st := false, rst := 0, n := 8, step := 4, m := 1, fstep := 0 }
def F.GLB.ERQ_LOST : Fld := { cls := .glb, off := 0x4B0, lo := 0, width := 32, acc := .rc, st := false, rst := 0 }
def F.GLB.ISO_CTL.ID : Fld := { cls := .glb, off := 0x4C0, lo := 0, width := 6, acc := .rw, st := false, rst := 0 }
def F.GLB.ISO_CTL.KIND : Fld := { cls := .glb, off := 0x4C0, lo := 6, width := 1, acc := .rw, st := false, rst := 0 }
def F.GLB.ISO_CTL.OP : Fld := { cls := .glb, off := 0x4C0, lo := 7, width := 1, acc := .rw, st := false, rst := 0 }
def F.GLB.ISO_CTL.GO : Fld := { cls := .glb, off := 0x4C0, lo := 8, width := 1, acc := .w1s, st := false, rst := 0 }
def F.GLB.ISO_STS.BUSY : Fld := { cls := .glb, off := 0x4C4, lo := 0, width := 1, acc := .ro, st := false, rst := 0 }
def F.GLB.ISO_STS.RES : Fld := { cls := .glb, off := 0x4C4, lo := 1, width := 3, acc := .ro, st := false, rst := 0 }
def F.GLB.ISO_SET_LO.SET_LO : Fld := { cls := .glb, off := 0x4C8, lo := 0, width := 32, acc := .ro, st := true, rst := 0 }
def F.GLB.ISO_SET_HI.SET_HI : Fld := { cls := .glb, off := 0x4CC, lo := 0, width := 28, acc := .ro, st := true, rst := 0 }
def F.GLB.TEST_KEY.KEY : Fld := { cls := .glb, off := 0x4E0, lo := 0, width := 32, acc := .rw, st := false, rst := 0 }
def F.GLB.TEST_STS.UNLOCKED : Fld := { cls := .glb, off := 0x4E4, lo := 0, width := 1, acc := .ro, st := false, rst := 0 }
def F.GLB.TEST_STS.ARMED_CNT : Fld := { cls := .glb, off := 0x4E4, lo := 1, width := 11, acc := .ro, st := false, rst := 0 }

/-! Table 17-10 -/

def F.STOP.SRAM_CE_CNT : Fld := { cls := .stop, off := 0x700, lo := 0, width := 32, acc := .rc, st := false, rst := 0 }
def F.STOP.SRAM_UE_CNT : Fld := { cls := .stop, off := 0x704, lo := 0, width := 32, acc := .rc, st := false, rst := 0 }
def F.STOP.ISO_RM_CNT : Fld := { cls := .stop, off := 0x708, lo := 0, width := 32, acc := .rc, st := false, rst := 0 }
def F.STOP.ISO_FREE_CNT : Fld := { cls := .stop, off := 0x70C, lo := 0, width := 32, acc := .rc, st := false, rst := 0 }
def F.STOP.ORDER_BREAK_CNT : Fld := { cls := .stop, off := 0x710, lo := 0, width := 32, acc := .rc, st := false, rst := 0 }

/-! Table 17-11 -/

def F.FI.FI_SEL.UNIT : Fld := { cls := .fi, off := 0x100, lo := 0, width := 11, acc := .rw, st := false, rst := 0 }
def F.FI.FI_CTL.ACTION : Fld := { cls := .fi, off := 0x104, lo := 0, width := 2, acc := .rw, st := false, rst := 0 }
def F.FI.FI_CTL.MODE : Fld := { cls := .fi, off := 0x104, lo := 2, width := 1, acc := .rw, st := false, rst := 0 }
def F.FI.FI_CTL.NBITS2 : Fld := { cls := .fi, off := 0x104, lo := 3, width := 1, acc := .rw, st := false, rst := 0 }
def F.FI.FI_CTL.ARM : Fld := { cls := .fi, off := 0x104, lo := 4, width := 1, acc := .rw, st := false, rst := 0 }
def F.FI.FI_N.N : Fld := { cls := .fi, off := 0x108, lo := 0, width := 24, acc := .rw, st := false, rst := 1 }
def F.FI.FI_PROB.P : Fld := { cls := .fi, off := 0x10C, lo := 0, width := 16, acc := .rw, st := false, rst := 0 }
def F.FI.FI_SEED.SEED : Fld := { cls := .fi, off := 0x110, lo := 0, width := 32, acc := .rw, st := false, rst := 1 }
def F.FI.FI_POS.POS0 : Fld := { cls := .fi, off := 0x114, lo := 0, width := 16, acc := .rw, st := false, rst := 0 }
def F.FI.FI_POS.POS1 : Fld := { cls := .fi, off := 0x114, lo := 16, width := 16, acc := .rw, st := false, rst := 0 }
def F.FI.FI_DLY.DLY : Fld := { cls := .fi, off := 0x118, lo := 0, width := 8, acc := .rw, st := false, rst := 1 }
def F.FI.FI_MATCH.OPC : Fld := { cls := .fi, off := 0x11C, lo := 0, width := 6, acc := .rw, st := false, rst := 0 }
def F.FI.FI_MATCH.OPC_EN : Fld := { cls := .fi, off := 0x11C, lo := 6, width := 1, acc := .rw, st := false, rst := 0 }
def F.FI.FI_MATCH.DST : Fld := { cls := .fi, off := 0x11C, lo := 8, width := 6, acc := .rw, st := false, rst := 0 }
def F.FI.FI_MATCH.DST_EN : Fld := { cls := .fi, off := 0x11C, lo := 14, width := 1, acc := .rw, st := false, rst := 0 }
def F.FI.FI_MATCH.CLASS : Fld := { cls := .fi, off := 0x11C, lo := 16, width := 2, acc := .rw, st := false, rst := 0 }
def F.FI.FI_MATCH.CLS_EN : Fld := { cls := .fi, off := 0x11C, lo := 18, width := 1, acc := .rw, st := false, rst := 0 }
def F.FI.FI_LIMIT.LIMIT : Fld := { cls := .fi, off := 0x120, lo := 0, width := 24, acc := .rw, st := false, rst := 0 }
def F.FI.FI_STS.PRESENT : Fld := { cls := .fi, off := 0x124, lo := 0, width := 1, acc := .ro, st := false, rst := 0 }
def F.FI.FI_STS.ARMED : Fld := { cls := .fi, off := 0x124, lo := 1, width := 1, acc := .ro, st := false, rst := 0 }
def F.FI.FI_STS.HOLDING : Fld := { cls := .fi, off := 0x124, lo := 2, width := 1, acc := .ro, st := false, rst := 0 }
def F.FI.FI_FIRED : Fld := { cls := .fi, off := 0x128, lo := 0, width := 32, acc := .rc, st := false, rst := 0 }
def F.FI.FI_HELD_LOST : Fld := { cls := .fi, off := 0x12C, lo := 0, width := 32, acc := .rc, st := false, rst := 0 }
def F.FI.FI_ELIG : Fld := { cls := .fi, off := 0x130, lo := 0, width := 32, acc := .rc, st := false, rst := 0 }

/-! Table 18-8 -/

def F.GLB.FAB_CTL.GO_SERVICE : Fld := { cls := .glb, off := 0x500, lo := 0, width := 1, acc := .w1s, st := false, rst := 0 }
def F.GLB.FAB_STS.STATE : Fld := { cls := .glb, off := 0x504, lo := 0, width := 2, acc := .ro, st := false, rst := 0 }
def F.GLB.FAB_STS.MEM_INIT : Fld := { cls := .glb, off := 0x504, lo := 2, width := 1, acc := .ro, st := true, rst := 0 }
def F.GLB.FAB_STS.REFUSE : Fld := { cls := .glb, off := 0x504, lo := 3, width := 3, acc := .ro, st := false, rst := 0 }
def F.GLB.FAB_STS.CAUSE : Fld := { cls := .glb, off := 0x504, lo := 8, width := 3, acc := .ro, st := true, rst := 0 }
def F.GLB.FAB_STS.RECOVERY_CNT : Fld := { cls := .glb, off := 0x504, lo := 16, width := 16, acc := .ro, st := true, rst := 0 }
def F.GLB.RST_CTL.KEY : Fld := { cls := .glb, off := 0x508, lo := 0, width := 16, acc := .rw, st := false, rst := 0 }
def F.GLB.RST_CTL.GO : Fld := { cls := .glb, off := 0x508, lo := 16, width := 1, acc := .w1s, st := false, rst := 0 }
def F.GLB.RST_CNT : Fld := { cls := .glb, off := 0x50C, lo := 0, width := 32, acc := .ro, st := true, rst := 0 }

/-! Table 18-9 -/

def F.CTL.CORE_STS.STATE_A : Fld := { cls := .ctl, off := 0x100, lo := 0, width := 3, acc := .ro, st := false, rst := 0 }
def F.CTL.CORE_STS.STATE_B : Fld := { cls := .ctl, off := 0x100, lo := 3, width := 3, acc := .ro, st := false, rst := 0 }
def F.CTL.CORE_STS.ACTIVE : Fld := { cls := .ctl, off := 0x100, lo := 6, width := 1, acc := .ro, st := false, rst := 0 }
def F.CTL.CORE_STS.LDR_RES_A : Fld := { cls := .ctl, off := 0x100, lo := 8, width := 3, acc := .ro, st := false, rst := 0 }
def F.CTL.CORE_STS.LDR_RES_B : Fld := { cls := .ctl, off := 0x100, lo := 12, width := 3, acc := .ro, st := false, rst := 0 }
def F.CTL.CORE_CTL.RST_A : Fld := { cls := .ctl, off := 0x104, lo := 0, width := 1, acc := .w1s, st := false, rst := 0 }
def F.CTL.CORE_CTL.RST_B : Fld := { cls := .ctl, off := 0x104, lo := 1, width := 1, acc := .w1s, st := false, rst := 0 }
def F.CTL.CORE_CTL.HB_EN : Fld := { cls := .ctl, off := 0x104, lo := 2, width := 1, acc := .rw, st := false, rst := 1 }
def F.CTL.CORE_CTL.HB_LIM : Fld := { cls := .ctl, off := 0x104, lo := 4, width := 3, acc := .rw, st := false, rst := 4 }
def F.CTL.HO_CTL.GO : Fld := { cls := .ctl, off := 0x108, lo := 0, width := 1, acc := .w1s, st := false, rst := 0 }
def F.CTL.HO_CTL.AT_EN : Fld := { cls := .ctl, off := 0x108, lo := 1, width := 1, acc := .rw, st := false, rst := 0 }
def F.CTL.HO_STS.PENDING : Fld := { cls := .ctl, off := 0x10C, lo := 0, width := 1, acc := .ro, st := false, rst := 0 }
def F.CTL.HO_STS.RES : Fld := { cls := .ctl, off := 0x10C, lo := 1, width := 2, acc := .ro, st := false, rst := 0 }
def F.CTL.HO_STS.HO_CNT : Fld := { cls := .ctl, off := 0x10C, lo := 8, width := 16, acc := .ro, st := true, rst := 0 }
def F.CTL.HO_AT_LO.AT_LO : Fld := { cls := .ctl, off := 0x110, lo := 0, width := 32, acc := .rw, st := false, rst := 0 }
def F.CTL.HO_AT_HI.AT_HI : Fld := { cls := .ctl, off := 0x114, lo := 0, width := 16, acc := .rw, st := false, rst := 0 }
def F.CTL.SVN_A : Fld := { cls := .ctl, off := 0x118, lo := 0, width := 32, acc := .ro, st := false, rst := 0 }
def F.CTL.SVN_B : Fld := { cls := .ctl, off := 0x11C, lo := 0, width := 32, acc := .ro, st := false, rst := 0 }
def F.CTL.CTO : Fld := { cls := .ctl, off := 0x120, lo := 0, width := 24, acc := .rw, st := false, rst := 100000 }
def F.CTL.UPD_CTL.ALLOW_DOWN : Fld := { cls := .ctl, off := 0x124, lo := 0, width := 1, acc := .rwk, st := false, rst := 0 }
def F.CTL.CFG_PEND.PEND_A : Fld := { cls := .ctl, off := 0x128, lo := 0, width := 10, acc := .ro, st := false, rst := 0 }
def F.CTL.CFG_PEND.PEND_B : Fld := { cls := .ctl, off := 0x128, lo := 16, width := 10, acc := .ro, st := false, rst := 0 }
def F.CTL.VEP_ID : Fld := { cls := .ctl, off := 0x12C, lo := 0, width := 32, acc := .rw, st := false, rst := 0 }

/-! Table 18-10 -/

def F.MBOX.MB_CTL.POST : Fld := { cls := .mbox, off := 0x100, lo := 0, width := 1, acc := .w1s, st := false, rst := 0 }
def F.MBOX.MB_CTL.LAST : Fld := { cls := .mbox, off := 0x100, lo := 1, width := 1, acc := .rw, st := false, rst := 0 }
def F.MBOX.MB_CTL.CORE : Fld := { cls := .mbox, off := 0x100, lo := 2, width := 1, acc := .rw, st := false, rst := 0 }
def F.MBOX.MB_CTL.RESTART : Fld := { cls := .mbox, off := 0x100, lo := 3, width := 1, acc := .w1s, st := false, rst := 0 }
def F.MBOX.MB_CTL.LEN : Fld := { cls := .mbox, off := 0x100, lo := 16, width := 10, acc := .rw, st := false, rst := 512 }
def F.MBOX.MB_OFF.OFF : Fld := { cls := .mbox, off := 0x104, lo := 2, width := 19, acc := .rw, st := false, rst := 0 }
def F.MBOX.MB_STS.OWNER : Fld := { cls := .mbox, off := 0x108, lo := 0, width := 1, acc := .ro, st := false, rst := 0 }
def F.MBOX.MB_STS.RES : Fld := { cls := .mbox, off := 0x108, lo := 1, width := 2, acc := .ro, st := false, rst := 0 }
def F.MBOX.MB_STS.POSTS : Fld := { cls := .mbox, off := 0x108, lo := 16, width := 16, acc := .ro, st := false, rst := 0 }
def F.MBOX.MB_DATA.DATA : Fld := { cls := .mbox, off := 0x800, lo := 0, width := 32, acc := .rw, st := false, rst := 0, n := 512, step := 4, m := 1, fstep := 0 }

/-! Table 19-7 -/

def F.PAIR.PAIR_CTL.EN : Fld := { cls := .pair, off := 0x100, lo := 0, width := 1, acc := .rw, st := false, rst := 0 }
def F.PAIR.PAIR_CTL.MIRROR : Fld := { cls := .pair, off := 0x100, lo := 1, width := 1, acc := .rw, st := false, rst := 0 }
def F.PAIR.PAIR_CTL.PRIMARY : Fld := { cls := .pair, off := 0x100, lo := 2, width := 1, acc := .rw, st := false, rst := 0 }
def F.PAIR.PAIR_CTL.AUTO : Fld := { cls := .pair, off := 0x100, lo := 3, width := 1, acc := .rw, st := false, rst := 0 }
def F.PAIR.PAIR_CTL.AUTO_RESYNC : Fld := { cls := .pair, off := 0x100, lo := 4, width := 1, acc := .rw, st := false, rst := 1 }
def F.PAIR.PAIR_CFG.HB_LIM : Fld := { cls := .pair, off := 0x104, lo := 0, width := 8, acc := .rw, st := false, rst := 8 }
def F.PAIR.PAIR_CFG.ACK_TO : Fld := { cls := .pair, off := 0x104, lo := 8, width := 8, acc := .rw, st := false, rst := 4 }
def F.PAIR.PAIR_CFG.CKPT_PER : Fld := { cls := .pair, off := 0x104, lo := 16, width := 16, acc := .rw, st := false, rst := 2000 }
def F.PAIR.HOME.BASE : Fld := { cls := .pair, off := 0x108, lo := 0, width := 12, acc := .rw, st := false, rst := 0 }
def F.PAIR.HOME.CNT : Fld := { cls := .pair, off := 0x108, lo := 16, width := 13, acc := .rw, st := false, rst := 0 }
def F.PAIR.SHD.BASE : Fld := { cls := .pair, off := 0x10C, lo := 0, width := 12, acc := .rw, st := false, rst := 0 }
def F.PAIR.SHD.CNT : Fld := { cls := .pair, off := 0x10C, lo := 16, width := 13, acc := .rw, st := false, rst := 0 }
def F.PAIR.PAIR_STS.LINK : Fld := { cls := .pair, off := 0x110, lo := 0, width := 1, acc := .ro, st := false, rst := 0 }
def F.PAIR.PAIR_STS.PEER : Fld := { cls := .pair, off := 0x110, lo := 1, width := 2, acc := .ro, st := false, rst := 0 }
def F.PAIR.PAIR_STS.MSTATE : Fld := { cls := .pair, off := 0x110, lo := 3, width := 3, acc := .ro, st := false, rst := 0 }
def F.PAIR.PAIR_STS.PARTNER_FAIL : Fld := { cls := .pair, off := 0x110, lo := 6, width := 1, acc := .ro, st := false, rst := 0 }
def F.PAIR.MIR_PEND.PEND : Fld := { cls := .pair, off := 0x114, lo := 0, width := 16, acc := .ro, st := false, rst := 0 }
def F.PAIR.MARK : Fld := { cls := .pair, off := 0x118, lo := 0, width := 1, acc := .w1s, st := false, rst := 0 }
def F.PAIR.TKO_CTL.GO : Fld := { cls := .pair, off := 0x11C, lo := 0, width := 1, acc := .w1s, st := false, rst := 0 }
def F.PAIR.TKO_CTL.FORCE : Fld := { cls := .pair, off := 0x11C, lo := 1, width := 1, acc := .rwk, st := false, rst := 0 }
def F.PAIR.TKO_STS.BUSY : Fld := { cls := .pair, off := 0x120, lo := 0, width := 1, acc := .ro, st := false, rst := 0 }
def F.PAIR.TKO_STS.RES : Fld := { cls := .pair, off := 0x120, lo := 1, width := 2, acc := .ro, st := false, rst := 0 }
def F.PAIR.TKO_STS.FAILED : Fld := { cls := .pair, off := 0x120, lo := 3, width := 13, acc := .ro, st := false, rst := 0 }
def F.PAIR.TKO_STS.DONE : Fld := { cls := .pair, off := 0x120, lo := 16, width := 13, acc := .ro, st := false, rst := 0 }
def F.PAIR.RSYNC.GO : Fld := { cls := .pair, off := 0x124, lo := 0, width := 1, acc := .w1s, st := false, rst := 0 }
def F.PAIR.PWAKE.SECTORS : Fld := { cls := .pair, off := 0x128, lo := 0, width := 8, acc := .w1s, st := false, rst := 0 }
def F.PAIR.EG_MAP.LOCAL : Fld := { cls := .pair, off := 0x140, lo := 0, width := 7, acc := .rw, st := false, rst := 0, n := 128, step := 4, m := 1, fstep := 0 }
def F.PAIR.EG_MAP.V : Fld := { cls := .pair, off := 0x140, lo := 7, width := 1, acc := .rw, st := false, rst := 0, n := 128, step := 4, m := 1, fstep := 0 }
def F.PAIR.MIR_TX_CNT : Fld := { cls := .pair, off := 0x340, lo := 0, width := 32, acc := .rc, st := false, rst := 0 }
def F.PAIR.MIR_RX_CNT : Fld := { cls := .pair, off := 0x344, lo := 0, width := 32, acc := .rc, st := false, rst := 0 }
def F.PAIR.REPLAY_CNT : Fld := { cls := .pair, off := 0x348, lo := 0, width := 32, acc := .rc, st := false, rst := 0 }
def F.PAIR.DUP_CNT : Fld := { cls := .pair, off := 0x34C, lo := 0, width := 32, acc := .rc, st := false, rst := 0 }
def F.PAIR.CRC_ERR_CNT : Fld := { cls := .pair, off := 0x350, lo := 0, width := 32, acc := .rc, st := false, rst := 0 }
def F.PAIR.NOMAP_CNT : Fld := { cls := .pair, off := 0x354, lo := 0, width := 32, acc := .rc, st := false, rst := 0 }
def F.PAIR.REFUSE_CNT : Fld := { cls := .pair, off := 0x358, lo := 0, width := 32, acc := .rc, st := false, rst := 0 }

/-! Table 20-3 -/

def F.HDR.PG_ID.CLASS (c : Cls) : Fld := { cls := c, off := 0x000, lo := 0, width := 8, acc := .ro, st := false, rst := 0 }
def F.HDR.PG_ID.INSTANCE (c : Cls) : Fld := { cls := c, off := 0x000, lo := 8, width := 16, acc := .ro, st := false, rst := 0 }
def F.HDR.PG_ID.VERSION (c : Cls) : Fld := { cls := c, off := 0x000, lo := 24, width := 8, acc := .ro, st := false, rst := 1 }
def F.HDR.PG_CAP.BANKED (c : Cls) : Fld := { cls := c, off := 0x004, lo := 0, width := 1, acc := .ro, st := false, rst := 0 }
def F.HDR.PG_CAP.LOCKABLE (c : Cls) : Fld := { cls := c, off := 0x004, lo := 1, width := 1, acc := .ro, st := false, rst := 0 }
def F.HDR.PG_CAP.TENANT (c : Cls) : Fld := { cls := c, off := 0x004, lo := 2, width := 1, acc := .ro, st := false, rst := 0 }
def F.HDR.PG_CAP.ISLAND (c : Cls) : Fld := { cls := c, off := 0x004, lo := 3, width := 1, acc := .ro, st := false, rst := 0 }
def F.HDR.PG_CAP.CNT_BLOCK (c : Cls) : Fld := { cls := c, off := 0x004, lo := 4, width := 1, acc := .ro, st := false, rst := 0 }
def F.HDR.PG_CAP.BLOCK_OFF (c : Cls) : Fld := { cls := c, off := 0x004, lo := 8, width := 8, acc := .ro, st := false, rst := 0 }
def F.HDR.PG_CAP.INT_BITS (c : Cls) : Fld := { cls := c, off := 0x004, lo := 16, width := 8, acc := .ro, st := false, rst := 0 }
def F.HDR.PG_CTL.EN (c : Cls) : Fld := { cls := c, off := 0x008, lo := 0, width := 1, acc := .rw, st := false, rst := 1 }
def F.HDR.PG_CTL.DRAIN_REQ (c : Cls) : Fld := { cls := c, off := 0x008, lo := 1, width := 1, acc := .w1s, st := false, rst := 0 }
def F.HDR.PG_CTL.EPOCH_SEL (c : Cls) : Fld := { cls := c, off := 0x008, lo := 2, width := 1, acc := .rw, st := false, rst := 0 }
def F.HDR.PG_STS.QUIET (c : Cls) : Fld := { cls := c, off := 0x00C, lo := 0, width := 1, acc := .ro, st := false, rst := 0 }
def F.HDR.PG_STS.ASLEEP (c : Cls) : Fld := { cls := c, off := 0x00C, lo := 1, width := 1, acc := .ro, st := false, rst := 0 }
def F.HDR.PG_STS.ISOLATED (c : Cls) : Fld := { cls := c, off := 0x00C, lo := 2, width := 1, acc := .ro, st := false, rst := 0 }
def F.HDR.PG_STS.UNLOCKED (c : Cls) : Fld := { cls := c, off := 0x00C, lo := 3, width := 1, acc := .ro, st := false, rst := 0 }
def F.HDR.PG_STS.BANK_OPEN (c : Cls) : Fld := { cls := c, off := 0x00C, lo := 4, width := 1, acc := .ro, st := false, rst := 1 }
def F.HDR.PG_STS.ACTIVE (c : Cls) : Fld := { cls := c, off := 0x00C, lo := 5, width := 1, acc := .ro, st := false, rst := 0 }
def F.HDR.PG_INT_STS.INT (c : Cls) : Fld := { cls := c, off := 0x010, lo := 0, width := 8, acc := .w1c, st := false, rst := 0 }
def F.HDR.PG_INT_EN.INT_EN (c : Cls) : Fld := { cls := c, off := 0x014, lo := 0, width := 8, acc := .rw, st := false, rst := 0 }
def F.HDR.PG_INT_SET.INT_SET (c : Cls) : Fld := { cls := c, off := 0x018, lo := 0, width := 8, acc := .w1s, st := false, rst := 0 }
def F.HDR.PG_ERR_FIRST.CODE (c : Cls) : Fld := { cls := c, off := 0x01C, lo := 0, width := 8, acc := .ro, st := true, rst := 0 }
def F.HDR.PG_ERR_FIRST.INJ (c : Cls) : Fld := { cls := c, off := 0x01C, lo := 8, width := 1, acc := .ro, st := true, rst := 0 }
def F.HDR.PG_ERR_FIRST.CLEAR (c : Cls) : Fld := { cls := c, off := 0x01C, lo := 31, width := 1, acc := .w1s, st := false, rst := 0 }
def F.HDR.PG_ERR_INFO0.INFO0 (c : Cls) : Fld := { cls := c, off := 0x020, lo := 0, width := 32, acc := .ro, st := true, rst := 0 }
def F.HDR.PG_ERR_INFO1.INFO1 (c : Cls) : Fld := { cls := c, off := 0x024, lo := 0, width := 32, acc := .ro, st := true, rst := 0 }
def F.HDR.PG_ERR_CNT.CNT (c : Cls) : Fld := { cls := c, off := 0x028, lo := 0, width := 21, acc := .rc, st := false, rst := 0 }
def F.HDR.PG_ERR_CNT.LAST_OFF (c : Cls) : Fld := { cls := c, off := 0x028, lo := 21, width := 10, acc := .rc, st := false, rst := 0 }
def F.HDR.PG_ERR_CNT.NON_ACCESS (c : Cls) : Fld := { cls := c, off := 0x028, lo := 31, width := 1, acc := .rc, st := false, rst := 0 }
def F.HDR.PG_LOCK.UNLOCKED (c : Cls) : Fld := { cls := c, off := 0x02C, lo := 0, width := 1, acc := .ro, st := false, rst := 0 }

/-! Table 20-6 -/

def F.GLB.WE_STS.OUT : Fld := { cls := .glb, off := 0x100, lo := 0, width := 16, acc := .ro, st := false, rst := 0 }
def F.GLB.BANK_SYNC.GO : Fld := { cls := .glb, off := 0x104, lo := 0, width := 1, acc := .w1s, st := false, rst := 0 }
def F.GLB.BANK_SYNC.BUSY : Fld := { cls := .glb, off := 0x104, lo := 1, width := 1, acc := .ro, st := false, rst := 0 }
def F.GLB.BANK_SYNC.SKIPPED : Fld := { cls := .glb, off := 0x104, lo := 2, width := 1, acc := .ro, st := false, rst := 0 }
def F.GLB.BANK_SYNC.REFUSED : Fld := { cls := .glb, off := 0x104, lo := 3, width := 1, acc := .ro, st := false, rst := 0 }

/-- The common header of every page (Table 20-3). -/
def hdrFields (c : Cls) : List Fld :=
  [F.HDR.PG_ID.CLASS c,
   F.HDR.PG_ID.INSTANCE c,
   F.HDR.PG_ID.VERSION c,
   F.HDR.PG_CAP.BANKED c,
   F.HDR.PG_CAP.LOCKABLE c,
   F.HDR.PG_CAP.TENANT c,
   F.HDR.PG_CAP.ISLAND c,
   F.HDR.PG_CAP.CNT_BLOCK c,
   F.HDR.PG_CAP.BLOCK_OFF c,
   F.HDR.PG_CAP.INT_BITS c,
   F.HDR.PG_CTL.EN c,
   F.HDR.PG_CTL.DRAIN_REQ c,
   F.HDR.PG_CTL.EPOCH_SEL c,
   F.HDR.PG_STS.QUIET c,
   F.HDR.PG_STS.ASLEEP c,
   F.HDR.PG_STS.ISOLATED c,
   F.HDR.PG_STS.UNLOCKED c,
   F.HDR.PG_STS.BANK_OPEN c,
   F.HDR.PG_STS.ACTIVE c,
   F.HDR.PG_INT_STS.INT c,
   F.HDR.PG_INT_EN.INT_EN c,
   F.HDR.PG_INT_SET.INT_SET c,
   F.HDR.PG_ERR_FIRST.CODE c,
   F.HDR.PG_ERR_FIRST.INJ c,
   F.HDR.PG_ERR_FIRST.CLEAR c,
   F.HDR.PG_ERR_INFO0.INFO0 c,
   F.HDR.PG_ERR_INFO1.INFO1 c,
   F.HDR.PG_ERR_CNT.CNT c,
   F.HDR.PG_ERR_CNT.LAST_OFF c,
   F.HDR.PG_ERR_CNT.NON_ACCESS c,
   F.HDR.PG_LOCK.UNLOCKED c]

/-- The counter block of RING, ENG, PWR and PMU pages (Table 16-2). -/
def cbFields (c : Cls) : List Fld :=
  [F.CB.CB_CTL.INT_EN c,
   F.CB.CB_OVF.OVF c,
   F.CB.CB_OVF.OVF_CYC c,
   F.CB.CB_OVF.OVF_TICKS c,
   F.CB.SH_TICK_LO.SH_LO c,
   F.CB.SH_TICK_HI.SH_HI c,
   F.CB.SH_TICK_HI.HELD c,
   F.CB.EVT_SEL.EVT c,
   F.CB.EVT_SEL.MODE c,
   F.CB.EVT_SEL.EN c,
   F.CB.EVT_SEL.SL_EN c,
   F.CB.EVT_SEL.CLS c,
   F.CB.EVT_SEL.SLICE c,
   F.CB.CB_INJ.INJ c,
   F.CB.CNT_LO c,
   F.CB.CNT_HI c,
   F.CB.SH_LO c,
   F.CB.SH_HI c,
   F.CB.CYC_LO.CYC c,
   F.CB.CYC_HI.CYC c,
   F.CB.TICKS_LO.TICKS c,
   F.CB.TICKS_HI.TICKS c,
   F.CB.SH_CYC_LO.SH_CYC c,
   F.CB.SH_CYC_HI.SH_CYC c,
   F.CB.SH_TICKS_LO.SH_TICKS c,
   F.CB.SH_TICKS_HI.SH_TICKS c]

def ownTick0 : List Fld :=
  [F.TICK.TICK_CTL.EN,
   F.TICK.TICK_CTL.HOLD_EN,
   F.TICK.TICK_STS.RUNNING,
   F.TICK.TICK_STS.HOLDOVER,
   F.TICK.TICK_STS.REF_OK,
   F.TICK.TICK_STS.CAL_DONE,
   F.TICK.COUNT_LO,
   F.TICK.COUNT_HI,
   F.TICK.HOLD_DIV,
   F.TICK.HOLD_CNT,
   F.TICK.SLIP_CNT,
   F.TICK.MARK_ERR]

/-- The registers of the TICK page class beside the common header. -/
def ownTick : List Fld := ownTick0

def ownGlb0 : List Fld :=
  [F.GLB.EPOCH_CTL.REQ,
   F.GLB.EPOCH_CTL.CANCEL,
   F.GLB.EPOCH_CTL.AT_EN,
   F.GLB.EPOCH_STS.ACTIVE,
   F.GLB.EPOCH_STS.PENDING,
   F.GLB.EPOCH_STS.INACTIVE_OPEN,
   F.GLB.EPOCH_STS.DRAINED,
   F.GLB.EPOCH_STS.REFUSE,
   F.GLB.EPOCH_STS.EPOCH_NUM,
   F.GLB.EPOCH_AT_LO.AT_LO,
   F.GLB.EPOCH_AT_HI.AT_HI,
   F.GLB.EPOCH_LAST_LO.LAST_LO,
   F.GLB.EPOCH_LAST_HI.LAST_HI,
   F.GLB.RING_SVC.SVC,
   F.GLB.RING_USE.USABLE,
   F.GLB.RING_USE.FENCED,
   F.GLB.QMAP_SEL.QUEUE,
   F.GLB.QMAP_DATA.ENGINE,
   F.GLB.PB_DSEL.DOM,
   F.GLB.PB_DBASE.BASE,
   F.GLB.PB_DCNT.CNT,
   F.GLB.PB_KEY.PASID,
   F.GLB.PB_KEY.DOM,
   F.GLB.PB_DATA0.DATA0,
   F.GLB.PB_DATA1.DATA1,
   F.GLB.PB_CMD.GO,
   F.GLB.PB_STS.BUSY,
   F.GLB.PB_STS.DONE,
   F.GLB.PB_STS.RES,
   F.GLB.PB_STS.ACKS]

def ownGlb1 : List Fld :=
  [F.GLB.FL_CMD.OP,
   F.GLB.FL_SLICE.SRC,
   F.GLB.FL_SLICE.TGT,
   F.GLB.FL_IDX.SLOT,
   F.GLB.FL_STS.BUSY,
   F.GLB.FL_STS.DONE,
   F.GLB.FL_STS.RES,
   F.GLB.FL_UNIT.UNIT,
   F.GLB.FL_MAP_Q.QBASE,
   F.GLB.FL_MAP_M.MBASE,
   F.GLB.FL_MAP_M.CBASE,
   F.GLB.FL_MAP_U.UNIT_FIRST,
   F.GLB.FL_MAP_DOM.DOM,
   F.GLB.FL_CPY_Q.QUEUE,
   F.GLB.FL_CPY_FN.SFN,
   F.GLB.FL_CPY_FN.DFN,
   F.GLB.FL_CPY_DADDR_LO.DADDR_LO,
   F.GLB.FL_CPY_DADDR_HI.DADDR_HI,
   F.GLB.FL_OFF.OFF,
   F.GLB.FL_OFF.VALID,
   F.GLB.FL_DATA.DATA,
   F.GLB.SPINE_PWR.TARGET,
   F.GLB.SPINE_PWR.STATE,
   F.GLB.SPINE_PWR.BUSY,
   F.GLB.SPINE_PWR.REFUSED,
   F.GLB.CORE_PWR.TARGET,
   F.GLB.CORE_PWR.STATE,
   F.GLB.CORE_PWR.BUSY,
   F.GLB.LSG_CFG.EN,
   F.GLB.LSG_CFG.MIN_ACT]

def ownGlb2 : List Fld :=
  [F.GLB.LSG_CFG.IACT,
   F.GLB.LSG_STEP.STEP,
   F.GLB.LSG_SLEW.SLEW,
   F.GLB.LSG_STS.EST,
   F.GLB.LSG_STS.LIMITING,
   F.GLB.LSG_CAP_CNT,
   F.GLB.LSG_EXCEED_CNT,
   F.GLB.FREEZE.ARM,
   F.GLB.FREEZE.RELEASE,
   F.GLB.FREEZE_STS.OWNER,
   F.GLB.FREEZE_STS.HELD,
   F.GLB.SNAP.REQ,
   F.GLB.SNAP.PER,
   F.GLB.LATCH_LO,
   F.GLB.LATCH_HI.LATCH_HI,
   F.GLB.LATCH_HI.KIND,
   F.GLB.WS_SEL.SCHED,
   F.GLB.WS_CTL.LEN,
   F.GLB.WS_CTL.EN,
   F.GLB.WS_START_LO.START_LO,
   F.GLB.WS_START_HI.START_HI,
   F.GLB.WS_K.K,
   F.GLB.CS_SEL.SET,
   F.GLB.CS_SEL.CLR,
   F.GLB.CS_CFG.LINK,
   F.GLB.CS_CFG.ANY,
   F.GLB.CS_CFG.RX,
   F.GLB.CS_CFG.TX,
   F.GLB.CS_CFG.CLS,
   F.GLB.CS_CFG.SCHED]

def ownGlb3 : List Fld :=
  [F.GLB.CS_CFG.V,
   F.GLB.CS_STS.VALID,
   F.GLB.CS_STS.OWNED,
   F.GLB.CS_STS.OWNER,
   F.GLB.CS_CNT_LO.CNT,
   F.GLB.CS_CNT_HI.CNT,
   F.GLB.CS_SH_LO.SH,
   F.GLB.CS_SH_HI.SH,
   F.GLB.CS_OVF.OVF,
   F.GLB.CS_REC_K.K,
   F.GLB.CS_REC_CLOSE_LO.CLOSE,
   F.GLB.CS_REC_CLOSE_HI.CLOSE,
   F.GLB.CS_REC_RX_LO.RX,
   F.GLB.CS_REC_RX_HI.RX,
   F.GLB.CS_REC_TX_LO.TX,
   F.GLB.CS_REC_TX_HI.TX,
   F.GLB.CS_REC_FLAGS.FLAGS,
   F.GLB.CS_REC_FLAGS.MISSED,
   F.GLB.SIL_CTL.EN,
   F.GLB.SIL_CTL.HALT,
   F.GLB.SB_CTL.EN,
   F.GLB.ERQ_CTL.EN,
   F.GLB.ERQ_STS.COUNT,
   F.GLB.ERQ_POP.POP,
   F.GLB.ERQ_DATA.DATA,
   F.GLB.ERQ_LOST,
   F.GLB.ISO_CTL.ID,
   F.GLB.ISO_CTL.KIND,
   F.GLB.ISO_CTL.OP,
   F.GLB.ISO_CTL.GO]

def ownGlb4 : List Fld :=
  [F.GLB.ISO_STS.BUSY,
   F.GLB.ISO_STS.RES,
   F.GLB.ISO_SET_LO.SET_LO,
   F.GLB.ISO_SET_HI.SET_HI,
   F.GLB.TEST_KEY.KEY,
   F.GLB.TEST_STS.UNLOCKED,
   F.GLB.TEST_STS.ARMED_CNT,
   F.GLB.FAB_CTL.GO_SERVICE,
   F.GLB.FAB_STS.STATE,
   F.GLB.FAB_STS.MEM_INIT,
   F.GLB.FAB_STS.REFUSE,
   F.GLB.FAB_STS.CAUSE,
   F.GLB.FAB_STS.RECOVERY_CNT,
   F.GLB.RST_CTL.KEY,
   F.GLB.RST_CTL.GO,
   F.GLB.RST_CNT,
   F.GLB.WE_STS.OUT,
   F.GLB.BANK_SYNC.GO,
   F.GLB.BANK_SYNC.BUSY,
   F.GLB.BANK_SYNC.SKIPPED,
   F.GLB.BANK_SYNC.REFUSED]

/-- The registers of the GLB page class beside the common header. -/
def ownGlb : List Fld := ownGlb0 ++ ownGlb1 ++ ownGlb2 ++ ownGlb3 ++ ownGlb4

def ownStop0 : List Fld :=
  [F.STOP.STN_CE_CNT,
   F.STOP.STN_UE_CNT,
   F.STOP.STN_GUARD_CNT,
   F.STOP.E2E_ERR_CNT,
   F.STOP.POIS_RX_CNT,
   F.STOP.RING_HASH.SEED,
   F.STOP.RING_HASH.MULT0,
   F.STOP.RING_HASH.MULT_HI,
   F.STOP.STN_PASS.PASS,
   F.STOP.RING_MAP.ENTRY,
   F.STOP.SLOT_MISS_CNT,
   F.STOP.MAP_FIX_CNT,
   F.STOP.SLOT_WAIT.MAX,
   F.STOP.ROUTE_HOLD_CNT,
   F.STOP.ROUTE.PHYS,
   F.STOP.ROUTE.PIN_RING,
   F.STOP.ROUTE.PIN_EN,
   F.STOP.ROUTE.EN,
   F.STOP.RES_CFG.MAX_REQ,
   F.STOP.RES_CFG.REQ_TO,
   F.STOP.RES_CFG.FLOOR_ONLY,
   F.STOP.POOL_CLS.MIN,
   F.STOP.POOL_CLS.MAX,
   F.STOP.NP_MAX,
   F.STOP.POOL_STS.FREE,
   F.STOP.POOL_STS.NP_USED,
   F.STOP.POOL_STS.CLOSING,
   F.STOP.POOL_STS.EMPTY,
   F.STOP.RSP_STS.RSP_FREE,
   F.STOP.CLS_USE.USED]

def ownStop1 : List Fld :=
  [F.STOP.CLS_USE.PEND,
   F.STOP.RES_REQ_CNT,
   F.STOP.RES_GNT_CNT,
   F.STOP.RES_WAIT_MAX,
   F.STOP.RES_RETRY_CNT,
   F.STOP.MSG_ERR_CNT,
   F.STOP.RSP_OVR_CNT,
   F.STOP.RSP_WAIT_CNT,
   F.STOP.ACK_CFG.ACK_DELAY,
   F.STOP.ACK_CFG.PIGGY_EN,
   F.STOP.ORD_CFG.RO_BYPASS,
   F.STOP.ORD_CFG.IDO_EN,
   F.STOP.CTO,
   F.STOP.OUT_LIMIT,
   F.STOP.QUAR,
   F.STOP.RET_STS.SRAM_USED,
   F.STOP.RET_STS.OVF_USED,
   F.STOP.RET_STS.FULL,
   F.STOP.TAG_STS0.OPEN,
   F.STOP.TAG_STS0.HELD,
   F.STOP.TAG_STS1.EXPIRING,
   F.STOP.TAG_STS1.EXPIRED,
   F.STOP.POST_WIN,
   F.STOP.REPLAY_CNT,
   F.STOP.ACK_TO_CNT,
   F.STOP.DUP_CNT,
   F.STOP.ACK_STALE_CNT,
   F.STOP.SEQ_RANGE_CNT,
   F.STOP.NEAR_MISS_CNT,
   F.STOP.LATE_CPL_CNT]

def ownStop2 : List Fld :=
  [F.STOP.UNEXP_CPL_CNT,
   F.STOP.STALE_CPL_CNT,
   F.STOP.SYNTH_CPL_CNT,
   F.STOP.RET_FULL_CNT,
   F.STOP.POST_REJ_CNT,
   F.STOP.ARB_CFG.NTH,
   F.STOP.ARB_CFG.BURST_MAX,
   F.STOP.METER_SEL.IDX,
   F.STOP.METER_SEL.CLR,
   F.STOP.METER_STS.VALID,
   F.STOP.METER_STS.OVF_G,
   F.STOP.METER_STS.OVF_Y,
   F.STOP.METER_STS.BOUND,
   F.STOP.METER_STS.OWNER,
   F.STOP.METER_CIR.CIR,
   F.STOP.METER_PIR.PIR,
   F.STOP.METER_CBS.CBS,
   F.STOP.METER_PBS.PBS,
   F.STOP.METER_MODE.AWARE,
   F.STOP.METER_MODE.TC_YEL,
   F.STOP.METER_TOK_C.TC,
   F.STOP.METER_TOK_P.TP,
   F.STOP.METER_GREEN_LO.GREEN_LO,
   F.STOP.METER_GREEN_HI.GREEN_HI,
   F.STOP.METER_YELLOW_LO.YELLOW_LO,
   F.STOP.METER_YELLOW_HI.YELLOW_HI,
   F.STOP.METER_RED.RED_CNT,
   F.STOP.BIND_SEL.RQ_IDX,
   F.STOP.BIND_DATA.METER,
   F.STOP.BIND_DATA.BOUND]

def ownStop3 : List Fld :=
  [F.STOP.RED_HOLD_CNT,
   F.STOP.PORT_CFG.BIF,
   F.STOP.PORT_CFG.QCAP,
   F.STOP.PORT_MODE.MODE,
   F.STOP.PORT_MODE.MODE_NOW,
   F.STOP.LCI_FC.XOFF_FREE,
   F.STOP.LCI_FC.XON_FREE,
   F.STOP.SPILL_CFG.P_AGE,
   F.STOP.LOCK_CFG.LOCK_MAX,
   F.STOP.LINK_CFG.ATOM_EMU,
   F.STOP.LINK_CFG.WATCH,
   F.STOP.LINK_STS.STATE,
   F.STOP.LINK_STS.HOLDING,
   F.STOP.LINK_STS.LOCKED,
   F.STOP.LINK_STS.LAST_RET,
   F.STOP.LINK_STS.XOFF,
   F.STOP.LINK_STS.NN,
   F.STOP.LINK_ID.CPL_ID,
   F.STOP.SPILL_Q.HOLD_Q,
   F.STOP.SPILL_Q.FLUSH_Q,
   F.STOP.SPILL_USE.HOLD_USED,
   F.STOP.SPILL_USE.FLUSH_USED,
   F.STOP.SPARE_CTL.CLAIM,
   F.STOP.SPARE_CTL.SOCKET,
   F.STOP.SPARE_CTL.FORCED,
   F.STOP.SPARE_CTL.GO,
   F.STOP.SPARE_CTL.CLAIM_RES,
   F.STOP.SPARE_CTL.PHASE,
   F.STOP.SOCKET_STS.SERVED_BY_SPARE,
   F.STOP.ING_REJ_CNT]

def ownStop4 : List Fld :=
  [F.STOP.LCI_OVR_CNT,
   F.STOP.LCI_PROTO_CNT,
   F.STOP.LINK_DOWN_CNT,
   F.STOP.PAUSE_CNT,
   F.STOP.WATCH_CNT,
   F.STOP.SPILL_FLIT_CNT,
   F.STOP.SPILL_FULL_CNT,
   F.STOP.DROP_CNT,
   F.STOP.LOCK_TO_CNT,
   F.STOP.LOCK_DEFER_CNT,
   F.STOP.ATOM_EMU_CNT,
   F.STOP.XC_POLICY.PIN_WAYS,
   F.STOP.XC_POLICY.REPL,
   F.STOP.XC_HIT_CNT,
   F.STOP.XC_MISS_CNT,
   F.STOP.XC_STALE_CNT,
   F.STOP.XC_FILL_STS.OUT,
   F.STOP.LINK_DOM.DOM,
   F.STOP.LINK_DOM.KIND,
   F.STOP.WIN_SEL.IDX,
   F.STOP.WIN_BASE_LO.BASE_LO,
   F.STOP.WIN_BASE_HI.BASE_HI,
   F.STOP.WIN_XBASE_LO.XBASE_LO,
   F.STOP.WIN_XBASE_HI.XBASE_HI,
   F.STOP.WIN_CTL.V,
   F.STOP.WIN_CTL.LINK,
   F.STOP.WIN_CTL.SIZE,
   F.STOP.WIN_CTL.FN,
   F.STOP.WIN_MISS_CNT,
   F.STOP.SRAM_CE_CNT]

def ownStop5 : List Fld :=
  [F.STOP.SRAM_UE_CNT,
   F.STOP.ISO_RM_CNT,
   F.STOP.ISO_FREE_CNT,
   F.STOP.ORDER_BREAK_CNT]

/-- The registers of the STOP page class beside the common header. -/
def ownStop : List Fld := ownStop0 ++ ownStop1 ++ ownStop2 ++ ownStop3 ++ ownStop4 ++ ownStop5

def ownRing0 : List Fld :=
  [F.RING.CE_CNT,
   F.RING.UE_CNT,
   F.RING.GUARD_CNT,
   F.RING.RING_CTL.CMD,
   F.RING.RING_CTL.FENCE_EN,
   F.RING.RING_STS.STATE,
   F.RING.RING_STS.READY,
   F.RING.RING_STS.SUSPECT,
   F.RING.RING_STS.CMD_RES,
   F.RING.FAIL_WIN,
   F.RING.FAIL_UE,
   F.RING.CAL_CTL.MIN_MARGIN,
   F.RING.CAL_STS.MARGIN0,
   F.RING.CAL_STS.MARGIN1,
   F.RING.CAL_STS.WORST0,
   F.RING.CAL_STS.WORST1,
   F.RING.TEST_LEN,
   F.RING.TEST_CTL.TEST_DIST,
   F.RING.TEST_CTL.TEST_GAP,
   F.RING.TEST_BERR,
   F.RING.TEST_SKIP,
   F.RING.ECHO_CYC.CYC0,
   F.RING.ECHO_CYC.CYC1]

/-- The registers of the RING page class beside the common header. -/
def ownRing : List Fld := ownRing0

def ownArb0 : List Fld :=
  [F.ARB.CLS_WT.LAT_WT,
   F.ARB.CLS_WT.BLK_WT,
   F.ARB.CLS_WT.CTL_LIM,
   F.ARB.SW_IDX,
   F.ARB.SW_DATA.SLICE_WT,
   F.ARB.RQ_SEL.RQ_IDX,
   F.ARB.RQ_SEL.CLR,
   F.ARB.RQ_STS.VALID,
   F.ARB.RQ_STS.OVF_GRANTS,
   F.ARB.RQ_STS.OVF_WAIT,
   F.ARB.RQ_STS.WAITING,
   F.ARB.RQ_GRANTS_LO.GRANTS_LO,
   F.ARB.RQ_GRANTS_HI.GRANTS_HI,
   F.ARB.RQ_WAIT_LO.WAIT_LO,
   F.ARB.RQ_WAIT_HI.WAIT_HI,
   F.ARB.RQ_LONGEST.LONGEST,
   F.ARB.NTH_GNT_CNT,
   F.ARB.WITHDRAW_CNT,
   F.ARB.ACK_SLOT_CNT,
   F.ARB.YELLOW_GNT_CNT,
   F.ARB.WAIT_MAX,
   F.ARB.WAIT_WHO,
   F.ARB.NTH_POS]

/-- The registers of the ARB page class beside the common header. -/
def ownArb : List Fld := ownArb0

def ownGate0 : List Fld :=
  [F.GATE.GATE_CFG.GUARD,
   F.GATE.GATE_CFG.TICK_CYC,
   F.GATE.LIST_SEL.LIST,
   F.GATE.LIST_CTL.LEN,
   F.GATE.LIST_CTL.IMMEDIATE,
   F.GATE.LIST_CTL.EN,
   F.GATE.LIST_START_LO.START_LO,
   F.GATE.LIST_START_HI.START_HI,
   F.GATE.ENT_SEL.ENTRY,
   F.GATE.ENT_DATA.DUR,
   F.GATE.ENT_DATA.OPEN,
   F.GATE.LIST_STS.READY,
   F.GATE.LIST_STS.PEND,
   F.GATE.LIST_STS.BANK,
   F.GATE.LIST_STS.POS,
   F.GATE.LIST_STS.SWAP_CNT,
   F.GATE.LIST_CYC.CYC,
   F.GATE.PORT_MAP.BIND,
   F.GATE.OVR_CNT,
   F.GATE.OVR_MAX,
   F.GATE.NOFIT_CNT]

/-- The registers of the GATE page class beside the common header. -/
def ownGate : List Fld := ownGate0

def ownMem0 : List Fld :=
  [F.MEM.CH_CTL.CMD,
   F.MEM.CH_CTL.RATE,
   F.MEM.CH_STS.STATE,
   F.MEM.CH_STS.CTRL_READY,
   F.MEM.CH_STS.CMD_RES,
   F.MEM.REBUILD_PTR.PTR,
   F.MEM.UE_WIN,
   F.MEM.UE_LIM,
   F.MEM.MAP_SPILL.ROWS,
   F.MEM.POOL_UNITS,
   F.MEM.FILL_POLICY.COPY_SEL,
   F.MEM.FILL_POLICY.FILL_TO,
   F.MEM.XLT_KEY.KEY,
   F.MEM.XLT_DATA.DATA,
   F.MEM.XLT_CMD.GO,
   F.MEM.XLT_STS.BUSY,
   F.MEM.XLT_STS.DONE,
   F.MEM.XLT_STS.RES,
   F.MEM.XLT_STS.ACKS,
   F.MEM.DR_ADDR_LO.ADDR_LO,
   F.MEM.DR_ADDR_HI.ADDR_HI,
   F.MEM.DR_CTL.GO,
   F.MEM.DR_STS.VALID,
   F.MEM.DR_STS.STATUS,
   F.MEM.DR_DATA.DATA,
   F.MEM.RECON_CNT,
   F.MEM.POIS_CNT,
   F.MEM.ROW_WAIT_CNT,
   F.MEM.FILL_RETRY_CNT,
   F.MEM.SIL_WPTR.WPTR]

def ownMem1 : List Fld :=
  [F.MEM.SIL_DONE.DONE,
   F.MEM.SIL_LOST.LOST,
   F.MEM.SIL_STG.STAGED,
   F.MEM.SIL_ST_SEL.IDX,
   F.MEM.SIL_ST_DATA.DATA]

/-- The registers of the MEM page class beside the common header. -/
def ownMem : List Fld := ownMem0 ++ ownMem1

def ownEng0 : List Fld :=
  [F.ENG.ENG_CTL.CMD,
   F.ENG.ENG_CTL.DEST,
   F.ENG.ENG_STS.STATE,
   F.ENG.ENG_STS.CMD_RES,
   F.ENG.ENG_STS.RESIDENT,
   F.ENG.ENG_STS.EXEC,
   F.ENG.BW_CAP,
   F.ENG.CHUNK,
   F.ENG.CTO,
   F.ENG.QSEL.QIDX,
   F.ENG.QC_CMD.OP,
   F.ENG.QC_CMD.QC_RES,
   F.ENG.QC_DATA.DATA,
   F.ENG.SW_IDX,
   F.ENG.SW_DATA.WEIGHT,
   F.ENG.SMP_CFG.CTR,
   F.ENG.SMP_CFG.EN,
   F.ENG.SMP_STS.VALID,
   F.ENG.SMP_STS.SKID,
   F.ENG.SMP_STS.CTR,
   F.ENG.SMP_REC.QUEUE,
   F.ENG.SMP_REC.INDEX,
   F.ENG.SMP_TICK_LO.TICK_LO,
   F.ENG.SMP_TICK_HI.TICK_HI,
   F.ENG.SMP_LOST_CNT,
   F.ENG.DESC_DONE_CNT,
   F.ENG.DESC_ERR_CNT,
   F.ENG.BAD_DESC_CNT,
   F.ENG.DB_OLD_CNT,
   F.ENG.DB_STALE_CNT]

def ownEng1 : List Fld :=
  [F.ENG.DB_STRAY_CNT,
   F.ENG.DESC_REJ_CNT]

/-- The registers of the ENG page class beside the common header. -/
def ownEng : List Fld := ownEng0 ++ ownEng1

def ownRepl0 : List Fld :=
  [F.REPL.GRP_SEL.GROUP,
   F.REPL.GRP_CTL.V,
   F.REPL.GRP_CTL.RID,
   F.REPL.GRP_MAP.MEMBERS,
   F.REPL.BC_SEL.DOM,
   F.REPL.BC_MAP.MEMBERS,
   F.REPL.FAN_STS.PENDING,
   F.REPL.COPY_CNT,
   F.REPL.SKIP_CNT]

/-- The registers of the REPL page class beside the common header. -/
def ownRepl : List Fld := ownRepl0

def ownSlice0 : List Fld :=
  [F.SLICE.T_STS.STATE,
   F.SLICE.T_STS.SGEN,
   F.SLICE.T_STS.CNT_VIS,
   F.SLICE.DOORBELL.TAIL,
   F.SLICE.DOORBELL.QOFF,
   F.SLICE.QINFO.QBASE,
   F.SLICE.QINFO.QCNT,
   F.SLICE.EVT_PEND.PEND,
   F.SLICE.EVT_CFG.EN,
   F.SLICE.EVT_CFG.ARMED,
   F.SLICE.MTR_SEL.METER,
   F.SLICE.MTR_STS.VALID,
   F.SLICE.MTR_STS.RED,
   F.SLICE.MTR_STS.GATE_WAIT,
   F.SLICE.MTR_STS.OWN,
   F.SLICE.MTR_TC.TC,
   F.SLICE.MTR_TP.TP,
   F.SLICE.CMD.OP,
   F.SLICE.MSTS.STATE,
   F.SLICE.MSTS.BUSY,
   F.SLICE.MSTS.RES,
   F.SLICE.MSTS.SGEN,
   F.SLICE.MSTS.TRACKER,
   F.SLICE.MSTS.TRACKED,
   F.SLICE.CTL.CNT_VIS,
   F.SLICE.CTL.FLUSH_AGE,
   F.SLICE.ACC_DOM.DOM,
   F.SLICE.ACC_Q.QBASE,
   F.SLICE.ACC_Q.QCNT,
   F.SLICE.ACC_M.MBASE]

def ownSlice1 : List Fld :=
  [F.SLICE.ACC_M.MCNT,
   F.SLICE.ACC_C.CBASE,
   F.SLICE.ACC_C.CCNT,
   F.SLICE.ACC_UFIRST.UNIT_FIRST,
   F.SLICE.ACC_UCNT.UNIT_CNT,
   F.SLICE.ACC_FLUSH.FLUSH_MIB,
   F.SLICE.ACC_EW.ENG_WT,
   F.SLICE.DRY_STS.PENDING,
   F.SLICE.DRY_STS.FLUSH_FULL,
   F.SLICE.DRY_STS.HELD,
   F.SLICE.DRY_TICKS,
   F.SLICE.FLUSH_USE,
   F.SLICE.STALE_CNT,
   F.SLICE.FRZ_TICK_LO.FRZ_LO,
   F.SLICE.FRZ_TICK_HI.FRZ_HI,
   F.SLICE.FRZ_TICK_HI.LATCHED,
   F.SLICE.TC_SEL.OFF,
   F.SLICE.TC_STS.VALID,
   F.SLICE.TC_STS.OWN,
   F.SLICE.TC_CNT_LO.CNT,
   F.SLICE.TC_CNT_HI.CNT,
   F.SLICE.TC_OVF.OVF,
   F.SLICE.TC_REC_K.K,
   F.SLICE.TC_REC_CLOSE_LO.CLOSE,
   F.SLICE.TC_REC_CLOSE_HI.CLOSE,
   F.SLICE.TC_REC_RX_LO.RX,
   F.SLICE.TC_REC_RX_HI.RX,
   F.SLICE.TC_REC_TX_LO.TX,
   F.SLICE.TC_REC_TX_HI.TX,
   F.SLICE.TC_REC_FLAGS.FLAGS]

/-- The registers of the SLICE page class beside the common header. -/
def ownSlice : List Fld := ownSlice0 ++ ownSlice1

def ownXb0 : List Fld :=
  [F.XB.XB_SEL.IDX,
   F.XB.XB_SEL.CLR,
   F.XB.XB_STS.VALID,
   F.XB.XB_STS.PRESENT,
   F.XB.XB_STS.KIND,
   F.XB.XB_STS.READY_A,
   F.XB.XB_STS.READY_B,
   F.XB.XB_STS.OCC_MAX,
   F.XB.XB_STS.LAT_Q,
   F.XB.RESYNC_CNT,
   F.XB.DROP_CNT,
   F.XB.OVF_CNT,
   F.XB.NRDY]

/-- The registers of the XB page class beside the common header. -/
def ownXb : List Fld := ownXb0

def ownPwr0 : List Fld :=
  [F.PWR.PS_CTL.TARGET,
   F.PWR.PS_CTL.WAKE_TO,
   F.PWR.PS_CTL.CLOSE_TO,
   F.PWR.PS_STS.STATE,
   F.PWR.PS_STS.PHASE,
   F.PWR.PS_STS.RES,
   F.PWR.PS_STS.STEP,
   F.PWR.WAKE_EN.DEMAND,
   F.PWR.WAKE_EN.SIGDET,
   F.PWR.WAKE_EN.SUPPLY,
   F.PWR.WAKE_EN.THERM,
   F.PWR.WAKE_EN.TIMER,
   F.PWR.WAKE_EN.MGR,
   F.PWR.WAKE_EN.PAIR,
   F.PWR.SIG_EN,
   F.PWR.SIG_THR.THR,
   F.PWR.SIG_FILT,
   F.PWR.CMP_SUP.SUP_THR,
   F.PWR.CMP_SUP.SUP_DIR,
   F.PWR.CMP_SUP.SUP_EN,
   F.PWR.CMP_THM.THM_THR,
   F.PWR.CMP_THM.THM_DIR,
   F.PWR.CMP_THM.THM_EN,
   F.PWR.WAKE_AT_LO.AT_LO,
   F.PWR.WAKE_AT_HI.AT_HI,
   F.PWR.LW_REC.CODE,
   F.PWR.LW_REC.VALID,
   F.PWR.LW_REC.FROM,
   F.PWR.LW_REC.CANCEL,
   F.PWR.LW_REC.CHAN]

def ownPwr1 : List Fld :=
  [F.PWR.LW_REC.THR,
   F.PWR.LW_TICK_LO.TICK_LO,
   F.PWR.LW_TICK_HI.TICK_HI,
   F.PWR.TR_STS.LSG_WAIT,
   F.PWR.TR_STS.TR_US,
   F.PWR.I_EST.I_RUN,
   F.PWR.I_EST.I_TRIM,
   F.PWR.I_EST.I_DOZE,
   F.PWR.WAKE_CNT,
   F.PWR.PWR_FAULT_CNT]

/-- The registers of the PWR page class beside the common header. -/
def ownPwr : List Fld := ownPwr0 ++ ownPwr1

def ownPmu0 : List Fld :=
  [F.PMU.SLOT_LO.COUNT_LO,
   F.PMU.SLOT_HI.COUNT_HI,
   F.PMU.SH_SLOT_LO.SH_COUNT,
   F.PMU.SH_SLOT_HI.SH_COUNT,
   F.PMU.SLOTS_LO.SLOTS,
   F.PMU.SLOTS_HI.SLOTS,
   F.PMU.UNSET,
   F.PMU.SH_SLOTS_LO.SH_SLOTS,
   F.PMU.SH_SLOTS_HI.SH_SLOTS,
   F.PMU.SH_UNSET,
   F.PMU.SLOT_OVF.OVF,
   F.PMU.SLOT_OVF.OVF_SLOTS,
   F.PMU.SMP_CFG.CTR,
   F.PMU.SMP_CFG.EN,
   F.PMU.SMP_STS.VALID,
   F.PMU.SMP_STS.SKID,
   F.PMU.SMP_STS.KIND,
   F.PMU.SMP_REC.RQ_IDX,
   F.PMU.SMP_TICK_LO.SMP_TICK,
   F.PMU.SMP_TICK_HI.SMP_TICK,
   F.PMU.SMP_LOST_CNT]

/-- The registers of the PMU page class beside the common header. -/
def ownPmu : List Fld := ownPmu0

def ownFi0 : List Fld :=
  [F.FI.FI_SEL.UNIT,
   F.FI.FI_CTL.ACTION,
   F.FI.FI_CTL.MODE,
   F.FI.FI_CTL.NBITS2,
   F.FI.FI_CTL.ARM,
   F.FI.FI_N.N,
   F.FI.FI_PROB.P,
   F.FI.FI_SEED.SEED,
   F.FI.FI_POS.POS0,
   F.FI.FI_POS.POS1,
   F.FI.FI_DLY.DLY,
   F.FI.FI_MATCH.OPC,
   F.FI.FI_MATCH.OPC_EN,
   F.FI.FI_MATCH.DST,
   F.FI.FI_MATCH.DST_EN,
   F.FI.FI_MATCH.CLASS,
   F.FI.FI_MATCH.CLS_EN,
   F.FI.FI_LIMIT.LIMIT,
   F.FI.FI_STS.PRESENT,
   F.FI.FI_STS.ARMED,
   F.FI.FI_STS.HOLDING,
   F.FI.FI_FIRED,
   F.FI.FI_HELD_LOST,
   F.FI.FI_ELIG]

/-- The registers of the FI page class beside the common header. -/
def ownFi : List Fld := ownFi0

def ownCtl0 : List Fld :=
  [F.CTL.CORE_STS.STATE_A,
   F.CTL.CORE_STS.STATE_B,
   F.CTL.CORE_STS.ACTIVE,
   F.CTL.CORE_STS.LDR_RES_A,
   F.CTL.CORE_STS.LDR_RES_B,
   F.CTL.CORE_CTL.RST_A,
   F.CTL.CORE_CTL.RST_B,
   F.CTL.CORE_CTL.HB_EN,
   F.CTL.CORE_CTL.HB_LIM,
   F.CTL.HO_CTL.GO,
   F.CTL.HO_CTL.AT_EN,
   F.CTL.HO_STS.PENDING,
   F.CTL.HO_STS.RES,
   F.CTL.HO_STS.HO_CNT,
   F.CTL.HO_AT_LO.AT_LO,
   F.CTL.HO_AT_HI.AT_HI,
   F.CTL.SVN_A,
   F.CTL.SVN_B,
   F.CTL.CTO,
   F.CTL.UPD_CTL.ALLOW_DOWN,
   F.CTL.CFG_PEND.PEND_A,
   F.CTL.CFG_PEND.PEND_B,
   F.CTL.VEP_ID]

/-- The registers of the CTL page class beside the common header. -/
def ownCtl : List Fld := ownCtl0

def ownMbox0 : List Fld :=
  [F.MBOX.MB_CTL.POST,
   F.MBOX.MB_CTL.LAST,
   F.MBOX.MB_CTL.CORE,
   F.MBOX.MB_CTL.RESTART,
   F.MBOX.MB_CTL.LEN,
   F.MBOX.MB_OFF.OFF,
   F.MBOX.MB_STS.OWNER,
   F.MBOX.MB_STS.RES,
   F.MBOX.MB_STS.POSTS,
   F.MBOX.MB_DATA.DATA]

/-- The registers of the MBOX page class beside the common header. -/
def ownMbox : List Fld := ownMbox0

def ownPair0 : List Fld :=
  [F.PAIR.PAIR_CTL.EN,
   F.PAIR.PAIR_CTL.MIRROR,
   F.PAIR.PAIR_CTL.PRIMARY,
   F.PAIR.PAIR_CTL.AUTO,
   F.PAIR.PAIR_CTL.AUTO_RESYNC,
   F.PAIR.PAIR_CFG.HB_LIM,
   F.PAIR.PAIR_CFG.ACK_TO,
   F.PAIR.PAIR_CFG.CKPT_PER,
   F.PAIR.HOME.BASE,
   F.PAIR.HOME.CNT,
   F.PAIR.SHD.BASE,
   F.PAIR.SHD.CNT,
   F.PAIR.PAIR_STS.LINK,
   F.PAIR.PAIR_STS.PEER,
   F.PAIR.PAIR_STS.MSTATE,
   F.PAIR.PAIR_STS.PARTNER_FAIL,
   F.PAIR.MIR_PEND.PEND,
   F.PAIR.MARK,
   F.PAIR.TKO_CTL.GO,
   F.PAIR.TKO_CTL.FORCE,
   F.PAIR.TKO_STS.BUSY,
   F.PAIR.TKO_STS.RES,
   F.PAIR.TKO_STS.FAILED,
   F.PAIR.TKO_STS.DONE,
   F.PAIR.RSYNC.GO,
   F.PAIR.PWAKE.SECTORS,
   F.PAIR.EG_MAP.LOCAL,
   F.PAIR.EG_MAP.V,
   F.PAIR.MIR_TX_CNT,
   F.PAIR.MIR_RX_CNT]

def ownPair1 : List Fld :=
  [F.PAIR.REPLAY_CNT,
   F.PAIR.DUP_CNT,
   F.PAIR.CRC_ERR_CNT,
   F.PAIR.NOMAP_CNT,
   F.PAIR.REFUSE_CNT]

/-- The registers of the PAIR page class beside the common header. -/
def ownPair : List Fld := ownPair0 ++ ownPair1

/-- Every field of a page class (Tables 20-3 and 20-8). -/
def fieldsOf : Cls → List Fld
  | .glb => hdrFields .glb ++ ownGlb
  | .tick => hdrFields .tick ++ ownTick
  | .ring => hdrFields .ring ++ ownRing ++ cbFields .ring
  | .stop => hdrFields .stop ++ ownStop
  | .arb => hdrFields .arb ++ ownArb
  | .gate => hdrFields .gate ++ ownGate
  | .pmu => hdrFields .pmu ++ ownPmu ++ cbFields .pmu
  | .eng => hdrFields .eng ++ ownEng ++ cbFields .eng
  | .mem => hdrFields .mem ++ ownMem
  | .repl => hdrFields .repl ++ ownRepl
  | .pair => hdrFields .pair ++ ownPair
  | .pwr => hdrFields .pwr ++ ownPwr ++ cbFields .pwr
  | .xb => hdrFields .xb ++ ownXb
  | .fi => hdrFields .fi ++ ownFi
  | .ctl => hdrFields .ctl ++ ownCtl
  | .mbox => hdrFields .mbox ++ ownMbox
  | .slice => hdrFields .slice ++ ownSlice

/-- Reset values that depend on the element or the page (Tables 4-6, 5-5, 11-13): RING_MAP entry `e` is `e mod 9`,
ROUTE[d].PHYS is `d`, POOL_CLS by class, QMAP_DATA by queue; every other field has one value. -/
def Fld.resetAt (f : Fld) (e sel : Nat) : Nat :=
  if f.cls = .stop ∧ f.off = 0x188 then e % 9
  else if f.cls = .stop ∧ f.off = 0x200 ∧ f.lo = 0 then e
  else if f.cls = .stop ∧ f.off = 0x304 ∧ f.lo = 0 then [64, 256, 256, 0].getD e 0
  else if f.cls = .stop ∧ f.off = 0x304 ∧ f.lo = 16 then [256, 1536, 1536, 512].getD e 0
  else if f.cls = .glb ∧ f.off = 0x184 then sel / 8192
  else f.rst

/-- Number of a page: its class code and instance. -/
def pageNo (c : Cls) (inst : Nat) : Nat := c.code * 4096 + inst % 4096

/-- Number of elements of a field. -/
def Fld.count (f : Fld) : Nat := f.n * f.m

/-- Offset of the register that holds element `e`. -/
def Fld.offAt (f : Fld) (e : Nat) : Nat := f.off + f.step * (e / f.m)

/-- Lowest bit of element `e`. -/
def Fld.loAt (f : Fld) (e : Nat) : Nat := f.lo + f.fstep * (e % f.m)

/-- The key under which the register file holds element `e` of a field of page instance `inst`, in bank `bank` for a
WE field, at select index `sel` (registers reached through a select field hold one value per index, R533). -/
def Fld.key (f : Fld) (inst e bank sel : Nat) : Nat :=
  (((pageNo f.cls inst * 1024 + f.offAt e / 4) * 32 + f.loAt e) * 4 + (if f.acc = .we then 1 + bank % 2 else 0)) * 65536
    + sel % 65536

/-- The page number that a key belongs to. -/
def keyPage (k : Nat) : Nat := k / 65536 / 4 / 32 / 1024
/-- The register offset of a key. -/
def keyOff (k : Nat) : Nat := k / 65536 / 4 / 32 % 1024 * 4
/-- 0 for a field without banks, else 1 + the bank of a key. -/
def keyBank (k : Nat) : Nat := k / 65536 % 4
/-- The select index of a key. -/
def keySel (k : Nat) : Nat := k % 65536
/-- The same key in bank `b`. -/
def keyInBank (k b : Nat) : Nat := (k / 65536 / 4 * 4 + 1 + b) * 65536 + k % 65536

end Sys2Proof.Machine
end

