-- ==== Sys2Proof/Machine/State.lean ====
section
/-! DEFINITION. The state of the KB60/9 block as plain data, grouped by chapter, and the state right after cold
reset. -/

namespace Sys2Proof.Machine

/-- Why the block stops. It has no constructor: the spec lets no command stop the block, so no command can fault. -/
inductive Fault
  deriving DecidableEq, Repr

/-- Why a command has no meaning. -/
inductive Refusal where
  /-- The command's meaning is not written. Raised by an arm of `exec` alone, and at present by none. Safe. -/
  | notModelled (mnemonic : String)
  deriving DecidableEq, Repr

/-! ### Tick and epochs (02_tick_and_epochs) -/

/-- A WE write that its page has not yet acknowledged (R51, R533). -/
structure WeOut where
  id : Nat
  page : Nat
  off : Nat
  path : Origin
  list : Nat := 0                  -- the gate list written (R221)
  deriving DecidableEq, Repr

/-- The tick generator and what each node knows of the tick (R32–R53). -/
structure TickSt where
  count : Nat := 0                 -- tick count of record, modulo 2^48
  calBusy : Bool := false          -- calibration of the maintenance ring in progress (R33)
  stopped : Bool := false          -- generator stopped by reference loss with HOLD_EN = 0 (R38)
  nodeCount : Tbl Nat := []        -- local copy of the count at each node (R41)
  nodeBank : Tbl Nat := []         -- bank select at each node
  nodeMark : Tbl Nat := []         -- 1 + mark bits taken for the next local boundary; 0 when none
  nodeSlip : Tbl Nat := []         -- boundaries missed at each node since its last one (R37)
  nodeDelay : Tbl Nat := []        -- measured delay by node*2+direction (R33)
  weNext : Nat := 0                -- number of the next WE write
  weOut : List WeOut := []         -- WE writes not yet acknowledged
  swapWait : List Nat := []        -- the WE writes a PENDING swap waits for (R51)
  censusTick : Nat := 0            -- boundary whose census is being gathered (R50)
  censusSeen : Tbl Nat := []       -- 1 + OLD_EP by stop, for that boundary
  syncSeen : BitVec 64 := 0        -- owners whose BANK_SYNC copy is done (R535)
  syncNew : List Nat := []         -- register keys written since GO, which the copy leaves as written (R535)
  deriving DecidableEq, Repr

/-! ### The maintenance ring and register access (05_reservation) -/

/-- Where the copy of a message that goes in one direction of the maintenance ring is (R127, R128): it waits at its sender,
a slot carries it and is at a node, it is in node 60's bypass register, or it has left the ring. -/
inductive Leg where
  | wait | slot (node : Nat) | bypass | done
  deriving DecidableEq, Repr

/-- A message on the maintenance ring: the nodes that have still to take it, whether it is a broadcast, its copies in the
ascending and the descending direction, and the nodes that a copy has reached. -/
structure Flight where
  msg : Msg
  left : BitVec 64
  all : Bool := false
  up : Leg := .wait
  down : Leg := .wait
  reach : BitVec 64 := 0
  deriving DecidableEq, Repr

/-- One half of a register write held at its owner (R132). -/
structure Half where
  owner : Nat
  sender : Nat
  tag : Nat
  isAddr : Bool
  body : Nat
  since : Nat := 0                 -- clock cycle of its arrival
  deriving DecidableEq, Repr

/-- A register access that its sender is waiting for (R132, R525). -/
structure AccOut where
  sender : Nat
  tag : Nat
  origin : Origin
  off : Nat
  write : Bool
  deriving DecidableEq, Repr

/-- What the port that asked for an access was last given (R549): tag, data, error response. -/
structure AccRsp where
  tag : Nat
  data : Nat
  err : Bool
  deriving DecidableEq, Repr

structure NetSt where
  flight : List Flight := []
  halves : List Half := []
  accOut : List AccOut := []
  rsp : Tbl (Option AccRsp) := []  -- the last response given, by sender: 60 the management port
  hold : Tbl Nat := []             -- holding copies of R11, by page*1024 + offset/4 of the upper register
  drain : Tbl Nat := []            -- 1 + number of the first WE write after the DRAIN_REQ, by page (R527)
  dead : Tbl Nat := []             -- 1 for node*2+direction whose incoming segment is out (R460)
  deriving DecidableEq, Repr

/-! ### Counters and the sillage (16_counters_and_sillage) -/

/-- A sector's partial of a counter set (R440, R441): the counters of Table 16-5, their OVF bits, the shadows, and two
window accumulators, each with 1 + the window that it counts. -/
structure CPart where
  cnt : List Nat := []
  ovf : Nat := 0
  sh : List Nat := []
  k0 : Nat := 0
  rx0 : Nat := 0
  tx0 : Nat := 0
  k1 : Nat := 0
  rx1 : Nat := 0
  tx1 : Nat := 0
  deriving DecidableEq, Repr

/-- The record of a window (R441): flags bit 0 VALID, 1 HOLD, 2 SLIP, 3 MOVED, 4 SPAN, 5 FRESH. -/
structure WinRec where
  k : Nat := 0
  close : Nat := 0
  rx : Nat := 0
  tx : Nat := 0
  flags : Nat := 0
  deriving DecidableEq, Repr

/-- What is kept of a counter set as a whole: windows that were moved or began before the set was valid, the window
last read, the records missed, a record loaded from a flacon (R441, R445). -/
structure CSet where
  moved : Nat := 0                 -- 1 + window
  fresh : Nat := 0                 -- 1 + window
  readK : Nat := 0                 -- 1 + window
  missed : Nat := 0
  loaded : Option WinRec := none
  deriving DecidableEq, Repr

/-- A fragment assembly (R449, R470): fragments seen, one bit each, and their bits. -/
structure FragBuf where
  seen : Nat := 0
  data : Nat := 0
  deriving DecidableEq, Repr

/-- A staged sillage entry: SEQ, its 32 bytes, the tick of staging; 0 staged, 1 in a line write, 2 acknowledged; the
number of its line write (R449). -/
structure SilEnt where
  seq : Nat
  data : Nat
  tick : Nat
  st : Nat := 0
  line : Nat := 0
  deriving DecidableEq, Repr

/-- A status item: its last sample, CSEQ, and what the sideband was last given (R446). -/
structure SbItem where
  val : Nat := 0
  seq : Nat := 0
  out : Nat := 0
  outSeq : Nat := 0
  deriving DecidableEq, Repr

structure CntSt where
  silPart : Tbl FragBuf := []      -- entries being assembled, by node*128+ENUM
  silStg : Tbl (List SilEnt) := [] -- staging, oldest first, by writer
  silOver : Tbl Nat := []          -- entries discarded at full staging and not yet told, by writer
  sb : Tbl SbItem := []            -- status items
  sbSel : Nat := 0                 -- SB_SEL input
  cpart : Tbl CPart := []          -- by set*8+sector
  cset : Tbl CSet := []            -- by set
  wsCur : Tbl WinRec := []         -- the open window of a schedule: k is 1 + K, with its flags (R441)
  wsLast : Tbl WinRec := []        -- the window closed last, k is 1 + K
  erqNum : Tbl Nat := []           -- next RNUM of each reporter (R470)
  erqPart : Tbl FragBuf := []      -- records being assembled, by reporter*64+RNUM
  erq : List Nat := []             -- error records queued, oldest first, 256 bits each
  freezeQ : List (Option Nat) := [] -- armed freezes, first armed first: none counter, some slice migration (R432)
  latchAt : Nat := 0               -- 1 + count of the boundary that latches
  latchKind : Nat := 0             -- 0 snapshot, 1 counter freeze, 2 migration freeze
  latchSlice : Nat := 0            -- slice of that migration freeze
  latched : Tbl Nat := []          -- the latch last taken, as latchAt, by node
  relAt : Nat := 0                 -- 1 + count of the boundary that ends the counter-freeze hold (R431)
  relDone : Tbl Nat := []          -- the release last taken, as relAt, by node
  loHold : Tbl Nat := []           -- CNT_LO writes held until CNT_HI, by block key*8+counter (R428)
  silLast : Tbl Nat := []          -- 1 + tick of the last entry, by node*256+code (R450)
  silSupp : Tbl Nat := []          -- suppressed entries, by node*256+code
  smpEng : Tbl Nat := []           -- 1 + retirements since the overflow + 8*(one of them made it) + 16*its cycle, by engine (R329)
  smpArm : Tbl Nat := []           -- 1 + grants decided since the overflow + 8*its slot, by stop (R437)
  silEnum : Tbl Nat := []          -- next ENUM of each reporter (R448)
  edge : Tbl Nat := []             -- 1: an occupancy event was not 0 in the last cycle, by block key*8+counter (R425)
  deriving DecidableEq, Repr

/-! ### Ring stations and rings (04_rings_and_routes), fault injection units (17_faults_and_containment) -/

/-- A slot on a link: the 1 384 wires of R23 and the injection tag wire of R478. -/
structure Slot where
  wires : BitVec 1384
  inj : Bool
  deriving DecidableEq, Repr

/-- A flit in an injection register and the cycles it has waited (R91). -/
structure InjReg where
  flit : Flit
  wait : Nat
  deriving DecidableEq, Repr

/-- A flit in the crossing FIFO of an ejection lane (R89). -/
structure Ejected where
  flit : Flit
  inj : Bool
  link : Nat := 0                  -- for the stop's own path: what the source hands over (R274)
  rid : Nat := 0
  deriving DecidableEq, Repr

/-- What a fault injection unit keeps beside its registers (R476, R477): items seen and fired since arming, the held
slot, cycles or ticks held, and whether a later item has passed. -/
structure FiUnit where
  seen : Nat := 0
  fired : Nat := 0
  held : Option Slot := none
  age : Nat := 0
  passed : Bool := false
  deriving DecidableEq, Repr

/-- A removal-counting window of a ring (R107). -/
structure RingWin where
  start : Nat := 0
  len : Nat := 0
  cnt : Nat := 0
  fired : Bool := false
  deriving DecidableEq, Repr

/-- A test run of a ring (R111): whether it has started, its first boundary, its length and whether it saw an error. -/
structure RingTest where
  waiting : Bool := false
  running : Bool := false
  start : Nat := 0
  len : Nat := 0
  err : Bool := false
  deriving DecidableEq, Repr

structure SpineSt where
  linkQ : Tbl (List Slot) := []    -- flits on the link driven by a station, oldest first, by lane key
  lastOut : Tbl Nat := []          -- wires last driven on the link, by lane key (R64)
  inj : Tbl (Option InjReg) := []  -- injection registers, by lane key (R90)
  xfer : Tbl (List Flit) := []     -- crossing FIFO towards the injection register, by lane key
  maintQ : Tbl (List Flit) := []   -- MAINT flits waiting for the injection register, by lane key
  eject : Tbl (List Ejected) := [] -- ejection lanes by stop*32+lane; lane 18 is the stop's own path (R118)
  missed : Tbl (List Flit) := []   -- released flits whose miss indication is under way, by lane key (R92)
  missRun : Tbl Nat := []          -- consecutive misses of a flit, by (src*64+dst)*65536+seq (R93)
  maintSeq : Tbl Nat := []         -- pattern counter by lane key (R113)
  maintGap : Tbl Nat := []         -- cycles since the last PATTERN flit, by lane key (R111)
  echoed : Tbl Nat := []           -- 1: the ECHO of this calibration is sent, by lane key (R110)
  echoAge : Tbl Nat := []          -- 1 + FCLK cycles of the sender since its ECHO was injected, by lane key (Table 4-5)
  eff : Tbl Nat := []              -- 1 + value in force of a field of R115 written since the boundary, by ring*4+field
  fence : Tbl Nat := []            -- 1 + target boundary of a fence noticed, by node*16+ring (R108)
  fenced : Tbl Nat := []           -- 1 while the ring is fenced at the node, by node*16+ring
  win : Tbl RingWin := []          -- removal window by ring (R107)
  test : Tbl RingTest := []        -- test run by ring (R111)
  fi : Tbl FiUnit := []            -- fault injection units by page*2048+unit (R474)
  deriving DecidableEq, Repr

/-! ### Reserve-then-send (05_reservation) -/

/-- An outstanding RES_REQ (R133, R135). -/
structure ReqOut where
  rid : Nat
  count : Nat
  np : Bool
  g : Nat
  sent : Nat                       -- cycle of the stop's clock at the send
  deriving DecidableEq, Repr

/-- What a source holds for one destination and class (R119–R138). -/
structure Credit where
  f : Nat := 2
  p : Nat := 0
  a : Nat := 0
  lastCum : Nat := 0
  rid : Nat := 255                 -- last RID used, so that the first is 0
  out : Option ReqOut := none
  deriving DecidableEq, Repr

/-- What a destination counts for one source and class (R122, R136). -/
structure Charge where
  gp : Nat := 0
  ga : Nat := 0
  fo : Nat := 0
  cum : Nat := 0
  lastRid : Nat := 0               -- 1 + last RID received
  pend : Bool := false
  gCount : Nat := 0
  gNp : Bool := false
  deriving DecidableEq, Repr

/-- A request in a class's pending queue (R136). -/
structure PendReq where
  src : Nat
  count : Nat
  np : Bool
  rid : Nat
  deriving DecidableEq, Repr

structure ResvSt where
  credit : Tbl Credit := []        -- by (source*64+destination)*4+class
  charge : Tbl Charge := []        -- by (destination*64+source)*4+class
  pendQ : Tbl (List PendReq) := [] -- by destination*4+class
  rr : Tbl Nat := []               -- class granted last, by destination (R137)
  closed : Tbl Nat := []           -- 1: the source has marked the destination closed, by source*64+destination
  recalls : Tbl Nat := []           -- 1: SURRENDER still owed to that destination
  unsync : Tbl Nat := []           -- 1: the source awaits a CREDIT with SYNC, by source*64+destination (R412)
  surr : Tbl Nat := []             -- mask of sources whose LAST surrender has arrived, by destination
  deriving DecidableEq, Repr

/-! ### Ordering, delivery and completion (06_ordering_and_completion), the stop arbiter (07_stop_arbiter) -/

/-- A formed transaction waiting at its source: the flits not yet granted, and the kinds of credit (0 floor, 1 posted,
2 any) that the first of them hold (R120). -/
structure FTxn where
  rq : Nat                         -- requester index CLASS*4096+SLICE (R183)
  flits : List Flit
  cred : List Nat := []
  ldst : Nat := 0                  -- logical destination (R100)
  link : Nat := 0                  -- egress link at the destination
  numbered : Bool := false         -- sequence numbers assigned at the first grant (R155)
  rid : Nat := 0                   -- EG_RID handed to the egress (R274)
  rsp : Bool := false
  reqRing : Option Nat := none     -- ring of the request a response answers (R98)
  colour : Nat := 3                -- 0 green, 1 yellow, 2 red, 3 not yet coloured (R209)
  wake : Nat := 0                  -- wake tick of a red head (R215)
  stamp : Nat := 0                 -- tick of formation
  own : Bool := false              -- the fabric's own work (R74)
  retWait : Bool := false          -- counted in RET_FULL_CNT (R162)
  colAt : Nat := 0                 -- 1 + tick of the last colouring (R216)
  noFit : Bool := false            -- has waited for a later window (R222)
  held1 : Bool := false            -- met a disabled route entry (R100)
  job : Nat := 0                   -- the engine's or command's own number of the write (R317)
  deriving DecidableEq, Repr

/-- What a tag answers to (R170, R280, R260, R254, R314). -/
inductive TagUse where
  | tlp | fill (key : Nat) | bindFill (idx : Nat) | emu (n : Nat) | spill (n : Nat) | readback (seq : Nat)
  | desc (q : Nat) | chunk (n : Nat) | flacon (n : Nat) | rowRead (job acc ch : Nat) | pair (n : Nat) | own
  deriving DecidableEq, Repr

/-- Admitted work that is still to be formed into flits: it waits for a tag, response entries, its route or its queue
(R100, R139, R237, R347). `lane` groups requests that stay in order: 3*link+part for a receive part (part 0 P, 1 NP,
2 CPL), 15 for the stop's own work, above 15 the reads or the writes of one descriptor (R314). -/
structure FormReq where
  hdr : Flit
  chunks : List Data := []
  ldst : Nat := 0
  link : Nat := 0
  rid : Nat := 0
  lane : Nat := 15
  reqLink : Nat := 0
  pciTag : Nat := 0
  reqId : Nat := 0
  use : TagUse := .own
  left : Nat := 0                  -- bytes that the request draws
  reqRing : Option Nat := none
  held1 : Bool := false            -- met a disabled route entry (R100)
  waited : Bool := false           -- waited for response entries (R139)
  job : Nat := 0
  rx : Option (BitVec 256 × TlpHead) := none -- of an admitted TLP: its header as received, its fields (R240)
  inj : Bool := false              -- it carries the injection tag (R478)
  frees : List (Nat × Nat × Nat) := [] -- ingress entries freed as it is formed: source, class, charge (R251)
  deriving DecidableEq, Repr

/-- A burst granted and not yet wholly injected (R185): what it is (0 a requester's, 1 a replay, 2 a re-presentation, 3
an ACK flit), its flits and what was fixed at the grant. -/
structure Burst where
  kind : Nat
  rq : Nat
  flits : List Flit
  cred : List Nat := []
  ldst : Nat := 0
  link : Nat := 0
  rid : Nat := 0
  rsp : Bool := false
  reqRing : Option Nat := none
  ring : Nat
  dir : Nat
  self : Bool := false             -- to the stop itself (R118)
  green : Bool := true
  nth : Bool := false
  first : Bool := true             -- the first beat is still to come
  g : Nat
  gated : Option Nat := none       -- gate list of a transaction that begins with this burst
  job : Nat := 0
  deriving DecidableEq, Repr

/-- A retained copy (R161). -/
structure Copy where
  flit : Flit
  g : Nat
  cred : Nat
  link : Nat
  rid : Nat := 0
  ldst : Nat := 0
  rsp : Bool := false
  reqRing : Option Nat := none
  ovf : Bool := false              -- in the overflow area (R162)
  slot : Nat := 0                  -- its overflow slot
  due : Nat := 0                   -- 1 replay due, 2 re-presentation due, 3 and 4 read-back for the one or the other under way
  misses : Nat := 0                -- slot-miss count (R93)
  job : Nat := 0
  deriving DecidableEq, Repr

/-- A flit that has taken its entry and waits at the in-order point, with its charge (0 floor, 1 posted, 2 any, 3
response entry) and the ring it came on. -/
structure Landed where
  flit : Flit
  charge : Nat
  ring : Nat
  link : Nat
  rid : Nat := 0
  released : Bool := false
  own : Bool := false              -- a completion for the stop's own read, at a port stop
  num : Nat := 0                   -- for a completion, the number of its request
  drop : Bool := false             -- landed for a link that drops its traffic and discarded (R256)
  deriving DecidableEq, Repr

/-- An entry of an egress queue (R158). -/
structure Egr where
  flit : Flit
  charge : Nat
  ring : Nat
  stamp : Nat
  tick : Nat                       -- tick of its release
  rid : Nat := 0
  synth : Bool := false
  num : Nat := 0                   -- for a completion, the number of its request
  deriving DecidableEq, Repr

/-- A tag record (R170). States: 0 IDLE, 1 OPEN, 2 HELD, 3 EXPIRING, 4 EXPIRED (Table 6-3). -/
structure TagRec where
  st : Nat := 0
  pciTag : Nat := 0
  reqId : Nat := 0
  slice : Nat := 0
  sgen : Nat := 0
  egStop : Nat := 0
  egLink : Nat := 0
  link : Nat := 0                  -- the requester's link
  left : Nat := 0                  -- bytes outstanding
  entries : Nat := 0               -- response entries reserved
  taken : Nat := 0                 -- entries taken by landing flits
  busy : Nat := 0                  -- entries that hold a flit
  o : Nat := 0
  deadline : Nat := 0
  remain : Nat := 0
  owes : Nat := 0                  -- 1 + STATUS of a synthetic CPL still owed
  expAt : Nat := 0                 -- boundary at which it became EXPIRED
  hdr : Option Flit := none        -- the request's header
  use : TagUse := .tlp
  num : Nat := 0                   -- number of the request that holds the tag (the model's own)
  deriving DecidableEq, Repr

/-- A completer-side record (R175). -/
structure CplRec where
  outTag : Nat
  link : Nat
  src : Nat
  tag : Nat
  slice : Nat
  sgen : Nat
  ring : Nat
  age : Nat
  hdr : Flit
  deriving DecidableEq, Repr

/-- An entry of a link's posted-write history (R178). -/
structure PostHist where
  tick : Nat
  slice : Nat
  sgen : Nat
  sgid : Nat
  addr : Nat
  deriving DecidableEq, Repr

/-- A read of the stop's own that has ended: what it was for, the request, the data flits and the status. -/
structure RdDone where
  use : TagUse
  hdr : Option Flit
  flits : List Flit
  status : Nat
  synth : Bool := false            -- the fabric's own answer (SYNTH = 1), or none at all
  deriving DecidableEq, Repr

structure OrdSt where
  ret : Tbl (List Copy) := []      -- retained copies by stop, oldest first (R161)
  nextSeq : Tbl Nat := []          -- next number of the pair source*64+destination (R75)
  low : Tbl Nat := []              -- lowest number not landed, by destination*64+source (R167)
  seen : Tbl Nat := []             -- 1 for a landed number, by (destination*64+source)*65536+seq
  wait : Tbl (List Landed) := []   -- landed and not yet released, by destination*64+source (R153)
  acks : Tbl (List Nat) := []      -- pending acknowledgements, by destination*64+source (R164)
  ackQ : Tbl (List Flit) := []     -- ACK flits formed and not yet granted, by stop
  egr : Tbl (List Egr) := []       -- egress queues by (stop*8+egress)*3+queue: 0 P, 1 NP, 2 CPL (R158)
  stamp : Tbl Nat := []            -- next release stamp by stop*8+egress
  tags : Tbl TagRec := []          -- by stop*8192+tag (R170)
  recs : Tbl (List CplRec) := []   -- completer-side records by stop (R175)
  outTag : Tbl Nat := []           -- next outgoing PCI Express tag by stop*4+link
  hist : Tbl (List PostHist) := [] -- posted-write history by stop*4+link, newest first
  formQ : Tbl (List FormReq) := [] -- admitted work not yet formed, by stop
  rdNext : Nat := 0                -- number of the latest request that opened a tag (the model's own)
  rdUse : Tbl (Option (TagUse × Option Flit)) := [] -- a stop's own reads that have not ended, by number*64+stop
  rdData : Tbl (List Flit) := []   -- data delivered for them, by the same key
  pois : Tbl Nat := []             -- 1: a flit delivered of the transaction had POIS = 1, by (stop*64+source)*65536+first number
  rdDone : Tbl (List RdDone) := [] -- ended reads of the stop's own, oldest first, by stop
  tgt : Tbl Nat := []              -- target state at a requester: 0 NORMAL, 1 HELD, 2 DROPPED, by stop*256+target*4+link (R249)
  gen : Tbl Nat := []              -- generation a stop uses for a slice, by stop*4096+slice (R347)
  adm : Tbl Nat := []              -- admission state: 0 CLOSED, 1 OPEN, 2 ABORTED, by stop*4096+slice (R347)
  rejAt : Tbl Nat := []            -- 1 + tick of the last POSTED_REJECT record, by stop*4+link (R471)
  rejSupp : Tbl Nat := []          -- POSTED_REJECT records suppressed, by stop*4+link
  deriving DecidableEq, Repr

/-- A slot whose flit crossed and which is not settled (R435): class, pair and number of the flit, ring direction. -/
structure SlotRec where
  cls : Nat
  dst : Nat
  seq : Nat
  lane : Nat
  deriving DecidableEq, Repr

structure ArbSt where
  queue : Tbl (List FTxn) := []    -- formed transactions by stop, in the order of forming
  burst : Tbl (Option Burst) := [] -- the burst in progress, by stop (R185)
  clsAct : Tbl Nat := []           -- 1 while LAT or BLK had an eligible requester in the last slot, by stop*4+class
  waitCnt : Tbl Nat := []          -- cycles counted in the wait in progress, by stop*16384+requester
  credit : Tbl Nat := []           -- bridge credits in use, by lane key (R184)
  vclass : Tbl Nat := []           -- virtual time of LAT and BLK, by stop*4+class (R191)
  vreq : Tbl Nat := []             -- virtual time by stop*16384+requester
  active : Tbl Nat := []           -- 1 since the requester was eligible, until its queue is empty, by stop*16384+requester
  waitFrom : Tbl Nat := []         -- 1 + slot in which the wait began, by stop*16384+requester (R193)
  grants : Tbl Nat := []           -- GRANTS by stop*16384+requester (R200)
  waits : Tbl Nat := []            -- WAIT
  longest : Tbl Nat := []          -- LONGEST
  ovf : Tbl Nat := []              -- sticky OVF bits: 1 GRANTS, 2 WAIT
  ctlUsed : Tbl Nat := []          -- CTL flits granted in the frame, by stop (R190)
  lastCls : Tbl Nat := []          -- class of the most recent grant, by stop (R434)
  maxWho : Tbl Nat := []           -- 1 + requester of the longest wait of WAIT_MAX since its last read, by stop
  unset : Tbl (List SlotRec) := [] -- slots that crossed and are not settled, by stop (R435)
  clk : Tbl Nat := []              -- injection slots of a stop so far (R182)
  tickAt : Tbl Nat := []           -- that count at the stop's latest boundary
  decided : Tbl Nat := []          -- 1: the next decision is taken in the slot just used (R186, R198)
  deriving DecidableEq, Repr

/-! ### Meters and gates (08_meters_credits_gates) -/

/-- A meter record (R210, R211): buckets in bytes, the tick of the last accrual, the rates last applied, the counts. -/
structure Meter where
  tc : Nat := 0
  tp : Nat := 0
  last : Nat := 0
  cir : Nat := 131071
  pir : Nat := 131071
  cbs : Nat := 16777216
  pbs : Nat := 16777216
  green : Nat := 0
  yellow : Nat := 0
  red : Nat := 0
  ovfG : Bool := false
  ovfY : Bool := false
  deriving DecidableEq, Repr

structure MtrSt where
  mtr : Tbl Meter := []            -- meter records by 2048*sector+meter (R203)
  bind : Tbl Nat := []             -- binding table: 1 + meter, by sector*16384+requester (R204)
  beyond : Tbl Nat := []           -- slots used after the close by a transaction under way, by stop*16384+requester (R224)
  gate : Tbl Nat := []             -- 1 + list of a gated transaction under way, + 8 once its class has closed, by the same key
  deriving DecidableEq, Repr

/-! ### Power (15_power_sectors) -/

structure PwrSt where
  cap : Tbl Nat := []              -- injection cap of a stop (R417); 16 until the governor sends one
  ball : Tbl Nat := []             -- ballast level of a stop
  ballPos : Tbl Nat := []          -- place of the next slot in its 16 FCLK cycles, by lane key (R417)
  hist : Tbl Nat := []             -- bit i: a flit crossed i+1 slots ago, by stop
  demand : Tbl Nat := []           -- 1: the cap has refused a slot in this interval, by stop
  used : Tbl Nat := []             -- flits that crossed in this interval, by stop (R415)
  slots : Tbl Nat := []            -- injection slots in this interval, by stop
  closeReq : Tbl Nat := []         -- 1 + COUNT[15:0] of the boundary at which the stop begins to close, by stop (R403)
  closeAt : Tbl Nat := []          -- 1 + count of the boundary at which the close began, by sector
  tgt : Tbl Nat := []              -- state that the transition under way leads to, by sector
  empty : Tbl Nat := []            -- stops reported empty for one boundary, and its COUNT[15:0]*256, by sector (R404)
  latch : Tbl Nat := []            -- 1 + latched wake: code + 8*chan + 512*thr + 32768*target, by sector (R407)
  pendTgt : Tbl Nat := []          -- 1 + TARGET written during a transition, by sector (Table 15-7)
  svokLow : Tbl Nat := []          -- 1 while SVOK is deasserted, by sector
  phaseAt : Tbl Nat := []          -- 1 + interval of the last phase, by sector (R408)
  trStart : Tbl Nat := []          -- tick at which the transition started, by sector
  interval : Nat := 0              -- governor intervals so far
  gcap : Tbl Nat := []             -- cap last computed by the governor, by stop; 16 at first
  gball : Tbl Nat := []            -- ballast level last computed, by stop
  rrCap : Nat := 59                -- stop whose cap was raised last
  rrBall : Nat := 59               -- stop whose ballast was lowered last
  est : Option Nat := none         -- estimate of the last interval in mA
  why : Option Nat := none         -- uncontrolled change since then: 0 supply fault, 1 isolation, 2 fabric reset (R418)
  blank : Tbl Nat := []            -- 1 + tick of the last change of a comparator, by sector*64+comparator: 0 supply, 2 thermal, 8 lanes (R410)
  deriving DecidableEq, Repr

/-! ### Start-up and fabric state (18_bringup_and_live_change) -/

/-- A mailbox post accepted and not yet copied: its page, core, image offset, words and LAST (R484). -/
structure MbPost where
  page : Nat
  core : Nat
  off : Nat
  len : Nat
  last : Bool
  deriving DecidableEq, Repr

structure BootSt where
  keyHash : Nat := 0               -- KEYHASH as sampled at the release of cold reset (R543)
  instId : Nat := 0                -- INST_ID as sampled then
  serving : Bool := false          -- FAIL_OUT is deasserted (R560)
  rstAt : Nat := 0                 -- 1 + boundary b of a fabric reset requested or in progress (R482)
  rstNote : Tbl Nat := []          -- 1 + boundary of a RESET message, by node
  causeSeen : Nat := 12            -- causes of Table 17-2 whose condition holds and has been told, by code
  img : Tbl Nat := []              -- image SRAM words by core*262144+word
  acc : Tbl Nat := []              -- bytes accepted since WAIT_IMAGE, by core (R484)
  held : Tbl Nat := []             -- bytes of the image held, by core (R488)
  posts : List MbPost := []        -- posts not yet copied, first posted first
  copying : Tbl Nat := []          -- 1: the core copies the active core's state, by core
  settling : Tbl Nat := []         -- 1: the old core of a handover settles, by core (R496)
  hbMiss : Tbl Nat := []           -- consecutive missed heartbeats, by core (R490)
  hoAt : Nat := 0                  -- 1 + target boundary of a PENDING handover
  hoNote : Tbl Nat := []           -- 1 + boundary + 2^48 * core of a HANDOVER message, by node
  cfg : Tbl (List Egr) := []       -- CFGs pending at a core stop, by core (R495)
  goPend : Nat := 0                -- 1 GO_SERVICE accepted, 2 in the mark of the next boundary (R491)
  modeNext : Tbl Nat := []         -- 1 + mode to take at the next boundary, by port stop (R246)
  spareBack : Tbl Nat := []        -- 1: the spare's switch under way returns its socket (R266)
  claimNext : Tbl (Option Nat) := [] -- a REPAIR claim that replaces a TEST claim at the next boundary, by spare (R262)
  lciRun : Tbl Nat := []           -- 1 once LCI_RST_N of a port stop's socket is released (R544)
  inReset : Bool := false          -- the units of a fabric reset are held in reset (R482)
  deriving DecidableEq, Repr

/-! ### Port attachment (09_port_attachment) -/

/-- A table lookup of a TLP or of an engine's request (R279, R341): 0 not made, 1 waiting for a fill, 2 cannot be read, 3
answered with an entry. -/
structure Look where
  key : Nat := 0
  st : Nat := 0
  val : Nat := 0
  deriving DecidableEq, Repr

/-- A TLP in a receive part, with its lookups (R279, R341). -/
structure RxTlp where
  tlp : Tlp
  inj : Bool := false
  xl : Look := {}
  pb : Look := {}
  win : Option (Nat × Nat × Nat) := none -- the window matched: function, egress address, offset (Table 10-7)
  deriving DecidableEq, Repr

/-- The holder of a link's semaphore (R257, R260). -/
structure Lock where
  sgid : Nat
  slice : Nat
  since : Nat
  emu : Bool := false
  deriving DecidableEq, Repr

/-- An emulated AtomicOp under way on a link (R260). -/
structure Emu where
  req : Egr
  outTag : Nat
  size : Nat
  data : Nat := 0
  got : Nat := 0
  pois : Bool := false
  deadline : Nat
  write : Option Nat := none       -- the new value, its MWR still to leave
  reading : Bool := true
  deriving DecidableEq, Repr

/-- An entry of a link's spill (R251, R254): its stamp, queue (0 P, 1 NP, 2 flush of P, 3 flush of NP), place in the log
and what read-back needs. States: 0 in memory, 1 read back under way, 2 landed. -/
structure SpillEnt where
  stamp : Nat
  q : Nat
  slot : Nat
  slice : Nat
  rid : Nat
  ring : Nat
  tick : Nat
  last : Bool := true              -- the last flit of its transaction
  cls : Nat := 0
  st : Nat := 0
  flit : Option Flit := none
  synth : Bool := false            -- formed by the port stop
  deriving DecidableEq, Repr

/-- A link's notice and the boundaries at which it is still to be sent again (R248). -/
structure NoticeOut where
  op : Nat
  nn : Nat
  left : Nat
  deriving DecidableEq, Repr

/-- A TLP held by an LCI fault injection unit (R477): REORDER until the next TLP of its part, DELAY until a tick, with the
later TLPs of the part behind it. -/
structure LciHeld where
  tlp : Tlp
  part : Nat
  due : Nat
  behind : List Tlp := []
  deriving DecidableEq, Repr

structure PortSt where
  rx : Tbl (List RxTlp) := []      -- receive parts by (stop*4+link)*3+part (R233)
  cred : Tbl Nat := []             -- cumulative transmit credits, by (stop*4+link)*3+queue (R241)
  used : Tbl Nat := []             -- units handed to the link, by the same key
  stall : Tbl Nat := []            -- STALL level by stop*4+link
  tx : Tbl (Option Tlp) := []      -- TLP last handed to the link controller
  asm : Tbl (List Egr) := []       -- flits of a TLP that has not wholly left its queue, by (stop*4+link)*3+queue
  lock : Tbl (Option Lock) := []   -- semaphore by stop*4+link (R257)
  defer : Tbl (List Egr) := []     -- deferred list by stop*4+link
  emu : Tbl (Option Emu) := []     -- emulation under way by stop*4+link
  mode : Tbl Nat := []             -- spill mode: 1 P, 2 NP, 3 both, by stop*4+link (R242, R250)
  spill : Tbl (List SpillEnt) := [] -- spill of a link in stamp order, by stop*4+link
  spillPtr : Tbl Nat := []         -- next place in the log, by (stop*4+link)*2+part: 0 hold, 1 flush (R290)
  full : Tbl Nat := []             -- 1 while the episode of R253 lasts, by stop*4+link
  notice : Tbl (Option NoticeOut) := [] -- by stop*4+link of the port (R247)
  applied : Tbl Nat := []          -- NN last applied at a receiver, by stop*256+port*4+link
  arrived : Tbl (Option (Nat × Nat)) := [] -- OP and NN to apply at the next boundary, by the same key
  paused : Tbl Nat := []           -- 1 + tick since which the link is PAUSED, by stop*4+link (R244)
  stuck : Tbl Nat := []            -- 1 + tick since which it is UP, not empty, and accepts nothing
  told : Tbl Nat := []             -- 1 once the episode is recorded
  eff : Tbl Nat := []              -- 1 + value in force of a field of R268 or R180, by stop*32+field
  held : Tbl (Option LciHeld) := [] -- TLP held by an LCI FI unit, by unit
  ingAt : Tbl Nat := []            -- 1 + tick of the last INGRESS_REJECT record, by stop*4+link (R240)
  ingSupp : Tbl Nat := []          -- rejections since then without a record
  lockFn : Tbl Nat := []           -- 1 + function of the last LOCKRD admitted, by stop*4+link
  deriving DecidableEq, Repr

/-! ### Identifiers and attached memory (10_identifiers_and_attached_memory) -/

/-- What a job of a memory stop ends with: nothing, the CPLD of a read, of an AtomicOp, of a row read, a step of its own
work (the number says which), a direct read, a row rebuilt, the stop's own overflowed copy (R162). -/
inductive JobKind where
  | post | read | atom | rowRead | own (what : Nat) | direct | rebuild (row : Nat) | readback (n : Nat)
  deriving DecidableEq, Repr

/-- An access of a job to one aligned 128-byte block of the channel (R563). Operations: 0 read, 1 write, 2 delta into a
parity unit, 3 AtomicOp, 4 row read, 5 direct read, 6 a whole unit to be rebuilt, 7 write of reconstructed bytes. Phases:
0 waiting, 1 read at the controller, 2 write at the controller, 3 row reads under way, 4 parity row read under way, 5
complete, 6 its old bytes are known and its write is to follow, 7 to be reconstructed, 8 its old bytes are known and those
of the rest of its AtomicOp are not. -/
structure MAcc where
  op : Nat
  addr : Nat
  len : Nat
  new : Nat := 0
  be : Nat := 0
  ph : Nat := 0
  tag : Nat := 0
  old : Nat := 0
  pois : Bool := false
  span : Nat := 0                  -- xor of the spans that have come
  ans : Nat := 0                   -- channels that have answered, one bit each
  waited : Bool := false           -- counted in ROW_WAIT_CNT
  recon : Bool := false            -- its bytes were reconstructed (R295)
  deriving DecidableEq, Repr

/-- A request under way at a memory stop. -/
structure MJob where
  id : Nat
  kind : JobKind
  hdr : Flit
  ring : Nat
  accs : List MAcc
  deriving DecidableEq, Repr

/-- A translation or binding fill under way in a sector (R280, R341). -/
structure Fill where
  key : Nat
  bind : Bool
  id : Nat                         -- number of its latest MRD
  copyB : Bool
  sent : Nat
  stale : Bool := false
  badA : Bool := false             -- copy A was read poisoned (R281)
  badB : Bool := false             -- copy B was
  deriving DecidableEq, Repr

/-- An entry of a translation or binding cache (R278, R341). -/
structure CacheEnt where
  key : Nat
  val : Nat
  pin : Bool
  used : Nat
  deriving DecidableEq, Repr

structure MemSt where
  jobs : Tbl (List MJob) := []     -- by channel, oldest first
  nextId : Nat := 0                -- number of the next job or fill
  holds : Tbl (List (Nat × Nat)) := [] -- row holds: row and reconstructing stop, by channel (R295)
  ueFrom : Tbl Nat := []           -- 1 + first tick of the UE window, by channel (R296)
  ueCnt : Tbl Nat := []            -- uncorrectable reads in it
  folded : Tbl (List (Nat × Nat × Nat)) := [] -- deltas that a reconstructed parity block holds: source, number, block; by channel
  units : Tbl Nat := []            -- first unit + 2^17 * count, by channel*4096+slice (R346, R355)
  unitsPart : Tbl Nat := []        -- UNIT_RNG half received, by the same key
  upd : Tbl Nat := []              -- update: 0 none, 1 writing A, 4 A written, 2 writing B, 5 and above B written, 3 invalidating (R284)
  updKey : Tbl Nat := []           -- its key, by channel
  updVal : Tbl Nat := []           -- its entry
  updMir : Tbl Nat := []           -- 1: it applies a mirrored entry (Table 19-3)
  pbUpd : Nat := 0                 -- binding update: 0 none, 1 writing, 2 written, 3 invalidating (R342)
  pbKey : Nat := 0                 -- its index
  pbVal : Nat := 0                 -- its entry
  pbMir : Bool := false            -- it applies a mirrored entry
  pbBase : Tbl Nat := []           -- a sector's copy of B[d], by sector*256+domain (R341)
  pbCnt : Tbl Nat := []            -- its copy of C[d]
  fills : Tbl (List Fill) := []    -- by sector (R280)
  eLook : Tbl Look := []           -- lookups of an engine's requests, by sector*65536+request
  cache : Tbl (Option CacheEnt) := [] -- translation cache by sector*8192 + set*8 + way (R278)
  bcache : Tbl (Option CacheEnt) := [] -- binding cache by sector*2048 + set*8 + way (R341)
  useClk : Nat := 0                -- lookups so far, for the least recently used way
  dozeInv : Tbl (List Nat) := []   -- keys invalidated in DOZE: translation, by sector (R283)
  dozePb : Tbl (List Nat) := []    -- binding indexes; 2^20 and above: a domain (R402)
  deriving DecidableEq, Repr

/-! ### Engines and the replicator (11_data_movers) -/

/-- A queue context (Table 11-1). STATE: 0 DISABLED, 1 READY, 2 CLOSED, 3 STOPPED, 4 MOVING. -/
structure QCtx where
  v : Bool := false
  st : Nat := 0
  cls : Nat := 0
  pv : Bool := false
  pushq : Bool := false
  ring : Nat := 0
  slice : Nat := 0
  dom : Nat := 0
  pasid : Nat := 0
  ringFn : Nat := 0
  recFn : Nat := 0
  ringBase : Nat := 0
  recBase : Nat := 0
  head : Nat := 0
  tail : Nat := 0
  fetched : Nat := 0
  sgen : Nat := 0
  land : Nat := 0
  deriving DecidableEq, Repr

/-- A chunk of a descriptor (R314). States: 0 read under way, 1 read landed, 2 write under way, 3 succeeded, 4 failed. -/
structure EChunk where
  id : Nat
  off : Nat
  len : Nat
  st : Nat
  status : Nat := 0
  pois : Bool := false
  data : List (BitVec 8) := []
  deriving DecidableEq, Repr

/-- A descriptor in execution (R312–R317). `flush`: 0 not sent, 1 under way, 2 over. -/
structure Dsc where
  q : Nat
  index : Nat
  bits : Nat
  next : Nat := 0                  -- bytes for which chunks have been formed
  chunks : List EChunk := []
  fixed : Nat := 0                 -- status known before any chunk
  aborted : Bool := false
  noRec : Bool := false            -- aborted by forced removal
  flush : Nat := 0
  flushId : Nat := 0
  deriving DecidableEq, Repr

/-- A transaction of an engine that waits for its translation (R315). Kinds: 0 fetch, 1 chunk read, 2 chunk write, 3
flush read, 4 record, 5 event read. -/
structure EReq where
  num : Nat
  kind : Nat
  q : Nat
  dom : Nat
  fn : Nat
  hdr : Flit
  chunks : List Data := []
  bytes : Nat
  deriving DecidableEq, Repr

/-- What an engine keeps of a queue it has sent away (R327): the engine, the slice, 1 + tick of the QMAP_UPD. -/
structure Stub where
  toward : Nat
  slice : Nat
  seen : Nat := 0
  deriving DecidableEq, Repr

/-- A transaction in the replicator's pending list: its flits, the members still to be served, the RID of its copies, its
ingress entries, and the flits formed of the copy under way. -/
structure Fan where
  flits : List Flit
  members : List Nat
  rid : Nat
  entries : List Egr
  part : Nat := 0
  cur : Nat := 0                   -- the member of the copy under way
  held : List Nat := []            -- members whose copy has met a disabled route entry (R100)
  deriving DecidableEq, Repr

structure EngSt where
  ctx : Tbl QCtx := []             -- contexts by engine*65536+queue (R306)
  away : Tbl Nat := []             -- 1: the queue's residence differs from the engine's home rule, by engine*65536+queue
  noHome : Tbl Nat := []           -- 1: the engine's home queues are not resident, by engine
  stub : Tbl (Option Stub) := []   -- by engine*65536+queue
  moveTo : Tbl Nat := []           -- 1 + engine that a moving queue goes to, by queue
  moving : Tbl (List (Nat × Nat)) := [] -- CONTEXT flits not acknowledged: number and contexts, by engine
  abort : Tbl Nat := []            -- 1 + new SGEN of an Abort forwarded to a context in flight, by engine*65536+queue
  avail : Tbl (List (Nat × Nat)) := [] -- descriptors fetched or pushed and not started: index and bits, above the 512 bits the status of a failed fetch, by queue
  fetch : Tbl (Option (Nat × Nat × Nat)) := [] -- fetch under way: number, first index, descriptors; by engine*65536+queue
  exec : Tbl (List Dsc) := []      -- descriptors in execution, in the order of starting, by engine
  wait : Tbl (List EReq) := []     -- transactions that wait for translation, by engine
  nextId : Nat := 0
  budget : Tbl Nat := []           -- bytes, by engine (R305)
  vt : Tbl Nat := []               -- virtual time by engine*4096+slice (R313)
  act : Tbl Nat := []              -- 1 while the slice had a startable descriptor at the last decision
  rr : Tbl Nat := []               -- 1 + queue started last, by engine*4096+slice
  events : Tbl (List (Nat × Nat)) := [] -- event reads under way: number and queue, by engine (R317)
  qmapS : Tbl Nat := []            -- 1 + engine, where the slice page owner's copy of QMAP differs from reset (R326)
  fan : List Fan := []             -- the pending replication list (R332)
  deriving DecidableEq, Repr

/-! ### Slices (12_slices_and_drydown) -/

/-- A SLICE_UPD: what a stop has still to apply, or the page owner has still to send again (R348). -/
structure SliceUpd where
  op : Nat
  sgen : Nat
  qreset : Bool
  nn : Nat
  left : Nat := 0
  deriving DecidableEq, Repr

/-- What the slice page owner and the stops keep of slices beside the pages. -/
structure SlcSt where
  nn : Tbl Nat := []               -- number of the latest update, by slice
  again : Tbl (Option SliceUpd) := [] -- update to be sent again, by slice
  arrived : Tbl (Option SliceUpd) := [] -- update to apply at the next boundary, by stop*4096+slice
  applied : Tbl Nat := []          -- NN last applied, by the same key
  closedAt : Tbl Nat := []         -- 1 + tick at which CLOSE applied, by the same key (R357)
  trk : Tbl Nat := []              -- 1 + slice of a census tracker
  clean : Tbl Nat := []            -- 2 + 2*tick of a boundary without residue, 1 once the event has occurred; by tracker (R349)
  since : Tbl Nat := []            -- 1 + tick at which the tracker was taken
  heldOpen : List Nat := []        -- OPENs held while FAIL_OUT is asserted (R560)
  waiting : List Nat := []         -- REMOVED slices that wait for a tracker, in order
  moved : Tbl Nat := []            -- 1: the slice's resources have passed to another (R373), by slice
  create : Tbl Nat := []           -- 1 + tick of a CREATE in progress, by slice (R346)
  force : Tbl Nat := []            -- 1 while a FORCE is held, by slice (R349)
  censusTick : Nat := 0            -- boundary whose residue reports are being gathered
  censusSeen : Tbl Nat := []       -- 1 + residue bits by tracker, by stop, for that boundary
  deriving DecidableEq, Repr

/-! ### Flacons (13_flacons_and_migration) -/

/-- A flacon command under way (R370–R375): OP, the step reached, the core stop that carries it out, the pieces of the slot
read (1 + their bytes), and for COPY the units pushed and retired, the descriptors in the queue before it, and the first
that failed with its status. -/
structure FlSt where
  op : Nat := 0
  step : Nat := 0
  core : Nat := 56
  got : Tbl Nat := []
  pushed : Nat := 0
  done : Nat := 0
  skip : Nat := 0
  err : Option (Nat × Nat) := none
  lost : Bool := false             -- the source was thawed or forced meanwhile (Table 13-7)
  offNum : Nat := 0                -- slot accesses through FL_OFF and FL_DATA so far: the newest read answers FL_OFF (R375)
  read : Tbl Nat := []             -- 1: SAVE has read the shadows latched for the slice, by slice
  deriving DecidableEq, Repr

/-! ### Clock crossings (14_clock_crossings) and isolation (17_faults_and_containment) -/

/-- What a bridge keeps (R393, R396): READY bits (1 A side, 2 B side) and the counts that XB_SEL copies. -/
structure XbRec where
  ready : Nat := 0
  resync : Nat := 0
  drop : Nat := 0
  ovf : Nat := 0
  occ : Nat := 0
  deriving DecidableEq, Repr

/-- An ISOLATE message: KIND, ID, NN and the boundaries at which it is still to be sent again (R463). -/
structure IsoMsg where
  kind : Nat
  id : Nat
  nn : Nat
  left : Nat := 0
  deriving DecidableEq, Repr

structure IsoSt where
  known : Tbl Nat := []            -- 1: stop k has applied the isolation of stop x, by k*64+x
  nn : Nat := 0                    -- number of the latest ISOLATE
  again : Option IsoMsg := none    -- to be sent again
  arrived : Tbl (Option IsoMsg) := [] -- to apply at the next boundary, by node
  applied : Tbl Nat := []          -- NN last applied, by node
  queue : List (Nat × Nat × Nat) := [] -- isolations without a command that wait: KIND, ID, CAUSE
  unit : Option (Nat × Nat × Nat) := none -- the isolation in progress: KIND, ID, CAUSE
  bound : Nat := 0                 -- boundary b of the isolation in progress
  drops : List Nat := []           -- links whose DROP notices went out with it, as stop*4+link of the notice
  done : BitVec 64 := 0            -- stops at which it has applied
  freed : Nat := 0                 -- retained copies freed, tags ended, pairs with ORDER_BREAK, open rows lost (Table 17-4)
  tags : Nat := 0
  breaks : Nat := 0
  rows : Nat := 0
  deriving DecidableEq, Repr

/-! ### The interrupt group (21_block_boundary) -/

/-- An event on the interrupt group (R552). -/
structure IrqOut where
  kind : Nat
  cls : Nat
  id : Nat
  level : Bool
  deriving DecidableEq, Repr

structure IrqSt where
  shown : Tbl Nat := []            -- level last presented of a page's request, by CLASS*65536+INSTANCE
  slices : List Nat := []          -- slices with an event pending, in order
  last : Option IrqOut := none     -- the event presented last
  deriving DecidableEq, Repr

/-! ### Duplex pair (19_duplex_and_cascade) -/

/-- An item to be mirrored (Table 19-3). -/
inductive MirItem where
  | xlt (key val : Nat) | pb (idx val : Nat) | acc (slice : Nat) | qctx (slice first : Nat) | mtr (slice off : Nat)
  | created (slice : Nat) | cleared (slice : Nat) | flc (slot blk data : Nat) | ckpt (first n : Nat) | wake (mask : Nat)
  deriving DecidableEq, Repr

/-- A pair frame (Table 19-1) and, for a retained copy, the tick of its last sending. -/
structure PairFrame where
  type : Nat
  count : Nat := 0
  pseq : Nat := 0
  pack : Nat := 0
  restart : Bool := false
  item : Nat := 0
  payload : Nat := 0
  sent : Nat := 0
  deriving DecidableEq, Repr

structure PairSt where
  items : List MirItem := []       -- items not yet formed into frames
  txSeq : Nat := 0                 -- next PSEQ
  rxSeq : Nat := 0                 -- expected PSEQ
  ret : List PairFrame := []       -- retained copies, oldest first (R506)
  out : List PairFrame := []       -- frames waiting for credit of the pair link controller
  lastTx : Option (BitVec 1344) := none -- frame last handed to it
  cred : Nat := 0                  -- cumulative frame credit (R559)
  used : Nat := 0                  -- frames handed over
  up : Bool := false               -- PL_UP level
  restart : Bool := true           -- stop 59 has left reset since its last HB
  rx : List (PairFrame × Bool) := [] -- frames arrived and not yet taken, and whether a full send begins with it
  cur : Option PairFrame := none   -- the frame in application
  curItem : Nat := 0               -- its items applied
  curSt : Nat := 0                 -- its next item: 0 not begun, 1 under way, 2 byte 3 of a flacon under way, 3 done
  flcValid : Tbl Nat := []         -- 1 + byte 3 of a mirrored flacon, by slot
  silent : Nat := 0                -- consecutive boundaries without a valid frame
  heard : Bool := false            -- a valid frame since the last boundary
  full : Nat := 0                  -- full send: 0 none, else 1 + its position (R511)
  fullOut : List Nat := []         -- its reads under way
  fullLast : Nat := 0              -- PSEQ that ends it
  tko : List Nat := []             -- slices still to be created by a takeover (R513)
  tkoRun : List Nat := []          -- CREATEs in progress
  tkoDone : Nat := 0               -- slices made LIVE so far
  mark : Option Nat := none        -- first PSEQ formed after the MARK write
  shadow : Tbl Nat := []           -- 1: the slice is marked SHADOW (R508)
  ckptAt : Nat := 0                -- boundaries since the last checkpoint
  deriving DecidableEq, Repr

/-- The state of the block. -/
structure State where
  pending : List Instr := []
  regs : Tbl Nat := []             -- register fields that differ from their reset value, as value xor reset
  freeNext : Nat := 0              -- index of the next free value (the model's own)
  tick : TickSt := {}
  net : NetSt := {}
  cnt : CntSt := {}
  spine : SpineSt := {}
  resv : ResvSt := {}
  ord : OrdSt := {}
  arb : ArbSt := {}
  mtr : MtrSt := {}
  pwr : PwrSt := {}
  boot : BootSt := {}
  port : PortSt := {}
  mem : MemSt := {}
  eng : EngSt := {}
  slc : SlcSt := {}
  xb : Tbl XbRec := []             -- by group*64+index (Table 14-6)
  iso : IsoSt := {}
  irq : IrqSt := {}
  fl : FlSt := {}
  pair : PairSt := {}
  cycle : Nat := 0                 -- clock cycles passed while no command waited (the model's own)
  deriving DecidableEq, Repr

/-- The outcome of a command. -/
abbrev Res := Host.Outcome State Fault Refusal

/-- The block right after cold reset: every register field at its reset value, nothing in flight, nothing listed. -/
def State.reset : State := {}

end Sys2Proof.Machine
end

