-- ==== Sys2Proof/Machine/Ops.lean ====
section
/-! DEFINITION. The named operations on the state: register fields, error counts, messages, event counting. -/

namespace Sys2Proof.Machine

/-! ### Register fields -/

/-- Value of a register field of page instance `inst` (element `e`, bank, select index). -/
def State.fget (s : State) (f : Fld) (inst : Nat := 0) (e : Nat := 0) (bank : Nat := 0) (sel : Nat := 0) : Nat :=
  tget 0 s.regs (f.key inst e bank sel) ^^^ f.resetAt e sel

/-- Set a register field; the value is cut to the field's width. -/
def State.fset (s : State) (f : Fld) (v : Nat) (inst : Nat := 0) (e : Nat := 0) (bank : Nat := 0)
    (sel : Nat := 0) : State :=
  { s with regs := tset 0 s.regs (f.key inst e bank sel) ((v % 2 ^ f.width) ^^^ f.resetAt e sel) }

/-- A one-bit register field is 1. -/
def State.fbit (s : State) (f : Fld) (inst : Nat := 0) (e : Nat := 0) (bank : Nat := 0) (sel : Nat := 0) : Bool :=
  s.fget f inst e bank sel == 1

/-- Set a one-bit register field. -/
def State.fput (s : State) (f : Fld) (b : Bool) (inst : Nat := 0) (e : Nat := 0) (bank : Nat := 0)
    (sel : Nat := 0) : State :=
  s.fset f (b2n b) inst e bank sel

/-- Add to a saturating register field. -/
def State.fsat (s : State) (f : Fld) (n : Nat) (inst : Nat := 0) (e : Nat := 0) : State :=
  s.fset f (satAdd f.width (s.fget f inst e) n) inst e

/-- Raise a register field to at least `n` (a maximum). -/
def State.fmax (s : State) (f : Fld) (n : Nat) (inst : Nat := 0) : State :=
  s.fset f (max (s.fget f inst) (min n (2 ^ f.width - 1))) inst

/-- A value held in a low register of 32 bits and a high one. -/
def State.wide (s : State) (lo hi : Fld) (inst : Nat := 0) (e : Nat := 0) (bank : Nat := 0) (sel : Nat := 0) : Nat :=
  s.fget lo inst e bank sel + 2 ^ 32 * s.fget hi inst e bank sel

/-- Set a value held in a low register of 32 bits and a high one. -/
def State.setWide (s : State) (lo hi : Fld) (v : Nat) (inst : Nat := 0) (e : Nat := 0) (bank : Nat := 0)
    (sel : Nat := 0) : State :=
  (s.fset lo (v % 2 ^ 32) inst e bank sel).fset hi (v / 2 ^ 32) inst e bank sel

/-! ### Time (R41) -/

/-- The tick count at a node's most recent local boundary. -/
def State.nodeTick (s : State) (n : Nat) : Nat := tget 0 s.tick.nodeCount n

/-- The bank a node uses as active. -/
def State.bankAt (s : State) (n : Nat) : Nat := tget 0 s.tick.nodeBank n

/-- `now - t` modulo 2^48, read as signed, is at least `n`. -/
def tickPast (now t n : Nat) : Bool := atOrAfter 48 now (t + n)

/-! ### Page owners (Table 20-2) -/

/-- The maintenance node of a page's owner. -/
def ownerNode (c : Cls) (inst : Nat) : Nat :=
  match c with
  | .glb => 60 | .tick => 60 | .ring => 61 | .stop => inst | .arb => inst | .gate => inst | .pmu => inst
  | .eng => 7 * inst + 6 | .mem => 7 * inst + 5 | .repl => 58 | .pair => 59 | .pwr => 7 * inst + 4
  | .xb => if inst = 8 then 63 else if inst = 9 then 60 else 7 * inst + 4
  | .fi => 61 | .ctl => 63 | .mbox => 63 | .slice => 62

/-! ### Messages -/

/-- The nodes a mask of one node. -/
def maskOf (n : Nat) : BitVec 64 := BitVec.ofNat 64 (2 ^ (n % 64))

/-- A message for the one node that DST_STOP names, waiting at its sender. -/
def msgToOne (m : Msg) : Flight := { msg := m, left := maskOf (msgDst m) }

/-- A broadcast waiting at its sender. -/
def msgToAll (m : Msg) : Flight := { msg := m, left := BitVec.allOnes 64, all := true }

/-- The copy of a tick mark that goes in direction `d` alone (R34): 0 ascending, 1 descending. -/
def msgToAllBy (m : Msg) (d : Nat) : Flight :=
  if d = 0 then { msgToAll m with down := .done } else { msgToAll m with up := .done }

def State.post (s : State) (f : Flight) : State := { s with net := { s.net with flight := s.net.flight ++ [f] } }

/-- A message for one node joins its sender's queue (R131). -/
def State.send (s : State) (m : Msg) : State := s.post (msgToOne m)

/-- A broadcast, taken by every node, joins its sender's queue (R131). -/
def State.bcast (s : State) (m : Msg) : State := s.post (msgToAll m)

/-- The count of the first boundary of node `n`, after the one it is at, whose low 16 bits are `low` (R131). -/
def State.boundaryOf (s : State) (n low : Nat) : Nat :=
  let next := wrapAdd 48 (s.nodeTick n) 1
  wrapAdd 48 next (wrapSub 16 low next)

/-- Node `n` takes its copy of message `m`: the oldest one in flight for it is removed once no node has still to
take it. A copy that the list does not hold (corrupted on the way) changes nothing here. -/
def takeCopy (n : Nat) (m : Msg) : List Flight → List Flight
  | [] => []
  | f :: fs =>
    if f.msg = m ∧ f.left.getLsbD n = true then
      let l := f.left &&& ~~~ maskOf n
      if l = 0 then fs else { f with left := l } :: fs
    else f :: takeCopy n m fs

def State.take (s : State) (n : Nat) (m : Msg) : State :=
  { s with net := { s.net with flight := takeCopy n m s.net.flight } }

/-! ### Event counting (R425–R428) -/

/-- Block that counts the events of a page class. -/
def blockOf (c : Cls) : Cls := if c = .stop then .pmu else c

/-- A class has a counter block. -/
def hasBlock (c : Cls) : Bool := c == .ring || c == .eng || c == .pwr || c == .pmu

/-- Set a cause bit of PG_INT_STS (R528). -/
def State.intSet (s : State) (c : Cls) (inst bit : Nat) : State :=
  s.fset (F.HDR.PG_INT_STS.INT c) (s.fget (F.HDR.PG_INT_STS.INT c) inst ||| 2 ^ bit) inst

/-- Start the sample of R437 when counter `i` of stop block `inst` overflows: SMP_STS.VALID held means a lost sample. -/
def State.smpOverflow (s : State) (inst i : Nat) : State :=
  if s.fbit F.PMU.SMP_CFG.EN inst && s.fget F.PMU.SMP_CFG.CTR inst == i then
    if s.fbit F.PMU.SMP_STS.VALID inst then s.fsat F.PMU.SMP_LOST_CNT 1 inst
    else { s with cnt := { s.cnt with smpArm := tset 0 s.cnt.smpArm inst (1 + 8 * tget 0 s.arb.clk inst) } }
  else s

/-- The same for an engine's sample (R329). -/
def State.engOverflow (s : State) (inst i : Nat) : State :=
  if s.fbit F.ENG.SMP_CFG.EN inst && s.fget F.ENG.SMP_CFG.CTR inst == i then
    if s.fbit F.ENG.SMP_STS.VALID inst then s.fsat F.ENG.SMP_LOST_CNT 1 inst
    else { s with cnt := { s.cnt with smpEng := tset 0 s.cnt.smpEng inst (1 + 16 * s.cycle) } }
  else s

/-- Add `n` to programmable counter `i` of a block; a wrap sets OVF and, when enabled, interrupt bit 7 (R428). -/
def State.ctrAdd (s : State) (b : Cls) (inst i n : Nat) : State :=
  let v := s.wide (F.CB.CNT_LO b) (F.CB.CNT_HI b) inst i + n
  let s1 := s.setWide (F.CB.CNT_LO b) (F.CB.CNT_HI b) (v % 2 ^ 48) inst i
  if v < 2 ^ 48 then s1 else
    let s2 := s1.fset (F.CB.CB_OVF.OVF b) (s1.fget (F.CB.CB_OVF.OVF b) inst ||| 2 ^ i) inst
    let s3 := if nbit (s2.fget (F.CB.CB_CTL.INT_EN b) inst) i then s2.intSet b inst 7 else s2
    if b = .pmu then s3.smpOverflow inst i else if b = .eng then s3.engOverflow inst i else s3

/-- What an increment carries (Table 16-3): class, slice, injection tag. -/
structure EvtAttr where
  cls : Option Nat := none
  slice : Option Nat := none
  inj : Bool := false
  deriving DecidableEq, Repr

/-- The event that EVT selects: with EVT[11] = 1 only EVT[9:0] names the RC counter (R426). -/
def evtCode (v : Nat) : Nat := if v < 0x800 then v else 0x800 + v % 1024

/-- Counter `i` of a block counts event `evt` with these attributes (R426, R427). -/
def State.ctrMatches (s : State) (b : Cls) (inst i evt : Nat) (a : EvtAttr) : Bool :=
  s.fbit (F.CB.EVT_SEL.EN b) inst i && evtCode (s.fget (F.CB.EVT_SEL.EVT b) inst i) == evt
  && (match a.cls with | none => true | some c => nbit (s.fget (F.CB.EVT_SEL.CLS b) inst i) c)
  && (match a.slice with
      | none => true
      | some x => !s.fbit (F.CB.EVT_SEL.SL_EN b) inst i || s.fget (F.CB.EVT_SEL.SLICE b) inst i == x)
  && (match s.fget (F.CB.CB_INJ.INJ b) inst i with | 1 => !a.inj | 2 => a.inj | _ => true)

/-- Count an event with increment `n` in every programmable counter that selects it: LEVEL and EDGE add 1, SUM adds
`n` (R425). DESIGN CHOICE: each counted event is a cycle of its own after a cycle without one, so EDGE counts it. -/
def State.countOne (s : State) (b : Cls) (inst evt n : Nat) (a : EvtAttr := {}) : State :=
  if n = 0 then s else
    (List.range 8).foldl (fun s i =>
      if s.ctrMatches b inst i evt a then
        s.ctrAdd b inst i (if s.fget (F.CB.EVT_SEL.MODE b) inst i = 2 then n else 1)
      else s) s

/-- An event, and the overflow of an engine's sampling counter by it that took no sample: SMP_LOST_CNT has risen, which is
an event of R426 too. -/
def State.countEvt (s : State) (b : Cls) (inst evt n : Nat) (a : EvtAttr := {}) : State :=
  let s1 := s.countOne b inst evt n a
  if b = .eng ∧ s1.fget F.ENG.SMP_LOST_CNT inst ≠ s.fget F.ENG.SMP_LOST_CNT inst then
    s1.countOne b inst (0x800 + F.ENG.SMP_LOST_CNT.off / 4) 1
  else s1

/-- Raise an RC counter by `n`, saturating, and count the event of R426 (EVT[11] = 1, EVT[9:0] = offset/4); for a stop block
the offsets are those of the STOP page. -/
def State.rcInc (s : State) (f : Fld) (inst : Nat) (n : Nat := 1) (inj : Bool := false) (e : Nat := 0) : State :=
  let s1 := s.fsat f n inst e
  if hasBlock (blockOf f.cls) && f.cls != .pmu then s1.countEvt (blockOf f.cls) inst (0x800 + f.offAt e / 4) n { inj := inj } else s1

/-! ### Sillage entries at the reporter (R448, R450) -/

/-- The memory stop of the writer to which a node reports (R447). -/
def writerStop (node : Nat) : Nat := 7 * (if node ≤ 55 then node / 7 else node - 56) + 5

/-- A reporter writes a sillage entry: at most one per code per tick, later events of the tick counted in SUPP of the
next; six SIL_FRAG messages (Table 16-9). -/
def State.sillage (s : State) (node code : Nat) (info : Nat) (inj : Bool := false) : State :=
  if !s.fbit F.GLB.SIL_CTL.EN then s else
    let k := node * 256 + code
    let now := s.nodeTick node
    if tget 0 s.cnt.silLast k = now + 1 then
      { s with cnt := { s.cnt with silSupp := tset 0 s.cnt.silSupp k (satAdd 16 (tget 0 s.cnt.silSupp k) 1) } }
    else
      let en := tget 0 s.cnt.silEnum node
      let payload := packBits [(0, 8, code), (8, 1, b2n inj), (9, 15, now), (24, 16, tget 0 s.cnt.silSupp k),
        (40, 128, info)]
      let msgs := (List.range 6).map (fun f => mkTyped 0xD (writerStop node) node
        [(45, 3, f), (38, 7, en), (7, 31, nbits payload (31 * f) 31)])
      let s1 := { s with cnt := { s.cnt with
        silLast := tset 0 s.cnt.silLast k (now + 1), silSupp := tset 0 s.cnt.silSupp k 0,
        silEnum := tset 0 s.cnt.silEnum node ((en + 1) % 128) } }
      msgs.foldl State.send s1

end Sys2Proof.Machine
end

