-- ==== Sys2Proof/Machine/Flags.lean ====
section
/-! DEFINITION. Status and error flags of a page: PG_ERR_FIRST, PG_ERR_CNT, PG_INT_STS and the interrupt request
(20_register_pages). -/

namespace Sys2Proof.Machine

/-- A rule records a code in PG_ERR_FIRST if it is empty (R529) and writes the sillage entry whether or not it was
(R450). `ident` is the identifier of Table 20-7. -/
def State.record (s : State) (c : Cls) (inst code info0 info1 : Nat) (ident : Nat := 0) (inj : Bool := false) :
    State :=
  let s1 := if s.fget (F.HDR.PG_ERR_FIRST.CODE c) inst = 0 then
      ((((s.fset (F.HDR.PG_ERR_FIRST.CODE c) code inst).fput (F.HDR.PG_ERR_FIRST.INJ c) inj inst).fset
        (F.HDR.PG_ERR_INFO0.INFO0 c) info0 inst).fset (F.HDR.PG_ERR_INFO1.INFO1 c) info1 inst).intSet c inst 4
    else s
  s1.sillage (ownerNode c inst) code (packBits [(0, 32, info0), (32, 32, info1), (64, 64, ident)]) inj

/-- PG_ERR_CNT increments for an access to offset `off` of the page (R530). -/
def State.pgErr (s : State) (c : Cls) (inst off : Nat) : State :=
  (((s.fsat (F.HDR.PG_ERR_CNT.CNT c) 1 inst).fset (F.HDR.PG_ERR_CNT.LAST_OFF c) (off / 4) inst).fput
    (F.HDR.PG_ERR_CNT.NON_ACCESS c) false inst)

/-- PG_ERR_CNT increments for an event without an access (R530). -/
def State.pgErrEvt (s : State) (c : Cls) (inst : Nat) : State :=
  (s.fsat (F.HDR.PG_ERR_CNT.CNT c) 1 inst).fput (F.HDR.PG_ERR_CNT.NON_ACCESS c) true inst

/-- A write to a page, other than one to PG_CTL, clears QUIET (R527). -/
def State.touch (s : State) (c : Cls) (inst : Nat) : State := s.fput (F.HDR.PG_STS.QUIET c) false inst

/-- A maintenance message fails CHECK or has an unlisted SUB at node `n`: a stop counts MSG_ERR_CNT and records
RES_MSG_CHECK, nodes 60 to 63 count in GLB.PG_ERR_CNT (R129, R131). -/
def State.msgBad (s : State) (n : Nat) (m : Msg) : State :=
  if n < 60 then
    (s.rcInc F.STOP.MSG_ERR_CNT n).record .stop n 0x31 (packBits [(0, 6, msgSrc m), (6, 4, msgType m)])
      (vbits m 32 32)
  else s.pgErrEvt .glb 0

/-- The implemented bits of PG_INT_STS of a class (Table 20-5). -/
def intBits (c : Cls) : Nat :=
  match c with
  | .tick => 0x11 | .ring => 0x91 | .stop => 0x19 | .mem => 0x11 | .eng => 0x93 | .pwr => 0x91 | .pair => 0x11
  | .ctl => 0x11 | .glb => 0x15 | .pmu => 0x92 | _ => 0x10

/-- BANKED and LOCKABLE of a class (Table 20-4). -/
def bankedCls (c : Cls) : Bool := [Cls.glb, .stop, .arb, .gate, .mem].contains c
def lockableCls (c : Cls) : Bool := c == .ctl || c == .pair

/-- The page's cause bits, with the level of R470 in GLB bit 2. -/
def State.intSts (s : State) (c : Cls) (inst : Nat) : Nat :=
  let v := s.fget (F.HDR.PG_INT_STS.INT c) inst
  if c = .glb then v ||| (if s.fget F.GLB.ERQ_STS.COUNT != 0 && s.fbit F.GLB.ERQ_CTL.EN then 4 else 0) else v

/-- The page's interrupt request (R528). -/
def State.irqReq (s : State) (c : Cls) (inst : Nat) : Bool :=
  s.fbit (F.HDR.PG_CTL.EN c) inst && (s.intSts c inst &&& s.fget (F.HDR.PG_INT_EN.INT_EN c) inst) != 0

end Sys2Proof.Machine
end

