-- ==== Sys2Proof/Machine/Common.lean ====
section
/-! DEFINITION. Operations that several chapters share: sector power, ring use, fabric state, lanes. -/

namespace Sys2Proof.Machine

/-- Key of a ring direction at a station. -/
def laneKey (k r d : Nat) : Nat := (k * 9 + r) * 2 + d

/-- Sector power states (PS_STS.STATE): 0 RUN, 1 TRIM, 2 DOZE, 3 OFF. -/
def State.sectorState (s : State) (x : Nat) : Nat := s.fget F.PWR.PS_STS.STATE x

/-- Stop `k` is isolated (ISO_SET, R464). -/
def State.isolated (s : State) (k : Nat) : Bool :=
  if k < 32 then nbit (s.fget F.GLB.ISO_SET_LO.SET_LO) k else nbit (s.fget F.GLB.ISO_SET_HI.SET_HI) (k - 32)

/-- The stop interface of stop `k` runs: its sector is in RUN or TRIM and it is not isolated; core stops always (R400,
R464); none in a fabric reset (R482). -/
def State.stopRuns (s : State) (k : Nat) : Bool := !s.boot.inReset && (isCoreStop k || (s.sectorState (sectorOf k) < 2 && !s.isolated k))

/-! ### Bridges (R390, Table 14-6) -/

/-- Key of the bridge of KIND 0 to 3 of a stop, of the LCI of a socket's link, and of a channel's MEMIF. -/
def stopBridge (k kind : Nat) : Nat := if k < 56 then k / 7 * 64 + 4 * (k % 7) + kind else 512 + 4 * (k - 56) + kind
def lciBridge (p l : Nat) : Nat := p / 4 * 64 + 28 + 4 * (p % 4) + l
def memBridge (c : Nat) : Nat := c * 64 + 44
def pairBridge : Nat := 528
def mgmtBridge : Nat := 576

/-- Both sides of a bridge are READY: the source may write into it (R393). -/
def State.xbReady (s : State) (b : Nat) : Bool := (tget {} s.xb b).ready == 3

/-- A FIFO of the bridge holds `n` entries: the largest is kept (OCC_MAX). -/
def State.xbOcc (s : State) (b n : Nat) : State :=
  let x := tget {} s.xb b
  { s with xb := tset {} s.xb b { x with occ := max x.occ (min n 64) } }

/-- A side of some bridges enters reset: neither side is READY until the handshake of R393. -/
def State.xbReset (s : State) (bs : List Nat) : State :=
  { s with xb := bs.foldl (fun t b => tset {} t b { tget {} t b with ready := 0 }) s.xb }

/-- The stop's clock runs at half rate (Table 15-1, R400). -/
def State.stopTrim (s : State) (k : Nat) : Bool :=
  if isCoreStop k then s.fget F.GLB.CORE_PWR.STATE == 1 else s.sectorState (sectorOf k) == 1

/-- Fabric states (FAB_STS.STATE): 0 STARTUP, 1 SERVICE, 2 RECOVERY. -/
def State.fabState (s : State) : Nat := s.fget F.GLB.FAB_STS.STATE

/-- Port modes (PORT_MODE): 0 STARTUP, 1 SERVICE, 2 TEST, 3 RECOVERY. -/
def State.modeNow (s : State) (k : Nat) : Nat := s.fget F.STOP.PORT_MODE.MODE_NOW k

/-- State of a link (LINK_STS.STATE): 0 DOWN, 1 UP, 2 PAUSED. -/
def State.linkState (s : State) (k l : Nat) : Nat := s.fget F.STOP.LINK_STS.STATE k l

/-- The link is DOWN and its port not in SERVICE: what is for it is discarded (R256). -/
def State.drops (s : State) (k l : Nat) : Bool := s.linkState k l == 0 && s.modeNow k != 1

/-- The stop that translation names for the socket that stop `k` serves (R247). -/
def State.portName (s : State) (k : Nat) : Nat :=
  if isSpareStop k then 7 * sectorOf k + s.fget F.STOP.SPARE_CTL.SOCKET k else k

/-- Step of Table 9-8 that a stop takes part in as the one that leaves: NP or every part is held at XOFF. -/
def State.leavingPhase (s : State) (k : Nat) : Nat :=
  if 56 ≤ k then 0
  else
    let sp := 7 * sectorOf k + 4
    let ph := s.fget F.STOP.SPARE_CTL.PHASE sp
    let back := tget 0 s.boot.spareBack sp == 1
    if s.fbit F.STOP.SPARE_CTL.FORCED sp then 0
    else if isSpareStop k then (if back then ph else 0)
    else if k = s.portName sp ∧ !back then ph else 0

/-- Change the fabric state: GLB interrupt bit 0 and a FABRIC_STATE entry (Table 18-3, Table 20-5). -/
def State.setFab (s : State) (toward : Nat) : State :=
  let old := s.fabState
  (((s.fset F.GLB.FAB_STS.STATE toward).intSet .glb 0 0)).sillage 60 0x09 (packBits [(0, 2, old), (2, 2, toward)])

/-- All port stops and spare port stops. -/
def portStops : List Nat := (List.range 56).filter isPortStop

/-- A cause of Table 17-2 occurs: in SERVICE the fabric state becomes RECOVERY and port stops in SERVICE take RECOVERY
at the boundary; in STARTUP and RECOVERY only CAUSE is set, in STARTUP with a sillage entry (Table 18-3). -/
def State.recoveryCause (s : State) (cause : Nat) : State :=
  let s1 := s.fset F.GLB.FAB_STS.CAUSE cause
  if s.fabState = 1 then
    let s2 := (s1.setFab 2).fsat F.GLB.FAB_STS.RECOVERY_CNT 1
    portStops.foldl (fun a k =>
      if a.modeNow k = 1 then { a with boot := { a.boot with modeNext := tset 0 a.boot.modeNext k 4 } } else a) s2
  else if s.fabState = 0 then s1.sillage 60 0x09 0
  else s1

/-! ### Ring use (R95) -/

/-- RING_STS.STATE: 0 INIT, 1 IN_SVC, 2 LEAVING, 3 OUT, 4 CAL, 5 TEST, 6 FAILED. -/
def State.ringState (s : State) (r : Nat) : Nat := s.fget F.RING.RING_STS.STATE r

/-- A ring is usable for a new grant at stop `k` (R95, R101): its SVC bit in the active bank, IN_SVC, not fenced, and
no PASS bit at the source. -/
def State.ringUsable (s : State) (k r : Nat) : Bool :=
  nbit (s.fget F.GLB.RING_SVC.SVC 0 0 (s.bankAt k)) r && s.ringState r == 1
  && tget 0 s.spine.fenced (k * 16 + r) == 0 && !nbit (s.fget F.STOP.STN_PASS.PASS k 0 (s.bankAt k)) r

/-- Rings usable as GLB sees them (RING_USE.USABLE). -/
def State.ringsUsable (s : State) : Nat :=
  packBits ((List.range 9).map (fun r => (r, 1, b2n
    (nbit (s.fget F.GLB.RING_SVC.SVC 0 0 (s.fget F.GLB.EPOCH_STS.ACTIVE)) r && s.ringState r == 1
      && !nbit (s.fget F.GLB.RING_USE.FENCED) r))))

/-- Pages of every class (Table 20-1): the classes and their instance counts. -/
def allPages : List (Cls × Nat) :=
  [(.glb, 1), (.tick, 1), (.ring, 9), (.stop, 60), (.arb, 60), (.gate, 60), (.pmu, 60), (.eng, 8), (.mem, 8),
   (.repl, 1), (.pair, 1), (.pwr, 8), (.xb, 10), (.fi, 2), (.ctl, 1), (.mbox, 2), (.slice, 4096)]

/-- An event of Table 19-3: its items are mirrored while MIRROR is 1 and the mirror state is SYNC, LAG or RESYNC (R508,
Table 19-4). -/
def State.mirror (s : State) (l : List MirItem) : State :=
  let m := s.fget F.PAIR.PAIR_STS.MSTATE
  if s.fbit F.PAIR.PAIR_CTL.MIRROR && (m == 1 || m == 2 || m == 4) then
    { s with pair := { s.pair with items := s.pair.items ++ l } }
  else s

/-- A slice is one of the die's own (PAIR.HOME). -/
def State.isHome (s : State) (x : Nat) : Bool :=
  let b := s.fget F.PAIR.HOME.BASE
  b ≤ x && x < b + s.fget F.PAIR.HOME.CNT

/-- A slice is one of the partner's (PAIR.SHD). -/
def State.isShd (s : State) (x : Nat) : Bool :=
  let b := s.fget F.PAIR.SHD.BASE
  b ≤ x && x < b + s.fget F.PAIR.SHD.CNT

/-- The bits of a register word that some fields hold. -/
def State.word (s : State) (fs : List Fld) (inst : Nat := 0) (e : Nat := 0) (bank : Nat := 0) (sel : Nat := 0) : Nat :=
  packBits (fs.map (fun f => (f.lo, f.width, s.fget f inst e bank sel)))

/-- Set those fields from a register word. -/
def State.setWord (s : State) (fs : List Fld) (w : Nat) (inst : Nat := 0) (e : Nat := 0) (bank : Nat := 0) (sel : Nat := 0) :
    State := fs.foldl (fun a f => a.fset f (nbits w f.lo f.width) inst e bank sel) s

/-- A fresh free value, and the state whose next free value is another one. -/
def State.fresh (s : State) : Nat × State := (Config.freeValue s.freeNext, { s with freeNext := s.freeNext + 1 })

/-- An uncorrectable word of a stop's state SRAMs is read for use: which SRAM and which word (R456, Table 20-7). -/
def State.stopUe (s : State) (k which idx : Nat) : State :=
  ((s.rcInc F.STOP.SRAM_UE_CNT k).record .stop k 0xC1 which idx).intSet .stop k 3

/-- Stop `k` has applied the isolation of stop `x` (R465). -/
def State.knowsGone (s : State) (k x : Nat) : Bool := tget 0 s.iso.known (k * 64 + x) == 1

end Sys2Proof.Machine
end

