-- ==== Sys2Proof/Machine/Resv.lean ====
section
/-! DEFINITION. Credits, RES_REQ and grants, closing and reopening a destination (05_reservation). -/

namespace Sys2Proof.Machine

def pairKey (k d : Nat) : Nat := k * 64 + d
def pairCls (k d c : Nat) : Nat := (k * 64 + d) * 4 + c

def State.credit (s : State) (k d c : Nat) : Credit := tget {} s.resv.credit (pairCls k d c)
def State.setCredit (s : State) (k d c : Nat) (x : Credit) : State :=
  { s with resv := { s.resv with credit := tset {} s.resv.credit (pairCls k d c) x } }
def State.charge (s : State) (d k c : Nat) : Charge := tget {} s.resv.charge (pairCls d k c)
def State.setCharge (s : State) (d k c : Nat) (x : Charge) : State :=
  { s with resv := { s.resv with charge := tset {} s.resv.charge (pairCls d k c) x } }
def State.queue (s : State) (k : Nat) : List FTxn := tget [] s.arb.queue k
def State.setQueue (s : State) (k : Nat) (q : List FTxn) : State :=
  { s with arb := { s.arb with queue := tset [] s.arb.queue k q } }
def State.isClosed (s : State) (k d : Nat) : Bool := tget 0 s.resv.closed (pairKey k d) == 1

/-! ### Credits at the source (R119–R121) -/

/-- One credit for a flit, and what is left: posted takes P, else A, else F; non-posted takes A, else F (R120). -/
def takeCredit (x : Credit) (posted : Bool) : Option (Nat × Credit) :=
  if posted && 0 < x.p then some (1, { x with p := x.p - 1 })
  else if 0 < x.a then some (2, { x with a := x.a - 1 })
  else if 0 < x.f then some (0, { x with f := x.f - 1 })
  else none

/-- Give back a credit of a kind. -/
def giveCredit (x : Credit) (kind : Nat) : Credit :=
  match kind with | 1 => { x with p := x.p + 1 } | 2 => { x with a := x.a + 1 } | _ => { x with f := x.f + 1 }

/-- Class and destination of a transaction's flits. -/
def FTxn.head (t : FTxn) : Flit := t.flits.headD emptyFlit

/-- Credit the flits of one transaction that hold none, in order (R121). -/
def creditFlits (posted : Bool) : Nat → Credit → List Nat → Credit × List Nat
  | 0, x, cs => (x, cs)
  | n + 1, x, cs =>
    match takeCredit x posted with
    | none => (x, cs)
    | some (k, x') => creditFlits posted n x' (cs ++ [k])

/-- Give credits to the formed flits of stop `k`, in the order of forming (R121); closed destinations give none. -/
def State.assignCredits (s : State) (k : Nat) : State :=
  let step := fun (a : State × List FTxn) (t : FTxn) =>
    let d := t.head.dst.toNat
    let c := t.head.cls.toNat
    if t.rsp || a.1.isClosed k d then (a.1, a.2 ++ [t])
    else
      let r := creditFlits (isPosted t.head.opc) (t.flits.length - t.cred.length) (a.1.credit k d c) t.cred
      (a.1.setCredit k d c r.1, a.2 ++ [{ t with cred := r.2 }])
  let r := (s.queue k).foldl step (s, [])
  r.1.setQueue k r.2

/-- Flits of (d, c) that are formed at stop `k` and hold no credit, oldest first: whether each is non-posted. -/
def State.waiting (s : State) (k d c : Nat) : List Bool :=
  (s.queue k).flatMap (fun t =>
    if t.rsp || t.head.dst.toNat != d || t.head.cls.toNat != c then []
    else List.replicate (t.flits.length - t.cred.length) (isNonPosted t.head.opc))

/-- Send a RES_REQ of the outstanding request (Table 5-3); RES_REQ_CNT counts retries too. -/
def State.sendReq (s : State) (k d c : Nat) (o : ReqOut) (retry : Bool) : State :=
  (s.rcInc F.STOP.RES_REQ_CNT k).send (mkTyped 2 d k [(46, 2, c), (40, 6, o.count - 1), (32, 8, o.rid),
    (31, 1, b2n retry), (30, 1, b2n o.np)])

/-- Ask for shared entries when flits of (d, c) wait and no request is outstanding (R133, R134, R145). -/
def State.ask (s : State) (k d c : Nat) : State :=
  let x := s.credit k d c
  let w := s.waiting k d c
  if w.isEmpty || x.out.isSome || s.fbit F.STOP.RES_CFG.FLOOR_ONLY k then s
  else
    let mx := s.fget F.STOP.RES_CFG.MAX_REQ k
    let n := min w.length (if mx = 0 then 64 else mx)
    let rid := (x.rid + 1) % 256
    let o : ReqOut := { rid := rid, count := n, np := (w.take n).any id, g := s.nodeTick k, sent := tget 0 s.arb.clk k }
    (s.setCredit k d c { x with rid := rid, out := some o }).sendReq k d c o false

/-- The destination and class pairs that stop `k` has formed flits for. -/
def State.wanted (s : State) (k : Nat) : List (Nat × Nat) :=
  ((s.queue k).filter (fun t => !t.rsp)).map (fun t => (t.head.dst.toNat, t.head.cls.toNat))

/-- Give credits and ask for what is missing: after forming, and after any change of credits. -/
def State.resService (s : State) (k : Nat) : State :=
  let s1 := s.assignCredits k
  (s1.wanted k).foldl (fun a p => a.ask k p.1 p.2) s1

/-! ### The destination (R122–R125, R136, R137) -/

/-- used[c] of destination `d`. -/
def State.used (s : State) (d c : Nat) : Nat := s.fget F.STOP.CLS_USE.USED d c
def State.setUsed (s : State) (d c v : Nat) : State := s.fset F.STOP.CLS_USE.USED v d c
def State.npUsed (s : State) (d : Nat) : Nat := s.fget F.STOP.POOL_STS.NP_USED d

/-- Shared entries not charged (POOL_STS.FREE). -/
def State.poolFree (s : State) (d : Nat) : Nat :=
  1536 - (s.used d 0 + s.used d 1 + s.used d 2 + s.used d 3)

/-- Charge the entry of a landing REQ flit (R122): the kind of charge and the new counts. -/
def chargeKind (x : Charge) (posted : Bool) : Nat × Charge :=
  if posted && 0 < x.gp then (1, { x with gp := x.gp - 1 })
  else if 0 < x.ga then (2, { x with ga := x.ga - 1 })
  else (0, { x with fo := x.fo + 1 })

/-- The CREDIT message of destination `d` to source `k` (Table 5-3). -/
def State.creditMsg (s : State) (d k : Nat) (sync : Bool) : Msg :=
  let cum := fun c => (s.charge d k c).cum
  let occ := fun c => if sync then (s.charge d k c).fo else 0
  mkTyped 4 k d [(40, 8, cum 0), (32, 8, cum 1), (24, 8, cum 2), (16, 8, cum 3), (15, 1, b2n sync),
    (13, 2, occ 0), (11, 2, occ 1), (9, 2, occ 2), (7, 2, occ 3)]

/-- A CREDIT (SYNC = 0) of destination `d` to source `k` that is not yet inserted. -/
def Flight.isCreditMark (f : Flight) (d k : Nat) : Bool :=
  f.up == .wait && f.down == .wait && msgType f.msg == 4 && msgSrc f.msg == d && msgDst f.msg == k && vbits f.msg 15 1 == 0

/-- Destination `d` sends a CREDIT to source `k`. A mark that comes before the CREDIT of an earlier one is inserted is merged
into it (R125). -/
def State.sendCredit (s : State) (d k : Nat) (sync : Bool) : State :=
  let m := s.creditMsg d k sync
  if !sync && s.net.flight.any (fun f => f.isCreditMark d k) then
    { s with net := { s.net with flight := s.net.flight.map (fun f => if f.isCreditMark d k then { f with msg := m } else f) } }
  else s.send m

/-- Free the ingress entry of a flit of source `k`, class `c` (R123). A floor entry goes back to its source by CREDIT. -/
def State.freeEntry (s : State) (d k c kind : Nat) : State :=
  match kind with
  | 1 => s.setUsed d c (s.used d c - 1)
  | 2 => (s.setUsed d c (s.used d c - 1)).fset F.STOP.POOL_STS.NP_USED (s.npUsed d - 1) d
  | 0 =>
    let x := s.charge d k c
    (s.setCharge d k c { x with fo := x.fo - 1, cum := (x.cum + 1) % 256 }).sendCredit d k false
  | _ => s

/-- A class's pending queue. -/
def State.pendQ (s : State) (d c : Nat) : List PendReq := tget [] s.resv.pendQ (d * 4 + c)
def State.setPendQ (s : State) (d c : Nat) (q : List PendReq) : State :=
  { s with resv := { s.resv with pendQ := tset [] s.resv.pendQ (d * 4 + c) q } }

/-- RES_GNT of destination `d` to source `k` (Table 5-3). -/
def State.sendGnt (s : State) (d k c count rid : Nat) (rep np : Bool) : State :=
  s.send (mkTyped 3 k d [(46, 2, c), (40, 6, count - 1), (32, 8, rid), (31, 1, b2n rep), (30, 1, b2n np),
    (22, 8, (s.charge d k c).cum)])

/-- RES_REQ (R136). -/
def execResReq (n : Stop) (m : Msg) (s : State) : Res :=
  let s1 := s.take n m
  if !msgOk m then .next (s1.msgBad n m)
  else
    let k := msgSrc m
    let c := vbits m 46 2
    let rid := vbits m 32 8
    let x := s1.charge n k c
    if x.lastRid = rid + 1 then
      .next (if x.pend then s1 else s1.sendGnt n k c x.gCount rid true x.gNp)
    else
      let np := vbits m 30 1 == 1
      let s2 := s1.setCharge n k c { x with lastRid := rid + 1, pend := true }
      .next (s2.setPendQ n c (s2.pendQ n c ++ [⟨k, vbits m 40 6 + 1, np, rid⟩]))

/-- The head of class `c` fits (R137). -/
def State.grantFits (s : State) (d c : Nat) : Bool :=
  match s.pendQ d c with
  | [] => false
  | r :: _ =>
    let others := ((List.range 4).filter (fun e => e != c)).map
      (fun e => s.fget F.STOP.POOL_CLS.MIN d e - s.used d e)
    let spare := s.poolFree d - others.foldl (· + ·) 0
    s.used d c + r.count ≤ s.fget F.STOP.POOL_CLS.MAX d c && r.count ≤ spare
    && (!r.np || s.npUsed d + r.count ≤ s.fget F.STOP.NP_MAX d)

/-- The classes in round-robin order after the class granted last. DESIGN CHOICE: before the first grant, and after OFF, that
is SCV, so that CTL is looked at first. -/
def State.grantOrder (s : State) (d : Nat) : List Nat :=
  let l := tget 3 s.resv.rr d
  [(l + 1) % 4, (l + 2) % 4, (l + 3) % 4, l % 4]

/-- RES_GRANT_DECISION (R137): at most one grant, none while closing or with the sector asleep. -/
def State.grantDecision (s : State) (d : Nat) : State :=
  if s.fbit F.STOP.POOL_STS.CLOSING d || !s.stopRuns d then s
  else match (s.grantOrder d).find? (fun c => s.grantFits d c) with
    | none => s
    | some c =>
      match s.pendQ d c with
      | [] => s
      | r :: rest =>
        let x := s.charge d r.src c
        let s1 := s.setUsed d c (s.used d c + r.count)
        let s2 := if r.np then s1.fset F.STOP.POOL_STS.NP_USED (s.npUsed d + r.count) d else s1
        let s3 := s2.setCharge d r.src c { x with
          pend := false, gCount := r.count, gNp := r.np,
          gp := if r.np then x.gp else x.gp + r.count, ga := if r.np then x.ga + r.count else x.ga }
        let s4 := s3.setPendQ d c rest
        let s5 : State := { s4 with resv := { s4.resv with rr := tset 3 s4.resv.rr d c } }
        (s5.rcInc F.STOP.RES_GNT_CNT d).sendGnt d r.src c r.count r.rid false r.np

def execResGrantDecision (d : Stop) (s : State) : Res := .next (s.grantDecision d)

/-- Apply a cumulative floor return (R125). -/
def applyCum (x : Credit) (cum : Nat) : Credit := { x with f := x.f + wrapSub 8 cum x.lastCum, lastCum := cum }

/-- RES_GNT (R138): for the outstanding RID only (R135). -/
def execResGnt (n : Stop) (m : Msg) (s : State) : Res :=
  let s1 := s.take n m
  if !msgOk m then .next (s1.msgBad n m)
  else
    let d := msgSrc m
    let c := vbits m 46 2
    let x := s1.credit n d c
    match x.out with
    | none => .next s1
    | some o =>
      if o.rid ≠ vbits m 32 8 then .next s1
      else
        let cnt := vbits m 40 6 + 1
        let y := applyCum { x with
          out := none, p := if vbits m 30 1 = 0 then x.p + cnt else x.p,
          a := if vbits m 30 1 = 0 then x.a else x.a + cnt } (vbits m 22 8)
        .next (((s1.setCredit n d c y).fmax F.STOP.RES_WAIT_MAX (tget 0 s1.arb.clk n - o.sent) n).resService n)

/-- CREDIT (R125, R147). -/
def execCredit (n : Stop) (m : Msg) (s : State) : Res :=
  let s1 := s.take n m
  if !msgOk m then .next (s1.msgBad n m)
  else
    let d := msgSrc m
    let sync := vbits m 15 1 == 1
    let cum := fun c => vbits m (40 - 8 * c) 8
    let occ := fun c => vbits m (13 - 2 * c) 2
    let s2 := (List.range 4).foldl (fun a c =>
      let x := a.credit n d c
      a.setCredit n d c (if sync then { x with f := 2 - occ c, lastCum := cum c } else applyCum x (cum c))) s1
    let s3 : State := if sync then { s2 with resv := { s2.resv with unsync := tset 0 s2.resv.unsync (pairKey n d) 0 } } else s2
    .next (s3.resService n)

/-- RES_REQ_RETRY (R135): at the first boundary `b ≥ g + REQ_TO + 1`; no RES_REQ goes out while FLOOR_ONLY is 1 (R133). -/
def State.resRetry (s : State) (k d c : Nat) : State :=
  let x := s.credit k d c
  match x.out with
  | none => s
  | some o =>
    let toward := max 1 (s.fget F.STOP.RES_CFG.REQ_TO k)
    if tickPast (s.nodeTick k) o.g (toward + 1) && !s.fbit F.STOP.RES_CFG.FLOOR_ONLY k then
      let o' := { o with g := s.nodeTick k }
      ((s.setCredit k d c { x with out := some o' }).sendReq k d c o' true).rcInc F.STOP.RES_RETRY_CNT k
    else s

def execResReqRetry (k : Stop) (d : Stop) (c : Fin 4) (s : State) : Res := .next (s.resRetry k d c)

/-! ### Closing and reopening (R143–R147) -/

/-- A stop begins to close: it stops granting and its node broadcasts RECALL (R143). -/
def State.beginClose (s : State) (k : Nat) : State :=
  let s1 := (s.fput F.STOP.POOL_STS.CLOSING true k)
  ({ s1 with resv := { s1.resv with surr := tset 0 s1.resv.surr k 0 } } : State).bcast (mkTyped 5 63 k [(46, 2, 0)])

/-- A stop opens again: REISSUE, FRESH after OFF (R146). -/
def State.reopen (s : State) (k : Nat) (fresh : Bool) : State :=
  (s.fput F.STOP.POOL_STS.CLOSING false k).bcast (mkTyped 5 63 k [(46, 2, 1), (45, 1, b2n fresh)])

/-- Credits that a transaction holds go back to the source's counts of its destination. -/
def State.refund (s : State) (k : Nat) (t : FTxn) : State :=
  let d := t.head.dst.toNat
  let c := t.head.cls.toNat
  s.setCredit k d c (t.cred.foldl giveCredit (s.credit k d c))

/-- The credits that the unsent flits of stop `k` for destination `d` hold go back. DEDUCED from R143: a closed
destination is sent nothing more, and the credits surrendered are those no sent flit holds. -/
def State.withdrawCredits (s : State) (k d : Nat) : State :=
  (s.queue k).foldl (fun a t =>
    if t.rsp || t.head.dst.toNat != d then a else a.refund k t) s
  |>.setQueue k ((s.queue k).map (fun t => if t.rsp || t.head.dst.toNat != d then t else { t with cred := [] }))

/-- Once every flit sent to a recalled destination is acknowledged, SURRENDER goes out for each class (R143), and the work
that is left asks (R145). -/
def State.surrender (s : State) (k d : Nat) : State :=
  if tget 0 s.resv.recalls (pairKey k d) ≠ 1 then s
  else if (tget [] s.ord.ret k).any (fun c => c.flit.dst.toNat == d) then s
  else
    let s0 := s.withdrawCredits k d
    let s1 := (List.range 4).foldl (fun a c =>
      let x := a.credit k d c
      (a.setCredit k d c { x with p := 0, a := 0 }).send (mkTyped 6 d k
        [(46, 2, c), (39, 7, x.p), (32, 7, x.a), (30, 1, b2n (c == 3))])) s0
    ({ s1 with resv := { s1.resv with recalls := tset 0 s1.resv.recalls (pairKey k d) 0 } } : State).resService k

/-- FLOOR_RECALL (R143): a source in RUN or TRIM marks the destination closed; the node of a closed sector answers at
once with CLOSED = 1, and marks it too (DEDUCED from R147, by which a source back from OFF knows which are open). -/
def execFloorRecall (n : Stop) (m : Msg) (s : State) : Res :=
  let s1 := s.take n m
  if !msgOk m then .next (s1.msgBad n m)
  else
    let d := msgSrc m
    if s1.stopRuns n then
      let s2 : State := { s1 with resv := { s1.resv with
        closed := tset 0 s1.resv.closed (pairKey n d) 1, recalls := tset 0 s1.resv.recalls (pairKey n d) 1 } }
      .next (s2.surrender n d)
    else
      let s2 : State := { s1 with resv := { s1.resv with closed := tset 0 s1.resv.closed (pairKey n d) 1 } }
      .next ((List.range 4).foldl (fun a c => a.send (mkTyped 6 d n
        [(46, 2, c), (31, 1, 1), (30, 1, b2n (c == 3))])) s2)

/-- SURRENDER (R143): the returned counts go back to the pool. -/
def execSurrender (n : Stop) (m : Msg) (s : State) : Res :=
  let s1 := s.take n m
  if !msgOk m then .next (s1.msgBad n m)
  else
    let k := msgSrc m
    let c := vbits m 46 2
    let p := vbits m 39 7
    let a := vbits m 32 7
    let x := s1.charge n k c
    let s2 := s1.setCharge n k c { x with gp := x.gp - p, ga := x.ga - a }
    let s3 := (s2.setUsed n c (s2.used n c - (p + a))).fset F.STOP.POOL_STS.NP_USED (s2.npUsed n - a) n
    .next (if vbits m 30 1 = 1 then
      { s3 with resv := { s3.resv with surr := tset 0 s3.resv.surr n (tget 0 s3.resv.surr n ||| 2 ^ k) } } else s3)

/-- The number spaces of the pairs of stops `k` and `d` restart at 0 (R76). -/
def State.restartPair (s : State) (k d : Nat) : State :=
  let half := fun (o : OrdSt) (a b : Nat) =>
    { o with nextSeq := tset 0 o.nextSeq (pairKey a b) 0, low := tset 0 o.low (pairKey b a) 0,
             seen := tdrop (fun i => i / 65536 == pairKey b a) o.seen }
  { s with ord := half (half s.ord k d) d k }

/-- A source back from OFF forms nothing for a destination before it is synchronised (R147, R412). -/
def State.unsyncAll (s : State) (k : Nat) : State :=
  { s with resv := { s.resv with unsync := (List.range 60).foldl (fun t d => tset 0 t (pairKey k d) 1) s.resv.unsync } }

/-- The source `k` asks destination `d` for its floors. -/
def State.syncReq (s : State) (k d : Nat) : State := s.send (mkTyped 5 d k [(46, 2, 2)])

/-- It asks every other open destination (R412). -/
def State.syncAll (s : State) (k : Nat) : State :=
  (List.range 60).foldl (fun a d => if a.isClosed k d || d == k then a else a.syncReq k d) s

/-- FLOOR_REISSUE (R146): the destination is open; after OFF the floors are whole and the pair restarts (R76). A source not
yet synchronised with a destination that comes back from DOZE asks it (DEDUCED from R147). A FRESH broadcast that has come
back to its sender is followed by the sender's SYNC_REQs (R412). -/
def execFloorReissue (n : Stop) (m : Msg) (s : State) : Res :=
  let s1 := s.take n m
  if !msgOk m then .next (s1.msgBad n m)
  else
    let d := msgSrc m
    let pk := pairKey n d
    let s2 : State := { s1 with resv := { s1.resv with closed := tset 0 s1.resv.closed pk 0, recalls := tset 0 s1.resv.recalls pk 0 } }
    let s3 := if vbits m 45 1 = 1 then
        let a := ((List.range 4).foldl (fun a c => a.setCredit n d c { a.credit n d c with f := 2, lastCum := 0 }) s2).restartPair n d
        let b : State := { a with resv := { a.resv with unsync := tset 0 a.resv.unsync pk 0 } }
        if d = n.val then b.syncAll n else b
      else if tget 0 s2.resv.unsync pk = 1 then s2.syncReq n d else s2
    .next (s3.resService n)

/-- FLOOR_SYNC_REQ (R147): the destination answers with a CREDIT that has SYNC = 1. -/
def execFloorSyncReq (n : Stop) (m : Msg) (s : State) : Res :=
  let s1 := s.take n m
  .next (if !msgOk m then s1.msgBad n m else s1.sendCredit n (msgSrc m) true)

end Sys2Proof.Machine
end

