-- ==== Sys2Proof/Machine/Form.lean ====
section
/-! DEFINITION. Forming transactions into flits, tags and response entries (03_flits_and_transactions R61–R63, R100,
R139, R172, R347). -/

namespace Sys2Proof.Machine

/-- Response entries of a stop (Table 5-2). -/
def rspEntries (k : Nat) : Nat :=
  if isPortStop k then 4096 else if isMemStop k then 1024 else if isEngStop k then 8192
  else if k = 56 ∨ k = 57 then 512 else if k = 59 then 4096 else 0

/-- Tags of a stop (R73, R316, R494). PRESUMED for memory stops and stop 59: one tag per response entry. -/
def tagSpace (k : Nat) : Nat :=
  if isPortStop k then 4096 else if isEngStop k then 4096 else if k = 56 ∨ k = 57 then 512
  else if isMemStop k then 1024 else if k = 59 then 4096 else 0

def State.tag (s : State) (k t : Nat) : TagRec := tget {} s.ord.tags (k * 8192 + t)
def State.setTag (s : State) (k t : Nat) (x : TagRec) : State :=
  { s with ord := { s.ord with tags := tset {} s.ord.tags (k * 8192 + t) x } }

/-- The tags of stop `k` that are not IDLE: number and record. -/
def State.tagsOf (s : State) (k : Nat) : List (Nat × TagRec) :=
  (s.ord.tags.filter (fun e => e.1 / 8192 == k && e.2.st != 0)).map (fun e => (e.1 % 8192, e.2))

/-- Response entries not reserved (RSP_STS.RSP_FREE). -/
def State.rspFree (s : State) (k : Nat) : Nat :=
  rspEntries k - ((s.tagsOf k).map (fun e => e.2.entries)).foldl (· + ·) 0

/-- Response entries that a non-posted request reserves (R139). -/
def entriesFor (f : Flit) : Nat :=
  if f.opc = opMRD ∨ f.opc = opLOCKRD then min 64 ((f.addr.toNat % 64 + 4 * lenUnits f.len + 63) / 64) else 1

/-- The lowest IDLE tag. DESIGN CHOICE: the manual does not say which IDLE tag a request takes. -/
def State.idleTag (s : State) (k : Nat) : Option Nat :=
  (List.range (tagSpace k)).find? (fun t => (s.tag k t).st == 0)

/-- The logical destination's physical stop (R100), in the bank active at the source. -/
def State.routePhys (s : State) (k d : Nat) : Nat := s.fget F.STOP.ROUTE.PHYS k d (s.bankAt k)
def State.routeEn (s : State) (k d : Nat) : Bool := s.fbit F.STOP.ROUTE.EN k d (s.bankAt k)

/-- Completion timeout of a request: of the requester's link, the engine or the core (R171, R316, R494). DESIGN CHOICE: a
read of a memory stop, or of a stop's own, has no link and takes CTO[0] of its stop. -/
def State.ctoOf (s : State) (k link : Nat) : Nat :=
  if isPortStop k then s.fget F.STOP.CTO k link
  else if isEngStop k then s.fget F.ENG.CTO (sectorOf k)
  else if k = 56 ∨ k = 57 then s.fget F.CTL.CTO else s.fget F.STOP.CTO k 0

/-- State of a target at a requester (R249): 0 NORMAL, 1 HELD, 2 DROPPED. -/
def State.target (s : State) (k tk tl : Nat) : Nat := tget 0 s.ord.tgt (k * 256 + tk * 4 + tl)

def State.formQ (s : State) (k : Nat) : List FormReq := tget [] s.ord.formQ k
def State.setFormQ (s : State) (k : Nat) (q : List FormReq) : State :=
  { s with ord := { s.ord with formQ := tset [] s.ord.formQ k q } }

/-- Work joins the stop's forming queue. -/
def State.submit (s : State) (k : Nat) (r : FormReq) : State := s.setFormQ k (s.formQ k ++ [r])

/-- The flits of a transaction (R62): one per 128 bytes of payload, the whole header repeated. -/
def flitsOf (h : Flit) (chunks : List Data) : List Flit :=
  match chunks with
  | [] => [{ h with fidx := 0, last := 1, data := 0 }]
  | cs => (List.range cs.length).map (fun i =>
      { h with fidx := BitVec.ofNat 5 i, last := BitVec.ofNat 1 (b2n (i + 1 == cs.length)), data := cs.getD i 0 })

/-- The requester index of a header (R183). -/
def rqOf (h : Flit) : Nat := h.cls.toNat * 4096 + h.slice.toNat

/-- Transactions of a requester that are formed and not wholly granted. -/
def State.rqDepth (s : State) (k rq : Nat) : Nat := ((s.queue k).filter (fun t => t.rq == rq)).length

/-- A field of R268 in force at a port stop: 0 QCAP, 1 P_AGE, 2 LOCK_MAX, 3 + l WATCH, 7 + l HOLD_Q, 11 + l FLUSH_Q; or, at
every stop, one of R180: 15 OUT_LIMIT, 16 QUAR. A written value is in force from the next boundary on. -/
def effFld (i : Nat) : Fld × Nat :=
  if i = 0 then (F.STOP.PORT_CFG.QCAP, 0) else if i = 1 then (F.STOP.SPILL_CFG.P_AGE, 0)
  else if i = 2 then (F.STOP.LOCK_CFG.LOCK_MAX, 0) else if i < 7 then (F.STOP.LINK_CFG.WATCH, i - 3)
  else if i < 11 then (F.STOP.SPILL_Q.HOLD_Q, i - 7) else if i < 15 then (F.STOP.SPILL_Q.FLUSH_Q, i - 11)
  else if i = 15 then (F.STOP.OUT_LIMIT, 0) else (F.STOP.QUAR, 0)

def State.eff (s : State) (k i : Nat) : Nat :=
  let f := effFld i
  match tget 0 s.port.eff (k * 32 + i) with
  | 0 => f.1.resetAt f.2 0
  | v => v - 1

/-- The written values take effect at a boundary (R268, R180). -/
def State.effTake (s : State) (k : Nat) : State :=
  ((List.range 17).filter (fun i => isPortStop k || 15 ≤ i)).foldl (fun a i =>
    let f := effFld i
    let v := a.fget f.1 k f.2
    { a with port := { a.port with
      eff := tset 0 a.port.eff (k * 32 + i) (if v = f.1.resetAt f.2 0 then 0 else v + 1) } }) s

/-- Room in the requester's queue of a port stop: QCAP transactions, 0 meaning 256 (R237, R268). -/
def State.queueRoom (s : State) (k : Nat) (r : FormReq) : Bool :=
  if r.lane < 15 && isPortStop k then
    let c := s.eff k 0
    s.rqDepth k (rqOf r.hdr) < (if c = 0 then 256 else c)
  else true

/-- Firmware forms requests at its core's stop while the core is ACTIVE; a core that has handed over forms no new one (R496).
Every other stop has no core. -/
def State.coreForms (s : State) (k : Nat) : Bool :=
  match k with
  | 56 => s.fget F.CTL.CORE_STS.STATE_A == 4 && tget 0 s.boot.settling 0 != 1
  | 57 => s.fget F.CTL.CORE_STS.STATE_B == 4 && tget 0 s.boot.settling 1 != 1
  | _ => true

/-- What keeps a request from being formed now: 0 nothing, 1 its route entry is disabled (R100), 2 a tag or response
entries (R139), 3 queue room (R237), 4 the CREDIT with SYNC of its destination has not come (R412), 5 its socket is being switched
(Table 9-8), 6 the core of its stop is not ACTIVE (R494, R496). Responses need only room. -/
def State.formBlock (s : State) (k : Nat) (r : FormReq) : Nat :=
  if isRsp r.hdr.opc then 0
  else if !s.coreForms k then 6
  else if !s.routeEn k r.ldst then 1
  else if isNonPosted r.hdr.opc && ((s.idleTag k).isNone || s.rspFree k < entriesFor r.hdr) then 2
  else if !s.queueRoom k r then 3
  else if tget 0 s.resv.unsync (pairKey k (s.routePhys k r.ldst)) = 1 then 4
  else if r.lane < 15 && s.leavingPhase k != 0 && s.leavingPhase k < 4 then 5
  else 0

/-- Open the tag of a non-posted request: HELD when its target is held, else OPEN (Table 6-3). -/
def State.openTag (s : State) (k t : Nat) (r : FormReq) : State :=
  let now := s.nodeTick k
  let cto := s.ctoOf k r.reqLink
  let held := s.target k r.ldst r.link == 1
  let num := s.ord.rdNext + 1
  let s1 : State := { s with ord := { s.ord with
    rdNext := num,
    rdUse := if isPortStop k && r.use == .tlp then s.ord.rdUse else tset none s.ord.rdUse (num * 64 + k) (some (r.use, some r.hdr)) } }
  s1.setTag k t {
    st := if held then 2 else 1, pciTag := r.pciTag, reqId := r.reqId, slice := r.hdr.slice.toNat,
    sgen := r.hdr.sgen.toNat, egStop := r.ldst, egLink := r.link, link := r.reqLink, left := r.left,
    entries := entriesFor r.hdr, taken := 0, busy := 0, o := now,
    deadline := if held then 0 else wrapAdd 48 now cto, remain := if held then cto else 0, owes := 0, expAt := 0,
    hdr := some r.hdr, use := r.use, num := num }

/-- Form one request: flits, tag, credits, reservation; the ingress entries that it copies are freed (R123). -/
def State.formOne (s : State) (k : Nat) (r : FormReq) : State :=
  let rsp := isRsp r.hdr.opc
  let phys := if rsp then r.hdr.dst else BitVec.ofNat 6 (s.routePhys k r.ldst)
  let tg := if isNonPosted r.hdr.opc then s.idleTag k else none
  let s1 := match tg with | some t => s.openTag k t r | none => s
  let h : Flit := { r.hdr with
    dst := phys, src := BitVec.ofNat 6 k, tag := (match tg with | some t => BitVec.ofNat 12 t | none => r.hdr.tag) }
  let t : FTxn := {
    rq := rqOf h, flits := flitsOf h r.chunks, ldst := r.ldst, link := r.link,
    rid := if isMemStop r.ldst && !rsp then r.ldst else r.rid, rsp := rsp,
    reqRing := r.reqRing, stamp := s.nodeTick k, own := r.lane ≥ 15, held1 := r.held1, job := r.job }
  r.frees.foldl (fun a e => a.freeEntry k e.1 e.2.1 e.2.2) ((s1.setQueue k (s1.queue k ++ [t])).resService k)

/-- The place in the forming queue of the first request that can be formed now; a lane's requests stay in order. -/
def State.formable (s : State) (k : Nat) : List FormReq → List Nat → Nat → Option Nat
  | [], _, _ => none
  | r :: rs, lanes, i =>
    if lanes.contains r.lane && r.lane != 15 then s.formable k rs lanes (i + 1)
    else if s.formBlock k r = 0 then some i
    else s.formable k rs (r.lane :: lanes) (i + 1)

/-! ### The copies of the replicator (R332, R333) -/

/-- The port stop and link of a link index. -/
def linkOf (i : Nat) : Nat × Nat := (portStopOf (i / 4), i % 4)

/-- The copy of a transaction for a member link. -/
def copyReq (x : Fan) (i : Nat) : FormReq :=
  let h := x.flits.headD emptyFlit
  { hdr := { h with src := 58, pois := BitVec.ofNat 1 (b2n (x.flits.any (fun f => f.pois == 1))) }, chunks := if dataUsed h.opc h.addr h.len then x.flits.map (fun f => f.data) else [],
    ldst := (linkOf i).1, link := (linkOf i).2, rid := x.rid }

/-- The copies still to be formed that no earlier copy for the same member precedes: place in the list, member, transaction. -/
def copyHeads : Nat → List Fan → List Nat → List (Nat × Nat × Fan)
  | _, [], _ => []
  | n, x :: t, seen => (x.members.filter (fun i => !seen.contains i)).map (fun i => (n, i, x)) ++ copyHeads (n + 1) t (seen ++ x.members)

/-! ### Work that waits -/

/-- The requests of the forming queue that nothing of their lane precedes. -/
def laneHeads : List FormReq → List Nat → List FormReq
  | [], _ => []
  | r :: rs, lanes =>
    if r.lane != 15 && lanes.contains r.lane then laneHeads rs lanes else r :: laneHeads rs (r.lane :: lanes)

/-- Count each request that waits for the first time: a disabled route entry, or a tag or response entries. -/
def State.formWaits (s : State) (k : Nat) : State :=
  let heads := laneHeads (s.formQ k) []
  let step := fun (a : State × List FormReq) (r : FormReq) =>
    match if heads.contains r then s.formBlock k r else 0 with
    | 1 => if r.held1 then (a.1, a.2 ++ [r])
           else (a.1.rcInc F.STOP.ROUTE_HOLD_CNT k, a.2 ++ [{ r with held1 := true }])
    | 2 => if r.waited || (s.idleTag k).isNone then (a.1, a.2 ++ [r])
           else (a.1.rcInc F.STOP.RSP_WAIT_CNT k, a.2 ++ [{ r with waited := true }])
    | _ => (a.1, a.2 ++ [r])
  let r := (s.formQ k).foldl step (s, [])
  r.1.setFormQ k r.2

/-- Classes of the work of a stop that cannot be formed now. -/
def State.unformed (s : State) (k : Nat) : List Nat :=
  ((laneHeads (s.formQ k) []).filter (fun r => s.coreForms k && s.formBlock k r != 0)).map (fun r => r.hdr.cls.toNat)
  ++ (if k = 58 then ((copyHeads 0 s.eng.fan []).filter (fun p => s.formBlock 58 (copyReq p.2.2 p.2.1) != 0)).map (fun p =>
    (copyReq p.2.2 p.2.1).hdr.cls.toNat) else [])

/-- TRANSACTION_FORMED (R62, R100, R139): the first request of the stop that can be formed is formed; those that cannot
are counted. -/
def State.transactionFormed (s0 : State) (k : Nat) : State :=
  let s := s0.formWaits k
  match s.formable k (s.formQ k) [] 0 with
  | none => s
  | some i =>
    match (s.formQ k)[i]? with
    | none => s
    | some r => (s.setFormQ k ((s.formQ k).eraseIdx i)).formOne k r

/-- A formed REQ transaction without numbers whose route entry names another physical stop in the bank now active. -/
def State.movedTxn (s : State) (k : Nat) (t : FTxn) : Bool :=
  !t.rsp && !t.numbered && t.head.dst.toNat != s.routePhys k t.ldst

/-- ROUTE at a boundary (R102, Table 2-4: by grant): such a transaction goes to the new stop; its credits go back and it asks
again. DESIGN CHOICE: a transaction whose first burst is granted keeps its stop, as its numbers belong to that pair. -/
def State.reroute (s : State) (k : Nat) : State :=
  let out := (s.queue k).filter (fun t => s.movedTxn k t)
  if out.isEmpty then s
  else
    let s1 := out.foldl (fun a t => a.refund k t) s
    (s1.setQueue k ((s.queue k).map (fun t =>
      if s.movedTxn k t then
        { t with cred := [], flits := t.flits.map (fun f => { f with dst := BitVec.ofNat 6 (s.routePhys k t.ldst) }) }
      else t))).resService k

/-- Chunks of 128 bytes of a byte list. -/
def chunksOf : Nat → List (BitVec 8) → List Data
  | 0, _ => []
  | _, [] => []
  | n + 1, bs => BitVec.ofNat 1024 (numOfBytes (bs.take 128)) :: chunksOf n (bs.drop 128)

/-- The stop's own posted write: a CTL MWR with SLICE 0x000 (R74), `bytes` at `addr` of stop `d`. -/
def State.ownWrite (s : State) (k d addr : Nat) (bytes : List (BitVec 8)) (frees : List (Nat × Nat × Nat) := []) : State :=
  s.submit k {
    frees := frees,
    hdr := { emptyFlit with
      opc := opMWR, cls := clsCTL, addr := BitVec.ofNat 64 addr, be := 0xFF,
      len := BitVec.ofNat 10 (bytes.length / 4) },
    chunks := chunksOf 32 bytes, ldst := d, lane := 15 }

/-- The stop's own read: a CTL MRD with SLICE 0x000 of `n` bytes at `addr` of stop `d`. -/
def State.ownRead (s : State) (k d addr n : Nat) (use : TagUse) : State :=
  s.submit k {
    hdr := { emptyFlit with
      opc := opMRD, cls := clsCTL, addr := BitVec.ofNat 64 addr, be := 0xFF,
      len := BitVec.ofNat 10 (n / 4) },
    ldst := d, lane := 15, use := use, left := n }

end Sys2Proof.Machine
end

