-- ==== Sys2Proof/Machine/Inject.lean ====
section
/-! DEFINITION. Fault injection units on ring links (R474–R478). -/

namespace Sys2Proof.Machine

/-- Ring unit of the link that station `k` drives (R474). -/
def fiRingUnit (k r d : Nat) : Nat := 120 * r + 60 * d + k

def State.fiUnit (s : State) (pg u : Nat) : FiUnit := tget {} s.spine.fi (pg * 2048 + u)
def State.fiSet (s : State) (pg u : Nat) (x : FiUnit) : State :=
  { s with spine := { s.spine with fi := tset {} s.spine.fi (pg * 2048 + u) x } }

/-- A field of FI unit `u` of page `pg`. -/
def State.fif (s : State) (f : Fld) (pg u : Nat) : Nat := s.fget f pg 0 0 u

/-- Raise an RC field of FI unit `u`. -/
def State.fiInc (s : State) (f : Fld) (pg u : Nat) : State := s.fset f (satAdd 32 (s.fif f pg u) 1) pg 0 0 u

/-- A stop may be at either end of injected traffic: not a port stop, or a port stop in TEST (R475). -/
def State.fiStopOk (s : State) (k : Nat) : Bool := !isPortStop k || s.modeNow k == 2

/-- A flit is eligible at a ring unit (R475). -/
def State.fiEligible (s : State) (u : Nat) (f : Flit) : Bool :=
  f.opc != 0 && f.opc != opMAINT && s.fiStopOk f.src.toNat && s.fiStopOk f.dst.toNat
  && (s.fif F.FI.FI_MATCH.OPC_EN 0 u == 0 || s.fif F.FI.FI_MATCH.OPC 0 u == f.opc.toNat)
  && (s.fif F.FI.FI_MATCH.DST_EN 0 u == 0 || s.fif F.FI.FI_MATCH.DST 0 u == f.dst.toNat)
  && (s.fif F.FI.FI_MATCH.CLS_EN 0 u == 0 || s.fif F.FI.FI_MATCH.CLASS 0 u == f.cls.toNat)

/-- One eligible item is seen by an armed unit: whether it fires, with the counts of R476. -/
def State.fiSee (s : State) (pg u : Nat) : Bool × State :=
  let x := s.fiUnit pg u
  let n := x.seen + 1
  let per := max 1 (s.fif F.FI.FI_N.N pg u)
  let fires := x.held.isNone &&
    (if s.fif F.FI.FI_CTL.MODE pg u = 0 then n % per == 0
     else Config.fiDraw (max 1 (s.fif F.FI.FI_SEED.SEED pg u)) n % 65536 < s.fif F.FI.FI_PROB.P pg u)
  let s1 := (s.fiSet pg u { x with seen := n }).fiInc F.FI.FI_ELIG pg u
  if fires then
    let s2 := (s1.fiSet pg u { x with seen := n, fired := x.fired + 1 }).fiInc F.FI.FI_FIRED pg u
    let lim := s.fif F.FI.FI_LIMIT.LIMIT pg u
    (true, if lim != 0 && lim ≤ x.fired + 1 then s2.fset F.FI.FI_CTL.ARM 0 pg 0 0 u else s2)
  else (false, s1)

/-- Flip wire `p` of a link. -/
def flipWire (w : BitVec 1384) (p : Nat) : BitVec 1384 := w ^^^ BitVec.ofNat 1384 (if p < 1384 then 2 ^ p else 0)

/-- The held slot of a unit may be placed: DELAY after FI_DLY cycles, REORDER after the next flit (Table 17-7). -/
def State.fiReady (s : State) (pg u : Nat) : Bool :=
  let x := s.fiUnit pg u
  if s.fif F.FI.FI_CTL.ACTION pg u = 2 then x.passed else max 1 (s.fif F.FI.FI_DLY.DLY pg u) ≤ x.age

/-- When a unit's action would place what it holds, in cycles of `age`: REORDER's `age` starts with the next flit. -/
def State.fiPlaceAt (s : State) (u : Nat) : Nat :=
  if s.fif F.FI.FI_CTL.ACTION 0 u = 2 then 0 else max 1 (s.fif F.FI.FI_DLY.DLY 0 u)

/-- The held flit has not found an empty slot within 64 cycles of its placing time. -/
def State.fiLate (s : State) (u : Nat) : Bool := s.fiReady 0 u && s.fiPlaceAt u + 64 ≤ (s.fiUnit 0 u).age

/-- A held flit is dropped (R477). -/
def State.fiDropHeld (s : State) (u : Nat) : State :=
  (s.fiSet 0 u { s.fiUnit 0 u with held := none, age := 0, passed := false }).fiInc F.FI.FI_HELD_LOST 0 u

/-- A flit passes a unit that holds another: an eligible one is seen, and nothing fires (R476). -/
def State.fiPass (s : State) (u : Nat) (f : Flit) : State :=
  let s1 := if s.fif F.FI.FI_CTL.ARM 0 u = 1 && s.fiEligible u f then (s.fiSee 0 u).2 else s
  let x := s1.fiUnit 0 u
  s1.fiSet 0 u { x with age := if s.fif F.FI.FI_CTL.ACTION 0 u = 2 ∧ x.passed = false then 0 else x.age + 1, passed := true }

/-- The ring unit of the link acts on the slot that the station drives in this cycle: `none` is an empty slot. The
answer is the slot that leaves. -/
def State.fiRing (s : State) (k r d : Nat) (f : Flit) (out : Option Slot) : Option Slot × State :=
  let u := fiRingUnit k r d
  let x := s.fiUnit 0 u
  match x.held with
  | some h =>
    if s.fiLate u then (out, s.fiDropHeld u)
    else match out with
    | none => if s.fiReady 0 u then (some h, s.fiSet 0 u { x with held := none, age := 0, passed := false })
              else (none, s.fiSet 0 u { x with age := x.age + 1 })
    | some o => (some o, s.fiPass u f)
  | none =>
    match out with
    | none => (none, s)
    | some o =>
      if s.fif F.FI.FI_CTL.ARM 0 u = 1 && s.fiEligible u f then
        let seen := s.fiSee 0 u
        let s1 := seen.2
        if !seen.1 then (some o, s1) else
          match s.fif F.FI.FI_CTL.ACTION 0 u with
          | 0 => (none, s1)
          | 1 =>
            let w1 := flipWire o.wires (s.fif F.FI.FI_POS.POS0 0 u)
            let w2 := if s.fif F.FI.FI_CTL.NBITS2 0 u = 1 then flipWire w1 (s.fif F.FI.FI_POS.POS1 0 u) else w1
            (some ⟨w2, true⟩, s1)
          | _ => (none, s1.fiSet 0 u { s1.fiUnit 0 u with held := some o, age := 0, passed := false })
      else (some o, s)

/-- The data wires of words 1–3. -/
def ballastWires : Nat := (2 ^ 336 - 1) * (2 ^ 346 + 2 ^ 692 + 2 ^ 1038)

/-- A slot leaves station `k`: an empty slot is not listed on the link (R88); with ballast it inverts the data wires of words
1–3 in b of every 16 cycles (R417). DESIGN CHOICE: in the first b of them, counted from reset. -/
def State.driveLink (s : State) (k r d : Nat) (o : Option Slot) : State :=
  let key := laneKey k r d
  let p := tget 0 s.pwr.ballPos key
  let s1 : State := { s with pwr := { s.pwr with ballPos := tset 0 s.pwr.ballPos key ((p + 1) % 16) } }
  match o with
  | none =>
    let v := tget 0 s.spine.lastOut key / 2 ^ 346 * 2 ^ 346
    { s1 with spine := { s1.spine with
        lastOut := tset 0 s.spine.lastOut key (if p < tget 0 s.pwr.ball k then v ^^^ ballastWires else v) } }
  | some sl =>
    { s1 with spine := { s1.spine with
        linkQ := tset [] s.spine.linkQ key (tget [] s.spine.linkQ key ++ [sl]),
        lastOut := tset 0 s.spine.lastOut key sl.wires.toNat } }

/-- FI_HELD_RELEASE (R477): a ready held flit is placed in an empty slot, or dropped once 64 cycles have passed since
its placing time. -/
def State.fiHeldRelease (s : State) (k r d : Nat) : State :=
  let u := fiRingUnit k r d
  let x := s.fiUnit 0 u
  match x.held with
  | none => s
  | some h =>
    if !s.fiReady 0 u then s
    else if s.fiLate u then s.fiDropHeld u
    else (s.fiSet 0 u { x with held := none, age := 0, passed := false }).driveLink k r d (some h)

def execFiHeldRelease (k : Stop) (r : RingNo) (d : Dir) (s : State) : Res :=
  .next (s.fiHeldRelease k r d)

end Sys2Proof.Machine
end

