-- ==== Sys2Proof/Machine/Ring.lean ====
section
/-! DEFINITION. A ring's life: states, commands, fence, calibration and test (04_rings_and_routes, R104–R115). -/

namespace Sys2Proof.Machine

/-- Change a ring's state, with its RING_STATE entry (Table 16-11). -/
def State.setRing (s : State) (r toward : Nat) : State :=
  (s.fset F.RING.RING_STS.STATE toward r).sillage 61 0x06 (packBits [(0, 3, s.ringState r), (3, 3, toward)])

/-- Every entry into FAILED leaves READY at 0 (R104). -/
def State.ringFail (s : State) (r : Nat) : State := (s.setRing r 6).fput F.RING.RING_STS.READY false r

/-- Lift the fence of a ring at every node (R108). -/
def State.liftFence (s : State) (r : Nat) : State :=
  let s1 : State := { s with spine := { s.spine with
    fence := tdrop (fun k => k % 16 == r) s.spine.fence, fenced := tdrop (fun k => k % 16 == r) s.spine.fenced } }
  s1.fset F.GLB.RING_USE.FENCED (nbits (s1.fget F.GLB.RING_USE.FENCED &&& (0x1FF ^^^ 2 ^ r)) 0 9)

/-- SUSPECT is set in IN_SVC: fence notice two ticks ahead when FENCE_EN is 1, and interrupt (R108, Table 4-2). -/
def State.ringSuspect (s : State) (r : Nat) : State :=
  let s1 := (s.fput F.RING.RING_STS.SUSPECT true r).intSet .ring r 0
  if s1.fbit F.RING.RING_CTL.FENCE_EN r then
    s1.bcast (mkCtrl 4 63 61 [(40, 4, r), (24, 16, s1.nodeTick 61 + 2)])
  else s1

/-- The removal threshold is reached, or FAIL is commanded, in IN_SVC and LEAVING (Table 4-2). -/
def State.ringThreshold (s : State) (r : Nat) : State :=
  match s.ringState r with
  | 1 => s.ringSuspect r
  | 2 => s.fput F.RING.RING_STS.SUSPECT true r
  | _ => s

/-! ### Values in force (R115) -/

/-- The fields of a ring page whose writes take effect at the next tick boundary: 0 FAIL_WIN, 1 FAIL_UE, 2 TEST_DIST, 3
TEST_GAP. -/
def ringEffField (i : Nat) : Fld :=
  match i with
  | 0 => F.RING.FAIL_WIN | 1 => F.RING.FAIL_UE | 2 => F.RING.TEST_CTL.TEST_DIST | _ => F.RING.TEST_CTL.TEST_GAP

/-- The value in force of such a field. -/
def State.ringEff (s : State) (r i : Nat) : Nat :=
  match tget 0 s.spine.eff (r * 4 + i) with
  | 0 => s.fget (ringEffField i) r
  | v => v - 1

/-- Before a write of some of these fields: what is in force stays so until the boundary. -/
def State.ringKeep (s : State) (r : Nat) (is : List Nat) : State :=
  { s with spine := { s.spine with eff := is.foldl (fun t i => tset 0 t (r * 4 + i) (1 + s.ringEff r i)) s.spine.eff } }

/-- A boundary: what was written is in force. -/
def State.ringCommit (s : State) : State := { s with spine := { s.spine with eff := [] } }

/-- A calibration or a test run starts: pattern counters at 0 (R113), nothing sent yet. -/
def State.maintFresh (s : State) (r : Nat) : State :=
  let other := fun (k : Nat) => k / 2 % 9 == r
  { s with spine := { s.spine with
    maintSeq := tdrop other s.spine.maintSeq, maintGap := tdrop other s.spine.maintGap,
    echoed := tdrop other s.spine.echoed, echoAge := tdrop other s.spine.echoAge } }

/-- CMD_RES of the last command. -/
def State.ringRes (s : State) (r res : Nat) : State := s.fset F.RING.RING_STS.CMD_RES res r

/-- R105: the ring is about to be added, set in the inactive bank of RING_SVC and clear in the active one. -/
def State.ringAdding (s : State) (r : Nat) : Bool :=
  let a := s.fget F.GLB.EPOCH_STS.ACTIVE
  nbit (s.fget F.GLB.RING_SVC.SVC 0 0 (1 - a)) r && !nbit (s.fget F.GLB.RING_SVC.SVC 0 0 a) r

/-- CAL command (Table 4-2, R105, R112). -/
def State.ringCal (s : State) (r : Nat) : State :=
  if s.ringState r ≠ 3 then s.ringRes r 1
  else if s.ringAdding r then s.ringRes r 2
  else (((s.ringRes r 0).fput F.RING.RING_STS.READY false r).setRing r 4).maintFresh r

/-- TEST command (Table 4-2, R105, R112). -/
def State.ringTest (s : State) (r : Nat) : State :=
  if s.ringState r ≠ 3 then s.ringRes r 1
  else if s.ringAdding r then s.ringRes r 2
  else if !s.fbit F.TICK.TICK_STS.RUNNING then s.ringRes r 1
  else
    let s1 := (s.ringRes r 0).setRing r 5
    { s1 with spine := { s1.spine with test := tset {} s1.spine.test r { waiting := true } } }

/-- FAIL command (Table 4-2). -/
def State.ringFailCmd (s : State) (r : Nat) : State :=
  match s.ringState r with
  | 0 => s.ringRes r 1
  | 6 => s.ringRes r 1
  | 1 => (s.ringRes r 0).ringSuspect r
  | 2 => (s.ringRes r 0).fput F.RING.RING_STS.SUSPECT true r
  | _ => (s.ringRes r 0).ringFail r

/-- CLEAR command (Table 4-2). -/
def State.ringClear (s : State) (r : Nat) : State :=
  if s.ringState r ≠ 6 then s.ringRes r 1
  else (((s.ringRes r 0).fput F.RING.RING_STS.SUSPECT false r).fput F.RING.RING_STS.READY false r).setRing r 3

/-- A write of RING_CTL.CMD; CMD reads 0 again once it is accepted or refused. -/
def State.ringCmd (s : State) (r cmd : Nat) : State :=
  match cmd with
  | 1 => s.ringCal r
  | 2 => s.ringTest r
  | 3 => s.ringFailCmd r
  | 4 => s.ringClear r
  | _ => s

/-- A swap from bank `old` to bank `new` adds and removes rings (R104). -/
def State.ringSwap (s : State) (old new : Nat) : State :=
  (List.range 9).foldl (fun a r =>
    let was := nbit (s.fget F.GLB.RING_SVC.SVC 0 0 old) r
    let is := nbit (s.fget F.GLB.RING_SVC.SVC 0 0 new) r
    if was && !is && a.ringState r == 1 then a.setRing r 2
    else if !was && is && a.ringState r == 3 then a.setRing r 1
    else a) s

/-- The old epoch has drained: LEAVING rings leave (Table 4-2). -/
def State.ringDrained (s : State) : State :=
  (List.range 9).foldl (fun a r =>
    if a.ringState r == 2 then
      let b := a.liftFence r
      if b.fbit F.RING.RING_STS.SUSPECT r then b.ringFail r else b.setRing r 3
    else a) s

/-- Calibration ends with the measured loop times and worst margins (R110, R114). -/
def State.ringCalDone (s : State) (r cyc0 cyc1 m0 m1 w0 w1 : Nat) : State :=
  let st := s.ringState r
  if st ≠ 0 ∧ st ≠ 4 then s else
    let s1 := (s.fset F.RING.ECHO_CYC.CYC0 cyc0 r).fset F.RING.ECHO_CYC.CYC1 cyc1 r
    let s2 := (((s1.fset F.RING.CAL_STS.MARGIN0 m0 r).fset F.RING.CAL_STS.MARGIN1 m1 r).fset
      F.RING.CAL_STS.WORST0 w0 r).fset F.RING.CAL_STS.WORST1 w1 r
    let mm := s.fget F.RING.CAL_CTL.MIN_MARGIN r
    if cyc0 = 60 ∧ cyc1 = 60 ∧ mm ≤ m0 ∧ mm ≤ m1 then
      if st = 0 then
        let named := nbit (s.fget F.GLB.RING_SVC.SVC 0 0 (s.fget F.GLB.EPOCH_STS.ACTIVE)) r
        (s2.fput F.RING.RING_STS.READY true r).setRing r (if named then 1 else 3)
      else s2.setRing r 3
    else s2.ringFail r

/-- The first boundary after a TEST command: the run starts with every pattern counter at 0 (R111, R113). -/
def State.ringTestStart (s : State) (r : Nat) : State :=
  let t := tget {} s.spine.test r
  if s.ringState r = 5 ∧ t.waiting then
    ({ s with spine := { s.spine with
      test := tset {} s.spine.test r
        { waiting := false, running := true, start := s.nodeTick 61, len := max 1 (s.fget F.RING.TEST_LEN r), err := false }
      } } : State).maintFresh r
  else s

/-- A test run has lasted TEST_LEN ticks (R111, Table 4-2). -/
def State.ringTestEnd (s : State) (r : Nat) : State :=
  let t := tget {} s.spine.test r
  if s.ringState r = 5 ∧ t.running ∧ tickPast (s.nodeTick 61) t.start t.len then
    let s1 : State := { s with spine := { s.spine with test := tset {} s.spine.test r {} } }
    if t.err then s1.ringFail r else (s1.fput F.RING.RING_STS.READY true r).setRing r 3
  else s

/-- An error of a running test: a pattern mismatch, a correction, a removal or a released MAINT flit (R111). -/
def State.testError (s : State) (r : Nat) : State :=
  let t := tget {} s.spine.test r
  if t.running then { s with spine := { s.spine with test := tset {} s.spine.test r { t with err := true } } } else s

/-- The removal window of a ring is open. -/
def State.windowOpen (s : State) (r : Nat) : Bool :=
  let w := tget {} s.spine.win r
  w.len != 0 && !tickPast (s.nodeTick 61) w.start w.len

/-- A window that is over is followed by the one that holds the present tick (R107): it keeps the FAIL_WIN in force now
(R115). DESIGN CHOICE: after a change of FAIL_WIN the next window is the part that is left of the one the new length gives. -/
def State.windowRoll (s : State) (r : Nat) : State :=
  if s.windowOpen r then s else
    let now := s.nodeTick 61
    let l := s.ringEff r 0
    { s with spine := { s.spine with win := tset {} s.spine.win r (if l = 0 then {} else { start := now - now % l, len := l }) } }

/-- Count one removal of a ring in its window (R107); tagged events are left out. -/
def State.countRemoval (s : State) (r : Nat) (inj : Bool) : State :=
  if inj then s else
    let s1 := s.windowRoll r
    let w := tget {} s1.spine.win r
    { s1 with spine := { s1.spine with win := tset {} s1.spine.win r { w with cnt := w.cnt + 1 } } }

/-- The removals of the open window have reached FAIL_UE (R107); once per window. DESIGN CHOICE: FAIL_UE = 0, for which the
spec gives no meaning of its own, is reached by a window's first removal. -/
def State.thresholdReached (s : State) (r : Nat) : Bool :=
  let w := tget {} s.spine.win r
  s.windowOpen r && !w.fired && s.ringEff r 1 ≤ w.cnt && w.cnt != 0

def execRingCal (r : RingNo) (s : State) : Res := .next ((s.touch .ring r).ringCal r)
def execRingTest (r : RingNo) (s : State) : Res := .next ((s.touch .ring r).ringTest r)
def execRingFail (r : RingNo) (s : State) : Res := .next ((s.touch .ring r).ringFailCmd r)
def execRingClear (r : RingNo) (s : State) : Res := .next ((s.touch .ring r).ringClear r)

def execRingCalDone (r : RingNo) (cyc0 cyc1 : BitVec 8) (m0 m1 : BitVec 6) (w0 w1 : Stop) (s : State) : Res :=
  .next (s.ringCalDone r cyc0.toNat cyc1.toNat m0.toNat m1.toNat w0 w1)

def execRingTestStart (r : RingNo) (s : State) : Res := .next (s.ringTestStart r)
def execRingTestEnd (r : RingNo) (s : State) : Res := .next (s.ringTestEnd r)

/-- RING_THRESHOLD (R107): when the window's removals have reached FAIL_UE. -/
def execRingThreshold (r : RingNo) (s : State) : Res :=
  if s.thresholdReached r then
    let w := tget {} s.spine.win r
    .next (({ s with spine := { s.spine with win := tset {} s.spine.win r { w with fired := true } } } : State).ringThreshold r)
  else .next s

/-- FENCE (R108): node `n` takes the notice. -/
def execFence (n : Node) (m : Msg) (s : State) : Res :=
  let s1 := s.take n m
  if !msgOk m then .next (s1.msgBad n m)
  else
    .next { s1 with spine := { s1.spine with
      fence := tset 0 s1.spine.fence (n * 16 + vbits m 40 4) (1 + s1.boundaryOf n (vbits m 24 16)) } }

/-- FENCE_APPLY (R108): at the target boundary, the ring is not usable at the node. -/
def State.fenceApply (s : State) (n r : Nat) : State :=
  let k := n * 16 + r
  let t := tget 0 s.spine.fence k
  if t ≠ 0 ∧ atOrAfter 48 (s.nodeTick n) (t - 1) then
    let s1 : State := { s with spine := { s.spine with
      fence := tset 0 s.spine.fence k 0, fenced := tset 0 s.spine.fenced k 1 } }
    if n = 60 then s1.fset F.GLB.RING_USE.FENCED (s1.fget F.GLB.RING_USE.FENCED ||| 2 ^ r) else s1
  else s

def execFenceApply (n : Node) (r : RingNo) (s : State) : Res := .next (s.fenceApply n r)

end Sys2Proof.Machine
end

