-- ==== Sys2Proof/Machine/Tick.lean ====
section
/-! DEFINITION. The tick generator, tick marks, epochs and banked writes in flight (02_tick_and_epochs; R533, R535). -/

namespace Sys2Proof.Machine

/-- The page whose error log a node uses for its own events. DESIGN CHOICE for nodes 60–63: TICK, RING 0, SLICE 0, CTL. -/
def nodePage (n : Nat) : Cls × Nat :=
  if n < 60 then (.stop, n) else if n = 60 then (.tick, 0) else if n = 61 then (.ring, 0)
  else if n = 62 then (.slice, 0) else (.ctl, 0)

/-! ### Generator (R32–R40) -/

/-- Owner of the next FREEZE mark (FREEZE_STS.OWNER): the first armed freeze (R432). -/
def State.setFreezeOwner (s : State) : State :=
  s.fset F.GLB.FREEZE_STS.OWNER (match s.cnt.freezeQ with | [] => 0 | none :: _ => 1 | some _ :: _ => 2)

/-- The mark of this edge carries a freeze or a snapshot: note what the boundary latches (R430–R432). -/
def State.noteLatch (s : State) (c : Nat) (snap : Bool) : State :=
  let s0 := s.fput F.GLB.SNAP.REQ false
  match s.cnt.freezeQ with
  | none :: q =>
    (({ s0 with cnt := { s0.cnt with freezeQ := q, latchAt := c + 1, latchKind := 1, latchSlice := 0 } } : State).fput
      F.GLB.FREEZE.ARM false).setFreezeOwner
  | some x :: q =>
    ({ s0 with cnt := { s0.cnt with freezeQ := q, latchAt := c + 1, latchKind := 2, latchSlice := x } } : State).setFreezeOwner
  | [] => if snap then { s0 with cnt := { s0.cnt with latchAt := c + 1, latchKind := 0, latchSlice := 0 } } else s

/-- A swap takes place: the other bank is active, the inactive bank is closed until the old epoch drains, rings are
added and removed (R47–R51, R104). -/
def State.swapBanks (s : State) (c : Nat) : State :=
  let old := s.fget F.GLB.EPOCH_STS.ACTIVE
  let s1 := (s.fset F.GLB.EPOCH_STS.ACTIVE (1 - old)).fput F.GLB.EPOCH_STS.PENDING false
  let s2 := ((s1.fput F.GLB.EPOCH_CTL.REQ false).fput F.GLB.EPOCH_STS.DRAINED false).fput F.GLB.EPOCH_STS.INACTIVE_OPEN false
  let s3 := s2.setWide F.GLB.EPOCH_LAST_LO.LAST_LO F.GLB.EPOCH_LAST_HI.LAST_HI c
  let s4 := s3.fset F.GLB.EPOCH_STS.EPOCH_NUM (wrapAdd 16 (s3.fget F.GLB.EPOCH_STS.EPOCH_NUM) 1)
  (s4.ringSwap old (1 - old)).sillage 60 0x01 (packBits [(0, 16, s4.fget F.GLB.EPOCH_STS.EPOCH_NUM), (16, 1, 1 - old)])

/-- The swap goes into the mark of count `c` (R51): PENDING, every awaited write acknowledged, no bank copy in progress,
and the target tick reached when AT_EN is 1. -/
def State.swapDue (s : State) (c : Nat) : Bool :=
  s.fbit F.GLB.EPOCH_STS.PENDING && s.tick.swapWait.isEmpty && !s.fbit F.GLB.BANK_SYNC.BUSY
  && (!s.fbit F.GLB.EPOCH_CTL.AT_EN || tickPast c (s.wide F.GLB.EPOCH_AT_LO.AT_LO F.GLB.EPOCH_AT_HI.AT_HI) 0)

/-- A tick edge of the generator: the count rises by 1 and a mark goes out in both directions (R32, R34). -/
def State.tickEdge (s : State) (hold : Bool) : State :=
  let c := wrapAdd 48 s.tick.count 1
  let swap := s.swapDue c
  let per := s.fget F.GLB.SNAP.PER
  let snap := s.fbit F.GLB.SNAP.REQ || (per != 0 && c % per == 0)
  let freeze := !s.cnt.freezeQ.isEmpty
  let act := s.fget F.GLB.EPOCH_STS.ACTIVE
  let m := mkMark hold swap (if swap then act == 0 else act == 1) snap freeze c
  let s1 := ({ s with tick := { s.tick with count := c } } : State).fput F.TICK.TICK_STS.RUNNING true
  let s2 := (s1.post (msgToAllBy m 0)).post (msgToAllBy m 1)
  let s3 := if swap then s2.swapBanks c else s2
  let s4 := s3.noteLatch c snap
  if s4.boot.goPend = 1 then { s4 with boot := { s4.boot with goPend := 2 } } else s4

/-- REFERENCE_TICK_EDGE (R32, R33, R40): no effect before calibration is done or while EN is 0; in holdover or after a
stop it ends them once TICKREF has returned. -/
def execReferenceTickEdge (s : State) : Res :=
  if !s.fbit F.TICK.TICK_CTL.EN || !s.fbit F.TICK.TICK_STS.CAL_DONE then .next s
  else if s.fbit F.TICK.TICK_STS.HOLDOVER then
    if s.fbit F.TICK.TICK_STS.REF_OK then
      .next (((s.fput F.TICK.TICK_STS.HOLDOVER false).sillage 60 0x0B 0).tickEdge false)
    else .next s
  else if s.tick.stopped then
    if s.fbit F.TICK.TICK_STS.REF_OK then
      .next (({ s with tick := { s.tick with stopped := false } } : State).tickEdge false)
    else .next s
  else .next (s.tickEdge false)

/-- A write of TICK_CTL.EN: 0 to 1 starts calibration with the timed echoes, 0 stops the tick, in holdover too (R33, Table
2-2). -/
def State.tickEnable (s : State) (en : Bool) : State :=
  if en then
    if s.fbit F.TICK.TICK_CTL.EN then s
    else (({ s with tick := { s.tick with calBusy := true } } : State).fput F.TICK.TICK_CTL.EN true).fput
      F.TICK.TICK_STS.CAL_DONE false
  else ((({ s with tick := { s.tick with calBusy := false, stopped := false } } : State).fput F.TICK.TICK_CTL.EN false).fput
    F.TICK.TICK_STS.RUNNING false).fput F.TICK.TICK_STS.HOLDOVER false

def execTickCalStart (s : State) : Res := .next ((s.touch .tick 0).tickEnable true)
def execTickStopWrite (s : State) : Res := .next ((s.touch .tick 0).tickEnable false)

/-- TICK_CAL_DONE (R33): each node has recorded its delay in each direction. -/
def execTickCalDone (s : State) : Res :=
  if !s.tick.calBusy then .next s
  else
    let delays := (List.range 128).foldl (fun t i => tset 0 t i (Config.nodeDelay i)) s.tick.nodeDelay
    .next (({ s with tick := { s.tick with calBusy := false, nodeDelay := delays } } : State).fput
      F.TICK.TICK_STS.CAL_DONE true)

/-- TICKREF_LOSS (R38): holdover, or the generator stops and RECOVERY is caused. -/
def execTickrefLoss (s : State) : Res :=
  let s1 := s.fput F.TICK.TICK_STS.REF_OK false
  if !s.fbit F.TICK.TICK_CTL.EN || !s.fbit F.TICK.TICK_STS.CAL_DONE then .next s1
  else if s.fbit F.TICK.TICK_STS.HOLDOVER || s.tick.stopped then .next s1
  else if s.fbit F.TICK.TICK_CTL.HOLD_EN then
    .next (((s1.fput F.TICK.TICK_STS.HOLDOVER true).intSet .tick 0 0).sillage 60 0x0B 1)
  else
    let s2 : State := { s1 with tick := { s1.tick with stopped := true }, boot := { s1.boot with causeSeen := s1.boot.causeSeen ||| 2 } }
    .next ((s2.fput F.TICK.TICK_STS.RUNNING false).recoveryCause 1)

/-- HOLDOVER_TICK (R38): each raises PG_INT_STS bit 0 and counts. -/
def execHoldoverTick (s : State) : Res :=
  if s.fbit F.TICK.TICK_CTL.EN && s.fbit F.TICK.TICK_STS.HOLDOVER then
    .next (((s.intSet .tick 0 0).fsat F.TICK.HOLD_CNT 1).tickEdge true)
  else .next s

/-- TICKREF_RETURN (R40): TICKREF has been valid for 64 cycles. -/
def execTickrefReturn (s : State) : Res := .next (s.fput F.TICK.TICK_STS.REF_OK true)

/-! ### Marks at a node (R35–R37) -/

/-- TICK_MARK (R36): the first copy with a correct CHECK is taken, the other is discarded; a direction whose measured
delay exceeds 120 cycles is not used (R35). -/
def execTickMark (n : Node) (d : Dir) (m : Msg) (s : State) : Res :=
  let s1 := s.take n m
  if !markOk m then .next (s1.rcInc F.TICK.MARK_ERR 0)
  else if 120 < tget 0 s.tick.nodeDelay (n * 2 + d) then .next s1
  else if tget 0 s.tick.nodeMark n ≠ 0 ∨ vbits m 0 48 = s.nodeTick n then .next s1
  else .next { s1 with tick := { s1.tick with nodeMark := tset 0 s1.tick.nodeMark n (m.toNat + 1) } }

/-- TICK_SLIP (R37): the node has missed a boundary; it performs no duty for it. -/
def execTickSlip (n : Node) (s : State) : Res :=
  if tget 0 s.tick.nodeMark n ≠ 0 then .next s
  else .next { s with tick := { s.tick with nodeSlip := tset 0 s.tick.nodeSlip n (tget 0 s.tick.nodeSlip n + 1) } }

/-! ### Epoch requests (R51, R52) -/

/-- A write of 1 to EPOCH_CTL.REQ on path `o` (Table 2-5). -/
def State.epochReq (s : State) (o : Origin) : State :=
  if !s.fbit F.TICK.TICK_STS.RUNNING then s.fset F.GLB.EPOCH_STS.REFUSE 3
  else if s.fbit F.GLB.EPOCH_STS.PENDING then s.fset F.GLB.EPOCH_STS.REFUSE 2
  else if !s.fbit F.GLB.EPOCH_STS.DRAINED then s.fset F.GLB.EPOCH_STS.REFUSE 1
  else
    let s1 := ((s.fput F.GLB.EPOCH_STS.PENDING true).fput F.GLB.EPOCH_CTL.REQ true).fset F.GLB.EPOCH_STS.REFUSE 0
    { s1 with tick := { s1.tick with swapWait := (s.tick.weOut.filter (fun w => w.path == o)).map (fun w => w.id) } }

/-- A write of 1 to EPOCH_CTL.CANCEL (R52). -/
def State.epochCancel (s : State) : State :=
  if s.fbit F.GLB.EPOCH_STS.PENDING then
    let s1 := (s.fput F.GLB.EPOCH_STS.PENDING false).fput F.GLB.EPOCH_CTL.REQ false
    { s1 with tick := { s1.tick with swapWait := [] } }
  else s

/-- A write of EPOCH_CTL: AT_EN is stored, then CANCEL, then REQ (R52). -/
def State.epochCtlWrite (s : State) (o : Origin) (w : Word) : State :=
  let s1 := s.fput F.GLB.EPOCH_CTL.AT_EN (w.getLsbD 2)
  let s2 := if w.getLsbD 1 then s1.epochCancel else s1
  if w.getLsbD 0 then s2.epochReq o else s2

def execEpochReq (o : Origin) (w : Word) (s : State) : Res := .next ((s.touch .glb 0).epochCtlWrite o (w ||| 1))
def execEpochCancel (s : State) : Res := .next (s.touch .glb 0).epochCancel

/-! ### The old epoch drains (R50) -/

/-- All 60 stops have reported no old-epoch flit for a boundary at least one full tick after the swap. -/
def State.censusClean (s : State) : Bool :=
  (List.range 60).all (fun k => tget 0 s.tick.censusSeen k == 1)
  && tickPast s.tick.censusTick (s.wide F.GLB.EPOCH_LAST_LO.LAST_LO F.GLB.EPOCH_LAST_HI.LAST_HI) 1

/-- DRAINED and INACTIVE_OPEN are set and LEAVING rings leave (R50, Table 4-2). -/
def State.oldEpochDrained (s : State) : State :=
  if !s.fbit F.GLB.EPOCH_STS.DRAINED && s.censusClean then
    ((s.fput F.GLB.EPOCH_STS.DRAINED true).fput F.GLB.EPOCH_STS.INACTIVE_OPEN true).ringDrained
  else s

/-- The greatest count not later than `now` whose low `w` bits are `low`. -/
def countWithLow (now w low : Nat) : Nat := wrapSub 48 now (wrapSub w now low)

/-- GLB takes a census report of stop `k` for the boundary whose low four count bits are `low` (R50). -/
def State.census60 (s : State) (k low : Nat) (oldEp : Bool) : State :=
  let c := countWithLow (s.nodeTick 60) 4 low
  let seen := if s.tick.censusTick = c then s.tick.censusSeen else []
  ({ s with tick := { s.tick with censusTick := c, censusSeen := tset 0 seen k (1 + b2n oldEp) } } : State).oldEpochDrained

def execOldEpochDrained (s : State) : Res := .next s.oldEpochDrained

/-! ### WE writes in flight and BANK_SYNC (R533–R535) -/

/-- WE_STS.OUT: management-port WE writes not yet acknowledged, saturating. -/
def State.weSts (s : State) : State :=
  s.fset F.GLB.WE_STS.OUT (min 65535 (s.tick.weOut.filter (fun w => w.path == .mgmt)).length)

/-- A WE write has been issued and awaits its page's acknowledgement. -/
def State.weIssue (s : State) (page off : Nat) (o : Origin) (list : Nat := 0) : State :=
  ({ s with tick := { s.tick with
    weNext := s.tick.weNext + 1, weOut := s.tick.weOut ++ [⟨s.tick.weNext, page, off, o, list⟩] } } : State).weSts

/-- The oldest outstanding write to a register is acknowledged. -/
def State.weAck (s : State) (page off : Nat) : State :=
  match s.tick.weOut.find? (fun w => w.page == page && w.off == off) with
  | none => s
  | some w =>
    ({ s with tick := { s.tick with
      weOut := s.tick.weOut.filter (fun v => v.id != w.id),
      swapWait := s.tick.swapWait.filter (fun i => i != w.id) } } : State).weSts

/-- A write of BANK_SYNC.GO (R535). -/
def State.bankSync (s : State) : State :=
  if s.fbit F.GLB.EPOCH_STS.INACTIVE_OPEN then
    let s1 := ((s.fput F.GLB.BANK_SYNC.BUSY true).fput F.GLB.BANK_SYNC.SKIPPED false).fput F.GLB.BANK_SYNC.REFUSED false
    ({ s1 with tick := { s1.tick with syncSeen := 0, syncNew := [] } } : State).bcast (mkCtrl 0xC 63 60 [])
  else s.fput F.GLB.BANK_SYNC.REFUSED true

def execBankSync (s : State) : Res := .next (s.touch .glb 0).bankSync

/-- A key belongs to a gate list whose PEND is 1: such a list is not copied (R535). -/
def State.pendGateKey (s : State) (k : Nat) : Bool :=
  let pg := keyPage k
  pg / 4096 == Cls.gate.code && 0x108 ≤ keyOff k && keyOff k ≤ 0x118
  && s.fget F.GATE.LIST_STS.PEND (pg % 4096) 0 0 (keySel k / 256 * 256) == 1

/-- The owner's node of a page number. -/
def pageOwner (pg : Nat) : Nat :=
  match allPages.find? (fun c => c.1.code == pg / 4096) with
  | some c => ownerNode c.1 (pg % 4096)
  | none => 60

/-- The banked pages of node `n` copy their active bank into their inactive bank; what was written since GO remains (R535,
Table 20-9). -/
def State.copyBanks (s : State) (n : Nat) : State :=
  let act := s.fget F.GLB.EPOCH_STS.ACTIVE % 2
  let own := fun k => pageOwner (keyPage k) == n && !s.pendGateKey k && !s.tick.syncNew.contains (keyInBank k (1 - act))
  let kept := tdrop (fun k => own k && keyBank k == 2 - act) s.regs
  let src := s.regs.filter (fun e => own e.1 && keyBank e.1 == 1 + act)
  { s with regs := src.foldl (fun t e => tset 0 t (keyInBank e.1 (1 - act)) e.2) kept }

/-- A gate list of stop `n` is PEND. -/
def State.anyPend (s : State) (n : Nat) : Bool :=
  n < 60 && (List.range 8).any (fun l => s.fget F.GATE.LIST_STS.PEND n 0 0 (l * 256) == 1)

/-- BANK_SYNC_START_MSG (R535): the owner copies and reports to node 60. -/
def execBankSyncStartMsg (n : Node) (m : Msg) (s : State) : Res :=
  let s1 := s.take n m
  if !msgOk m then .next (s1.msgBad n m)
  else if 60 < n.val then .next s1
  else
    let s2 := s1.copyBanks n
    let s3 := if s1.anyPend n then s2.fput F.GLB.BANK_SYNC.SKIPPED true else s2
    .next (s3.send (mkCtrl 0xC 60 n [(43, 1, 1)]))

/-- BANK_SYNC_DONE (R535): node 60 takes a copy-done message; with the last owner's BUSY clears. -/
def execBankSyncDone (m : Msg) (s : State) : Res :=
  let s1 := s.take 60 m
  if !msgOk m then .next (s1.msgBad 60 m)
  else
    let seen := s1.tick.syncSeen ||| maskOf (msgSrc m)
    let s2 : State := { s1 with tick := { s1.tick with syncSeen := seen } }
    .next (if seen.toNat % 2 ^ 61 = 2 ^ 61 - 1 then
      ({ s2 with tick := { s2.tick with syncNew := [] } } : State).fput F.GLB.BANK_SYNC.BUSY false else s2)

end Sys2Proof.Machine
end

