-- ==== Sys2Proof/Machine/Meter.lean ====
section
/-! DEFINITION. Two-rate meters, bindings and time gates (08_meters_credits_gates). -/

namespace Sys2Proof.Machine

/-! ### Meters (R203–R216, R229) -/

def State.meter (s : State) (g : Nat) : Meter := tget {} s.mtr.mtr g
def State.setMeter (s : State) (g : Nat) (m : Meter) : State :=
  { s with mtr := { s.mtr with mtr := tset {} s.mtr.mtr g m } }

/-- The stop whose page number the shared meter parameters of a sector are kept under. -/
def meterPage (x : Nat) : Nat := 7 * x

/-- Meter bound to requester `rq` in sector `x`: 1 + its number, 0 when unbound (R204). -/
def State.boundTo (s : State) (x rq : Nat) : Nat := tget 0 s.mtr.bind (x * 16384 + rq)

/-- Requesters bound to meter `m` of sector `x`. -/
def State.bindings (s : State) (x m : Nat) : List Nat :=
  (s.mtr.bind.filter (fun e => e.1 / 16384 == x && e.2 == m + 1)).map (fun e => e.1 % 16384)

/-- Parameters of a meter in a bank: CIR, PIR, CBS, PBS. -/
def State.meterRates (s : State) (x m bank : Nat) : Nat × Nat × Nat × Nat :=
  let p := meterPage x
  (s.fget F.STOP.METER_CIR.CIR p 0 bank m, s.fget F.STOP.METER_PIR.PIR p 0 bank m,
   s.fget F.STOP.METER_CBS.CBS p 0 bank m, s.fget F.STOP.METER_PBS.PBS p 0 bank m)

/-- accrue (R211). The ticks elapsed are signed: at a stop whose count is behind LAST they are below 0. DESIGN CHOICE: a
bucket does not fall below 0 then. -/
def accrue (m : Meter) (e : Int) : Meter :=
  let e := min e 16777216
  { m with tc := min m.cbs (m.tc + m.cir * e).toNat, tp := min m.pbs (m.tp + m.pir * e).toNat }

/-- access (R211): accrual at the rates last applied up to the latest swap, at the active bank's from it. -/
def access (m : Meter) (now swap : Nat) (r : Nat × Nat × Nat × Nat) : Meter :=
  let m1 := if !atOrAfter 48 m.last swap && atOrAfter 48 now swap then
      { accrue m (signedDiff 48 swap m.last) with last := swap } else m
  let m2 := { m1 with cir := r.1, pir := r.2.1, cbs := r.2.2.1, pbs := r.2.2.2 }
  { accrue m2 (signedDiff 48 now m2.last) with last := now }

/-- Both buckets full, LAST now, counts cleared (R205). DESIGN CHOICE: the OVF bits of the cleared counts are cleared too. -/
def freshMeter (now : Nat) (r : Nat × Nat × Nat × Nat) : Meter :=
  { tc := r.2.2.1, tp := r.2.2.2, last := now, cir := r.1, pir := r.2.1, cbs := r.2.2.1, pbs := r.2.2.2 }

/-- Bytes a transaction charges (R207). -/
def chargeOf (f : Flit) : Nat :=
  if f.len ≠ 0 then 4 * f.len.toNat
  else if f.opc = opMWR ∨ f.opc = opMRD ∨ f.opc = opLOCKRD then 4096
  else if f.opc = opMSG ∨ f.opc = opUNLOCK then 4 else 0

/-- The fabric's own traffic, RSP flits and core stops are never metered (R203). -/
def State.metered (s : State) (k : Nat) (t : FTxn) : Bool :=
  k < 56 && !t.rsp && t.head.slice != 0 && s.boundTo (sectorOf k) t.rq != 0

/-- Count of the most recent swap (R51). -/
def State.epochLast (s : State) : Nat := s.wide F.GLB.EPOCH_LAST_LO.LAST_LO F.GLB.EPOCH_LAST_HI.LAST_HI

/-- colour (R209): 0 green, 1 yellow, 2 red, and the meter after the debit. -/
def colour (m : Meter) (b : Nat) (preYellow : Bool) : Nat × Meter :=
  if m.tp < b then (2, { m with red := satAdd 32 m.red 1 })
  else if preYellow || m.tc < b then
    (1, { m with tp := m.tp - b, yellow := wrapAdd 48 m.yellow b, ovfY := m.ovfY || 2 ^ 48 ≤ m.yellow + b })
  else
    (0, { m with tc := m.tc - b, tp := m.tp - b, green := wrapAdd 48 m.green b, ovfG := m.ovfG || 2 ^ 48 ≤ m.green + b })

/-- Colour one transaction at stop `k` by its meter: the state, the colour and the wake tick of a red head (R209,
R215). -/
def State.colourTxn (s : State) (k : Nat) (t : FTxn) : State × FTxn :=
  if !s.metered k t then (s, { t with colour := 0 })
  else
    let x := sectorOf k
    let m := s.boundTo x t.rq - 1
    let g := 2048 * x + m
    let bank := s.bankAt k
    let now := s.nodeTick k
    let b := chargeOf t.head
    let pre := s.fbit F.STOP.METER_MODE.AWARE (meterPage x) 0 bank m
      && nbit (s.fget F.STOP.METER_MODE.TC_YEL (meterPage x) 0 bank m) (nbits t.head.be.toNat 11 3)
    let mt := access (s.meter g) now s.epochLast (s.meterRates x m bank)
    let r := colour mt b pre
    let s1 := (s.setMeter g r.2).countEvt .pwr x 0x305 1 { cls := some t.head.cls.toNat }
    let s2 := if r.1 = 2 then s1.rcInc F.STOP.RED_HOLD_CNT k else s1
    (s2, { t with
      colour := r.1, colAt := now + 1,
      wake := if r.1 = 2 then wrapAdd 48 now (ceilDiv (b - r.2.tp) r.2.pir) else 0 })

/-- The first transaction of requester `rq` in a queue. -/
def headIdx (q : List FTxn) (rq : Nat) : Option Nat := q.findIdx? (fun t => t.rq == rq)

/-- METER_COLOUR (R208, R209): the head of the requester's queue is coloured if it is not yet. -/
def State.meterColour (s : State) (k rq : Nat) : State :=
  match headIdx (s.queue k) rq with
  | none => s
  | some i =>
    match (s.queue k)[i]? with
    | some t =>
      if t.colour ≠ 3 then s else
        let r := s.colourTxn k t
        r.1.setQueue k ((s.queue k).set i r.2)
    | none => s

/-- A swap boundary has come since tick `t`: a stop that missed it acts at its first boundary after it (R37). -/
def State.swapSince (s : State) (k t : Nat) : Bool :=
  !atOrAfter 48 t s.epochLast && atOrAfter 48 (s.nodeTick k) s.epochLast

/-- A red head is due for a recolouring at the boundary just passed (R216). -/
def State.recolourDue (s : State) (k : Nat) (t : FTxn) : Bool :=
  t.colour == 2 && t.colAt != s.nodeTick k + 1
  && (tickPast (s.nodeTick k) t.wake 0 || s.swapSince k (t.colAt - 1))

/-- Insert into an ascending list without repeats. -/
def insUniq (x : Nat) : List Nat → List Nat
  | [] => [x]
  | y :: t => if x < y then x :: y :: t else if x = y then y :: t else y :: insUniq x t

/-- Requesters of stop `k` with formed work, in ascending index. -/
def State.requesters (s : State) (k : Nat) : List Nat := (s.queue k).foldr (fun t l => insUniq t.rq l) []

/-- RED_RECOLOUR (R216): every due red head, in ascending requester index. -/
def State.redRecolour (s : State) (k : Nat) : State :=
  (s.requesters k).foldl (fun a rq =>
    match headIdx (a.queue k) rq with
    | none => a
    | some i =>
      match (a.queue k)[i]? with
      | some t =>
        if a.recolourDue k t then
          let r := a.colourTxn k t
          r.1.setQueue k ((a.queue k).set i r.2)
        else a
      | none => a) s

/-- A binding of requester `rq` or of a meter's set has changed: the red heads concerned are coloured again at the next
boundary (R216). -/
def State.rebound (s : State) (x rq : Nat) (ms : List Nat) : State :=
  (sectorStops x).foldl (fun a k =>
    let w := wrapAdd 48 (a.nodeTick k) 1
    a.setQueue k ((a.queue k).map (fun t =>
      if t.colour == 2 && (t.rq == rq || ms.contains (a.boundTo x t.rq)) && tickPast t.wake w 0 then { t with wake := w }
      else t))) s

/-- Bind a requester to a meter, or unbind it; a newly bound meter is filled (R205). -/
def State.setBinding (s : State) (x rq v now bank : Nat) : State :=
  let old := s.boundTo x rq
  if old = v then s else
    let newly := v != 0 && (s.bindings x (v - 1)).isEmpty
    let s1 : State := { s with mtr := { s.mtr with bind := tset 0 s.mtr.bind (x * 16384 + rq) v } }
    let s2 := if newly then s1.setMeter (2048 * x + (v - 1)) (freshMeter now (s1.meterRates x (v - 1) bank)) else s1
    s2.rebound x rq ([old, v].filter (· != 0))

/-- State of a slice (Table 12-1): 0 FREE, 1 LIVE, 2 DRYING, 3 DRY, 4 FROZEN, 5 REMOVED. -/
def State.sliceState (s : State) (x : Nat) : Nat := s.fget F.SLICE.MSTS.STATE x

/-- A meter lies in a slice's accord (R345). -/
def State.ownsMeter (s : State) (x g : Nat) : Bool :=
  let b := s.fget F.SLICE.ACC_M.MBASE x
  b ≤ g && g < b + s.fget F.SLICE.ACC_M.MCNT x

/-- BIND_WRITE (R204, R205, R345): a BIND_DATA write at stop `k` for BIND_SEL.RQ_IDX. -/
def State.bindWrite (s : State) (k : Nat) (w : Word) : State :=
  let rq := s.fget F.STOP.BIND_SEL.RQ_IDX k
  let x := sectorOf k
  let m := vbits w 0 11
  let bound := w.getLsbD 15
  if 56 ≤ k ∨ s.sliceState (rq % 4096) ≠ 0 then s.pgErr .stop k 0x4BC
  else if bound && ((s.bindings x m).any (fun q => q % 4096 != rq % 4096) || !s.ownsMeter (rq % 4096) (2048 * x + m)) then
    s.pgErr .stop k 0x4BC
  else s.setBinding x rq (if bound then m + 1 else 0) (s.nodeTick k) (s.bankAt k)

/-- METER_SEL_WRITE (R229): copy of the selected meter's buckets and counts; CLR clears the counts. -/
def State.meterSel (s : State) (k : Nat) (w : Word) : State :=
  let x := sectorOf k
  let m := vbits w 0 11
  let s0 := s.fset F.STOP.METER_SEL.IDX m k
  if 56 ≤ k then s0 else
    let g := 2048 * x + m
    let r := s0.meter g
    let s1 := ((s0.fput F.STOP.METER_STS.VALID true k).fput F.STOP.METER_STS.OVF_G r.ovfG k).fput
      F.STOP.METER_STS.OVF_Y r.ovfY k
    let s2 := (s1.fset F.STOP.METER_TOK_C.TC r.tc k).fset F.STOP.METER_TOK_P.TP r.tp k
    let s3 := (s2.setWide F.STOP.METER_GREEN_LO.GREEN_LO F.STOP.METER_GREEN_HI.GREEN_HI r.green k).setWide
      F.STOP.METER_YELLOW_LO.YELLOW_LO F.STOP.METER_YELLOW_HI.YELLOW_HI r.yellow k
    let s4 := s3.fset F.STOP.METER_RED.RED_CNT r.red k
    if w.getLsbD 31 then s4.setMeter g { r with green := 0, yellow := 0, red := 0, ovfG := false, ovfY := false } else s4

/-- The parameters a write would leave are allowed (R214). -/
def ratesOk (r : Nat × Nat × Nat × Nat) : Bool :=
  r.2.1 != 0 && r.1 ≤ r.2.1 && 4096 ≤ r.2.2.1 && 4096 ≤ r.2.2.2 && r.2.2.1 ≤ 16777216 && r.2.2.2 ≤ 16777216

/-- A sector leaves OFF: every bound meter restarts full and its counts are cleared (Table 8-3). -/
def State.metersFresh (s : State) (x : Nat) : State :=
  let ms := (s.mtr.bind.filter (fun e => e.1 / 16384 == x)).map (fun e => e.2 - 1)
  ms.foldl (fun a m => a.setMeter (2048 * x + m)
    (freshMeter (a.nodeTick (7 * x + 4)) (a.meterRates x m (a.bankAt (7 * x + 4))))) s

/-! ### Time gates (R217–R227) -/

/-- The entries in use of a list in a bank: DUR and OPEN. -/
def State.gateEntries (s : State) (k l bank : Nat) : List (Nat × Nat) :=
  (List.range (s.fget F.GATE.LIST_CTL.LEN k 0 bank (l * 256))).map (fun e =>
    (s.fget F.GATE.ENT_DATA.DUR k 0 bank (l * 256 + e), s.fget F.GATE.ENT_DATA.OPEN k 0 bank (l * 256 + e)))

/-- Schedule cycle: the sum of the DURs (R217). -/
def cycleOf (es : List (Nat × Nat)) : Nat := (es.map (fun e => e.1)).foldl (· + ·) 0

/-- START of a list in a bank. -/
def State.gateStart (s : State) (k l bank : Nat) : Nat :=
  s.wide F.GATE.LIST_START_LO.START_LO F.GATE.LIST_START_HI.START_HI k 0 bank (l * 256)

/-- Position within the schedule cycle (R219); the difference is signed (R41). -/
def gatePos (es : List (Nat × Nat)) (start now : Nat) : Nat :=
  (signedDiff 48 now start % (max 1 (cycleOf es) : Nat)).toNat

/-- The entry that contains a position, and the ticks left in it. -/
def entryAt : List (Nat × Nat) → Nat → Nat → Nat × Nat
  | [], _, i => (i, 0)
  | e :: es, p, i => if p < e.1 then (i, e.1 - p) else entryAt es (p - e.1) (i + 1)

/-- Durations of the run of entries in which class `c` is open. -/
def openRun (c : Nat) : List (Nat × Nat) → Nat
  | [] => 0
  | e :: es => if nbit e.2 c then e.1 + openRun c es else 0

/-- Ticks until class `c` closes, 0 when closed, none when it never closes (R220). -/
def ticksToClose (es : List (Nat × Nat)) (pos c : Nat) : Option Nat :=
  if es.all (fun e => nbit e.2 c) then none
  else
    let r := entryAt es pos 0
    match es[r.1]? with
    | none => some 0
    | some e => if nbit e.2 c then some (r.2 + openRun c (es.drop (r.1 + 1) ++ es)) else some 0

/-- The bank a list runs on (LIST_STS.BANK). -/
def State.gateBank (s : State) (k l : Nat) : Nat := s.fget F.GATE.LIST_STS.BANK k 0 0 (l * 256)

/-- POS and LIST_CYC follow the bank the list runs on. -/
def State.gateShow (s : State) (k l : Nat) : State :=
  let b := s.gateBank k l
  let es := s.gateEntries k l b
  (s.fset F.GATE.LIST_STS.POS (entryAt es (gatePos es (s.gateStart k l b) (s.nodeTick k)) 0).1 k 0 0 (l * 256)).fset
    F.GATE.LIST_CYC.CYC (cycleOf es) k 0 0 (l * 256)

/-- A list takes the active bank (R225). -/
def State.gateTake (s : State) (k l : Nat) : State :=
  ((s.fset F.GATE.LIST_STS.BANK (s.bankAt k) k 0 0 (l * 256)).fput F.GATE.LIST_STS.PEND false k 0 0 (l * 256)).fset
    F.GATE.LIST_STS.SWAP_CNT (s.fget F.GATE.LIST_STS.SWAP_CNT k 0 0 (l * 256) + 1) k 0 0 (l * 256)

/-- The list has had a start of its schedule cycle at the latest swap boundary or after it (R225). A boundary that the stop
missed counts (R37, R45): the position is at most the ticks since the swap. -/
def State.cycleStarted (s : State) (k l : Nat) : Bool :=
  let run := s.gateBank k l
  gatePos (s.gateEntries k l run) (s.gateStart k l run) (s.nodeTick k) ≤ wrapSub 48 (s.nodeTick k) s.epochLast

/-- One list at a boundary (R220, R225, R226). -/
def State.gateList (s : State) (k l : Nat) : State :=
  let run := s.gateBank k l
  let act := s.bankAt k
  let s1 :=
    if run = act then s.fput F.GATE.LIST_STS.PEND false k 0 0 (l * 256)
    else if s.fbit F.GATE.LIST_CTL.IMMEDIATE k 0 act (l * 256) || s.cycleStarted k l then s.gateTake k l
    else s.fput F.GATE.LIST_STS.PEND true k 0 0 (l * 256)
  s1.gateShow k l

/-- Offsets whose WE writes start a recomputation (R221). -/
def gateOff (off : Nat) : Bool := [0x108, 0x10C, 0x110, 0x118].contains off

/-- A WE write to a list starts its recomputation (R221). -/
def State.gateRecompute (s : State) (k l : Nat) : State := s.fput F.GATE.LIST_STS.READY false k 0 0 (l * 256)

/-- WE writes to lists of the GATE page of stop `k` that wait for their recomputation (R221). -/
def State.gateWrites (s : State) (k : Nat) : List WeOut :=
  s.tick.weOut.filter (fun w => w.page == pageNo .gate k && gateOff w.off)

/-- GATE_RECOMPUTE_DONE (R221): the oldest write that waits for its recomputation is acknowledged; with the last one of a
list its READY is set. -/
def State.gateRecomputeDone (s : State) (k : Nat) : State :=
  match s.gateWrites k with
  | [] => s
  | w :: out =>
    let s1 := (s.weAck (pageNo .gate k) w.off).gateShow k w.list
    if out.any (fun v => v.list == w.list) then s1 else s1.fput F.GATE.LIST_STS.READY true k 0 0 (w.list * 256)

/-- The list that gates egress port `stop`, `link` at stop `k`, none when the port is not gated (R218). -/
def State.gateOf (s : State) (k d link : Nat) : Option Nat :=
  let e := 4 * d + link
  let b := s.fget F.GATE.PORT_MAP.BIND k e (s.bankAt k)
  if e < 240 && nbit b 3 then
    let l := b % 8
    let run := s.gateBank k l
    if s.fbit F.GATE.LIST_CTL.EN k 0 run (l * 256) && atOrAfter 48 (s.nodeTick k) (s.gateStart k l run) then some l
    else none
  else none

/-- Injection slots of a stop since its latest boundary. -/
def State.sinceTick (s : State) (k : Nat) : Nat := tget 0 s.arb.clk k - tget 0 s.arb.tickAt k

/-- fits (R222): a transaction of `n` flits in class `c` fits in the remaining window of list `l`. -/
def State.gateFits (s : State) (k l c n : Nat) : Bool :=
  let b := s.gateBank k l
  let es := s.gateEntries k l b
  match ticksToClose es (gatePos es (s.gateStart k l b) (s.nodeTick k)) c with
  | none => true
  | some 0 => false
  | some t =>
    let run := s.fget F.GATE.GATE_CFG.TICK_CYC k
    let cpt := if s.stopTrim k then run / 2 else run
    n + s.fget F.GATE.GATE_CFG.GUARD k ≤ (t - 1) * cpt + (cpt - s.sinceTick k)

/-- Class `c` of a list is closed now. -/
def State.gateClosed (s : State) (k l c : Nat) : Bool :=
  let b := s.gateBank k l
  let es := s.gateEntries k l b
  ticksToClose es (gatePos es (s.gateStart k l b) (s.nodeTick k)) c == some 0

/-- The class of a gated transaction under way has closed by now (R224): the mark stays until its last flit. -/
def State.gateMark (s : State) (k q v : Nat) : Nat :=
  if v ≠ 0 ∧ v < 9 ∧ s.gateClosed k (v - 1) (q % 16384 / 4096) then v + 8 else v

def State.gateMarks (s : State) (k : Nat) : State :=
  { s with mtr := { s.mtr with gate := s.mtr.gate.map (fun e => if e.1 / 16384 = k then (e.1, s.gateMark k e.1 e.2) else e) } }

/-- GATE_ADVANCE (duty 4): every list of the stop. -/
def State.gateAdvance (s : State) (k : Nat) : State :=
  ((List.range 8).foldl (fun a l => a.gateList k l) s).gateMarks k

def execMeterColour (k : Stop) (rq : Fin 16384) (s : State) : Res := .next (s.meterColour k rq)
def execRedRecolour (k : Stop) (s : State) : Res := .next (s.redRecolour k)
def execBindWrite (k : Stop) (w : Word) (s : State) : Res := .next ((s.touch .stop k).bindWrite k w)
/-- A write of METER_SEL; it needs the sector domain (R402). -/
def State.meterSelWrite (s : State) (k : Nat) (w : Word) : State :=
  if s.stopRuns k then s.meterSel k w else s.pgErr .stop k 0x480

def execMeterSelWrite (k : Stop) (w : Word) (s : State) : Res := .next ((s.touch .stop k).meterSelWrite k w)
def execGateAdvance (k : Stop) (s : State) : Res := .next (s.gateAdvance k)
def execGateRecomputeDone (k : Stop) (s : State) : Res := .next (s.gateRecomputeDone k)

end Sys2Proof.Machine
end

