-- ==== Sys2Proof/Machine/CntSet.lean ====
section
/-! DEFINITION. Counter sets and billing windows (16_counters_and_sillage R438–R445), and error records sent to GLB
(17_faults_and_containment R470). -/

namespace Sys2Proof.Machine

/-! ### Error records (R470) -/

/-- A reporter sends a 32-byte record as eight fragments. -/
def State.sendErq (s : State) (node : Nat) (rec : Nat) : State :=
  let n := tget 0 s.cnt.erqNum node
  let s1 : State := { s with cnt := { s.cnt with erqNum := tset 0 s.cnt.erqNum node ((n + 1) % 64) } }
  (List.range 8).foldl (fun t f =>
    t.send (mkTyped 0xE 60 node [(45, 3, f), (39, 6, n), (7, 32, nbits rec (32 * f) 32)])) s1

/-! ### Slices in use -/

/-- The slices that are not FREE, by the register fields that differ from reset. -/
def State.activeSlices (s : State) : List Nat :=
  s.regs.filterMap (fun e => let x := keyPage e.1 % 4096; if e.1 = F.SLICE.MSTS.STATE.key x 0 0 0 then some x else none)

/-- Counter sets of a slice's accord. -/
def State.setsOf (s : State) (x : Nat) : List Nat :=
  if tget 0 s.slc.moved x = 1 then []
  else (List.range (s.fget F.SLICE.ACC_C.CCNT x)).map (fun i => s.fget F.SLICE.ACC_C.CBASE x + i)

/-- The owner of a counter set (R438). -/
def State.setOwner (s : State) (n : Nat) : Option Nat := s.activeSlices.find? (fun x => (s.setsOf x).contains n)

/-! ### Windows (R441) -/

/-- Length of the windows of a schedule (WS_CTL.LEN). -/
def State.wsLen (s : State) (j : Nat) : Nat := max 1 (s.fget F.GLB.WS_CTL.LEN 0 0 0 j)
def State.wsStart (s : State) (j : Nat) : Nat := s.wide F.GLB.WS_START_LO.START_LO F.GLB.WS_START_HI.START_HI 0 0 0 j

/-- 1 + the window of an enabled schedule that contains the interval beginning at a count; 0 before START. -/
def State.windowAt (s : State) (j now : Nat) : Nat :=
  if s.fbit F.GLB.WS_CTL.EN 0 0 0 j && atOrAfter 48 now (s.wsStart j) then 1 + wrapSub 48 now (s.wsStart j) / s.wsLen j else 0

/-- Add `n` to counter `i` of a partial; a wrap of its 48 bits sets the OVF bit. -/
def CPart.add (p : CPart) (i n : Nat) : CPart :=
  let c := (List.range 8).map (fun k => p.cnt.getD k 0)
  let v := c.getD i 0 + n
  { p with cnt := c.set i (v % 2 ^ 48), ovf := if v < 2 ^ 48 then p.ovf else p.ovf ||| 2 ^ i }

/-- Add bytes to the accumulator of window `k` (1 + K): a buffer with another tag is cleared first. -/
def CPart.acc (p : CPart) (k rx tx : Nat) : CPart :=
  if k = 0 then p
  else if k % 2 = 0 then
    let q := if p.k0 = k then p else { p with k0 := k, rx0 := 0, tx0 := 0 }
    { q with rx0 := wrapAdd 48 q.rx0 rx, tx0 := wrapAdd 48 q.tx0 tx }
  else
    let q := if p.k1 = k then p else { p with k1 := k, rx1 := 0, tx1 := 0 }
    { q with rx1 := wrapAdd 48 q.rx1 rx, tx1 := wrapAdd 48 q.tx1 tx }

/-- Bytes that a partial holds for window `k` (1 + K): received and handed over. -/
def CPart.bytes (p : CPart) (k : Nat) : Nat × Nat :=
  if p.k0 = k then (p.rx0, p.tx0) else if p.k1 = k then (p.rx1, p.tx1) else (0, 0)

def State.cpart (s : State) (n x : Nat) : CPart := tget {} s.cnt.cpart (n * 8 + x)
def State.setCpart (s : State) (n x : Nat) (p : CPart) : State :=
  { s with cnt := { s.cnt with cpart := tset {} s.cnt.cpart (n * 8 + x) p } }

/-- A TLP that crosses an LCI: direction, class, payload bytes and what else counts (R439). -/
structure Crossing where
  rx : Bool
  cls : Nat
  bytes : Nat
  np : Bool := false
  synth : Bool := false
  pois : Bool := false
  deriving DecidableEq, Repr

/-- Socket of a port stop or, through its sector, of a spare that serves one. -/
def State.socketOf (s : State) (k : Nat) : Nat :=
  if isSpareStop k then 4 * sectorOf k + s.fget F.STOP.SPARE_CTL.SOCKET k else 4 * sectorOf k + k % 7

/-- A set counts a crossing on link index `li` (R439). -/
def State.setCounts (s : State) (n li : Nat) (c : Crossing) : Bool :=
  s.fbit F.GLB.CS_CFG.V 0 0 0 n
  && (s.fbit F.GLB.CS_CFG.ANY 0 0 0 n || s.fget F.GLB.CS_CFG.LINK 0 0 0 n == li)
  && nbit (s.fget F.GLB.CS_CFG.CLS 0 0 0 n) c.cls
  && (if c.rx then s.fbit F.GLB.CS_CFG.RX 0 0 0 n else s.fbit F.GLB.CS_CFG.TX 0 0 0 n)

/-- Count a TLP of slice `x` that crosses link `l` of stop `k` in every set that it matches (R439, Table 16-5). -/
def State.countTlp (s : State) (k l x : Nat) (c : Crossing) : State :=
  if x = 0 ∨ s.fget F.SLICE.MSTS.STATE x = 0 then s
  else (s.setsOf x).foldl (fun t n =>
    if !t.setCounts n (4 * t.socketOf k + l) c then t
    else
      let p := t.cpart n (sectorOf k)
      let w := t.windowAt (t.fget F.GLB.CS_CFG.SCHED 0 0 0 n) (t.nodeTick k)
      let p1 := if c.rx then ((p.add 0 c.bytes).add 2 1).acc w c.bytes 0 else ((p.add 1 c.bytes).add 3 1).acc w 0 c.bytes
      let p2 := if c.rx ∧ c.np then p1.add 4 1 else p1
      let p3 := if !c.rx ∧ c.synth then p2.add 5 1 else p2
      t.setCpart n (sectorOf k) (if c.pois then p3.add 6 1 else p3)) s

/-- Count a discarded transaction of slice `x` for a link (DISC, Table 16-5). -/
def State.countDisc (s : State) (k l x cls : Nat) : State :=
  if x = 0 ∨ s.fget F.SLICE.MSTS.STATE x = 0 then s
  else (s.setsOf x).foldl (fun t n =>
    if t.fbit F.GLB.CS_CFG.V 0 0 0 n && (t.fbit F.GLB.CS_CFG.ANY 0 0 0 n || t.fget F.GLB.CS_CFG.LINK 0 0 0 n == 4 * t.socketOf k + l)
        && nbit (t.fget F.GLB.CS_CFG.CLS 0 0 0 n) cls then
      t.setCpart n (sectorOf k) ((t.cpart n (sectorOf k)).add 7 1)
    else t) s

/-- Sum of the eight partials of counter `i` and its OVF (R440). -/
def State.setSum (s : State) (n i : Nat) (sh : Bool) : Nat × Bool :=
  let ps := (List.range 8).map (fun x => s.cpart n x)
  let v := (ps.map (fun p => (if sh then p.sh else p.cnt).getD i 0)).foldl (· + ·) 0
  (v % 2 ^ 48, ps.any (fun p => nbit p.ovf i) || 2 ^ 48 ≤ v)

/-- The most recent record of a set (R441): the one loaded from a flacon until a window closes. DEDUCED: a window that
closed before the set became valid leaves it no record. -/
def State.setRecord (s : State) (n : Nat) : WinRec :=
  let j := s.fget F.GLB.CS_CFG.SCHED 0 0 0 n
  let w := tget {} s.cnt.wsLast j
  let c := tget {} s.cnt.cset n
  match c.loaded with
  | some r => r
  | none =>
    if w.k = 0 ∨ w.k < c.fresh then {}
    else
      let b := (List.range 8).map (fun x => (s.cpart n x).bytes w.k)
      { k := w.k - 1, close := w.close, rx := (b.map (fun v => v.1)).foldl (· + ·) 0 % 2 ^ 48,
        tx := (b.map (fun v => v.2)).foldl (· + ·) 0 % 2 ^ 48,
        flags := w.flags ||| 1 ||| (if c.moved = w.k then 8 else 0) ||| (if c.fresh = w.k then 32 else 0) }

/-- Sets that follow a schedule. -/
def State.setsOn (s : State) (j : Nat) : List Nat :=
  (s.activeSlices.flatMap s.setsOf).filter (fun n => s.fbit F.GLB.CS_CFG.V 0 0 0 n && s.fget F.GLB.CS_CFG.SCHED 0 0 0 n == j)

/-- Window `k` (1 + K) closes after `n - 1` others that have passed with it, and the one closed before was `last`: the
records of the set that no manager copy has read and that are overwritten (R441). -/
def CSet.missedAt (c : CSet) (last k n : Nat) : Nat :=
  (if last = 0 ∨ last < c.fresh ∨ c.loaded.isSome ∨ c.readK = last then 0 else 1) + (k - max c.fresh (k - (n - 1)))

/-- Duty 3 for one schedule (R441): a window whose close count has been reached is closed, and every window that has passed
since; records that no manager copy has read are counted as missed. -/
def State.windowClose (s : State) (j : Nat) : State :=
  let now := s.nodeTick 60
  let w := s.windowAt j now
  let cur := tget {} s.cnt.wsCur j
  if w = 0 then { s with cnt := { s.cnt with wsCur := tset {} s.cnt.wsCur j {} } }
  else if cur.k = w then s
  else if cur.k = 0 then { s with cnt := { s.cnt with wsCur := tset {} s.cnt.wsCur j { k := w } } }
  else
    let k := w - 1
    let due := wrapAdd 48 (s.wsStart j) (k * s.wsLen j)
    let last := (tget {} s.cnt.wsLast j).k
    let s1 := (s.setsOn j).foldl (fun t n =>
      let c := tget {} t.cnt.cset n
      let c1 := { c with missed := min 255 (c.missed + c.missedAt last k (w - cur.k)), loaded := none }
      { t with cnt := { t.cnt with cset := tset {} t.cnt.cset n c1 } }) s
    { s1 with cnt := { s1.cnt with
      wsLast := tset {} s1.cnt.wsLast j ⟨k, now, 0, 0, (if k = cur.k then cur.flags else 0) ||| (if now = due then 0 else 16)⟩,
      wsCur := tset {} s1.cnt.wsCur j { k := w } } }

/-- Set a flag, 2 HOLD or 4 SLIP, of the open windows and the windows closed last that contain a boundary from `first` to
`last` (R441). -/
def State.windowFlag (s : State) (flag first last : Nat) : State :=
  let mark := fun (e : Nat × WinRec) =>
    if s.windowAt e.1 first ≤ e.2.k ∧ e.2.k ≤ s.windowAt e.1 last then (e.1, { e.2 with flags := e.2.flags ||| flag }) else e
  { s with cnt := { s.cnt with wsCur := s.cnt.wsCur.map mark, wsLast := s.cnt.wsLast.map mark } }

/-- Copy a set into a register view: counters, OVF and record (R442, R444). -/
structure SetView where
  cnt : List (Nat × Bool)
  sh : List (Nat × Bool)
  win : WinRec
  deriving DecidableEq, Repr

def State.viewSet (s : State) (n : Nat) : SetView :=
  { cnt := (List.range 8).map (fun i => s.setSum n i false), sh := (List.range 8).map (fun i => s.setSum n i true),
    win := s.setRecord n }

/-- Mask of the overflow bits of a view. -/
def SetView.ovf (v : SetView) : Nat := packBits ((List.range 8).map (fun i => (i, 1, b2n (v.cnt.getD i (0, false)).2)))

/-- CS_SEL_WRITE (R442): a manager copy marks the record as read; CLR clears the live partials. -/
def State.csSel (s : State) (w : Word) : State :=
  let n := vbits w 0 12
  let s0 := (s.fset F.GLB.CS_SEL.SET n).fput F.GLB.CS_STS.VALID false
  let v := s.viewSet n
  let s1 := (List.range 8).foldl (fun t i =>
    ((t.setWide F.GLB.CS_CNT_LO.CNT F.GLB.CS_CNT_HI.CNT (v.cnt.getD i (0, false)).1 0 i).setWide
      F.GLB.CS_SH_LO.SH F.GLB.CS_SH_HI.SH (v.sh.getD i (0, false)).1 0 i)) s0
  let c := tget {} s.cnt.cset n
  let s2 := (((((s1.fset F.GLB.CS_OVF.OVF v.ovf).fset F.GLB.CS_REC_K.K v.win.k).setWide
    F.GLB.CS_REC_CLOSE_LO.CLOSE F.GLB.CS_REC_CLOSE_HI.CLOSE v.win.close).setWide F.GLB.CS_REC_RX_LO.RX F.GLB.CS_REC_RX_HI.RX
    v.win.rx).setWide F.GLB.CS_REC_TX_LO.TX F.GLB.CS_REC_TX_HI.TX v.win.tx).fset F.GLB.CS_REC_FLAGS.FLAGS v.win.flags
  let s3 := (s2.fset F.GLB.CS_REC_FLAGS.MISSED c.missed).fput F.GLB.CS_STS.OWNED (s.setOwner n).isSome
  let s4 := (s3.fset F.GLB.CS_STS.OWNER ((s.setOwner n).getD 0)).fput F.GLB.CS_STS.VALID true
  let s5 : State := if nbit v.win.flags 0 then
      { s4 with cnt := { s4.cnt with cset := tset {} s4.cnt.cset n { c with readK := v.win.k + 1 } } } else s4
  if w.getLsbD 31 then (List.range 8).foldl (fun t x => t.setCpart n x { t.cpart n x with cnt := [], ovf := 0 }) s5 else s5

/-- TC_SEL_WRITE (R444). -/
def State.tcSel (s : State) (x : Nat) (w : Word) : State :=
  let off := vbits w 0 2
  let s0 := s.fset F.SLICE.TC_SEL.OFF off x
  if !s.fbit F.SLICE.CTL.CNT_VIS x then s0
  else
    let own := off < s.fget F.SLICE.ACC_C.CCNT x
    let n := s.fget F.SLICE.ACC_C.CBASE x + off
    let v := if own then s.viewSet n else ⟨[], [], {}⟩
    let s1 := (List.range 8).foldl (fun t i =>
      t.setWide F.SLICE.TC_CNT_LO.CNT F.SLICE.TC_CNT_HI.CNT (v.cnt.getD i (0, false)).1 x i) s0
    let s2 := ((((s1.fset F.SLICE.TC_OVF.OVF v.ovf x).fset F.SLICE.TC_REC_K.K v.win.k x).setWide F.SLICE.TC_REC_CLOSE_LO.CLOSE
      F.SLICE.TC_REC_CLOSE_HI.CLOSE v.win.close x).setWide F.SLICE.TC_REC_RX_LO.RX F.SLICE.TC_REC_RX_HI.RX v.win.rx x).setWide
      F.SLICE.TC_REC_TX_LO.TX F.SLICE.TC_REC_TX_HI.TX v.win.tx x
    ((s2.fset F.SLICE.TC_REC_FLAGS.FLAGS (v.win.flags + 256 * (if own then (tget {} s.cnt.cset n).missed else 0)) x).fput
      F.SLICE.TC_STS.OWN own x).fput F.SLICE.TC_STS.VALID true x

/-- A set is cleared when its owner becomes FREE (R443). -/
def State.clearSet (s : State) (n : Nat) : State :=
  let s1 := (List.range 8).foldl (fun t x => t.setCpart n x {}) s
  ({ s1 with cnt := { s1.cnt with cset := tset {} s1.cnt.cset n {} } } : State).fput F.GLB.CS_CFG.V false 0 0 0 n

def execCsSelWrite (w : Word) (s : State) : Res := .next ((s.touch .glb 0).csSel w)
def execTcSelWrite (x : SliceNo) (w : Word) (s : State) : Res := .next ((s.touch .slice x).tcSel x w)
def execWindowClose (j : Fin 16) (s : State) : Res := .next (s.windowClose j)

end Sys2Proof.Machine
end

