-- ==== Sys2Proof/Machine/Egress.lean ====
section
/-! DEFINITION. Egress queues, response entries and what leaves an egress (06_ordering_and_completion R158–R160, R174;
05_reservation R123, R140). -/

namespace Sys2Proof.Machine

/-! ### Egress queues (R158) -/

def egrKey (k eg q : Nat) : Nat := (k * 8 + eg) * 3 + q
def State.egr (s : State) (k eg q : Nat) : List Egr := tget [] s.ord.egr (egrKey k eg q)
def State.setEgr (s : State) (k eg q : Nat) (l : List Egr) : State :=
  { s with ord := { s.ord with egr := tset [] s.ord.egr (egrKey k eg q) l } }

/-- The queue of an opcode (R158): 0 P, 1 NP, 2 CPL. -/
def queueOf (o : BitVec 6) : Nat := if isPosted o then 0 else if isRsp o then 2 else 1

/-- A flit joins its egress queue with the next release stamp. -/
def State.toEgress (s : State) (k eg : Nat) (f : Flit) (charge ring rid : Nat) (synth : Bool := false)
    (num : Nat := 0) : State :=
  let st := tget 0 s.ord.stamp (k * 8 + eg)
  let q := queueOf f.opc
  let s1 := s.setEgr k eg q (s.egr k eg q ++ [⟨f, charge, ring, st, s.nodeTick k, rid, synth, num⟩])
  { s1 with ord := { s1.ord with stamp := tset 0 s1.ord.stamp (k * 8 + eg) (st + 1) } }

/-- What is for link `l` of stop `k` is discarded (R256): a DOWN link whose port is not in SERVICE. -/
def State.egrDrops (s : State) (k l : Nat) : Bool := isPortStop k && s.drops k l

/-- A flit for a link is discarded under R256 or R255: one flit, and with its last one a transaction of its slice. -/
def State.discardFlit (s : State) (k l : Nat) (f : Flit) : State :=
  let s1 := s.rcInc F.STOP.DROP_CNT k
  if f.last = 1 then s1.countDisc k l f.slice.toNat f.cls.toNat else s1

/-! ### Completions (R60, R67, R68) -/

/-- STATUS values of Table 3-5. -/
def stSC : Nat := 0
def stUR : Nat := 1
def stCA : Nat := 4

def cplStatus (f : Flit) : Nat := nbits f.addr.toNat 0 3
def cplByteCount (f : Flit) : Nat := nbits f.addr.toNat 3 13

/-- A completion is final (R67). -/
def cplFinal (f : Flit) : Bool := cplStatus f != 0 || f.opc == opCPL || cplByteCount f ≤ 4 * lenUnits f.len

/-- A completion flit for a request header (R58, R60, R68): IDs swapped, the request's SLICE, SGEN and TAG, no PASID. -/
def cplFor (req : Flit) (tag status bytes : Nat) (synth : Bool) : Flit :=
  { emptyFlit with
    dst := req.src, src := req.dst, opc := opCPL, cls := req.cls, slice := req.slice, sgen := req.sgen,
    tag := BitVec.ofNat 12 tag, last := 1, attr := req.attr &&& 7, sgid := req.dgid, dgid := req.sgid,
    addr := BitVec.ofNat 64 (packBits [(0, 3, status), (3, 13, bytes), (23, 1, b2n synth)]),
    be := BitVec.ofNat 16 (nbits req.be.toNat 11 3 * 2 ^ 11) }

/-- The tag's use belongs to a slice. -/
def TagUse.ofSlice : TagUse → Bool
  | .tlp => true | .desc _ => true | .chunk _ => true | _ => false

/-! ### Reads of the stop's own -/

/-- A tag's use is a request that came over the port stop's LCI: its completions go to the requester's link. -/
def TagUse.linkUse (u : TagUse) (k : Nat) : Bool := isPortStop k && u == .tlp

/-- Key of the request that the model numbers `num` at stop `k`. -/
def rdKey (k num : Nat) : Nat := num * 64 + k

/-- Take the first ended read of stop `k` whose purpose satisfies `p`. -/
def State.takeDone (s : State) (k : Nat) (p : TagUse → Bool) : Option (RdDone × State) :=
  match (tget [] s.ord.rdDone k).findIdx? (fun r => p r.use) with
  | none => none
  | some i =>
    match (tget [] s.ord.rdDone k)[i]? with
    | none => none
    | some r => some (r, { s with ord := { s.ord with rdDone := tset [] s.ord.rdDone k ((tget [] s.ord.rdDone k).eraseIdx i) } })

/-- A read of the stop's own ends with a status: what it was for learns it. -/
def State.rdEnd (s : State) (k num status : Nat) (synth : Bool) : State :=
  match tget none s.ord.rdUse (rdKey k num) with
  | none => s
  | some (u, h) => { s with ord := { s.ord with
      rdDone := tset [] s.ord.rdDone k (tget [] s.ord.rdDone k ++ [⟨u, h, tget [] s.ord.rdData (rdKey k num), status, synth⟩]),
      rdUse := tset none s.ord.rdUse (rdKey k num) none, rdData := tset [] s.ord.rdData (rdKey k num) [] } }

/-- A completion flit is delivered to the stop's own read; the last flit of the final completion ends it. -/
def State.rdTake (s : State) (k num : Nat) (f : Flit) : State :=
  match tget none s.ord.rdUse (rdKey k num) with
  | none => s
  | some _ =>
    let s1 : State := { s with ord := { s.ord with
      rdData := tset [] s.ord.rdData (rdKey k num) (tget [] s.ord.rdData (rdKey k num) ++ [f]) } }
    if f.last = 1 ∧ cplFinal f then s1.rdEnd k num (cplStatus f) false else s1

/-! ### Response entries (R140, R174) -/

/-- A synthetic completion is formed in the requester's own stop (R174), and discarded there when its link drops its traffic
(R256). At a stop without links the request ends with that status. -/
def State.synthNow (s : State) (k t status : Nat) : State :=
  let x := s.tag k t
  let req := x.hdr.getD emptyFlit
  let s1 := s.rcInc F.STOP.SYNTH_CPL_CNT k
  if x.use.linkUse k then
    let f := cplFor { req with slice := BitVec.ofNat 12 x.slice, sgen := BitVec.ofNat 4 x.sgen } t status x.left true
    if s1.egrDrops k x.link then (s1.setTag k t { x with owes := 0 }).discardFlit k x.link f
    else (s1.setTag k t { x with owes := 0, busy := x.busy + 1 }).toEgress k x.link f 3 0 (x.reqId + 65536 * x.pciTag) true x.num
  else (s1.setTag k t { x with owes := 0 }).rdEnd k x.num status true

/-- The flit of a response entry has been delivered onward (R140); an owed synthetic completion may take the entry. A flit
of a request whose tag has been IDLE since holds none of the entries of the tag's next request. -/
def State.freeRsp (s : State) (k t num : Nat) : State :=
  let x := s.tag k t
  if x.st = 0 ∨ x.num ≠ num then s
  else
    let s1 := s.setTag k t { x with busy := x.busy - 1 }
    if x.owes = 0 then s1 else s1.synthNow k t (x.owes - 1)

/-! ### Which head leaves next (R159, Table 6-1) -/

/-- IDO lets a later entry pass an earlier one of another source (Table 6-1). -/
def idoPass (en : Bool) (f g : Flit) : Bool := en && f.attr.getLsbD 2 && f.sgid != g.sgid

/-- Head `x` of queue `q` may leave before every earlier-stamped entry of the other queues: only the P queue holds heads
back (Table 6-1). -/
def mayPass (en : Bool) (q : Nat) (x : Egr) (p : List Egr) : Bool :=
  q == 0 || p.all (fun y => x.stamp ≤ y.stamp || idoPass en x.flit y.flit || (q == 2 && x.flit.attr.getLsbD 1))

/-- The heads of an egress that its rules let go, in ascending stamp order; `ok` says which heads the egress accepts. -/
def State.egrHeads (s : State) (k eg : Nat) (ok : Nat → Egr → Bool) : List (Nat × Egr) :=
  let en := s.fbit F.STOP.ORD_CFG.IDO_EN k
  let hs := (List.range 3).filterMap (fun q =>
    match s.egr k eg q with
    | x :: _ => if ok q x && mayPass en q x (s.egr k eg 0) then some (q, x) else none
    | [] => none)
  hs.foldl (fun l x => (l.filter (fun y => y.2.stamp ≤ x.2.stamp)) ++ x :: (l.filter (fun y => x.2.stamp < y.2.stamp))) []

/-- The head that leaves next. -/
def State.egrNext (s : State) (k eg : Nat) (ok : Nat → Egr → Bool) : Option (Nat × Egr) := (s.egrHeads k eg ok).head?

/-- The entry of a flit that leaves is freed (R123, R140): a REQ flit's ingress entry or an RSP flit's response entry; a
flit with charge 4 holds none. -/
def State.freeEgr (s : State) (k : Nat) (x : Egr) : State :=
  if x.charge = 4 then s
  else if isRsp x.flit.opc then s.freeRsp k x.flit.tag.toNat x.num
  else s.freeEntry k x.flit.src.toNat x.flit.cls.toNat x.charge

/-- Key of the transaction of a flit at stop `k`: its source and the number of its first flit. -/
def txnKey (k : Nat) (f : Flit) : Nat := (k * 64 + f.src.toNat) * 65536 + wrapSub 16 f.seq.toNat f.fidx.toNat

/-- A flit is delivered to what stands behind a stop without links; a transaction with POIS = 1 in any flit counts once
(Table 3-8). -/
def State.poisTake (s : State) (k : Nat) (f : Flit) : State :=
  let bad := f.pois == 1 || tget 0 s.ord.pois (txnKey k f) == 1
  let s1 : State := { s with ord := { s.ord with
    pois := tset 0 s.ord.pois (txnKey k f) (if f.last = 1 then 0 else b2n bad) } }
  if f.last = 1 ∧ bad then s1.rcInc F.STOP.POIS_RX_CNT k else s1

/-- Head `x` of queue `q` leaves egress 0 of a stop without links; a completion goes to the stop's own read. -/
def State.egrPop (s : State) (k q : Nat) (x : Egr) : State :=
  let s1 := ((s.setEgr k 0 q (s.egr k 0 q).tail).poisTake k x.flit).freeEgr k x
  if q = 2 then s1.rdTake k x.num x.flit else s1

/-- The completions at the head of egress 0 that may pass are delivered: nothing behind it keeps a completion waiting. -/
def State.cplDrain (s : State) (k : Nat) : Nat → State
  | 0 => s
  | n + 1 =>
    match s.egr k 0 2 with
    | [] => s
    | x :: _ =>
      if mayPass (s.fbit F.STOP.ORD_CFG.IDO_EN k) 2 x (s.egr k 0 0) then (s.egrPop k 2 x).cplDrain k n else s

def State.drain (s : State) (k : Nat) : State := if isPortStop k then s else s.cplDrain k (s.egr k 0 2).length

/-- The head leaves egress 0, and the completions that waited for it. -/
def State.egrTake (s : State) (k q : Nat) (x : Egr) : State := (s.egrPop k q x).drain k

/-! ### Entries in use -/

/-- Sum of a list of numbers. -/
def total (l : List Nat) : Nat := l.foldl (· + ·) 0

/-- Ingress entries of stop `k` that hold a flit (event 0x005): at the in-order point, in an egress queue, deferred, in work
that is still to be formed, in the pending replication list. -/
def State.ingressUsed (s : State) (k : Nat) : Nat :=
  let held := fun (l : List Egr) => (l.filter (fun x => x.charge < 3)).length
  total ((s.ord.wait.filter (fun e => e.1 / 64 == k)).map (fun e => (e.2.filter (fun l => l.charge < 3 && !l.released)).length))
  + total ((s.ord.egr.filter (fun e => e.1 / 24 == k)).map (fun e => held e.2))
  + total ((s.port.defer.filter (fun e => e.1 / 4 == k)).map (fun e => held e.2))
  + total ((s.formQ k).map (fun r => (r.frees.filter (fun e => e.2.2 < 3)).length))
  + (if k = 58 then total (s.eng.fan.map (fun x => held x.entries)) else 0)

/-- Response entries of stop `k` that hold a flit: at the in-order point, in an egress queue, and spilled entries that have come back (R254). -/
def State.responseUsed (s : State) (k : Nat) : Nat :=
  total ((s.ord.wait.filter (fun e => e.1 / 64 == k)).map (fun e => (e.2.filter (fun l => l.charge == 3 && !l.released)).length))
  + total ((s.ord.egr.filter (fun e => e.1 / 24 == k)).map (fun e => (e.2.filter (fun x => x.charge == 3)).length))
  + total ((s.port.spill.filter (fun e => e.1 / 4 == k)).map (fun e => (e.2.filter (fun x => x.st == 2)).length))

end Sys2Proof.Machine
end

