-- ==== Sys2Proof/Machine/Order.lean ====
section
/-! DEFINITION. Landing, the duplicate filter, acknowledgements, the in-order point, tags and completions
(06_ordering_and_completion; R80–R81, R140–R141). -/

namespace Sys2Proof.Machine

def State.ret (s : State) (k : Nat) : List Copy := tget [] s.ord.ret k
def State.setRet (s : State) (k : Nat) (l : List Copy) : State :=
  { s with ord := { s.ord with ret := tset [] s.ord.ret k l } }

/-! ### Acknowledgements at the source (R165, R169) -/

/-- An acknowledgement from `d` frees the retained copy it names; one for no copy is stale (R165). -/
def State.ackOne (s : State) (k d seq : Nat) : State :=
  let hit := fun (c : Copy) => c.flit.dst.toNat == d && c.flit.seq.toNat == seq
  if (s.ret k).any hit then (s.setRet k ((s.ret k).filter (fun c => !hit c))).surrender k d
  else s.rcInc F.STOP.ACK_STALE_CNT k

/-- The numbers an ACK flit carries (R69, Table 3-7). -/
def ackNumbers (f : Flit) : List Nat :=
  let a := f.addr.toNat
  let all := [f.ackSeq.toNat, f.seq.toNat, nbits a 0 16, nbits a 16 16, nbits a 32 16, nbits a 48 16, f.be.toNat,
    f.pasid.toNat % 65536]
  all.take (min 8 f.len.toNat)

/-- The ACK flit of stop `k` for `src` with these numbers (R69). -/
def ackFlit (k src : Nat) (ns : List Nat) : Flit :=
  let g := fun i => ns.getD i 0
  { emptyFlit with
    dst := BitVec.ofNat 6 src, src := BitVec.ofNat 6 k, opc := opACK, cls := clsCTL, last := 1, ackp := 1,
    len := BitVec.ofNat 10 ns.length, ackSeq := BitVec.ofNat 16 (g 0), seq := BitVec.ofNat 16 (g 1),
    addr := BitVec.ofNat 64 (packBits [(0, 16, g 2), (16, 16, g 3), (32, 16, g 4), (48, 16, g 5)]),
    be := BitVec.ofNat 16 (g 6), pasid := BitVec.ofNat 20 (g 7) }

/-- The destination notes a number to acknowledge (R163, R164). -/
def State.ackPend (s : State) (k src seq : Nat) : State :=
  let q := pairKey k src
  { s with ord := { s.ord with acks := tset [] s.ord.acks q (tget [] s.ord.acks q ++ [seq]) } }

/-- ACK_DELAY_EXPIRE (R164): the pending list's oldest numbers, up to eight, go into an ACK flit. -/
def State.formAck (s : State) (k src : Nat) : State :=
  let q := pairKey k src
  let l := tget [] s.ord.acks q
  if l.isEmpty then s
  else { s with ord := { s.ord with
    acks := tset [] s.ord.acks q (l.drop 8),
    ackQ := tset [] s.ord.ackQ k (tget [] s.ord.ackQ k ++ [ackFlit k src (l.take 8)]) } }

def execAckDelayExpire (k : Stop) (src : Stop) (s : State) : Res := .next (s.formAck k src)

/-! ### Completions and tags (R67, R140, R141, R170–R174, R565) -/

/-- The tag becomes EXPIRED and owes a synthetic completion, formed once one of its entries holds no flit (R141, R174). -/
def State.expire (s : State) (k t status : Nat) : State :=
  let x := s.tag k t
  let s1 := s.setTag k t { x with st := 4, owes := 1 + status, expAt := s.nodeTick k }
  if x.busy < x.entries then s1.synthNow k t status else s1

/-- A completion matches no request (R565). DESIGN CHOICE: an IDLE tag names no link, so L of the record is 0 at a port
stop too. -/
def State.unexpected (s : State) (k : Nat) (f : Flit) : State :=
  (s.rcInc F.STOP.UNEXP_CPL_CNT k).record .stop k 0x43 (packBits [(0, 12, f.tag.toNat)])
    (packBits [(0, 12, f.slice.toNat), (12, 4, f.sgen.toNat)]) f.sgid.toNat

/-- A completion for an EXPIRED tag (Table 6-3). -/
def State.lateCpl (s : State) (k : Nat) (f : Flit) (l : Nat) : State :=
  (s.rcInc F.STOP.LATE_CPL_CNT k).record .stop k 0x42 (packBits [(0, 12, f.tag.toNat), (12, 2, l)])
    (packBits [(0, 12, f.slice.toNat), (12, 4, f.sgen.toNat)]) f.sgid.toNat

/-- A completion has wholly arrived: final or partial, in OPEN, HELD or EXPIRING (Table 6-3). -/
def State.cplEvent (s : State) (k t : Nat) (f : Flit) : State :=
  let x := s.tag k t
  let s1 := if x.st = 3 then s.rcInc F.STOP.NEAR_MISS_CNT k else s
  if cplFinal f then s1.setTag k t {}
  else
    let got := 4 * lenUnits f.len - nbits f.addr.toNat 16 2
    let x1 := { x with left := x.left - got }
    s1.setTag k t (if x.st = 3 then { x1 with st := 1, deadline := wrapAdd 48 (s.nodeTick k) (s.ctoOf k x.link) } else x1)

/-- OPEN becomes EXPIRING at the boundary past its deadline (R173). -/
def State.tagDeadline (s : State) (k t : Nat) : State :=
  let x := s.tag k t
  let b := s.nodeTick k
  if x.st = 1 ∧ tickPast b x.deadline 1 then s.setTag k t { x with st := 3, expAt := b } else s

/-- EXPIRING becomes EXPIRED at the next boundary, with a synthetic CPL of STATUS CA (R173, Table 6-3). -/
def State.tagExpire (s : State) (k t : Nat) : State :=
  let x := s.tag k t
  let b := s.nodeTick k
  if x.st = 3 ∧ tickPast b x.expAt 1 then
    (s.record .stop k 0x44 (packBits [(0, 12, t), (12, 2, x.link)]) (packBits [(0, 12, x.slice), (12, 4, x.sgen)])
      ((x.hdr.getD emptyFlit).dgid.toNat)).expire k t stCA
  else s

/-- An EXPIRED tag whose quarantine has ended returns to IDLE (R172). -/
def State.tagQuar (s : State) (k t : Nat) : State :=
  let x := s.tag k t
  let b := s.nodeTick k
  if x.st = 4 ∧ tickPast b x.o (s.eff k 16) ∧ tickPast b x.expAt 1 ∧ x.owes = 0 then s.setTag k t {} else s

/-- The timer scan of one tag at a boundary (duty 5): the row of its state, and no more than one row. -/
def State.tagScan (s : State) (k t : Nat) : State :=
  match (s.tag k t).st with
  | 1 => s.tagDeadline k t
  | 3 => s.tagExpire k t
  | 4 => s.tagQuar k t
  | _ => s

def execTagDeadlinePassed (k : Stop) (t : TagNo) (s : State) : Res := .next (s.tagDeadline k t)
def execTagExpire (k : Stop) (t : TagNo) (s : State) : Res := .next (s.tagExpire k t)
def execQuarantineEnd (k : Stop) (t : TagNo) (s : State) : Res := .next (s.tagQuar k t)

/-- COMPLETER_RECORD_EXPIRE (R175): records of the stop that have reached OUT_LIMIT end. -/
def execCompleterRecordExpire (k : Stop) (s : State) : Res :=
  let live := (tget [] s.ord.recs k).filter (fun r => r.age < s.eff k 15)
  .next { s with ord := { s.ord with recs := tset [] s.ord.recs k live } }

/-! ### Landing (R81, R122, R153, R154, R167) -/

/-- What the source handed over with a flit: its egress link and EG_RID (R274), kept with its retained copy. -/
def State.handed (s : State) (e : Ejected) (lane : Nat) : Nat × Nat :=
  if lane = 18 then (e.link, e.rid)
  else match (s.ret e.flit.src.toNat).find? (fun c => c.flit.dst == e.flit.dst && c.flit.seq == e.flit.seq) with
    | some c => (c.link, c.rid)
    | none => (0, 0)

/-- The lowest unlanded number advances over the landed run (R167). -/
def advanceLow : Nat → OrdSt → Nat → OrdSt
  | 0, o, _ => o
  | n + 1, o, pk =>
    let l := tget 0 o.low pk
    if tget 0 o.seen (pk * 65536 + l) = 1 then
      advanceLow n { o with seen := tset 0 o.seen (pk * 65536 + l) 0, low := tset 0 o.low pk ((l + 1) % 65536) } pk
    else o

/-- The entry of a landed flit is freed (R123, R140). -/
def State.freeLanded (s : State) (k : Nat) (l : Landed) : State :=
  if l.charge = 4 then s
  else if l.charge = 3 then s.freeRsp k l.flit.tag.toNat l.num
  else s.freeEntry k l.flit.src.toNat l.flit.cls.toNat l.charge

/-- A landed flit for a link that drops its traffic is discarded; it keeps its place at the in-order point (R256). -/
def State.dropLanded (s : State) (k : Nat) (l : Landed) : State := (s.freeLanded k l).discardFlit k l.link l.flit

/-- A flit is released to its egress queue (R153, R158); a completion for a port stop's own read goes to that read, and a
flit for a link that drops its traffic to none. -/
def State.releaseOne (s : State) (k : Nat) (l : Landed) : State :=
  if l.drop then s
  else if !l.own && s.egrDrops k l.link then s.dropLanded k l
  else
  let f := l.flit
  let s1 := if l.own then ((s.poisTake k f).rdTake k l.num f).freeRsp k f.tag.toNat l.num
    else (s.toEgress k (if isPortStop k then l.link else 0) f l.charge l.ring l.rid false l.num).drain k
  let n := if dataUsed f.opc f.addr f.len then min 128 (4 * lenUnits f.len - 128 * f.fidx.toNat) else 0
  s1.countEvt .pmu k 0x004 n { cls := some f.cls.toNat, slice := some f.slice.toNat }

/-- Insert a landed flit by sequence number. -/
def insLanded (x : Landed) : List Landed → List Landed
  | [] => [x]
  | y :: t => if atOrAfter 16 y.flit.seq.toNat x.flit.seq.toNat then x :: y :: t else y :: insLanded x t

/-- Every landed number below the lowest unlanded one is released in order (R153); one already released under R154 is
not released again. -/
def State.releaseRun (s : State) (k src : Nat) : State :=
  let pk := pairKey k src
  let low := tget 0 s.ord.low pk
  let l := tget [] s.ord.wait pk
  let out := l.filter (fun x => !atOrAfter 16 x.flit.seq.toNat low)
  let s1 : State := { s with ord := { s.ord with wait := tset [] s.ord.wait pk (l.filter (fun x => atOrAfter 16 x.flit.seq.toNat low)) } }
  out.foldl (fun a x => if x.released then a else a.releaseOne k x) s1

/-- Every lower flit of the transaction has been released, so a relaxed flit leaves in ascending FIDX (R63, R154): the
flits of a transaction have consecutive numbers. -/
def roReady (l : List Landed) (low : Nat) (f : Flit) : Bool :=
  (List.range f.fidx.toNat).all (fun i =>
    let n := wrapSub 16 f.seq.toNat (i + 1)
    !atOrAfter 16 n low || l.any (fun x => x.flit.seq.toNat == n && x.released))

/-- Release at landing the relaxed posted flits that may go (R154). -/
def State.releaseRelaxed (s : State) (k src : Nat) : State :=
  let pk := pairKey k src
  let low := tget 0 s.ord.low pk
  let step := fun (a : State × List Landed) (x : Landed) =>
    if !x.released && [opMWR, opMSG, opDESC].contains x.flit.opc && x.flit.attr.getLsbD 1
        && roReady (a.2 ++ tget [] s.ord.wait pk) low x.flit then
      (a.1.releaseOne k x, a.2 ++ [{ x with released := true }])
    else (a.1, a.2 ++ [x])
  let r := (tget [] s.ord.wait pk).foldl step (s, [])
  { r.1 with ord := { r.1.ord with wait := tset [] r.1.ord.wait pk r.2 } }

/-- Number `n` of source `src` has landed at stop `k`. -/
def State.landedNum (s : State) (k src n : Nat) : Bool :=
  let pk := pairKey k src
  !atOrAfter 16 n (tget 0 s.ord.low pk) || tget 0 s.ord.seen (pk * 65536 + n) == 1

/-- Two RSP flits at a stop belong to one completion. -/
def sameCpl (f g : Flit) : Bool := isRsp g.opc && txnKey 0 f == txnKey 0 g

/-- The last flit of the completion of `f`, once all its flits have landed: the completion has arrived. -/
def State.cplWhole (s : State) (k : Nat) (f : Flit) : Option Flit :=
  let src := f.src.toNat
  let mine := (tget [] s.ord.wait (pairKey k src)).map (fun l => l.flit)
  match (f :: mine).find? (fun g => sameCpl f g && g.last == 1) with
  | none => none
  | some g =>
    if (List.range (g.fidx.toNat + 1)).all (fun i => s.landedNum k src (wrapSub 16 g.seq.toNat i)) then some g else none

/-- What the stop has taken of the completion of `f` is discarded and its entries freed: the completion meets its tag in a
state that discards it before it has wholly arrived. The answer says that its last flit was among them. DESIGN CHOICE: a
completion is delivered whole or not at all. -/
def State.dropPart (s : State) (k : Nat) (f : Flit) : State × Bool :=
  let pk := pairKey k f.src.toNat
  let w := (tget [] s.ord.wait pk).filter (fun l => sameCpl f l.flit && !l.drop)
  let e := (List.range 4).flatMap (fun l => (s.egr k l 2).filter (fun x => !x.synth && sameCpl f x.flit))
  let num := (s.tag k f.tag.toNat).num
  let s1 : State := { s with ord := { s.ord with
    wait := tset [] s.ord.wait pk ((tget [] s.ord.wait pk).filter (fun l => !sameCpl f l.flit)),
    rdData := tset [] s.ord.rdData (rdKey k num) ((tget [] s.ord.rdData (rdKey k num)).filter (fun g => !sameCpl f g)),
    pois := tset 0 s.ord.pois (txnKey k f) 0 } }
  let s2 := (List.range 4).foldl (fun a l =>
    a.setEgr k l 2 ((a.egr k l 2).filter (fun x => x.synth || !sameCpl f x.flit))) s1
  let gone := w.map (fun l => (l.flit, l.num)) ++ e.map (fun x => (x.flit, x.num))
  (gone.foldl (fun a g => a.freeRsp k g.1.tag.toNat g.2) s2, gone.any (fun g => g.1.last == 1))

/-- A completion flit is discarded; the completion counts once. -/
def State.cplDiscard (s : State) (k : Nat) (f : Flit) (count : State → State) : State :=
  let r := s.dropPart k f
  if f.last = 1 ∨ r.2 then count r.1 else r.1

/-- A landing RSP flit meets its tag (R140, R141, R172, R565): it is discarded, or it takes one of the tag's entries. -/
def State.cplMeet (s : State) (k : Nat) (f : Flit) : State × Option Landed :=
  let t := f.tag.toNat
  let x := s.tag k t
  if f.sgen.toNat ≠ tget 0 s.ord.gen (k * 4096 + f.slice.toNat) then
    (s.cplDiscard k f (fun a => (a.rcInc F.STOP.STALE_CPL_CNT k).fsat F.SLICE.STALE_CNT 1 f.slice.toNat), none)
  else if tagSpace k ≤ t ∨ x.st = 0 then (s.cplDiscard k f (fun a => a.unexpected k f), none)
  else if x.st = 4 then (s.cplDiscard k f (fun a => a.lateCpl k f x.link), none)
  else if x.entries ≤ x.taken then
    ((((s.rcInc F.STOP.RSP_OVR_CNT k).record .stop k 0x32 (packBits [(0, 12, t), (12, 6, f.src.toNat)])
      (packBits [(0, 12, f.slice.toNat), (12, 4, f.sgen.toNat)])).expire k t stCA).dropPart k f |>.1, none)
  else
    (s.setTag k t { x with taken := x.taken + 1, busy := x.busy + 1 },
     some { flit := f, charge := 3, ring := f.ring.toNat, link := x.link, rid := x.reqId + 65536 * x.pciTag,
            own := isPortStop k && x.use != .tlp, num := x.num })

/-- A flit that has taken its entry waits at the in-order point. -/
def State.waitIn (s : State) (k : Nat) (l : Landed) : State :=
  let pk := pairKey k l.flit.src.toNat
  { s with ord := { s.ord with wait := tset [] s.ord.wait pk (insLanded l (tget [] s.ord.wait pk)) } }

/-- A flit that has taken its entry waits at the in-order point, or is discarded there at once (R256). -/
def State.landAt (s : State) (k : Nat) (l : Landed) : State :=
  if !l.own && s.egrDrops k l.link then (s.dropLanded k l).waitIn k { l with charge := 4, drop := true } else s.waitIn k l

/-- A landing RSP flit: with the flit that completes it, the completion has arrived at its tag. -/
def State.landRsp (s : State) (k : Nat) (f : Flit) : State :=
  let r := s.cplMeet k f
  match r.2 with
  | none => r.1
  | some l =>
    let s2 := r.1.landAt k l
    match s2.cplWhole k f with
    | some g => s2.cplEvent k f.tag.toNat g
    | none => s2

/-- A landing REQ flit is charged (R122). -/
def State.landReq (s : State) (k lane : Nat) (e : Ejected) : State :=
  let f := e.flit
  let hd := s.handed e lane
  let ck := chargeKind (s.charge k f.src.toNat f.cls.toNat) (isPosted f.opc)
  (s.setCharge k f.src.toNat f.cls.toNat ck.2).landAt k
    { flit := f, charge := ck.1, ring := f.ring.toNat, link := hd.1, rid := hd.2 }

/-- A REQ or RSP flit that has passed its E2E_CRC meets the duplicate filter (R167). -/
def State.landFilter (s : State) (k lane : Nat) (e : Ejected) : State :=
  let f := e.flit
  let src := f.src.toNat
  let seq := f.seq.toNat
  let pk := pairKey k src
  let low := tget 0 s.ord.low pk
  if s.landedNum k src seq then (s.rcInc F.STOP.DUP_CNT k).ackPend k src seq
  else if 4096 ≤ wrapSub 16 seq low then
    (s.rcInc F.STOP.SEQ_RANGE_CNT k).record .stop k 0x41 (packBits [(0, 6, src), (16, 16, seq)]) low seq
  else
    let o1 := { s.ord with seen := tset 0 s.ord.seen (pk * 65536 + seq) 1 }
    let s1 : State := { s with ord := advanceLow 4096 o1 pk }
    let s2 := if lane = 18 then s1 else s1.ackPend k src seq
    let s3 := if isRsp f.opc then s2.landRsp k f else s2.landReq k lane e
    let s4 := s3.releaseRun k src
    if s4.fbit F.STOP.ORD_CFG.RO_BYPASS k then s4.releaseRelaxed k src else s4

/-- The head of an ejection lane (lane 18 is the stop's own path). -/
def State.ejectHead (s : State) (k lane : Nat) : Option Ejected := (tget [] s.spine.eject (k * 32 + lane)).head?

/-- Remove the head of an ejection lane. -/
def State.ejectPop (s : State) (k lane : Nat) : State :=
  { s with spine := { s.spine with eject := tset [] s.spine.eject (k * 32 + lane) (tget [] s.spine.eject (k * 32 + lane)).tail } }

/-- A flit whose E2E_CRC fails is discarded, not acknowledged, counted and recorded (R81). -/
def State.e2eFail (s : State) (k : Nat) (e : Ejected) : State :=
  let f := e.flit
  (s.rcInc F.STOP.E2E_ERR_CNT k 1 e.inj).record .stop k 0x23
    (packBits [(0, 6, f.src.toNat), (6, 6, f.opc.toNat), (16, 16, f.seq.toNat)]) f.crc.toNat f.seq.toNat e.inj

end Sys2Proof.Machine
end

