-- ==== Sys2Proof/Machine/Mem.lean ====
section
/-! DEFINITION. Attached memory: the layout, the channel's requests, parity, reconstruction, channel states and rebuild
(10_identifiers_and_attached_memory R286–R300, R355, R563, R564). -/

namespace Sys2Proof.Machine

/-! ### Layout (R286–R292) -/

/-- The memory stop of a channel. -/
def memStop (c : Nat) : Nat := 7 * c + 5

/-- The memory stop that acts for a channel: its own or, while that is isolated, the next one in ascending order whose
stop is not (R466). -/
def State.actStop (s : State) (c : Nat) : Nat :=
  memStop (((List.range 8).map (fun i => (c + i) % 8)).find? (fun x => !s.isolated (memStop x)) |>.getD c)

/-- Channel and channel-local address of a byte of the FMA space (R286). -/
def fmaLoc (fma : Nat) : Nat × Nat :=
  let r := fma / 28672
  let j := fma % 28672 / 4096
  ((j + 8 - r % 8) % 8, r * 4096 + fma % 4096)

/-- First rows of the regions of Table 10-3. -/
def rowCopyA : Nat := 0
def rowCopyB : Nat := 9364
def rowBind : Nat := 18728
def rowFlacon : Nat := 19899
def rowSillage : Nat := 29262
def rowOverflow : Nat := 66712
def rowSpill : Nat := 76080

/-- FMA of a byte of a striped region. -/
def regionFma (row b : Nat) : Nat := row * 28672 + b

/-- FMA of copy A or B of a translation entry (R287). -/
def xltFma (copyB : Bool) (key : Nat) : Nat := regionFma (if copyB then rowCopyB else rowCopyA) (16 * key)
def bindFma (idx : Nat) : Nat := regionFma rowBind (32 * idx)

/-- Channel-local address of byte `b` of channel `c`'s share of a channel-local region (R288). -/
def chLocal (first c b : Nat) : Nat :=
  let u := b / 4096
  let t := u % 7
  (first + 8 * (u / 7) + (if t < 7 - c then t else t + 1)) * 4096 + b % 4096

/-- First FMA of pool memory, by channel page (R287). -/
def State.poolFma (s : State) (c : Nat) : Nat := regionFma (rowSpill + s.fget F.MEM.MAP_SPILL.ROWS c) 0

/-- Pool units left by a spill region (POOL_UNITS). -/
def poolUnits (rows : Nat) : Nat := (8388608 - rowSpill - rows) * 28672 / 2097152

/-- The space of a request and its address in it (Table 10-5). -/
def spaceOf (f : Flit) : Nat := nbits f.addr.toNat 56 8
def spaceAddr (f : Flit) : Nat := nbits f.addr.toNat 0 40

/-- Channel-local address of one byte of a request's space at channel `c`. -/
def byteLoc (c space a : Nat) : Nat :=
  if space = 0 then (fmaLoc a).2
  else if space = 0xC0 then chLocal (if nbits a 32 4 = 0 then rowOverflow else rowSpill) c (a % 2 ^ 32)
  else a % 2 ^ 35

/-- The parity channel of a row (R286). -/
def parityCh (row : Nat) : Nat := 7 - row % 8

/-- Split `len` bytes at `a` of a space into accesses inside aligned 128-byte blocks: the channel-local address, the
offset in the request and the length (R288, R547). -/
def pieces (c space : Nat) : Nat → Nat → Nat → Nat → List (Nat × Nat × Nat)
  | 0, _, _, _ => []
  | n + 1, a, off, len =>
    if len = 0 then []
    else
      let k := min len (128 - a % 128)
      (byteLoc c space a, off, k) :: pieces c space n (a + k) (off + k) (len - k)

/-- Bytes `off` to `off + n - 1` of a number. -/
def byteSlice (v off n : Nat) : Nat := nbits v (8 * off) (8 * n)

/-- Bitwise xor of the bytes selected by a mask of `n` bytes: where the mask is 1 from `b`, else from `a`. -/
def mergeBytes (a b mask : Nat) : Nat → Nat
  | 0 => 0
  | n + 1 => (if mask % 2 = 1 then b % 256 else a % 256) + 256 * mergeBytes (a / 256) (b / 256) (mask / 2) n

/-- Bytes a write flit carries (R62). -/
def writeBytes (f : Flit) : Nat := min 128 (4 * lenUnits f.len - 128 * f.fidx.toNat)

/-- The channel that a flit at memory stop `m` is for: the source hands over its logical destination (R100, R466). -/
def memChan (m rid : Nat) : Nat := if isMemStop rid then sectorOf rid else sectorOf m

/-! ### Jobs -/

def State.jobs (s : State) (c : Nat) : List MJob := tget [] s.mem.jobs c
def State.setJobs (s : State) (c : Nat) (l : List MJob) : State :=
  { s with mem := { s.mem with jobs := tset [] s.mem.jobs c l } }

/-- Add a job to a channel. -/
def State.addJob (s : State) (c : Nat) (kind : JobKind) (hdr : Flit) (ring : Nat) (accs : List MAcc) : State :=
  ({ s with mem := { s.mem with nextId := s.mem.nextId + 1 } } : State).setJobs c
    (s.jobs c ++ [⟨s.mem.nextId, kind, hdr, ring, accs⟩])

/-- Replace access `i` of a job. -/
def State.setAcc (s : State) (c id i : Nat) (a : MAcc) : State :=
  s.setJobs c ((s.jobs c).map (fun j => if j.id = id then { j with accs := j.accs.set i a } else j))

/-- The accesses of a channel with their jobs, in the order of arrival. -/
def State.accsOf (s : State) (c : Nat) : List (MJob × Nat × MAcc) :=
  (s.jobs c).flatMap (fun j => (List.range j.accs.length).filterMap (fun i => (j.accs[i]?).map (fun a => (j, i, a))))

def chState (s : State) (c : Nat) : Nat := s.fget F.MEM.CH_STS.STATE c

/-- A unit of row `row` cannot be taken from or written to channel `c` (R297). -/
def State.unitGone (s : State) (c row : Nat) : Bool :=
  chState s c == 1 || (chState s c == 2 && s.fget F.MEM.REBUILD_PTR.PTR c ≤ row)

/-- The accesses that are writes of data units. -/
def isWriteOp (op : Nat) : Bool := op == 1 || op == 3

/-- A delta for an address that satisfies `p` has left stop `m` and is not acknowledged, or waits to leave (R294). -/
def State.deltaOut (s : State) (m : Nat) (p : Nat → Bool) : Bool :=
  let hit := fun (f : Flit) => f.opc == opMWR && spaceOf f == 0xD0 && p (spaceAddr f)
  (s.formQ m).any (fun r => hit r.hdr) || (s.queue m).any (fun t => hit t.head) || (s.ret m).any (fun c => hit c.flit)
  || (match tget none s.arb.burst m with | some b => b.flits.any hit | none => false)

/-- A row is open at the channel's stop: a write under way or its delta not acknowledged (R294). -/
def State.rowOpen (s : State) (c row : Nat) : Bool :=
  (s.accsOf c).any (fun x => isWriteOp x.2.2.op && x.2.2.addr / 4096 == row && x.2.2.ph != 0 && x.2.2.ph != 5)
  || s.deltaOut (s.actStop c) (fun a => a / 4096 == row)

/-- A hold on the row by a row read answered, or one being served (R295). -/
def State.rowHeld (s : State) (c row : Nat) : Bool :=
  (tget [] s.mem.holds c).any (fun h => h.1 == row)
  || (s.accsOf c).any (fun x => x.2.2.op == 4 && x.2.2.addr / 4096 == row && 1 ≤ x.2.2.ph && x.2.2.ph ≤ 4)

/-- Free tags of the memory interface (R547). -/
def State.memTag (s : State) (c : Nat) : Option Nat :=
  let inUse := (s.accsOf c).filterMap (fun x => if x.2.2.ph = 1 ∨ x.2.2.ph = 2 then some x.2.2.tag else none)
  (List.range 256).find? (fun t => !inUse.contains t)

/-- A delta of the channel's stop for the block of an access is not acknowledged: the row cannot be reconstructed from the
other channels yet (R294). -/
def State.blockDelta (s : State) (c : Nat) (a : MAcc) : Bool := s.deltaOut (s.actStop c) (fun b => b / 128 == a.addr / 128)

/-- The row of the channel is under reconstruction by the rebuild, until the pointer passes it (R298). -/
def State.rowRebuilt (s : State) (c row : Nat) : Bool := (s.jobs c).any (fun j => j.kind == .rebuild row)

/-- What holds a waiting access back besides its block: a row hold or the rebuild of its row (a write), an open write (a row
read, the rebuild), its own delta (an access whose unit is gone). -/
def State.rowWaits (s : State) (c : Nat) (a : MAcc) : Bool :=
  let row := a.addr / 4096
  if isWriteOp a.op then s.rowHeld c row || s.rowRebuilt c row || (s.unitGone c row && s.blockDelta c a)
  else if a.op = 4 then !s.unitGone c row && s.rowOpen c row
  else if a.op = 6 then s.rowOpen c row
  else if a.op = 0 then s.unitGone c row && s.blockDelta c a
  else false

/-- The controller can be given a request: a tag is free and the bridge is ready. -/
def State.ctlFree (s : State) (c : Nat) : Bool := (s.memTag c).isSome && s.xbReady (memBridge c)

/-- Starting the access needs the controller. -/
def State.needsCtl (s : State) (c : Nat) (a : MAcc) : Bool :=
  match a.op with
  | 5 => chState s c != 1
  | 6 => false
  | 7 => true
  | _ => a.ph != 7 && !s.unitGone c (a.addr / 4096)

/-- An access may start now; `seen` are the blocks of the unfinished accesses before it (R563). A direct read does not wait
for the requests of the rings (R300). -/
def State.mayStart (s : State) (c : Nat) (a : MAcc) (seen : List Nat) : Bool :=
  (s.ctlFree c || !s.needsCtl c a)
  && (match a.ph with
      | 0 => (a.op == 5 || a.op == 6 || !seen.contains (a.addr / 128)) && !s.rowWaits c a
      | 6 => true
      | 7 => !s.blockDelta c a
      | _ => false)

/-- The next access that may start. -/
def State.startable (s : State) (c : Nat) : List (MJob × Nat × MAcc) → List Nat → Option (MJob × Nat × MAcc)
  | [], _ => none
  | x :: rest, seen =>
    if s.mayStart c x.2.2 seen then some x
    else if x.2.2.ph = 5 ∨ x.2.2.op = 5 ∨ x.2.2.op = 6 then s.startable c rest seen
    else s.startable c rest (x.2.2.addr / 128 :: seen)

/-- Address of a request for a channel-local span in a space that only memory stops form. -/
def spanAddr (space loc : Nat) : Nat := packBits [(56, 8, space), (0, 40, loc)]

/-- Row reads to the other data stops of the access's row (R295). -/
def State.rowReads (s : State) (c : Nat) (j : MJob) (i : Nat) (a : MAcc) : State :=
  let row := a.addr / 4096
  let others := (List.range 8).filter (fun x => x != c && x != parityCh row)
  others.foldl (fun t x => t.ownRead (t.actStop c) (memStop x) (spanAddr 0xD1 a.addr) a.len (.rowRead j.id i x))
    (s.setAcc c j.id i { a with ph := 3, span := 0, ans := 0 })

/-- The new bytes of an AtomicOp: the first 8 operand bytes and the second ones (R66, R260). -/
def atomNew (op size old x y : Nat) : Option Nat :=
  match op with
  | 0 => some ((old + x) % 2 ^ (8 * size))
  | 1 => some x
  | _ => if old = x then some y else none

/-- Bytes of the original value of an AtomicOp (R260). -/
def atomSize (f : Flit) : Nat :=
  if nbits f.be.toNat 0 4 = 2 then 2 * f.len.toNat else 4 * f.len.toNat

/-- What an AtomicOp flit makes of the old value. -/
def atomOf (f : Flit) (old : Nat) : Option Nat :=
  let n := atomSize f
  atomNew (nbits f.be.toNat 0 4) n old (byteSlice f.data.toNat 0 n) (byteSlice f.data.toNat n n)

/-- The value an access writes over `old`, none when it writes nothing. -/
def accNew (a : MAcc) (old : Nat) : Option Nat :=
  match a.op with
  | 1 => some (mergeBytes old a.new a.be a.len)
  | 2 => some (old ^^^ a.new)
  | 3 => some a.new
  | 7 => some old
  | _ => none

/-- Send the delta of a write to the parity stop of its row, unless that row's parity unit is lost (R294, R297). -/
def State.sendDelta (s : State) (c : Nat) (a : MAcc) (new : Nat) : State :=
  let row := a.addr / 4096
  let p := parityCh row
  if s.unitGone p row then s
  else s.ownWrite (s.actStop c) (memStop p) (spanAddr 0xD0 a.addr) (bytesOf a.len (a.old ^^^ new))

/-! ### Answers -/

/-- Set bits below the lowest set bit of four, and above the highest. -/
def lowGap (b : Nat) : Nat := ((List.range 4).find? (fun i => nbit b i)).getD 0
def highGap (b : Nat) : Nat := ((List.range 4).find? (fun i => nbit b (3 - i))).getD 0

/-- Bytes that a read draws and the lower address of its completion. PRESUMED: PCI Express counts from the first to the
last enabled byte, one byte when none is enabled. -/
def readBytes (f : Flit) : Nat :=
  let n := lenUnits f.len
  let b := f.be.toNat
  if n = 1 then (if b % 16 = 0 then 1 else 4 - lowGap (b % 16) - highGap (b % 16))
  else 4 * n - lowGap (b % 16) - highGap (b / 16 % 16)
def lowerAddr (f : Flit) : Nat := (f.addr.toNat + lowGap (f.be.toNat % 16)) % 128

/-- Stop `m` answers a request with data (R68, R83). -/
def State.answerData (s : State) (m : Nat) (req : Flit) (ring : Nat) (bytes : List (BitVec 8)) (count lower : Nat)
    (pois : Bool) : State :=
  s.submit m {
    hdr := { cplFor req req.tag.toNat stSC count false with
      opc := opCPLD, len := BitVec.ofNat 10 (bytes.length / 4), pois := BitVec.ofNat 1 (b2n pois),
      addr := BitVec.ofNat 64 (packBits [(3, 13, count), (16, 7, lower)]) },
    chunks := chunksOf 32 bytes, reqRing := some ring }

/-- Stop `m` answers a request without data. -/
def State.answerStatus (s : State) (m : Nat) (req : Flit) (ring status count : Nat) : State :=
  s.submit m { hdr := cplFor req req.tag.toNat status count false, reqRing := some ring }

/-- The bytes that a finished job has read. -/
def jobBytes (j : MJob) : List (BitVec 8) := j.accs.flatMap (fun a => bytesOf a.len a.old)

/-- A step of a memory page's own work ends: copy A of an update is written (1), the binding entry (2), a word of
another unit (3 and above, by number). -/
def State.ownDone (s : State) (c what : Nat) : State :=
  match what with
  | 1 => if tget 0 s.mem.upd c = 1 then { s with mem := { s.mem with upd := tset 0 s.mem.upd c 4 } } else s
  | 2 => if s.mem.pbUpd = 1 then { s with mem := { s.mem with pbUpd := 2 } } else s
  | _ => s

/-- The page whose copy B a posted write fills: 1 + its channel, 0 for another write. -/
def State.copyBOf (s : State) (f : Flit) : Nat :=
  let src := f.src.toNat
  if isMemStop src ∧ f.slice = 0 ∧ spaceOf f = 0 ∧ tget 0 s.mem.upd (sectorOf src) = 2
      ∧ spaceAddr f = xltFma true (tget 0 s.mem.updKey (sectorOf src)) then sectorOf src + 1 else 0

/-- The data of a read cannot be recovered (R295): a record and a sillage entry with the FMA or the channel-local address. -/
def State.memUeAt (s : State) (c : Nat) (local' : Bool) (ad : Nat) : State :=
  s.record .mem c 0x62 (packBits [(0, 3, c), (3, 1, b2n local')]) (ad / 4096) ad

def State.memUe (s : State) (c : Nat) (j : MJob) (a : MAcc) : State :=
  let f := spaceAddr j.hdr
  if j.kind == .rowRead || spaceOf j.hdr != 0 then s.memUeAt c (spaceOf j.hdr != 0) a.addr
  else s.memUeAt c false (f - f % 4096 + a.addr % 4096)

/-- A read is answered: reconstructed or poisoned, it counts once (R295). -/
def State.readCounts (s : State) (c : Nat) (j : MJob) : State :=
  match j.accs.find? (fun a => a.pois) with
  | some a => (s.rcInc F.MEM.POIS_CNT c).memUe c j a
  | none => if j.accs.any (fun a => a.recon) then s.rcInc F.MEM.RECON_CNT c else s

/-- Release the row at the six other data stops. -/
def State.rowReleases (s : State) (c row : Nat) : State :=
  ((List.range 8).filter (fun x => x != c && x != parityCh row)).foldl (fun t x =>
    t.ownWrite (t.actStop c) (memStop x) (spanAddr 0xD2 row) (bytesOf 4 0)) s

/-- A job whose accesses are all complete leaves, with its answer. -/
def State.finishJob (s : State) (c : Nat) (j : MJob) : State :=
  let m := s.actStop c
  let pois := j.accs.any (fun a => a.pois)
  let s1 := s.setJobs c ((s.jobs c).filter (fun x => x.id != j.id))
  match j.kind with
  | .post =>
    let b := s1.copyBOf j.hdr
    if b ≠ 0 then { s1 with mem := { s1.mem with upd := tset 0 s1.mem.upd (b - 1) (5 + 8 * c) } } else s1
  | .read => (s1.readCounts c j).answerData m j.hdr j.ring (jobBytes j) (readBytes j.hdr) (lowerAddr j.hdr) pois
  | .atom => (s1.readCounts c j).answerData m j.hdr j.ring (jobBytes j) (atomSize j.hdr) 0 pois
  | .rowRead =>
    let row := spaceAddr j.hdr / 4096
    let hold := if parityCh row = c ∨ s1.knowsGone m j.hdr.src.toNat then s1
      else { s1 with mem := { s1.mem with holds := tset [] s1.mem.holds c (tget [] s1.mem.holds c ++ [(row, j.hdr.src.toNat)]) } }
    hold.answerData m j.hdr j.ring (jobBytes j) (readBytes j.hdr) (lowerAddr j.hdr) pois
  | .own w => s1.ownDone c w
  | .direct =>
    let a := j.accs.headD { op := 5, addr := 0, len := 64 }
    let s2 := (s1.fput F.MEM.DR_STS.VALID true c).fset F.MEM.DR_STS.STATUS a.span c
    if a.span = 2 then s2
    else (List.range 16).foldl (fun t i => t.fset F.MEM.DR_DATA.DATA (byteSlice a.old (4 * i) 4) c i) s2
  | .rebuild row => s1.rowReleases c row
  | .readback n =>
    let fs := (chunksOf 32 (jobBytes j)).map (fun d => { emptyFlit with data := d, pois := BitVec.ofNat 1 (b2n pois) })
    let s2 := s1.readCounts c j
    { s2 with ord := { s2.ord with rdDone := tset [] s2.ord.rdDone m (tget [] s2.ord.rdDone m ++ [⟨.readback n, none, fs, 0, false⟩]) } }

/-- The jobs that are complete leave. The answer of a direct read waits for DIRECT_READ_DONE; a rebuilt row waits for the
pointer, unless its rebuild has been abandoned (R298). -/
def State.finishAll (s : State) (c : Nat) : State :=
  ((s.jobs c).filter (fun j => j.kind != .direct && j.accs.all (fun a => a.ph == 5)
    && (chState s c != 2 || (match j.kind with | .rebuild _ => false | _ => true)))).foldl (fun a j => a.finishJob c j) s

/-! ### Channel states (R296, R299, Table 10-6) -/

/-- The channel's state changes, with a CH_STATE entry (Table 16-11). -/
def State.setCh (s : State) (c toward : Nat) : State :=
  (s.fset F.MEM.CH_STS.STATE toward c).sillage (memStop c) 0x07
    (packBits [(0, 2, chState s c), (2, 2, toward), (4, 23, s.fget F.MEM.REBUILD_PTR.PTR c)])

/-- The channel becomes LOST: cause 0 controller, 1 UE_LIM, 2 FAIL command. A rebuild ends with its pointer kept; rows under
reconstruction are released as their row reads end. -/
def State.chLost (s : State) (c cause : Nat) : State :=
  match chState s c with
  | 0 => ((s.setCh c 1).record .mem c 0x63 cause (tget 0 s.mem.ueCnt c)).intSet .mem c 0
  | 2 => s.setCh c 1
  | _ => s

/-- An uncorrectable read counts in its UE window (R296). -/
def State.ueCount (s : State) (c : Nat) : State :=
  let now := s.nodeTick (memStop c)
  let win := max 1 (s.fget F.MEM.UE_WIN c)
  let from' := now - now % win + 1
  let n := if tget 0 s.mem.ueFrom c = from' then tget 0 s.mem.ueCnt c + 1 else 1
  let s1 : State := { s with mem := { s.mem with ueFrom := tset 0 s.mem.ueFrom c from', ueCnt := tset 0 s.mem.ueCnt c n } }
  if s.fget F.MEM.UE_LIM c ≤ n then s1.chLost c 1 else s1

/-! ### Accesses (R294, R295, R297, R563) -/

/-- The new values of an AtomicOp's parts: slices of a value. -/
def atomParts (v : Nat) : Nat → List MAcc → List MAcc
  | _, [] => []
  | off, a :: t => { a with new := byteSlice v off a.len, ph := 6 } :: atomParts v (off + a.len) t

/-- Once the old bytes of every part of an AtomicOp are known, or cannot be, its parts go on together (R564). -/
def atomGo (h : Flit) (accs : List MAcc) : List MAcc :=
  if !accs.all (fun a => a.ph == 8 || a.ph == 5) then accs
  else
    let stop := accs.map (fun a => { a with ph := 5 })
    if accs.any (fun a => a.pois) then stop
    else match atomOf h (numOfBytes (accs.flatMap (fun a => bytesOf a.len a.old))) with
      | none => stop
      | some v => atomParts v 0 accs

def State.atomSettle (s : State) (c id : Nat) : State :=
  s.setJobs c ((s.jobs c).map (fun j => if j.id = id ∧ j.kind = .atom then { j with accs := atomGo j.hdr j.accs } else j))

/-- The old bytes of an access are known: a read ends, a write goes to the controller or, when the unit is gone, sends only
its delta (R297); a part of an AtomicOp waits for the others. -/
def State.accOld (s : State) (c : Nat) (j : MJob) (i : Nat) (a : MAcc) (old : Nat) : State :=
  let a1 := { a with old := old }
  if a.op = 3 then (s.setAcc c j.id i { a1 with ph := 8 }).atomSettle c j.id
  else s.setAcc c j.id i { a1 with ph := if (accNew a old).isSome then 6 else 5 }

/-- The bytes of an access cannot be had. -/
def State.accLost (s : State) (c : Nat) (j : MJob) (i : Nat) (a : MAcc) : State :=
  (s.setAcc c j.id i { a with ph := 5, pois := true }).atomSettle c j.id

/-- The write of an access whose new bytes are known: to the controller, or its delta alone when the unit is gone. -/
def State.startWrite (s : State) (c : Nat) (j : MJob) (i : Nat) (a : MAcc) : State :=
  let off : Bool := match j.kind with | .rebuild _ => chState s c != 2 | _ => s.unitGone c (a.addr / 4096)
  if a.op = 7 ∧ off then
    s.setAcc c j.id i { a with ph := 5 }
  else if a.op ≠ 7 ∧ s.unitGone c (a.addr / 4096) then
    (if isWriteOp a.op then s.sendDelta c a ((accNew a a.old).getD a.old) else s).setAcc c j.id i { a with ph := 5 }
  else match s.memTag c with
    | some t => s.setAcc c j.id i { a with ph := 2, tag := t }
    | none => s

/-- Start one access. -/
def State.startAcc (s : State) (c : Nat) (j : MJob) (i : Nat) (a : MAcc) : State :=
  let row := a.addr / 4096
  let gone := s.unitGone c row
  if a.ph = 6 then s.startWrite c j i a
  else if a.ph = 7 then s.rowReads c j i a
  else if a.op = 6 then
    if chState s c = 2 then s.rowReads c j i a else s.setJobs c ((s.jobs c).filter (fun y => y.id != j.id))
  else if a.op = 5 ∧ chState s c = 1 then s.setAcc c j.id i { a with ph := 5, span := 2 }
  else if a.op = 4 ∧ gone then s.setAcc c j.id i { a with ph := 5, pois := true }
  else if a.op = 2 ∧ gone then s.setAcc c j.id i { a with ph := 5 }
  else if gone && a.op != 5 then
    if a.op = 1 ∧ s.unitGone (parityCh row) row then s.setAcc c j.id i { a with ph := 5 } else s.rowReads c j i a
  else match s.memTag c with
    | none => s
    | some t => s.setAcc c j.id i { a with ph := if a.op = 1 ∧ s.unitGone (parityCh row) row then 2 else 1, tag := t }

/-- Start every access that may start, and let finished jobs leave. -/
def State.memPump (s : State) (c : Nat) : Nat → State
  | 0 => s.finishAll c
  | n + 1 =>
    match s.startable c (s.accsOf c) [] with
    | none => s.finishAll c
    | some x => ((s.startAcc c x.1 x.2.1 x.2.2).finishAll c).memPump c n

/-- Writes that wait for a row hold count once (Table 10-7). -/
def State.countWaits (s : State) (c : Nat) : State :=
  (s.accsOf c).foldl (fun t x =>
    if x.2.2.ph = 0 ∧ isWriteOp x.2.2.op ∧ !x.2.2.waited ∧ t.rowHeld c (x.2.2.addr / 4096) then
      (t.setAcc c x.1.id x.2.1 { x.2.2 with waited := true }).rcInc F.MEM.ROW_WAIT_CNT c
    else t) s

def State.pump (s : State) (c : Nat) : State := (s.countWaits c).memPump c (2 * (s.accsOf c).length + 1)

/-- The access that holds a tag at the controller. -/
def State.accByTag (s : State) (c t : Nat) : Option (MJob × Nat × MAcc) :=
  (s.accsOf c).find? (fun x => (x.2.2.ph == 1 || x.2.2.ph == 2) && x.2.2.tag == t)

/-- The controller answers a request (R548): `d` is the whole 128-byte block. -/
def State.memResponse (s : State) (c t : Nat) (d : Nat) (ue : Bool) : State :=
  match s.accByTag c t with
  | none => s
  | some (j, i, a) =>
    if a.ph = 2 then
      let new := (accNew a a.old).getD a.old
      let s1 := s.setAcc c j.id i { a with ph := 5 }
      (if isWriteOp a.op then s1.sendDelta c a new else s1).pump c
    else
      let s1 := if ue then s.ueCount c else s
      let old := byteSlice d (a.addr % 128) a.len
      if !ue then (s1.accOld c j i a old).pump c
      else if a.op = 5 then (s1.setAcc c j.id i { a with ph := 5, span := 1, old := old }).pump c
      else if a.op = 4 then (s1.setAcc c j.id i { a with ph := 5, pois := true, old := old }).pump c
      else if a.op = 2 then (s1.setAcc c j.id i { a with ph := 7, addr := a.addr - a.addr % 128, len := 128 }).pump c
      else (s1.setAcc c j.id i { a with ph := 7 }).pump c

/-! ### Reconstruction (R295, R299) -/

/-- A delta flit changes bytes of the parity block `b`. -/
def deltaHits (b : Nat) (f : Flit) : Bool :=
  f.opc == opMWR && spaceOf f == 0xD0 && spaceAddr f / 128 ≤ b && b ≤ (spaceAddr f + writeBytes f - 1) / 128

/-- Deltas of a parity block that have landed and are not applied: a parity block reconstructed now holds them, since their
rows were open until they landed (R294, R295). -/
def State.foldDeltas (s : State) (c b : Nat) : State :=
  let m := s.actStop c
  let here := (s.ord.wait.filter (fun e => e.1 / 64 == m)).flatMap (fun e =>
      (e.2.filter (fun l => !l.released && memChan m l.rid == c)).map (fun l => l.flit))
    ++ ((s.egr m 0 0).filter (fun x => memChan m x.rid == c)).map (fun x => x.flit)
  let old := tget [] s.mem.folded c
  let s1 := s.setJobs c ((s.jobs c).map (fun j =>
    { j with accs := j.accs.map (fun a => { a with ph := if a.op = 2 ∧ a.ph = 0 ∧ a.addr / 128 = b then 5 else a.ph }) }))
  let new := ((here.filter (deltaHits b)).map (fun f => (f.src.toNat, f.seq.toNat, b))).filter (fun e => !old.contains e)
  { s1 with mem := { s1.mem with folded := tset [] s1.mem.folded c (old ++ new) } }

/-- The unit of a row has been reconstructed: its blocks are written. -/
def unitWrites (row v : Nat) : List MAcc :=
  (List.range 32).map (fun i =>
    { op := 7, addr := row * 4096 + 128 * i, len := 128, old := byteSlice v (128 * i) 128, be := 2 ^ 128 - 1, ph := 6 })

/-- The row reads of a row that is being rebuilt have ended. DESIGN CHOICE: a row that cannot be reconstructed is released and
tried again at a later tick, since the pointer passes only rows that are written (R298, R299). -/
def State.rowCame (s : State) (c : Nat) (j : MJob) (a : MAcc) : State :=
  let drop := (s.rowReleases c (a.addr / 4096)).setJobs c ((s.jobs c).filter (fun x => x.id != j.id))
  if chState s c ≠ 2 then drop
  else if a.pois then drop.memUe c j a
  else s.setJobs c ((s.jobs c).map (fun x => if x.id = j.id then { x with accs := unitWrites (a.addr / 4096) a.span } else x))

/-- All spans of an access have come. A delta whose parity bytes were uncorrectable ends in the write of the reconstructed
parity block (R294). -/
def State.rebuilt (s : State) (c : Nat) (j : MJob) (i : Nat) (a : MAcc) : State :=
  if a.op = 6 then s.rowCame c j a
  else
    let s1 := s.rowReleases c (a.addr / 4096)
    if a.pois then (if a.op = 0 ∨ a.op = 3 then s1 else s1.memUe c j a).accLost c j i a
    else if a.op = 2 then
      (s1.setAcc c j.id i { a with op := 7, old := a.span, be := 2 ^ 128 - 1, ph := 6 }).foldDeltas c (a.addr / 128)
    else s1.accOld c j i { a with recon := true } a.span

/-- One row read of an access has ended: its bytes or poison. -/
def State.spanCame (s : State) (c : Nat) (j : MJob) (i : Nat) (a : MAcc) (ch v : Nat) (pois : Bool) : State :=
  let row := a.addr / 4096
  let p := parityCh row
  let a1 := { a with ans := a.ans ||| 2 ^ ch, span := a.span ^^^ v, pois := a.pois || pois }
  let others := (List.range 8).filter (fun x => x != c && x != p)
  if ch = p ∨ (p = c ∧ others.all (fun x => nbit a1.ans x)) then s.rebuilt c j i a1
  else if others.all (fun x => nbit a1.ans x) then
    (s.setAcc c j.id i { a1 with ph := 4 }).ownRead (s.actStop c) (memStop p) (spanAddr 0xD1 a.addr) a.len (.rowRead j.id i p)
  else s.setAcc c j.id i a1

/-- The number that the data flits of a completion spell. -/
def flitsNum (fs : List Flit) : Nat := numOfBytes (fs.flatMap (fun f => bytesOf 128 f.data.toNat))

/-- A row read answered poisoned or not at all. -/
def rdBad (r : RdDone) : Bool := r.status != 0 || r.flits.isEmpty || r.flits.any (fun f => f.pois == 1)

/-- RECONSTRUCT_DONE (R295): every row read of the channel that has ended. -/
def State.takeSpans (s : State) (c : Nat) : Nat → State
  | 0 => s
  | n + 1 =>
    match s.takeDone (s.actStop c) (fun u => match u with
      | .rowRead id _ _ => (s.jobs c).any (fun j => j.id == id) || !s.mem.jobs.any (fun e => e.2.any (fun j => j.id == id))
      | _ => false) with
    | none => s
    | some (r, s1) =>
      match r.use with
      | .rowRead id i ch =>
        match (s1.jobs c).find? (fun j => j.id == id) with
        | some j =>
          match j.accs[i]? with
          | some a => (s1.spanCame c j i a ch (byteSlice (flitsNum r.flits) 0 a.len) (rdBad r)).takeSpans c n
          | none => s1.takeSpans c n
        | none => s1.takeSpans c n
      | _ => s1.takeSpans c n

/-! ### The heads of the channel's queues (R355, R563, R564) -/

/-- A slice's request to pool memory outside its units (R355). -/
def State.poolFenced (s : State) (c : Nat) (f : Flit) : Bool :=
  let u := tget 0 s.mem.units (c * 4096 + f.slice.toNat)
  let unit := (spaceAddr f - s.poolFma c) / 2097152
  f.slice != 0 && spaceOf f == 0 && s.poolFma c ≤ spaceAddr f
  && !(u % 131072 ≤ unit && unit < u % 131072 + u / 131072)

/-- What the fence does with a request (R355). -/
def State.fence (s : State) (c : Nat) (f : Flit) (ring : Nat) : State :=
  let unit := (spaceAddr f - s.poolFma c) / 2097152
  let s1 := if isNonPosted f.opc then s.answerStatus (s.actStop c) f ring stUR
      (if f.opc = opATOM then atomSize f else readBytes f) else s
  (s1.record .mem c 0x81 (packBits [(0, 12, f.slice.toNat), (12, 17, unit), (29, 1, b2n (isPosted f.opc))]) f.sgid.toNat
    (spaceAddr f)).pgErrEvt .slice f.slice.toNat

/-- The mask of the bytes that a write flit writes (R62, Table 3-5). -/
def writeMask (f : Flit) : Nat :=
  let n := writeBytes f
  let all := 2 ^ n - 1
  let first := if f.fidx = 0 then (f.be.toNat % 16) + (2 ^ n - 16) else all
  let last := if f.last = 1 ∧ 1 < lenUnits f.len then (2 ^ (n - 4) - 1) + (f.be.toNat / 16 % 16) * 2 ^ (n - 4) else all
  first &&& last

/-- The accesses of a request. -/
def accsFor (c : Nat) (f : Flit) (op len : Nat) (data mask : Nat) : List MAcc :=
  (pieces c (spaceOf f) 40 (spaceAddr f + 128 * f.fidx.toNat) 0 len).map (fun p =>
    { op := op, addr := p.1, len := p.2.2, new := byteSlice data p.2.1 p.2.2, be := nbits mask p.2.1 p.2.2 })

/-- A row release ends one hold (R295). -/
def dropHold (row src : Nat) : List (Nat × Nat) → List (Nat × Nat)
  | [] => []
  | h :: t => if h = (row, src) then t else h :: dropHold row src t

/-- A parity delta: its parts that a reconstructed parity block already holds are done. -/
def State.deltaJob (s : State) (c : Nat) (f : Flit) (ring : Nat) : State :=
  let fl := tget [] s.mem.folded c
  let mine := fun (e : Nat × Nat × Nat) => e.1 == f.src.toNat && e.2.1 == f.seq.toNat
  let accs := (accsFor c f 2 (writeBytes f) f.data.toNat (writeMask f)).map (fun a =>
    if fl.any (fun e => mine e && e.2.2 == a.addr / 128) then { a with ph := 5 } else a)
  ({ s with mem := { s.mem with folded := tset [] s.mem.folded c (fl.filter (fun e => !mine e)) } } : State).addJob c .post f ring accs

/-- A flit leaves the egress queues for the channel. -/
def State.memAccept (s : State) (c : Nat) (x : Egr) : State :=
  let f := x.flit
  if s.poolFenced c f then s.fence c f x.ring
  else if f.opc = opMWR then
    match spaceOf f with
    | 0xD0 => s.deltaJob c f x.ring
    | 0xD2 => { s with mem := { s.mem with
        holds := tset [] s.mem.holds c (dropHold (spaceAddr f) f.src.toNat (tget [] s.mem.holds c)) } }
    | _ => s.addJob c .post f x.ring (accsFor c f 1 (writeBytes f) f.data.toNat (writeMask f))
  else if f.opc = opMRD ∨ f.opc = opLOCKRD then
    if spaceOf f = 0xD1 then s.addJob c .rowRead f x.ring (accsFor c f 4 (4 * lenUnits f.len) 0 0)
    else s.addJob c .read f x.ring (accsFor c f 0 (4 * lenUnits f.len) 0 0)
  else if f.opc = opATOM then s.addJob c .atom f x.ring (accsFor c f 3 (atomSize f) 0 0)
  else s

/-- The next head of the channel's queues, when it satisfies `p`, is handed to the channel. -/
def State.memTake (s : State) (c : Nat) (p : Flit → Bool) : State :=
  let m := memStop c
  if !s.stopRuns m then s
  else match s.egrNext m 0 (fun _ _ => true) with
    | none => s.pump c
    | some (q, x) =>
      if p x.flit then ((s.egrTake m q x).memAccept (memChan m x.rid) x).pump (memChan m x.rid) else s

/-! ### Rebuild (R298) -/

/-- The pointer passes each row whose unit is written; the row is released (R298). -/
def State.rebuildAdvance (s : State) (c : Nat) : Nat → State
  | 0 => s
  | n + 1 =>
    let p := s.fget F.MEM.REBUILD_PTR.PTR c
    match (s.jobs c).find? (fun j => j.kind == .rebuild p && j.accs.all (fun a => a.ph == 5)) with
    | none => s
    | some j =>
      if chState s c ≠ 2 then s
      else
        let s1 := (s.fset F.MEM.REBUILD_PTR.PTR (p + 1) c).finishJob c j
        ((if p = 8388607 then s1.setCh c 0 else s1).pump c).rebuildAdvance c n

/-- Rows of the rebuild under way. -/
def State.rebuildRows (s : State) (c : Nat) : List Nat :=
  (s.jobs c).filterMap (fun j => match j.kind with | .rebuild r => some r | _ => none)

/-- The duty of a tick in REBUILD: the next RATE rows in ascending order that are not under way are started. -/
def State.rebuildTick (s : State) (c : Nat) : State :=
  if chState s c ≠ 2 then s
  else
    let p := s.fget F.MEM.REBUILD_PTR.PTR c
    let rate := s.fget F.MEM.CH_CTL.RATE c
    let out := s.rebuildRows c
    let next := (((List.range (out.length + rate)).map (fun i => p + i)).filter (fun r => r < 8388608 && !out.contains r)).take rate
    let s1 := next.foldl (fun t r => t.addJob c (.rebuild r)
      { emptyFlit with opc := opMRD, addr := BitVec.ofNat 64 (spanAddr 0xD1 (r * 4096)) } 0
      [{ op := 6, addr := r * 4096, len := 4096 }]) s
    (s1.pump c).rebuildAdvance c 40

/-- A write of CH_CTL (R296, R303): RATE, then the command. -/
def State.chCtl (s : State) (c : Nat) (w : Word) (cmd : Nat) : State :=
  if 16 < vbits w 8 5 then s.pgErr .mem c 0x100
  else
    let s1 := s.fset F.MEM.CH_CTL.RATE (vbits w 8 5) c
    let res := fun (t : State) (n : Nat) => t.fset F.MEM.CH_STS.CMD_RES n c
    match cmd, chState s c with
    | 1, _ => res ((s1.chLost c 2).pump c) 0
    | 2, 1 =>
      if s1.fbit F.MEM.CH_STS.CTRL_READY c then
        res ((s1.setCh c 2).fset F.MEM.REBUILD_PTR.PTR 0 c) 0
      else res s1 2
    | 2, _ => res s1 1
    | 3, 2 => res ((s1.chLost c 2).pump c) 0
    | 3, _ => res s1 1
    | _, _ => s1

/-- The controller reports failure: outstanding requests get no answer (R548). -/
def State.chFail (s : State) (c : Nat) : State :=
  let out := (s.accsOf c).filter (fun x => x.2.2.ph == 1 || x.2.2.ph == 2)
  let s1 := s.chLost c 0
  (out.foldl (fun t x =>
    let a := x.2.2
    if a.ph = 2 then
      (if isWriteOp a.op then t.sendDelta c a ((accNew a a.old).getD a.old) else t).setAcc c x.1.id x.2.1 { a with ph := 5 }
    else if a.op = 5 then t.setAcc c x.1.id x.2.1 { a with ph := 5, span := 2 }
    else if a.op = 4 ∨ a.op = 2 then t.setAcc c x.1.id x.2.1 { a with ph := 5, pois := a.op == 4 }
    else t.setAcc c x.1.id x.2.1 { a with ph := 7 }) s1).pump c

/-- A write of DR_CTL.GO (R300). -/
def State.directRead (s : State) (c : Nat) : State :=
  if (s.jobs c).any (fun j => j.kind == .direct) then s
  else
    let a := s.wide F.MEM.DR_ADDR_LO.ADDR_LO F.MEM.DR_ADDR_HI.ADDR_HI c
    ((s.fput F.MEM.DR_STS.VALID false c).addJob c .direct emptyFlit 0 [{ op := 5, addr := a - a % 64, len := 64 }]).pump c

/-- The direct read has returned. -/
def State.directDone (s : State) (c : Nat) : State :=
  match (s.jobs c).find? (fun j => j.kind == .direct && j.accs.all (fun a => a.ph == 5)) with
  | none => s
  | some j => s.finishJob c j

/-! ### Commands -/

def execMemRequest (c : Chan) (s : State) : Res := .next (s.memTake c (fun _ => true))

def execParityDelta (c : Chan) (s : State) : Res :=
  .next (s.memTake c (fun f => f.opc == opMWR && spaceOf f == 0xD0))

def execRowRead (c : Chan) (s : State) : Res :=
  .next (s.memTake c (fun f => f.opc == opMRD && spaceOf f == 0xD1))

def execRowRelease (c : Chan) (s : State) : Res :=
  .next (s.memTake c (fun f => f.opc == opMWR && spaceOf f == 0xD2))


def execChCmdFail (c : Chan) (w : Word) (s : State) : Res := .next ((s.touch .mem c).chCtl c w 1)
def execChCmdRebuild (c : Chan) (w : Word) (s : State) : Res := .next ((s.touch .mem c).chCtl c w 2)
def execChCmdClear (c : Chan) (w : Word) (s : State) : Res := .next ((s.touch .mem c).chCtl c w 3)
def execRebuildTick (c : Chan) (s : State) : Res := .next (s.rebuildTick c)

/-- CTRL_READY_CHANGE (R296): the level that a REBUILD command asks for. -/
def execCtrlReadyChange (c : Chan) (level : Bool) (s : State) : Res := .next (s.fput F.MEM.CH_STS.CTRL_READY level c)

def execDirectRead (c : Chan) (s : State) : Res := .next ((s.touch .mem c).directRead c)
def execDirectReadDone (c : Chan) (s : State) : Res := .next (s.directDone c)

end Sys2Proof.Machine
end

