-- ==== Sys2Proof/Machine/Retain.lean ====
section
/-! DEFINITION. Retained copies: the retention SRAM, the overflow area, the acknowledgement timeout
(06_ordering_and_completion R161, R162, R166). -/

namespace Sys2Proof.Machine

/-- The memory stop and channel slot of a stop's overflow area (Table 10-4). -/
def ovfStop (k : Nat) : Nat := if k < 56 then 7 * sectorOf k + 5 else if k = 56 then 5 else if k = 57 then 12 else 19
def ovfSlot (k : Nat) : Nat := if k < 56 then k % 7 else 7

/-- Address of overflow slot `i` of stop `k` in its memory stop's channel-local space (Table 10-5, R289). -/
def ovfAddr (k i : Nat) : Nat := packBits [(56, 8, 0xC0), (0, 32, ovfSlot k * 4194304 + 192 * i)]

/-- A flit writes retained copies to the overflow area: it uses the kept slots, and its own copy is never moved (R162). -/
def isOvfWrite (f : Flit) : Bool :=
  f.slice == 0 && f.opc == opMWR && nbits f.addr.toNat 56 8 == 0xC0 && nbits f.addr.toNat 32 4 == 0

/-- Copies in the SRAM (RET_STS.SRAM_USED), with the slots that the burst in progress has taken (R185), and copies in the
overflow area (OVF_USED). -/
def State.sramUsed (s : State) (k : Nat) : Nat :=
  ((s.ret k).filter (fun c => !c.ovf)).length
  + (match tget none s.arb.burst k with | some b => if b.kind = 0 then b.flits.length else 0 | none => 0)
def State.ovfUsed (s : State) (k : Nat) : Nat := ((s.ret k).filter (fun c => c.ovf)).length

/-- The lowest overflow slot that holds no copy; stop 58 has none. -/
def State.ovfFree (s : State) (k : Nat) : Option Nat :=
  if k = 58 then none
  else if 21845 ≤ s.ovfUsed k then none
  else (List.range (s.ovfUsed k + 1)).find? (fun i => !(s.ret k).any (fun c => c.ovf && c.slot == i))

/-- 192 bytes of a retained copy: the flit and the copy's record (R161). -/
def copyBytes (c : Copy) : List (BitVec 8) :=
  bytesOf 168 (flitBits c.flit).toNat ++ bytesOf 24 (packBits [(0, 48, c.g), (48, 8, c.cred), (56, 8, c.misses)])

/-- Write bytes to an overflow slot: an overflow write to the sector's memory stop, or, at a memory stop, straight to its own
channel (R162). -/
def State.ovfWrite (s : State) (k slot : Nat) (bytes : List (BitVec 8)) : State :=
  if isMemStop k then
    let c := sectorOf k
    let f : Flit := { emptyFlit with opc := opMWR, src := BitVec.ofNat 6 k, addr := BitVec.ofNat 64 (ovfAddr k slot) }
    (s.addJob c (.own 0) f 0 (accsFor c f 1 bytes.length (numOfBytes bytes) (2 ^ bytes.length - 1))).pump c
  else s.ownWrite k (ovfStop k) (ovfAddr k slot) bytes

/-- Number of a copy in its read-back. -/
def copyNum (c : Copy) : Nat := c.flit.dst.toNat * 65536 + c.flit.seq.toNat

/-- Read an overflowed copy back. -/
def State.ovfRead (s : State) (k : Nat) (c : Copy) : State :=
  if isMemStop k then
    let ch := sectorOf k
    let f : Flit := { emptyFlit with opc := opMRD, src := BitVec.ofNat 6 k, addr := BitVec.ofNat 64 (ovfAddr k c.slot) }
    (s.addJob ch (.readback (copyNum c)) f 0 (accsFor ch f 0 192 0 0)).pump ch
  else s.ownRead k (ovfStop k) (ovfAddr k c.slot) 192 (.readback (copyNum c))

/-- The place of the oldest copy that can move to the overflow area. -/
def State.oldestCopy (s : State) (k : Nat) : Option (Nat × Copy) :=
  let l := (List.range (s.ret k).length).filterMap (fun i => ((s.ret k)[i]?).map (fun c => (i, c)))
  (l.filter (fun x => !x.2.ovf && !isOvfWrite x.2.flit)).foldl (fun m x =>
    match m with
    | none => some x
    | some y => if x.2.g ≠ y.2.g ∧ atOrAfter 48 y.2.g x.2.g then some x else some y) none

/-- Move the oldest copies to the overflow area while fewer than 33 slots are free (R162). A copy that is due is read back
before it goes. DESIGN CHOICE: the copy's SRAM slot is free when its overflow write is asked for. -/
def State.spillCopies (s : State) (k : Nat) : Nat → State
  | 0 => s
  | n + 1 =>
    if 33 ≤ 1365 - s.sramUsed k then s
    else match s.oldestCopy k, s.ovfFree k with
      | some (i, c), some sl =>
        let c' := { c with ovf := true, slot := sl, due := if c.due = 1 then 3 else if c.due = 2 then 4 else c.due }
        let s1 := (s.setRet k ((s.ret k).set i c')).ovfWrite k sl (copyBytes c)
        (if c.due = 1 ∨ c.due = 2 then s1.ovfRead k c' else s1).spillCopies k n
      | _, _ => s

/-- Copies for `d` whose acknowledgement timeout has expired at boundary `b` (R166). -/
def expired (b d : Nat) (c : Copy) : Bool := c.flit.dst.toNat == d && tickPast b c.g 5

/-- Copies of a stop that satisfy `p` are to go again: `due` 1 as a replay, 2 as a re-presentation; one in the overflow area
is first read back (R93, R162, R166). -/
def State.copyDue (s : State) (k due : Nat) (p : Copy → Bool) : State :=
  let far := (s.ret k).filter (fun c => p c && c.ovf && c.due < 3)
  far.foldl (fun a c => a.ovfRead k c) (s.setRet k ((s.ret k).map (fun c =>
    if p c then { c with due := if c.ovf then due + 2 else due } else c)))

/-- Duty 6 for one destination (R166): when the oldest copy has waited 4 ticks, every expired copy is due for replay. A copy
that waits for its replay already is not counted in a further sweep (DEDUCED: ACK_TO_CNT counts the sweeps started). -/
def State.ackTimeout (s : State) (k d : Nat) : State :=
  let b := s.nodeTick k
  let p := fun (c : Copy) => expired b d c && c.due == 0
  if (s.ret k).any p then (s.copyDue k 1 p).rcInc F.STOP.ACK_TO_CNT k else s

def execAckTimeout (k : Stop) (d : Stop) (s : State) : Res := .next (s.ackTimeout k d)

/-- OVERFLOW_READBACK (R162): an overflowed copy has returned and goes again. A read that failed is asked for again at the
next timeout; a poisoned one is an uncorrectable copy (R456). -/
def execOverflowReadback (k : Stop) (s : State) : Res :=
  match s.takeDone k (fun u => match u with | .readback _ => true | _ => false) with
  | none => .next s
  | some (r, s1) =>
    let n := match r.use with | .readback n => n | _ => 0
    let bad := r.flits.any (fun f => f.pois == 1)
    let hit := fun (c : Copy) => 3 ≤ c.due && copyNum c == n
    let s2 := if bad then ((s1.ret k).filter hit).foldl (fun a c => a.stopUe k 2 c.slot) s1 else s1
    .next (s2.setRet k ((s2.ret k).map (fun c =>
      if hit c then { c with due := if r.status = 0 ∧ !bad then c.due - 2 else 0 } else c)))

end Sys2Proof.Machine
end

