-- ==== Sys2Proof/Machine/Station.lean ====
section
/-! DEFINITION. A ring station in one cycle, slot wait, slot release and MAINT flits (04_rings_and_routes, R86–R93,
R111–R114; 03_flits_and_transactions, R77–R79). -/

namespace Sys2Proof.Machine

/-- The station whose outgoing link feeds station `k` in direction `d` (R21). -/
def upstream (k d : Nat) : Nat := if d = 0 then (k + 59) % 60 else (k + 1) % 60

/-- Class and slice of a flit, for the event counters. -/
def flitAttr (f : Flit) (inj : Bool := false) : EvtAttr :=
  { cls := some f.cls.toNat, slice := some f.slice.toNat, inj := inj }

/-- A removal for an uncorrectable error (R79): counted, recorded FLIT_UE, in the ring's window and test. -/
def State.stationUe (s : State) (k r d bad : Nat) (inj : Bool) : State :=
  let s1 := ((s.rcInc F.STOP.STN_UE_CNT k 1 inj).rcInc F.RING.UE_CNT r 1 inj)
  let s2 := s1.record .stop k 0x21 (packBits [(0, 4, r), (4, 1, d), (5, 4, bad)]) (s1.nodeTick k % 2 ^ 32) 0 inj
  (s2.countRemoval r inj).testError r

/-- A removal by a header guard (R79): counted, recorded FLIT_GUARD, in the ring's window and test. -/
def State.stationGuard (s : State) (k r d g : Nat) (f : Flit) (inj : Bool) : State :=
  let s1 := ((s.rcInc F.STOP.STN_GUARD_CNT k 1 inj).rcInc F.RING.GUARD_CNT r 1 inj)
  let s2 := s1.record .stop k 0x22 (packBits [(0, 4, r), (4, 1, d), (8, 3, g)]) ((headerBits f).toNat % 2 ^ 32) 0 inj
  (s2.countRemoval r inj).testError r

/-- The guard that removes a corrected flit, 0 for none (R79): 1 RING, 2 DIR, 3 DST, 4 OPC, 5 SRC. -/
def guardOf (k r d : Nat) (f : Flit) : Nat :=
  if f.ring.toNat ≠ r then 1 else if f.dir.toNat ≠ d then 2 else if 59 < f.dst.toNat then 3
  else if !opcListed f.opc then 4 else if f.src.toNat = k then 5 else 0

/-- The flit is addressed to the station (R87). -/
def State.addressed (s : State) (k r : Nat) (f : Flit) : Bool :=
  f.opc != 0 && f.dst.toNat == k &&
    (f.opc == opMAINT || !nbit (s.fget F.STOP.STN_PASS.PASS k 0 f.ep.toNat) r)

/-- Number of 1 bits. -/
def popCount (n w : Nat) : Nat := ((List.range w).filter (fun i => nbit n i)).length

/-- Station `k` queues a MAINT flit (R113): its SEQ is the station's pattern counter. DESIGN CHOICE: LAST is 1, and
ROUTE_EP and E2E_CRC, which the rule does not list, are 0. -/
def State.maintPost (s : State) (k r d dst len addr : Nat) (data : Nat → BitVec 1024) : State :=
  let key := laneKey k r d
  let sq := tget 0 s.spine.maintSeq key
  let f : Flit := { emptyFlit with
    dst := BitVec.ofNat 6 dst, src := BitVec.ofNat 6 k, ring := BitVec.ofNat 4 r, dir := BitVec.ofNat 1 d, opc := opMAINT,
    seq := BitVec.ofNat 16 sq, len := BitVec.ofNat 10 len, last := 1, addr := BitVec.ofNat 64 addr, data := data sq }
  { s with spine := { s.spine with
    maintSeq := tset 0 s.spine.maintSeq key ((sq + 1) % 65536),
    maintQ := tset [] s.spine.maintQ key (tget [] s.spine.maintQ key ++ [f]) } }

/-- A station sends MAINT flits only on a ring in INIT, CAL or TEST (R113). -/
def State.maintRing (s : State) (r : Nat) : Bool := [0, 4, 5].contains (s.ringState r)

/-- A MAINT flit is consumed at its station (R113, R114): PATTERN is compared, ECHO is returned, ECHO_RET reports its
loop time. -/
def State.maintAt (s : State) (k r d : Nat) (f : Flit) : State :=
  let a := f.addr.toNat
  match nbits a 0 8 with
  | 1 =>
    let diff := popCount (f.data ^^^ Config.patternData (nbits a 8 8) f.seq.toNat f.src.toNat).toNat 1024
    if diff = 0 then s else (s.rcInc F.RING.TEST_BERR r diff).testError r
  | 2 => if s.maintRing r then s.maintPost k r d f.src.toNat 0 3 (fun _ => 0) else s
  | 3 => s.fset (if d = 0 then F.RING.ECHO_CYC.CYC0 else F.RING.ECHO_CYC.CYC1) (f.be.toNat % 256) r
  | _ => s

/-- A flit enters the ejection lane of its direction (R89), and FLIT_EJ is counted. -/
def State.ejectTo (s : State) (k lane : Nat) (e : Ejected) : State :=
  let key := k * 32 + lane
  { s with spine := { s.spine with eject := tset [] s.spine.eject key (tget [] s.spine.eject key ++ [e]) } }

/-- The pattern target of a station (R111): TEST_DIST hops away in the direction. -/
def testTarget (k d dist : Nat) : Nat := if d = 0 then (k + dist) % 60 else (k + 60 - dist % 60) % 60

/-- A station in a running test sends a PATTERN flit every TEST_GAP cycles (R111, R113). -/
def State.maintSend (s : State) (k r d : Nat) : State :=
  let key := laneKey k r d
  if !s.isolated k && s.ringState r == 5 && (tget {} s.spine.test r).running
      && !nbit (s.fget F.STOP.STN_PASS.PASS k 0 (s.bankAt k)) r then
    let gap := tget 0 s.spine.maintGap key + 1
    if gap < s.ringEff r 3 ∨ (tget none s.spine.inj key).isSome then
      { s with spine := { s.spine with maintGap := tset 0 s.spine.maintGap key gap } }
    else
      let pat := Config.testPattern r % 3
      ({ s with spine := { s.spine with maintGap := tset 0 s.spine.maintGap key 0 } } : State).maintPost k r d
        (testTarget k d (s.ringEff r 2)) 32 (1 + 256 * pat) (fun sq => Config.patternData pat sq k)
  else s

/-- In INIT and CAL one station sends an ECHO in each direction (R110); its cycles are counted from its injection. -/
def State.echoSend (s : State) (k r d : Nat) : State :=
  let key := laneKey k r d
  if (s.ringState r == 0 || s.ringState r == 4) && k == Config.echoSender (r * 2 + d) % 60 && tget 0 s.spine.echoed key == 0
      && !s.isolated k then
    ({ s with spine := { s.spine with echoed := tset 0 s.spine.echoed key 1 } } : State).maintPost k r d
      (testTarget k d (1 + Config.echoDist (r * 2 + d) % 59)) 0 2 (fun _ => 0)
  else s

/-- A cycle of a station whose ECHO is on the ring. -/
def State.echoCount (s : State) (k r d : Nat) : State :=
  let key := laneKey k r d
  match tget 0 s.spine.echoAge key with
  | 0 => s
  | n => { s with spine := { s.spine with echoAge := tset 0 s.spine.echoAge key (n + 1) } }

/-- A MAINT flit as it enters its slot: the count of an ECHO starts, and BE of an ECHO_RET tells the FCLK cycles from the
ECHO's injection to its return (Table 4-5): those its sender has counted and one for each hop that is left. -/
def State.echoPlace (s : State) (k r d : Nat) (f : Flit) : Flit × State :=
  if f.opc ≠ opMAINT then (f, s)
  else match nbits f.addr.toNat 0 8 with
    | 2 => (f, { s with spine := { s.spine with echoAge := tset 0 s.spine.echoAge (laneKey k r d) 1 } })
    | 3 =>
      let n := tget 0 s.spine.echoAge (laneKey f.dst.toNat r d) - 1 + hops d k f.dst.toNat
      ({ f with be := BitVec.ofNat 16 n }, s)
    | _ => (f, s)

/-- An empty injection register takes the next waiting MAINT flit. -/
def State.maintLoad (s : State) (k r d : Nat) : State :=
  let key := laneKey k r d
  match tget none s.spine.inj key, tget [] s.spine.maintQ key with
  | none, f :: rest => { s with spine := { s.spine with
      inj := tset none s.spine.inj key (some ⟨f, 0⟩), maintQ := tset [] s.spine.maintQ key rest } }
  | _, _ => s

/-- Key of a flit in its pair's number space. -/
def pairSeq (src dst seq : Nat) : Nat := (src * 64 + dst) * 65536 + seq

/-- The held flit of the injection register is placed (R91): the largest wait is kept, a run of misses ends (R93). -/
def State.placed (s : State) (k r d : Nat) (x : InjReg) : State :=
  let s1 : State := { s with spine := { s.spine with
    inj := tset none s.spine.inj (laneKey k r d) none,
    missRun := if isReq x.flit.opc || isRsp x.flit.opc then
        tset 0 s.spine.missRun (pairSeq x.flit.src.toNat x.flit.dst.toNat x.flit.seq.toNat) 0
      else s.spine.missRun } }
  (s1.fmax F.STOP.SLOT_WAIT.MAX x.wait k).countEvt .ring r 0x103 1 { cls := some x.flit.cls.toNat }

/-- The link is driven with a flit of this station or a passing one. Words 1–3 of a flit without data keep the values
last driven (R64). -/
def State.driveFlit (s : State) (k r d : Nat) (f : Flit) (inj : Bool) : State :=
  let w := wireOfFlit f
  let w' := if dataUsed f.opc f.addr f.len then w
    else BitVec.ofNat 1384 (nbits w.toNat 0 346 + 2 ^ 346 * (tget 0 s.spine.lastOut (laneKey k r d) / 2 ^ 346))
  let act := s.fiRing k r d f (some ⟨w', inj⟩)
  let s1 := act.2.driveLink k r d act.1
  let s2 := s1.countEvt .ring r 0x101 1 { cls := some f.cls.toNat }
  if dataUsed f.opc f.addr f.len then s2.countEvt .ring r 0x102 1 { cls := some f.cls.toNat } else s2

/-- The outgoing slot is free (Table 4-1): the held flit of the injection register takes it, or it leaves empty. A flit
that has waited 10 cycles is never placed (R92). -/
def State.fillSlot (s : State) (k r d : Nat) : State :=
  let empty := let act := s.fiRing k r d emptyFlit none
    act.2.driveLink k r d act.1
  if s.isolated k then empty
  else match tget none s.spine.inj (laneKey k r d) with
  | some x =>
    if x.wait < 10 then
      let p := (s.placed k r d x).echoPlace k r d x.flit
      p.2.driveFlit k r d p.1 false
    else empty
  | none => empty

/-- The slot is not free: a flit in the injection register waits another cycle (R91). -/
def State.holdSlot (s : State) (k r d : Nat) : State :=
  let key := laneKey k r d
  match tget none s.spine.inj key with
  | some x => { s with spine := { s.spine with inj := tset none s.spine.inj key (some { x with wait := x.wait + 1 }) } }
  | none => s

/-- The bridge FIFO of an ejection lane has no room: 16 flits, or a side that is not READY (R391, R393). -/
def State.ejectFull (s : State) (k lane : Nat) : Bool :=
  !s.xbReady (stopBridge k 1) || 16 ≤ (tget [] s.spine.eject (k * 32 + lane)).length

/-- A flit is removed at a full SPINE_EJ FIFO, as one removed under R79 (R391). -/
def State.ejectOverflow (s : State) (k r d : Nat) (inj : Bool) : State :=
  let b := stopBridge k 1
  let x := tget {} s.xb b
  let s1 : State := { s with xb := tset {} s.xb b { x with ovf := satAdd 32 x.ovf 1 } }
  ((s1.record .xb (b / 64) 0xA2 (packBits [(0, 6, b % 64), (6, 4, 1), (10, 5, r * 2 + d)]) 0 0 inj).countRemoval r inj).testError r

/-- A flit addressed to the station leaves its ring: a MAINT flit is consumed, another enters its ejection FIFO; at an
isolated stop all are removed (R464), and a flit of an isolated stop is discarded (R465). -/
def State.ejectFlit (s : State) (k r d : Nat) (f : Flit) (inj : Bool) : State :=
  if s.isolated k then s.rcInc F.STOP.ISO_RM_CNT k
  else
    let s1 := s.countEvt .ring r 0x104 1 { cls := some f.cls.toNat }
    let b := stopBridge k 1
    if f.opc = opMAINT then s1.maintAt k r d f
    else if s.knowsGone k f.src.toNat then s1.rcInc F.STOP.ISO_RM_CNT k
    else if s.ejectFull k (r * 2 + d) then s1.ejectOverflow k r d inj
    else
      let s2 := (s1.ejectTo k (r * 2 + d) { flit := f, inj := inj }).countEvt .pmu k 0x003 1 (flitAttr f)
      s2.xbOcc b (tget [] s2.spine.eject (k * 32 + (r * 2 + d))).length

/-- One ring direction of a station in one FCLK cycle (R86, Table 4-1): the oldest slot on the link from upstream
arrives, or an empty one, with `noise` inverting wires on the way. -/
def State.stationSlot (s : State) (k r d : Nat) (noise : BitVec 1384) : State :=
  let up := laneKey (upstream k d) r d
  let q := tget [] s.spine.linkQ up
  let s0 := ({ s with spine := { s.spine with linkQ := tset [] s.spine.linkQ up q.tail } } : State)
  let arr : Slot := q.headD ⟨0, false⟩
  let dec := decodeWires (arr.wires ^^^ noise)
  let f := dec.1
  let s1 := if dec.2.1 = 0 then s0 else
    ((s0.rcInc F.STOP.STN_CE_CNT k dec.2.1 arr.inj).rcInc F.RING.CE_CNT r dec.2.1 arr.inj).testError r
  let s2 := (((s1.echoCount k r d).echoSend k r d).maintSend k r d).maintLoad k r d
  if dec.2.2 ≠ 0 then (s2.stationUe k r d dec.2.2 arr.inj).fillSlot k r d
  else if f.opc = 0 then s2.fillSlot k r d
  else if guardOf k r d f ≠ 0 then (s2.stationGuard k r d (guardOf k r d f) f arr.inj).fillSlot k r d
  else if s2.addressed k r f then (s2.ejectFlit k r d f arr.inj).fillSlot k r d
  else (s2.holdSlot k r d).driveFlit k r d f arr.inj

/-- STATION_SLOT (R86). -/
def execStationSlot (k : Stop) (r : RingNo) (d : Dir) (noise : BitVec 1384) (s : State) : Res := .next (s.stationSlot k r d noise)

/-- SLOT_RELEASE (R92): a flit that has waited 10 cycles leaves the register unplaced and its miss indication starts
for the stop; a MAINT flit is counted in TEST_SKIP (R93). -/
def execSlotRelease (k : Stop) (r : RingNo) (d : Dir) (s : State) : Res :=
  let key := laneKey k r d
  match tget none s.spine.inj key with
  | some x =>
    if x.wait < 10 then .next s else
      let s1 := ({ s with spine := { s.spine with inj := tset none s.spine.inj key none } } : State).rcInc
        F.STOP.SLOT_MISS_CNT k
      if x.flit.opc = opMAINT then .next ((s1.rcInc F.RING.TEST_SKIP r).testError r)
      else .next { s1 with spine := { s1.spine with
        missed := tset [] s1.spine.missed key (tget [] s1.spine.missed key ++ [x.flit]) } }
  | none => .next s

end Sys2Proof.Machine
end

