-- ==== Sys2Proof/Machine/Arb.lean ====
section
/-! DEFINITION. The stop arbiter: ring choice, eligibility, the order within a decision, bursts, withdrawn grants,
per-requester counters and slot accounting (07_stop_arbiter; R93–R98; R434–R437). -/

namespace Sys2Proof.Machine

/-! ### Ring choice (R94–R98) -/

/-- Hash index of a class and a pair of stops in a bank (R94). -/
def State.hashIdx (s : State) (k d c bank : Nat) : Nat :=
  let key := c * 4096 + k * 64 + d
  let mult := s.fget F.STOP.RING_HASH.MULT_HI k 0 bank * 2 + 1
  (key ^^^ s.fget F.STOP.RING_HASH.SEED k 0 bank) * mult % 65536 / 1024

/-- The named ring, or the next usable one in ascending order from it, wrapping from 8 to 0; the second part says that
the fallback was taken (R95). -/
def State.fallback (s : State) (k r : Nat) : Option (Nat × Bool) :=
  let cand := if r ≤ 8 then (List.range 9).map (fun i => (r + i) % 9) else List.range 9
  match cand.find? (fun x => s.ringUsable k x) with
  | some x => some (x, x != r)
  | none => none

/-- What chooses the ring of a flit: pinning entry of a REQ flit, the request's ring of a response, the miss run. -/
structure RingAsk where
  dst : Nat
  cls : Nat
  pin : Option Nat := none
  reqRing : Option Nat := none
  misses : Nat := 0
  deriving DecidableEq, Repr

/-- The ring of a new grant and whether MAP_FIX_CNT counts (R93–R98). -/
def State.chooseRing (s : State) (k : Nat) (a : RingAsk) : Option (Nat × Bool) :=
  let bank := s.bankAt k
  let i := (s.hashIdx k a.dst a.cls bank + a.misses) % 64
  let map := s.fallback k (s.fget F.STOP.RING_MAP.ENTRY k i bank)
  if a.misses ≠ 0 then map
  else match a.reqRing with
    | some r => if s.ringUsable k r then some (r, false) else map
    | none =>
      match a.pin with
      | some d => if s.fbit F.STOP.ROUTE.PIN_EN k d bank then s.fallback k (s.fget F.STOP.ROUTE.PIN_RING k d bank) else map
      | none => map

/-- Bridge credits in use of a ring direction (R184). -/
def State.bridgeUsed (s : State) (k r d : Nat) : Nat := tget 0 s.arb.credit (laneKey k r d)
def State.bridgeFree (s : State) (k r d : Nat) : Nat :=
  if s.xbReady (stopBridge k 0) then 16 - s.bridgeUsed k r d else 0
def State.setBridge (s : State) (k r d v : Nat) : State :=
  { s with arb := { s.arb with credit := tset 0 s.arb.credit (laneKey k r d) v } }

/-! ### Slots (R182, R190, R417, R434–R436) -/

/-- Add 1 to a 48-bit PMU count; a wrap sets its sticky bit. -/
def State.slotInc (s : State) (k c cat : Nat) : State :=
  let e := 5 * (c % 4) + cat
  let v := s.wide F.PMU.SLOT_LO.COUNT_LO F.PMU.SLOT_HI.COUNT_HI k e + 1
  let s1 := s.setWide F.PMU.SLOT_LO.COUNT_LO F.PMU.SLOT_HI.COUNT_HI (v % 2 ^ 48) k e
  if v = 2 ^ 48 then s1.fset F.PMU.SLOT_OVF.OVF (s1.fget F.PMU.SLOT_OVF.OVF k ||| 2 ^ e) k else s1

/-- Settle a slot: category 0 RETIRED, 1 WASTED, 2 FRONT, 3 BACK, charged to class `c` (R434). -/
def State.settle (s : State) (k c cat : Nat) : State :=
  (s.slotInc k c cat).countEvt .pmu k (0x009 + cat) 1 { cls := some c }

/-- Add to a requester's 48-bit counter; a wrap sets its sticky bit (R200). -/
def addWrap (t : Tbl Nat) (ovf : Tbl Nat) (q n bit : Nat) : Tbl Nat × Tbl Nat :=
  let v := tget 0 t q + n
  (tset 0 t q (v % 2 ^ 48), if v < 2 ^ 48 then ovf else tset 0 ovf q (tget 0 ovf q ||| bit))

/-- The per-requester counters of stop `k` are frozen: its counter block is held (R199). -/
def State.rqFrozen (s : State) (k : Nat) : Bool := s.fbit (F.CB.SH_TICK_HI.HELD .pmu) k

/-- Slot `n` of stop `k` passes for every requester inside a wait (R193, R200). -/
def State.waitSlot (s : State) (k n : Nat) : State :=
  if s.rqFrozen k then s
  else
    (s.arb.waitFrom.filter (fun e => e.1 / 16384 == k && e.2 ≤ n + 1)).foldl (fun a e =>
      if (a.queue k).any (fun t => t.rq == e.1 % 16384) then
        let w := addWrap a.arb.waits a.arb.ovf e.1 1 2
        { a with arb := { a.arb with waits := w.1, ovf := w.2, waitCnt := tset 0 a.arb.waitCnt e.1 (tget 0 a.arb.waitCnt e.1 + 1) } }
      else a) s

/-- One injection slot of stop `k` passes (R182): waits, SLOTS, the frame of R190, which begins with a slot a multiple of 64
after the boundary's, the window of R417. -/
def State.passSlot (s0 : State) (k : Nat) (crossed : Bool) : State :=
  let s := s0.waitSlot k (tget 0 s0.arb.clk k)
  let n := tget 0 s.arb.clk k
  let v := s.wide F.PMU.SLOTS_LO.SLOTS F.PMU.SLOTS_HI.SLOTS k + 1
  let s1 := s.setWide F.PMU.SLOTS_LO.SLOTS F.PMU.SLOTS_HI.SLOTS (v % 2 ^ 48) k
  let s2 := if v = 2 ^ 48 then s1.fput F.PMU.SLOT_OVF.OVF_SLOTS true k else s1
  let frame := (n - tget 0 s.arb.tickAt k) % 64 == 0
  { s2 with
    arb := { s2.arb with clk := tset 0 s2.arb.clk k (n + 1), ctlUsed := if frame then tset 0 s2.arb.ctlUsed k 0 else s2.arb.ctlUsed },
    pwr := { s2.pwr with
      hist := tset 0 s2.pwr.hist k ((2 * tget 0 s2.pwr.hist k + b2n crossed) % 32768),
      used := if crossed then tset 0 s2.pwr.used k (tget 0 s2.pwr.used k + 1) else s2.pwr.used,
      slots := tset 0 s2.pwr.slots k (tget 0 s2.pwr.slots k + 1) } }

/-- The cap of R417 lets one more flit cross in the next slot. -/
def State.capOk (s : State) (k : Nat) : Bool := popCount (tget 0 s.pwr.hist k) 15 < tget 16 s.pwr.cap k

/-! ### Eligibility (R187, Table 7-1) -/

/-- Numbers of a pair assigned and not yet acknowledged (R75). -/
def State.pairOut (s : State) (k d : Nat) : Nat :=
  ((s.ret k).filter (fun c => c.flit.dst.toNat == d)).length
  + ((s.queue k).map (fun t => if t.numbered && t.head.dst.toNat == d then t.flits.length else 0)).foldl (· + ·) 0

/-- Retention slots a burst of the transaction may take (R162, R185). -/
def State.retRoom (s : State) (k : Nat) (t : FTxn) : Nat :=
  1365 - s.sramUsed k - (if isOvfWrite t.head then 0 else 32)

/-- What the ring choice of a transaction's grant depends on. -/
def ringAskOf (t : FTxn) : RingAsk :=
  { dst := t.head.dst.toNat, cls := t.head.cls.toNat, pin := if t.rsp then none else some t.ldst, reqRing := t.reqRing }

/-- A transaction to its own stop does not enter the spine (R118). -/
def selfTxn (k : Nat) (t : FTxn) : Bool := t.head.dst.toNat == k

/-- The colour in force: unmetered heads are green at once (R208). -/
def State.colourNow (s : State) (k : Nat) (t : FTxn) : Nat :=
  if t.colour = 3 ∧ !s.metered k t then 0 else t.colour

/-- The gate list of a transaction (R218): REQ transactions of a slice only. -/
def State.gateFor (s : State) (k : Nat) (t : FTxn) : Option Nat :=
  if t.rsp || t.head.slice == 0 then none
  else s.gateOf k t.head.dst.toNat (if isPortStop t.head.dst.toNat then t.link else 0)

/-- Condition 6: not red, coloured, and, before the first burst, with room in its window (R222). -/
def State.gateOk (s : State) (k : Nat) (t : FTxn) : Bool :=
  if t.head.fidx != 0 then true
  else match s.gateFor k t with
    | none => true
    | some l => s.gateFits k l t.head.cls.toNat t.flits.length

/-- Conditions 1 to 5 of Table 7-1 for a head. One to the stop itself has no ring direction, so it needs no bridge credit
(R118). -/
def State.cond15 (s : State) (k : Nat) (t : FTxn) : Bool :=
  (t.rsp || !t.cred.isEmpty)
  && (t.numbered || s.pairOut k t.head.dst.toNat + t.flits.length ≤ 4096)
  && (t.rsp || s.routeEn k t.ldst)
  && !s.isClosed k t.head.dst.toNat
  && (match s.chooseRing k (ringAskOf t) with
      | none => false
      | some r => selfTxn k t || 0 < s.bridgeFree k r.1 (shorterDir k t.head.dst.toNat))
  && 0 < s.retRoom k t

/-- Conditions 6 and 7. A transaction formed while its slice was OPEN meets condition 7 from then on (R347). -/
def State.cond67 (s : State) (k : Nat) (t : FTxn) : Bool := s.colourNow k t < 2 && s.gateOk k t

/-- The heads of the stop's requesters, in ascending requester index. -/
def State.heads (s : State) (k : Nat) : List FTxn :=
  (s.requesters k).filterMap (fun rq => (s.queue k).find? (fun t => t.rq == rq))

def State.eligible (s : State) (k : Nat) : List FTxn := (s.heads k).filter (fun t => s.cond15 k t && s.cond67 k t)

/-! ### Virtual times (R191, R192) -/

def rqKey (k rq : Nat) : Nat := k * 16384 + rq

/-- `a` before `b` by the difference modulo 2^32, read as signed. -/
def vBefore (a b : Nat) : Bool := a != b && atOrAfter 32 b a

def vMax (a b : Nat) : Nat := if vBefore a b then b else a

def vStep (w : Nat) : Nat := 4096 / max 1 w

/-- Weight of LAT or BLK. -/
def State.clsWt (s : State) (k c : Nat) : Nat :=
  if c = 1 then s.fget F.ARB.CLS_WT.LAT_WT k 0 (s.bankAt k) else s.fget F.ARB.CLS_WT.BLK_WT k 0 (s.bankAt k)

/-- Least virtual time of a nonempty list. -/
def vMin : List Nat → Option Nat
  | [] => none
  | a :: l => some (l.foldl (fun m x => if vBefore x m then x else m) a)

/-- A requester whose queue has become empty is idle: its wait is over (R191, R193). -/
def State.noteEmpty (s : State) (k : Nat) : State :=
  let out := fun q => q / 16384 == k && !(s.queue k).any (fun t => t.rq == q % 16384)
  { s with arb := { s.arb with
    active := tdrop out s.arb.active, waitFrom := tdrop out s.arb.waitFrom, waitCnt := tdrop out s.arb.waitCnt } }

/-- The head of a requester is eligible in a slot (R191, R193): its virtual time after an idle spell, and its wait, which
begins with slot `next`, unless its burst is under way. DESIGN CHOICE: the minimum of R191 is over the other eligible
requesters of its class. -/
def State.noteHead (s : State) (k : Nat) (el : List FTxn) (next : Nat) (t : FTxn) (wait : Bool) : State :=
  let q := rqKey k t.rq
  let v := tget 0 s.arb.vreq q
  let others := (el.filter (fun u => u.rq != t.rq && u.rq / 4096 == t.rq / 4096)).map (fun u => tget 0 s.arb.vreq (rqKey k u.rq))
  let v' := if tget 0 s.arb.active q = 0 then (match vMin others with | some m => vMax v m | none => v) else v
  { s with arb := { s.arb with
    vreq := tset 0 s.arb.vreq q v', active := tset 0 s.arb.active q 1,
    waitFrom := if wait && tget 0 s.arb.waitFrom q = 0 then tset 0 s.arb.waitFrom q (next + 1) else s.arb.waitFrom } }

/-- Class `c`, LAT or BLK, has an eligible requester in the slot, or none (R191). -/
def State.noteClass (s : State) (k : Nat) (el : List FTxn) (c : Nat) : State :=
  let has := fun c => el.any (fun t => t.rq / 4096 == c)
  let key := k * 4 + c
  let v := tget 0 s.arb.vclass key
  { s with arb := { s.arb with
    vclass := if has c && tget 0 s.arb.clsAct key == 0 && has (3 - c) then
        tset 0 s.arb.vclass key (vMax v (tget 0 s.arb.vclass (k * 4 + (3 - c)))) else s.arb.vclass,
    clsAct := tset 0 s.arb.clsAct key (b2n (has c)) } }

/-- What every slot notes of the eligible heads `el` (R191, R193); `busy` is the requester whose burst goes on. -/
def State.noteEligible (s : State) (k : Nat) (el : List FTxn) (busy : Option Nat) : State :=
  let next := tget 0 s.arb.clk k
  [1, 2].foldl (fun a c => a.noteClass k el c)
    (el.foldl (fun a t => a.noteHead k el next t (busy != some t.rq)) (s.noteEmpty k))

/-- Rank group of a class (R190). -/
def State.rankOf (s : State) (k c : Nat) : Nat :=
  if c = 0 then (if tget 0 s.arb.ctlUsed k < min 64 (s.fget F.ARB.CLS_WT.CTL_LIM k 0 (s.bankAt k)) then 0 else 2)
  else if c = 3 then 3 else 1

/-- Transaction `a` ranks above `b` (R190, R191). -/
def State.above (s : State) (k : Nat) (a b : FTxn) : Bool :=
  let ca := a.rq / 4096
  let cb := b.rq / 4096
  let ra := s.rankOf k ca
  let rb := s.rankOf k cb
  if ra ≠ rb then ra < rb
  else if ca ≠ cb then
    let va := tget 0 s.arb.vclass (k * 4 + ca)
    let vb := tget 0 s.arb.vclass (k * 4 + cb)
    if va = vb then ca < cb else vBefore va vb
  else
    let va := tget 0 s.arb.vreq (rqKey k a.rq)
    let vb := tget 0 s.arb.vreq (rqKey k b.rq)
    if va = vb then a.rq < b.rq else vBefore va vb

/-- Best of a list by a strict order. -/
def bestOf {α : Type} (lt : α → α → Bool) : List α → Option α
  | [] => none
  | a :: l => some (l.foldl (fun m x => if lt x m then x else m) a)

/-- `a` has waited longer than `b`, lower requester index on a tie (R194). -/
def State.longer (s : State) (k : Nat) (a b : FTxn) : Bool :=
  let wa := tget 0 s.arb.waitFrom (rqKey k a.rq)
  let wb := tget 0 s.arb.waitFrom (rqKey k b.rq)
  if wa = wb then a.rq < b.rq else wa < wb

/-! ### Candidates of items 1 and 2 (R189) -/

/-- The ring of a replay or re-presentation (R93, R166). -/
def State.copyRing (s : State) (k : Nat) (c : Copy) : Option (Nat × Bool) :=
  let f := c.flit
  let run := if c.due = 2 then tget 0 s.spine.missRun (pairSeq k f.dst.toNat f.seq.toNat) else 0
  s.chooseRing k { dst := f.dst.toNat, cls := f.cls.toNat, pin := if c.rsp then none else some c.ldst,
                   reqRing := c.reqRing, misses := run }

/-- Order of item 1: lower destination, then lower number of the pair. -/
def copyFirst (a b : Copy) : Bool :=
  if a.flit.dst ≠ b.flit.dst then a.flit.dst.toNat < b.flit.dst.toNat
  else a.flit.seq != b.flit.seq && atOrAfter 16 b.flit.seq.toNat a.flit.seq.toNat

/-- A flit to `d` on ring `r` can go. -/
def State.laneOk (s : State) (k d : Nat) (r : Option (Nat × Bool)) : Bool :=
  match r with
  | none => false
  | some r => 0 < s.bridgeFree k r.1 (shorterDir k d)

/-- The replay or re-presentation that item 1 grants. -/
def State.pickCopy (s : State) (k : Nat) : Option Copy :=
  bestOf copyFirst ((s.ret k).filter (fun c => (c.due == 1 || c.due == 2) && s.laneOk k c.flit.dst.toNat (s.copyRing k c)))

/-- The ring of an ACK flit. -/
def State.ackRing (s : State) (k : Nat) (f : Flit) : Option (Nat × Bool) :=
  s.chooseRing k { dst := f.dst.toNat, cls := 0 }

def State.pickAck (s : State) (k : Nat) : Option Flit :=
  (tget [] s.ord.ackQ k).find? (fun f => s.laneOk k f.dst.toNat (s.ackRing k f))

/-! ### The decision (R185, R186, R189) -/

/-- Start a burst: its ring, direction, ROUTE_EP and tick are fixed, its bridge credits taken (R185). -/
def State.startBurst (s : State) (k : Nat) (b : Burst) (fix : Bool) : State :=
  let ep := BitVec.ofNat 1 (s.bankAt k)
  let b' := { b with
    g := s.nodeTick k,
    flits := b.flits.map (fun f => { f with ring := BitVec.ofNat 4 b.ring, dir := BitVec.ofNat 1 b.dir, ep := ep }) }
  let s1 := if b.self then s else s.setBridge k b.ring b.dir (s.bridgeUsed k b.ring b.dir + b.flits.length)
  let s2 : State := { s1 with arb := { s1.arb with burst := tset none s1.arb.burst k (some b') } }
  if fix then s2.rcInc F.STOP.MAP_FIX_CNT k else s2

/-- One grant more since the overflow; the first at least 4 cycles after it is sampled (R437). -/
def State.sample (s : State) (k kind rq : Nat) : State :=
  let v := tget 0 s.cnt.smpArm k
  if v = 0 then s
  else
    let n := (v - 1) % 8
    let at' := (v - 1) / 8
    if tget 0 s.arb.clk k < at' + 4 then
      { s with cnt := { s.cnt with smpArm := tset 0 s.cnt.smpArm k (v + (if n < 4 then 1 else 0)) } }
    else
      let s1 : State := { s with cnt := { s.cnt with smpArm := tset 0 s.cnt.smpArm k 0 } }
      let s2 := ((s1.fset F.PMU.SMP_STS.SKID n k).fset F.PMU.SMP_STS.KIND kind k).fset F.PMU.SMP_REC.RQ_IDX
        (if kind = 0 then rq else 0) k
      ((s2.setWide F.PMU.SMP_TICK_LO.SMP_TICK F.PMU.SMP_TICK_HI.SMP_TICK (s.nodeTick k) k).fput F.PMU.SMP_STS.VALID true k).intSet
        .pmu k 1

/-- Number the flits of a transaction at its first grant (R75, R155). -/
def State.number (s : State) (k : Nat) (t : FTxn) : State × FTxn :=
  if t.numbered then (s, t)
  else
    let p := pairKey k t.head.dst.toNat
    let n := tget 0 s.ord.nextSeq p
    let fs := (List.range t.flits.length).map (fun i =>
      { t.flits.getD i emptyFlit with seq := BitVec.ofNat 16 (n + i) })
    ({ s with ord := { s.ord with nextSeq := tset 0 s.ord.nextSeq p ((n + t.flits.length) % 65536) } },
     { t with flits := fs, numbered := true })

/-- Replace the head transaction of a requester. -/
def State.setHead (s : State) (k rq : Nat) (t : FTxn) : State :=
  match headIdx (s.queue k) rq with
  | none => s
  | some i => s.setQueue k ((s.queue k).set i t)

/-- Grant a burst to the requester of `t` (R185, R191). A burst to the stop itself takes no bridge credit (R118). -/
def State.grantTxn (s : State) (k : Nat) (t : FTxn) (green nth : Bool) : State :=
  let r := s.number k t
  let t := r.2
  let s1 := r.1.setHead k t.rq t
  let d := t.head.dst.toNat
  let self := selfTxn k t
  let rc := (s1.chooseRing k (ringAskOf t)).getD (0, false)
  let dir := shorterDir k d
  let credit := min (if t.rsp then t.flits.length else t.cred.length) (s1.retRoom k t)
  let mx := s1.fget F.STOP.ARB_CFG.BURST_MAX k
  let n := if self then min credit mx else min credit (min (s1.bridgeFree k rc.1 dir) mx)
  let b : Burst := {
    kind := 0, rq := t.rq, flits := t.flits.take n, cred := t.cred.take n, ldst := t.ldst, link := t.link, rid := t.rid,
    rsp := t.rsp, reqRing := t.reqRing, ring := rc.1, dir := dir, self := self, green := green, nth := nth, g := 0,
    gated := s1.gateFor k t, job := t.job }
  let s2 := s1.startBurst k b (rc.2 && !self)
  let c := t.rq / 4096
  let vk := k * 4 + c
  let q := rqKey k t.rq
  let s3 : State := { s2 with arb := { s2.arb with
    vclass := if c = 1 ∨ c = 2 then
        tset 0 s2.arb.vclass vk (wrapAdd 32 (tget 0 s2.arb.vclass vk) (n * vStep (s2.clsWt k c))) else s2.arb.vclass,
    vreq := tset 0 s2.arb.vreq q (wrapAdd 32 (tget 0 s2.arb.vreq q)
      (n * vStep (s2.fget F.ARB.SW_DATA.SLICE_WT k 0 (s2.bankAt k) (t.rq % 4096)))),
    ctlUsed := if c = 0 ∧ green then tset 0 s2.arb.ctlUsed k (tget 0 s2.arb.ctlUsed k + n) else s2.arb.ctlUsed,
    lastCls := tset 0 s2.arb.lastCls k c } }
  s3.sample k 0 t.rq

/-- Grant a replay, re-presentation or ACK flit. -/
def State.grantFlit (s : State) (k : Nat) (f : Flit) (kind : Nat) (rc : Nat × Bool) (c : Copy) : State :=
  let b : Burst := {
    kind := kind, rq := 0, flits := [f], cred := [c.cred], ldst := c.ldst, link := c.link, rid := c.rid, rsp := c.rsp,
    reqRing := c.reqRing, ring := rc.1, dir := shorterDir k f.dst.toNat, g := 0 }
  let s1 := s.startBurst k b rc.2
  let s2 : State := { s1 with arb := { s1.arb with lastCls := tset 0 s1.arb.lastCls k f.cls.toNat } }
  s2.sample k (if kind = 3 then 2 else 1) 0

/-- Copy with the fields an ACK flit has. -/
def ackCopy (f : Flit) : Copy := { flit := f, g := 0, cred := 3, link := 0 }

/-- Waits noted of a head at a decision: a full retention store (R162), a window that is too small (R222), a disabled route
entry met after forming (R100). -/
def State.noteWait (s : State) (k : Nat) (t : FTxn) : State :=
  let full := s.retRoom k t == 0 && (s.ovfFree k).isNone
  let gate := !t.noFit && s.colourNow k t < 2 && !s.gateOk k t
  let held := !t.rsp && !t.held1 && !s.routeEn k t.ldst
  let s1 := if full && !t.retWait then s.rcInc F.STOP.RET_FULL_CNT k else s
  let s2 := if gate then s1.rcInc F.GATE.NOFIT_CNT k else s1
  let s3 := if held then s2.rcInc F.STOP.ROUTE_HOLD_CNT k else s2
  s3.setHead k t.rq { t with retWait := full, noFit := t.noFit || gate, held1 := t.held1 || held }

def State.noteWaits (s : State) (k : Nat) : State := (s.heads k).foldl (fun a t => a.noteWait k t) s

/-- What the decision of a slot grants (R189): the class of the winner. -/
def State.arbDecide (s : State) (k : Nat) : State × Option Nat :=
  let el := s.eligible k
  let s1 := (s.noteEligible k el none).noteWaits k
  let green := el.filter (fun t => s.colourNow k t == 0)
  let yellow := el.filter (fun t => s.colourNow k t == 1)
  let copy := s.pickCopy k
  let ack := s.pickAck k
  if copy.isNone && ack.isNone && el.isEmpty then (s1, none)
  else if !s.capOk k then
    ((({ s1 with pwr := { s1.pwr with demand := tset 0 s1.pwr.demand k 1 } } : State).fput F.GLB.LSG_STS.LIMITING true), none)
  else match copy with
    | some c => (s1.grantFlit k c.flit c.due ((s.copyRing k c).getD (0, false)) c, some c.flit.cls.toNat)
    | none =>
      match ack with
      | some f => (s1.grantFlit k f 3 ((s.ackRing k f).getD (0, false)) (ackCopy f), some 0)
      | none =>
        let nth := s.fget F.ARB.NTH_POS k + 1 == s.fget F.STOP.ARB_CFG.NTH k
        match (if nth then bestOf (s1.longer k) green else bestOf (s1.above k) green) with
        | some t => (s1.grantTxn k ((s1.queue k).find? (fun u => u.rq == t.rq) |>.getD t) true nth, some (t.rq / 4096))
        | none =>
          match bestOf (s1.above k) yellow with
          | some t => (s1.grantTxn k ((s1.queue k).find? (fun u => u.rq == t.rq) |>.getD t) false false, some (t.rq / 4096))
          | none => (s1, none)

/-- Settle a slot in which nothing crossed (R434, items 3 to 5): `won` is the class granted in it, `refused` says that
the cap kept back something that could be granted. Work that cannot be formed yet is back-starved (R100, R139). -/
def State.settleIdle (s : State) (k : Nat) (won : Option Nat) (refused : Bool) : State :=
  match won with
  | some c => s.settle k c 2
  | none =>
    let hs := s.heads k
    let back := (hs.filter (fun t => !s.cond15 k t || refused)).map (fun t => t.rq / 4096)
      ++ s.unformed k
    let pol := hs.filter (fun t => !s.cond67 k t)
    match bestOf (fun a b => decide (a < b)) back with
    | some c => s.settle k c 3
    | none =>
      if refused then s.settle k 0 3
      else match bestOf (fun a b => decide (a < b)) (pol.map (fun t => t.rq / 4096)) with
        | some c => (s.settle k c 2).slotInc k c 4
        | none => s.settle k (tget 0 s.arb.lastCls k) 2

/-! ### Injection (R70, R80, R161, R164) -/

/-- A grant takes effect in its first beat: the wait ends and the counters of R200 and Table 7-5 move. -/
def State.confirm (s : State) (k : Nat) (b : Burst) : State :=
  if b.kind = 3 then s.rcInc F.ARB.ACK_SLOT_CNT k
  else if b.kind = 1 then s.rcInc F.STOP.REPLAY_CNT k
  else if b.kind = 2 then s
  else
    let q := rqKey k b.rq
    let n := tget 0 s.arb.clk k
    let w := n - (tget (n + 1) s.arb.waitFrom q - 1)
    let g := addWrap s.arb.grants s.arb.ovf q b.flits.length 1
    let s1 : State := { s with arb := { s.arb with
      grants := if s.rqFrozen k then s.arb.grants else g.1, ovf := if s.rqFrozen k then s.arb.ovf else g.2,
      longest := tset 0 s.arb.longest q (max (tget 0 s.arb.longest q) (min (tget 0 s.arb.waitCnt q) (2 ^ 32 - 1))) } }
    let s2 : State := { s1 with arb := { s1.arb with
      waitFrom := tset 0 s1.arb.waitFrom q 0, waitCnt := tset 0 s1.arb.waitCnt q 0,
      maxWho := if tget 0 s1.arb.maxWho k = 0 ∨ s1.fget F.ARB.WAIT_MAX k < w then tset 0 s1.arb.maxWho k (b.rq + 1)
        else s1.arb.maxWho } }
    let s3 := s2.fmax F.ARB.WAIT_MAX w k
    if b.green then
      let s4 := s3.fset F.ARB.NTH_POS ((s3.fget F.ARB.NTH_POS k + 1) % max 1 (s3.fget F.STOP.ARB_CFG.NTH k)) k
      if b.nth then s4.rcInc F.ARB.NTH_GNT_CNT k else s4
    else s3.rcInc F.ARB.YELLOW_GNT_CNT k

/-- The flits of the burst leave the head of their queue (R185). -/
def State.takeFromQueue (s : State) (k : Nat) (b : Burst) : State :=
  if b.kind ≠ 0 then s
  else match headIdx (s.queue k) b.rq with
    | none => s
    | some i =>
      match (s.queue k)[i]? with
      | none => s
      | some t =>
        let n := b.flits.length
        if t.flits.length ≤ n then s.setQueue k ((s.queue k).eraseIdx i)
        else s.setQueue k ((s.queue k).set i { t with flits := t.flits.drop n, cred := t.cred.drop n })

/-- The piggybacked acknowledgement (R164): the oldest pending number for the destination. -/
def State.piggy (s : State) (k : Nat) (f : Flit) : State × Flit :=
  let q := pairKey k f.dst.toNat
  match tget [] s.ord.acks q with
  | n :: rest =>
    if s.fbit F.STOP.ACK_CFG.PIGGY_EN k then
      ({ s with ord := { s.ord with acks := tset [] s.ord.acks q rest } }, { f with ackp := 1, ackSeq := BitVec.ofNat 16 n })
    else (s, f)
  | [] => (s, f)

/-- Payload bytes of a flit. -/
def payload (f : Flit) : Nat :=
  if dataUsed f.opc f.addr f.len then min 128 (4 * lenUnits f.len - 128 * f.fidx.toNat) else 0

/-- The beats of a gated transaction after its class has closed; one whose last flit is among them has overrun (R224). -/
def State.overrun (s : State) (k : Nat) (b : Burst) (f : Flit) : State :=
  let q := rqKey k b.rq
  let v := s.gateMark k q (if f.fidx = 0 then (match b.gated with | some l => 1 + l | none => 0) else tget 0 s.mtr.gate q)
  let n := (if f.fidx = 0 then 0 else tget 0 s.mtr.beyond q) + b2n (decide (9 ≤ v))
  let done := f.last == 1
  let s1 : State := { s with mtr := { s.mtr with
    gate := tset 0 s.mtr.gate q (if done then 0 else v), beyond := tset 0 s.mtr.beyond q (if done then 0 else n) } }
  if done && 9 ≤ v then (s1.rcInc F.GATE.OVR_CNT k).fmax F.GATE.OVR_MAX n k else s1

/-- One beat of the burst in the slot now passing. -/
def State.beat (s : State) (k : Nat) (b : Burst) : State :=
  match b.flits with
  | [] => { s with arb := { s.arb with burst := tset none s.arb.burst k none } }
  | f :: rest =>
    let cred := b.cred.headD 3
    let b' := { b with flits := rest, cred := b.cred.tail, first := false }
    let s0 : State := { s with arb := { s.arb with
      burst := tset none s.arb.burst k (if rest.isEmpty then none else some b'),
      decided := tset 0 s.arb.decided k (b2n rest.isEmpty) } }
    let s1 := if b.kind = 0 then s0.overrun k b f else s0
    if b.self then
      let fin := { f with crc := e2eCrc f }
      ((s1.passSlot k false).ejectTo k 18 { flit := fin, inj := false, link := b.link, rid := b.rid }).settle k f.cls.toNat 2
    else
      let pg := if b.kind = 3 then (s1, f) else s1.piggy k f
      let fin := { pg.2 with crc := e2eCrc pg.2 }
      let key := laneKey k b.ring b.dir
      let s2 := (pg.1.passSlot k true)
      let s3 : State := { s2 with
        spine := { s2.spine with xfer := tset [] s2.spine.xfer key (tget [] s2.spine.xfer key ++ [fin]) },
        arb := { s2.arb with unset := tset [] s2.arb.unset k (tget [] s2.arb.unset k ++ [⟨f.cls.toNat, f.dst.toNat, f.seq.toNat, key⟩]) } }
      let s3b := s3.xbOcc (stopBridge k 0) (tget [] s3.spine.xfer key).length
      let s4 := (s3b.countEvt .pmu k 0x001 1 (flitAttr f)).countEvt .pmu k 0x002 (payload f) (flitAttr f)
      match b.kind with
      | 0 =>
        let c : Copy := { flit := f, g := b.g, cred := cred, link := b.link, rid := b.rid, ldst := b.ldst, rsp := b.rsp,
                          reqRing := b.reqRing, job := b.job }
        (s4.setRet k (s4.ret k ++ [c])).spillCopies k 33
      | 3 => { s4 with ord := { s4.ord with ackQ := tset [] s4.ord.ackQ k ((tget [] s4.ord.ackQ k).filter (fun x => !(x.dst == f.dst && x.ackSeq == f.ackSeq))) } }
      | _ => s4.setRet k ((s4.ret k).map (fun c =>
          if c.flit.dst == f.dst && c.flit.seq == f.seq then { c with due := 0, g := b.g } else c))

/-! ### Commands -/

/-- The arbiter decides in a slot whose crossing is settled already (R186, R198). -/
def State.decideFree (s : State) (k : Nat) : State :=
  (({ s with arb := { s.arb with decided := tset 0 s.arb.decided k 0 } } : State).arbDecide k).1

/-- At the replicator a copy that waits delays only later copies of its own member (R333): of each requester's copies, the
first that may be granted and has none of its member before it comes to the front. -/
def State.turnHeads (s : State) (k : Nat) : State :=
  if k ≠ 58 ∨ (tget none s.arb.burst k).isSome then s
  else
    (s.requesters k).foldl (fun a rq =>
      let mine := (a.queue k).filter (fun t => t.rq == rq)
      let firsts := (List.range mine.length).filter (fun i =>
        match mine[i]? with
        | some t => (mine.take i).all (fun u => u.ldst != t.ldst || u.link != t.link) && a.cond15 k t
        | none => false)
      match firsts with
      | i :: _ =>
        match mine[i]? with
        | some t => a.setQueue k (t :: ((mine.eraseIdx i) ++ (a.queue k).filter (fun u => u.rq != rq)))
        | none => a
      | [] => a) s

/-- A beat of burst `b` that is not its last has passed: the other requesters' waits begin (R193). -/
def State.noteBeat (s : State) (k : Nat) (b : Burst) : State :=
  if (tget none s.arb.burst k).isNone then s
  else s.noteEligible k (s.eligible k) (if b.kind = 0 then some b.rq else none)

/-- ARBITER_DECISION (R185, R186, R189): with a burst in progress its next beat passes, and the decision is taken with
its last one; else the arbiter decides in an idle slot. -/
def State.arbDecision (s0 : State) (k : Nat) : State :=
  let s := s0.turnHeads k
  if !s.stopRuns k then s
  else match tget none s.arb.burst k with
    | some b =>
      if b.first then s
      else
        let s1 := s.beat k b
        if (tget none s1.arb.burst k).isNone then s1.decideFree k else s1.noteBeat k b
    | none =>
      if tget 0 s.arb.decided k = 1 then s.decideFree k
      else
        let can := (s.pickCopy k).isSome || (s.pickAck k).isSome || !(s.eligible k).isEmpty
        let s1 := s.passSlot k false
        let r := s1.arbDecide k
        r.1.settleIdle k r.2 (can && !s1.capOk k)

/-- The winner still meets conditions 2, 5, 6 and 7 (R197): its ring is not chosen again. -/
def State.recheckOk (s : State) (k : Nat) (b : Burst) : Bool :=
  let ringOk := s.ringUsable k b.ring
  if b.kind ≠ 0 then ringOk
  else match (s.queue k).find? (fun t => t.rq == b.rq) with
    | none => false
    | some t =>
      ringOk && t.head.seq == (b.flits.headD emptyFlit).seq && (t.rsp || s.routeEn k t.ldst)
      && !s.isClosed k t.head.dst.toNat && s.cond67 k t

/-- GRANT_RECHECK (R197, R198): the first beat, or the dead slot of a withdrawn grant. DESIGN CHOICE: what the grant has charged
to virtual times and to CTL_LIM stays charged. -/
def State.grantRecheck (s : State) (k : Nat) : State :=
  match tget none s.arb.burst k with
  | none => s
  | some b =>
    if !b.first || !s.stopRuns k then s
    else if s.recheckOk k b then ((((s.confirm k b).takeFromQueue k b).beat k b).noteBeat k b).resService k
    else
      let s1 : State := { s with arb := { s.arb with
        burst := tset none s.arb.burst k none, decided := tset 0 s.arb.decided k 1 } }
      let s2 := if b.self then s1 else s1.setBridge k b.ring b.dir (s1.bridgeUsed k b.ring b.dir - b.flits.length)
      ((s2.passSlot k false).settle k ((b.flits.headD emptyFlit).cls.toNat) 1).rcInc F.ARB.WITHDRAW_CNT k

/-- BRIDGE_CREDIT_RETURN (R90, R184): the flit at the head of the crossing FIFO enters the empty injection register, and
its bridge credit returns. -/
def State.bridgeReturn (s : State) (k r d : Nat) : State :=
  let key := laneKey k r d
  if s.isolated k then s
  else match tget none s.spine.inj key, tget [] s.spine.xfer key with
  | none, f :: rest =>
    ({ s with spine := { s.spine with
      inj := tset none s.spine.inj key (some ⟨f, 0⟩), xfer := tset [] s.spine.xfer key rest } } : State).setBridge k r d
      (s.bridgeUsed k r d - 1)
  | _, _ => s

/-- Remove the first unsettled slot that satisfies a test. -/
def State.dropUnset (s : State) (k : Nat) (p : SlotRec → Bool) : State :=
  let l := tget [] s.arb.unset k
  match l.findIdx? p with
  | none => s
  | some i => { s with arb := { s.arb with unset := tset [] s.arb.unset k (l.eraseIdx i) } }

/-- SLOT_MISS (R93): the oldest miss indication of a ring direction reaches the stop. -/
def State.slotMiss (s : State) (k r d : Nat) : State :=
  let key := laneKey k r d
  match tget [] s.spine.missed key with
  | [] => s
  | f :: rest =>
    let s1 : State := { s with spine := { s.spine with missed := tset [] s.spine.missed key rest } }
    let s2 := (s1.dropUnset k (fun u => u.lane == key && u.dst == f.dst.toNat && u.seq == f.seq.toNat)).settle k f.cls.toNat 1
    if f.opc = opACK then
      let q := pairKey k f.dst.toNat
      { s2 with ord := { s2.ord with acks := tset [] s2.ord.acks q (ackNumbers f ++ tget [] s2.ord.acks q) } }
    else
      let ps := pairSeq k f.dst.toNat f.seq.toNat
      let n := tget 0 s2.spine.missRun ps + 1
      let s3 : State := { s2 with spine := { s2.spine with missRun := tset 0 s2.spine.missRun ps n } }
      let hit := fun (c : Copy) => c.flit.dst == f.dst && c.flit.seq == f.seq
      (s3.setRet k ((s3.ret k).map (fun c => if hit c then { c with misses := n } else c))).copyDue k 2 hit

/-- SLOT_SETTLE (R435): the oldest slot whose flit has been placed is settled as RETIRED. -/
def State.slotSettle (s : State) (k : Nat) : State :=
  let at' := fun (f : Flit) (u : SlotRec) => u.dst == f.dst.toNat && u.seq == f.seq.toNat
  let here := fun (u : SlotRec) =>
    (match tget none s.spine.inj u.lane with | some x => at' x.flit u | none => false)
    || (tget [] s.spine.xfer u.lane).any (fun f => at' f u) || (tget [] s.spine.missed u.lane).any (fun f => at' f u)
  match (tget [] s.arb.unset k).find? (fun u => !here u) with
  | none => s
  | some u => (s.dropUnset k (fun v => v == u)).settle k u.cls 0

/-- RQ_SEL_WRITE (R201): the requester's counters are copied; CLR clears them in the cycle of the copy. -/
def State.rqSel (s : State) (k : Nat) (w : Word) : State :=
  let rq := vbits w 0 14
  let q := rqKey k rq
  let ov := tget 0 s.arb.ovf q
  let s1 := ((((s.fset F.ARB.RQ_SEL.RQ_IDX rq k).fput F.ARB.RQ_STS.VALID true k).fput F.ARB.RQ_STS.OVF_GRANTS (nbit ov 0) k).fput
    F.ARB.RQ_STS.OVF_WAIT (nbit ov 1) k).fput F.ARB.RQ_STS.WAITING (tget 0 s.arb.waitFrom q != 0) k
  let s2 := s1.setWide F.ARB.RQ_GRANTS_LO.GRANTS_LO F.ARB.RQ_GRANTS_HI.GRANTS_HI (tget 0 s.arb.grants q) k
  let s3 := s2.setWide F.ARB.RQ_WAIT_LO.WAIT_LO F.ARB.RQ_WAIT_HI.WAIT_HI (tget 0 s.arb.waits q) k
  let s4 := s3.fset F.ARB.RQ_LONGEST.LONGEST (tget 0 s.arb.longest q) k
  if w.getLsbD 31 then
    { s4 with arb := { s4.arb with
      grants := tset 0 s4.arb.grants q 0, waits := tset 0 s4.arb.waits q 0, longest := tset 0 s4.arb.longest q 0,
      ovf := tset 0 s4.arb.ovf q 0 } }
  else s4

/-- A write of RQ_SEL; it needs the sector domain (R402). -/
def State.rqSelWrite (s : State) (k : Nat) (w : Word) : State :=
  if s.stopRuns k then s.rqSel k w else s.pgErr .arb k 0x110

/-- A slice leaves FREE: every stop clears the counters of its four requesters (R200). -/
def State.clearRq (s : State) (x : Nat) : State :=
  let p := fun i => i % 4096 == x
  { s with arb := { s.arb with grants := tdrop p s.arb.grants, waits := tdrop p s.arb.waits, longest := tdrop p s.arb.longest,
                               ovf := tdrop p s.arb.ovf } }

def execArbiterDecision (k : Stop) (s : State) : Res := .next (s.arbDecision k)
def execGrantRecheck (k : Stop) (s : State) : Res := .next (s.grantRecheck k)
def execBridgeCreditReturn (k : Stop) (r : RingNo) (d : Dir) (s : State) : Res := .next (s.bridgeReturn k r d)
def execSlotMiss (k : Stop) (r : RingNo) (d : Dir) (s : State) : Res := .next (s.slotMiss k r d)
def execSlotSettle (k : Stop) (s : State) : Res := .next (s.slotSettle k)
def execRqSelWrite (k : Stop) (w : Word) (s : State) : Res :=
  .next ((s.touch .arb k).rqSelWrite k w)

end Sys2Proof.Machine
end

