-- ==== Sys2Proof/Machine/Xlt.lean ====
section
/-! DEFINITION. Sector translation and binding caches, fills, table updates and invalidations
(10_identifiers_and_attached_memory R278–R285; 12_slices_and_drydown R339–R343). -/

namespace Sys2Proof.Machine

/-! ### The caches (R278, R282, R341) -/

/-- The page that keeps a sector's XC_ registers: they read the same in its seven STOP pages (R302). -/
def xcPage (x : Nat) : Nat := 7 * x

def xcSet (key : Nat) : Nat := (key % 1024) ^^^ (key / 1024 % 1024) ^^^ (key / 1048576 % 16 * 64)
def bcSet (i : Nat) : Nat := (i % 256) ^^^ (i / 256 % 256)

/-- Slot of a way in a cache. -/
def xcSlot (x key way : Nat) : Nat := x * 8192 + xcSet key * 8 + way
def bcSlot (x i way : Nat) : Nat := x * 2048 + bcSet i * 8 + way

def State.cacheAt (s : State) (bind : Bool) (x key way : Nat) : Option CacheEnt :=
  if bind then tget none s.mem.bcache (bcSlot x key way) else tget none s.mem.cache (xcSlot x key way)

def State.setCache (s : State) (bind : Bool) (x key way : Nat) (e : Option CacheEnt) : State :=
  if bind then { s with mem := { s.mem with bcache := tset none s.mem.bcache (bcSlot x key way) e } }
  else { s with mem := { s.mem with cache := tset none s.mem.cache (xcSlot x key way) e } }

/-- The way that holds a key. -/
def State.wayOf (s : State) (bind : Bool) (x key : Nat) : Option Nat :=
  (List.range 8).find? (fun w => match s.cacheAt bind x key w with | some e => e.key == key | none => false)

/-- Drop a key. -/
def State.dropKey (s : State) (bind : Bool) (x key : Nat) : State :=
  match s.wayOf bind x key with
  | some w => s.setCache bind x key w none
  | none => s

/-- Pinned ways in force: those of the active bank, at most 4. -/
def State.pinWays (s : State) (x : Nat) : Nat :=
  min 4 (s.fget F.STOP.XC_POLICY.PIN_WAYS (xcPage x) 0 (s.bankAt (memStop x)))

/-- The way among `ws` that gives up its entry: least recently used, or pseudo-random, which is a free value. -/
def State.victim (s : State) (bind : Bool) (x key : Nat) (ws : List Nat) : Nat × State :=
  if s.fbit F.STOP.XC_POLICY.REPL (xcPage x) 0 (s.bankAt (memStop x)) then
    let f := s.fresh
    (ws.getD (f.1 % max 1 ws.length) 0, f.2)
  else
    let use := fun w => match s.cacheAt bind x key w with | some e => e.used | none => 0
    (ws.foldl (fun m w => if use w < use m then w else m) (ws.headD 0), s)

/-- Install an entry (R278): a free way first; a pinned entry never displaces an unpinned one while there are pinned
ways. -/
def State.install (s : State) (bind : Bool) (x key val : Nat) : State :=
  let pw := if bind then 0 else s.pinWays x
  let pin := !bind && nbit val 4
  let pinned := List.range pw
  let un := (List.range 8).filter (fun w => pw ≤ w)
  let free := fun (l : List Nat) => l.find? (fun w => (s.cacheAt bind x key w).isNone)
  let clk := s.mem.useClk + 1
  let s0 : State := { s with mem := { s.mem with useClk := clk } }
  let e : CacheEnt := ⟨key, val, pin, clk⟩
  match s.wayOf bind x key with
  | some w => s0.setCache bind x key w (some e)
  | none =>
    let spot := if pin then (match free pinned with | some w => some w | none => free un) else free un
    match spot with
    | some w => s0.setCache bind x key w (some e)
    | none =>
      let v := s0.victim bind x key (if pin && pw != 0 then pinned else un)
      v.2.setCache bind x key v.1 (some e)

/-! ### Fills (R279–R281, R285, R341) -/

def State.fills (s : State) (x : Nat) : List Fill := tget [] s.mem.fills x
def State.setFills (s : State) (x : Nat) (l : List Fill) : State :=
  { s with mem := { s.mem with fills := tset [] s.mem.fills x l } }

/-- A copy of an entry cannot be taken from its own channel (R280). -/
def State.copyGone (s : State) (copyB : Bool) (key : Nat) : Bool :=
  let l := fmaLoc (xltFma copyB key)
  s.unitGone l.1 (l.2 / 4096)

/-- The copy that FILL_POLICY.COPY_SEL chooses for a sector, or the other when that one's channel is lost (R280). -/
def State.chooseCopy (s : State) (x key : Nat) : Bool :=
  let m := memStop x
  let far := fun b =>
    let d := memStop (fmaLoc (xltFma b key)).1
    min (hops 0 m d) (hops 1 m d)
  let want := match s.fget F.MEM.FILL_POLICY.COPY_SEL x 0 (s.bankAt m) with
    | 1 => far true < far false
    | 2 => nbit key 0
    | _ => false
  if s.copyGone want key && !s.copyGone (!want) key then !want else want

/-- Send the MRD of a fill (R280, R341). -/
def State.sendFill (s : State) (x : Nat) (f : Fill) : State :=
  let id := s.mem.nextId
  let fma := if f.bind then bindFma f.key else xltFma f.copyB f.key
  let f' := { f with id := id, sent := s.nodeTick (memStop x), stale := false }
  let s1 : State := { s with mem := { s.mem with nextId := id + 1 } }
  (s1.setFills x (s1.fills x ++ [f'])).ownRead (memStop x) (memStop (fmaLoc fma).1) fma (if f.bind then 32 else 16)
    (if f.bind then .bindFill id else .fill id)

/-- A miss counts (R302, Table 16-3). -/
def State.xcMiss (s : State) (x : Nat) (bind : Bool) : State :=
  (s.rcInc F.STOP.XC_MISS_CNT (xcPage x)).countEvt .pwr x (if bind then 0x304 else 0x302) 1

/-- A lookup in a sector's cache (R278, R279): an answer, a wait for a fill, or a wait for a free fill. -/
def State.lookUp (s : State) (x : Nat) (bind : Bool) (key : Nat) : State × Look :=
  let s := s.countEvt .pwr x (if bind then 0x303 else 0x301) 1
  match s.wayOf bind x key with
  | some w =>
    match s.cacheAt bind x key w with
    | some e =>
      let clk := s.mem.useClk + 1
      let s1 : State := { s with mem := { s.mem with useClk := clk } }
      ((s1.setCache bind x key w (some { e with used := clk })).rcInc F.STOP.XC_HIT_CNT (xcPage x), ⟨key, 3, e.val⟩)
    | none => (s, ⟨key, 0, 0⟩)
  | none =>
    if (s.fills x).any (fun f => f.bind == bind && f.key == key) then (s.xcMiss x bind, ⟨key, 1, 0⟩)
    else if 64 ≤ (s.fills x).length then (s, ⟨key, 0, 0⟩)
    else ((s.xcMiss x bind).sendFill x
      { key := key, bind := bind, id := 0, copyB := !bind && s.chooseCopy x key, sent := 0 }, ⟨key, 1, 0⟩)

/-- Answer a waiting lookup of a key. -/
def Look.answer (l : Look) (key st val : Nat) : Look := if l.st = 1 ∧ l.key = key then ⟨key, st, val⟩ else l

/-- Answer every lookup of the key that waits in the sector: state 2 cannot be read, 3 the entry. -/
def State.answer (s : State) (x : Nat) (bind : Bool) (key st val : Nat) : State :=
  let rx := s.port.rx.map (fun e => if e.1 / 12 / 7 = x then
    (e.1, e.2.map (fun t => if bind then { t with pb := t.pb.answer key st val } else { t with xl := t.xl.answer key st val }))
    else e)
  let el := if bind then s.mem.eLook else s.mem.eLook.map (fun e => if e.1 / 65536 = x then (e.1, e.2.answer key st val) else e)
  { s with port := { s.port with rx := rx }, mem := { s.mem with eLook := el } }

/-- The completion of a fill (R280, R281, R285, R341). A fill whose MRD was sent again counts by its latest MRD only. -/
def State.fillDone (s : State) (x id : Nat) (r : RdDone) : State :=
  match (s.fills x).find? (fun f => f.id == id) with
  | none => s
  | some f =>
    let s1 := s.setFills x ((s.fills x).filter (fun g => g.id != id))
    if f.stale then
      (s1.rcInc F.STOP.XC_STALE_CNT (xcPage x)).sendFill x
        { f with copyB := !f.bind && s.chooseCopy x f.key, badA := false, badB := false }
    else if rdBad r then
      if f.bind then (s1.answer x true f.key 2 0).record .mem x 0x84 f.key 0 f.key
      else if (if f.copyB then f.badA else f.badB) then
        (s1.answer x false f.key 2 0).record .mem x 0x61 f.key
          (packBits [(0, 3, (fmaLoc (xltFma false f.key)).1), (4, 3, (fmaLoc (xltFma true f.key)).1)]) f.key
      else s1.sendFill x { f with copyB := !f.copyB, badA := f.badA || !f.copyB, badB := f.badB || f.copyB }
    else
      let v := byteSlice (flitsNum r.flits) 0 (if f.bind then 32 else 16)
      (s1.install f.bind x f.key v).answer x f.bind f.key 3 v

/-- XLT_FILL_DONE, BIND_FILL_DONE: the oldest ended fill of its kind in the sector. -/
def State.takeFill (s : State) (x : Nat) (bind : Bool) : State :=
  match s.takeDone (memStop x) (fun u => match u with | .fill _ => !bind | .bindFill _ => bind | _ => false) with
  | none => s
  | some (r, s1) =>
    match r.use with
    | .fill id => s1.fillDone x id r
    | .bindFill id => s1.fillDone x id r
    | _ => s1

/-- XLT_FILL_TIMEOUT (R280): fills without a completion for FILL_TO whole ticks go to the other copy; the binding table is
held once and is read again. -/
def State.fillTimeout (s : State) (x : Nat) : State :=
  let m := memStop x
  let toward := max 1 (s.fget F.MEM.FILL_POLICY.FILL_TO x 0 (s.bankAt m))
  let late := (s.fills x).filter (fun f => tickPast (s.nodeTick m) f.sent (toward + 1))
  late.foldl (fun t f =>
    ((t.setFills x ((t.fills x).filter (fun g => g.id != f.id))).rcInc F.MEM.FILL_RETRY_CNT x).sendFill x
      { f with copyB := !f.bind && !f.copyB }) s

/-- Fills and binding fills outstanding for a memory stop (R404). -/
def State.fillsOf (s : State) (k : Nat) : Nat := if isMemStop k then (s.fills (sectorOf k)).length else 0

/-! ### Invalidation (R283, R285, R342, R343, R402) -/

/-- The MRD of a fill has not left its memory stop: it waits to be formed or to be granted. -/
def State.fillHere (s : State) (x : Nat) (f : Fill) : Bool :=
  let k := memStop x
  let use : TagUse := if f.bind then .bindFill f.id else .fill f.id
  let mine := fun (l : List Flit) => l.any (fun g => g.opc == opMRD && (s.tag k g.tag.toNat).use == use)
  (s.formQ k).any (fun r => r.use == use) || (s.queue k).any (fun t => !t.rsp && mine t.flits)
  || (match tget none s.arb.burst k with | some b => !b.rsp && mine b.flits | none => false)

/-- Fills of the keys that satisfy `p` are stale where their MRD has left (R285). -/
def State.staleFills (s : State) (x : Nat) (bind : Bool) (p : Nat → Bool) : State :=
  s.setFills x ((s.fills x).map (fun f => if f.bind == bind && p f.key && !s.fillHere x f then { f with stale := true } else f))

/-- An index lies in the range that a sector's copy gives a domain (R339, R341). -/
def State.inDomain (s : State) (x dom i : Nat) : Bool :=
  let b := 64 * tget 0 s.mem.pbBase (x * 256 + dom)
  b ≤ i && i < b + 64 * tget 0 s.mem.pbCnt (x * 256 + dom)

/-- Drop every cached binding of a domain: those of its index range (R343). -/
def State.dropDomain (s : State) (x dom : Nat) : State :=
  { s with mem := { s.mem with bcache := tdrop (fun i => i / 2048 == x &&
      (match tget none s.mem.bcache i with | some e => s.inDomain x dom e.key | none => false)) s.mem.bcache } }

/-- The sector's copy of B and C of a domain follows a domain PB_INV, in every state of the sector (R341, R401). -/
def State.setDomain (s : State) (x dom base cnt : Nat) : State :=
  { s with mem := { s.mem with
    pbBase := tset 0 s.mem.pbBase (x * 256 + dom) base, pbCnt := tset 0 s.mem.pbCnt (x * 256 + dom) cnt } }

/-- The sector node takes an invalidation: RUN and TRIM drop the key, DOZE lists it, OFF has nothing to drop (R283). -/
def State.invalidate (s : State) (x : Nat) (bind : Bool) (key : Nat) : State :=
  match s.sectorState x with
  | 2 => if bind then { s with mem := { s.mem with dozePb := tset [] s.mem.dozePb x ((tget [] s.mem.dozePb x ++ [key]).take 65) } }
         else { s with mem := { s.mem with dozeInv := tset [] s.mem.dozeInv x ((tget [] s.mem.dozeInv x ++ [key]).take 65) } }
  | 3 => s
  | _ =>
    if bind && 1048576 ≤ key then (s.dropDomain x (key - 1048576)).staleFills x true (fun i => s.inDomain x (key - 1048576) i)
    else (s.dropKey bind x key).staleFills x bind (fun k => k == key)

/-- Empty a cache of a sector. -/
def State.emptyCache (s : State) (x : Nat) (bind : Bool) : State :=
  if bind then { s with mem := { s.mem with bcache := tdrop (fun i => i / 2048 == x) s.mem.bcache } }
  else { s with mem := { s.mem with cache := tdrop (fun i => i / 8192 == x) s.mem.cache } }

/-- At wake from DOZE the listed keys are dropped before the first lookup; more than 64, or a domain, empty the cache
(R283, R402). -/
def State.wakeCaches (s : State) (x : Nat) : State :=
  let l := tget [] s.mem.dozeInv x
  let p := tget [] s.mem.dozePb x
  let s1 : State := { s with mem := { s.mem with dozeInv := tset [] s.mem.dozeInv x [], dozePb := tset [] s.mem.dozePb x [] } }
  let s2 := if 64 < l.length then s1.emptyCache x false else l.foldl (fun t k => t.dropKey false x k) s1
  if 64 < p.length || p.any (fun k => 1048576 ≤ k) then s2.emptyCache x true else p.foldl (fun t k => t.dropKey true x k) s2

/-- INV_ACK to the sender of an invalidation (Table 5-8). -/
def State.sendInvAck (s : State) (n toward : Nat) (pb dom : Bool) (key : Nat) : State :=
  s.send (mkCtrl 9 toward n [(43, 1, b2n pb), (42, 1, b2n dom), (18, 24, key)])

/-- XLT_INV (R284): the sector's node drops the key and acknowledges; other nodes only take their copy. -/
def State.xltInv (s : State) (n : Nat) (m : Msg) : State :=
  let s1 := s.take n m
  if !msgOk m then s1.msgBad n m
  else if isMemStop n then
    (s1.invalidate (sectorOf n) false (vbits m 24 24)).sendInvAck n (msgSrc m) false false (vbits m 24 24)
  else s1

/-- PB_INV (R342, R343, Table 12-2). -/
def State.pbInv (s : State) (n : Nat) (m : Msg) : State :=
  let s1 := s.take n m
  let dom := vbits m 47 1 == 1
  if !msgOk m then s1.msgBad n m
  else if isMemStop n then
    let x := sectorOf n
    if dom then
      ((s1.invalidate x true (1048576 + vbits m 39 8)).setDomain x (vbits m 39 8) (vbits m 25 14) (vbits m 10 15)).sendInvAck
        n (msgSrc m) true true (vbits m 39 8)
    else (s1.invalidate x true (vbits m 24 20)).sendInvAck n (msgSrc m) true false (vbits m 24 20)
  else s1

/-! ### Updates (R284, R342) -/

/-- The entry in the XLT_DATA registers of a MEM page. -/
def State.xltData (s : State) (c : Nat) : Nat :=
  packBits ((List.range 4).map (fun i => (32 * i, 32, s.fget F.MEM.XLT_DATA.DATA c i)))

/-- The binding entry in PB_DATA0 and PB_DATA1. -/
def State.pbData (s : State) : Nat := s.fget F.GLB.PB_DATA0.DATA0 + 2 ^ 32 * s.fget F.GLB.PB_DATA1.DATA1

/-- Index of the key in PB_KEY (R339). -/
def State.pbIdx (s : State) : Nat :=
  s.fget F.GLB.PB_DBASE.BASE 0 0 0 (s.fget F.GLB.PB_KEY.DOM) * 64 + s.fget F.GLB.PB_KEY.PASID

/-- A page's own write of `n` bytes at an FMA of its channel. -/
def State.localWrite (s : State) (c what fma n v : Nat) : State :=
  let hdr := { emptyFlit with opc := opMWR, addr := BitVec.ofNat 64 fma, last := 1 }
  (s.addJob c (.own what) hdr 0 (accsFor c hdr 1 n v (2 ^ n - 1))).pump c

/-- Start a translation update of a key at its page (R284): the manager's, or one that applies a mirrored entry. -/
def State.xltStart (s : State) (c key val : Nat) (mir : Bool) : State :=
  let s1 := (((s.fset F.MEM.XLT_STS.RES 0 c).fput F.MEM.XLT_STS.BUSY true c).fput F.MEM.XLT_STS.DONE false c).fset
    F.MEM.XLT_STS.ACKS 0 c
  ({ s1 with mem := { s1.mem with
    upd := tset 0 s1.mem.upd c 1, updKey := tset 0 s1.mem.updKey c key, updVal := tset 0 s1.mem.updVal c val,
    updMir := tset 0 s1.mem.updMir c (b2n mir) } } : State).localWrite c 1 (xltFma false key) 16 val

/-- A write of XLT_CMD.GO (R284, R507). -/
def State.xltUpdate (s : State) (c : Nat) : State :=
  if s.fbit F.PAIR.PAIR_CTL.MIRROR && !s.fbit F.PAIR.PAIR_CTL.PRIMARY then s.pgErr .mem c 0x194
  else if (fmaLoc (xltFma false (s.fget F.MEM.XLT_KEY.KEY c))).1 ≠ c then s.fset F.MEM.XLT_STS.RES 1 c
  else if s.fbit F.MEM.XLT_STS.BUSY c then s.fset F.MEM.XLT_STS.RES 2 c
  else s.xltStart c (s.fget F.MEM.XLT_KEY.KEY c) (s.xltData c) false

/-- The delta of a write at an FMA has been acknowledged (R284). -/
def State.deltaAcked (s : State) (fma : Nat) : Bool :=
  let l := fmaLoc fma
  !s.deltaOut (s.actStop l.1) (fun a => a / 128 == l.2 / 128)

/-- The next step of a page's update, once the write before it has been answered and its delta acknowledged. -/
def State.xltProgress (s : State) (c : Nat) : State :=
  let key := tget 0 s.mem.updKey c
  let v := tget 0 s.mem.upd c
  if v = 4 ∧ s.deltaAcked (xltFma false key) then
    let b := xltFma true key
    ({ s with mem := { s.mem with upd := tset 0 s.mem.upd c 2 } } : State).ownWrite (memStop c) (memStop (fmaLoc b).1) b
      (bytesOf 16 (tget 0 s.mem.updVal c))
  else if 5 ≤ v ∧ s.deltaAcked (xltFma true key) then
    ({ s with mem := { s.mem with upd := tset 0 s.mem.upd c 3 } } : State).bcast (mkTyped 8 63 (memStop c) [(24, 24, key)])
  else s

def State.xltProgressAll (s : State) : State := (List.range 8).foldl (fun t c => t.xltProgress c) s

/-- Why a binding update is refused, 0 for none (R342). -/
def State.pbRefusal (s : State) : Nat :=
  let dom := s.fget F.GLB.PB_KEY.DOM
  let e := s.pbData
  if s.fget F.GLB.PB_DCNT.CNT 0 0 0 dom * 64 ≤ s.fget F.GLB.PB_KEY.PASID then 1
  else if s.fbit F.GLB.PB_STS.BUSY then 2
  else if nbit e 0 && nbits e 24 8 != s.fget F.SLICE.ACC_DOM.DOM (nbits e 8 12)
      || nbits e 24 8 != dom || nbits e 32 20 != s.fget F.GLB.PB_KEY.PASID then 3
  else 0

/-- Start a binding update: the entry is written at its channel first (R342). -/
def State.pbStart (s : State) (i val : Nat) (mir : Bool) : State :=
  let s1 := (((s.fset F.GLB.PB_STS.RES 0).fput F.GLB.PB_STS.BUSY true).fput F.GLB.PB_STS.DONE false).fset F.GLB.PB_STS.ACKS 0
  ({ s1 with mem := { s1.mem with pbUpd := 1, pbKey := i, pbVal := val, pbMir := mir } } : State).localWrite
    (fmaLoc (bindFma i)).1 2 (bindFma i) 32 val

/-- A write of PB_CMD.GO (R342, R507). -/
def State.pbUpdate (s : State) : State :=
  if s.fbit F.PAIR.PAIR_CTL.MIRROR && !s.fbit F.PAIR.PAIR_CTL.PRIMARY then s.pgErr .glb 0 0x1E0
  else
    let r := s.pbRefusal
    if r ≠ 0 then s.fset F.GLB.PB_STS.RES r else s.pbStart s.pbIdx s.pbData false

/-- Once the entry is written and its delta acknowledged, PB_INV goes out. -/
def State.pbProgress (s : State) : State :=
  if s.mem.pbUpd == 2 && s.deltaAcked (bindFma s.mem.pbKey) then
    ({ s with mem := { s.mem with pbUpd := 3 } } : State).bcast (mkTyped 0xC 63 60 [(24, 20, s.mem.pbKey)])
  else s

/-- A sector has acknowledged the PB_INV of an entry; the eighth makes the update DONE. -/
def State.pbAck (s : State) : State :=
  if s.mem.pbUpd ≠ 3 then s
  else
    let a := s.fget F.GLB.PB_STS.ACKS + 1
    let s1 := s.fset F.GLB.PB_STS.ACKS a
    if a = 8 then
      let s2 := (({ s1 with mem := { s1.mem with pbUpd := 0 } } : State).fput F.GLB.PB_STS.BUSY false).fput F.GLB.PB_STS.DONE true
      if s.mem.pbMir then { s2 with pair := { s2.pair with curSt := 3 } } else s2.mirror [.pb s.mem.pbKey s.mem.pbVal]
    else s1

/-- What an acknowledgement at a memory stop, an answer of a channel or an INV_ACK may let proceed. -/
def State.memSettle (s : State) : State := s.xltProgressAll.pbProgress

/-- INV_ACK (R284, R342): eight make an update DONE. -/
def State.invAck (s : State) (n : Nat) (m : Msg) : State :=
  let s1 := s.take n m
  if !msgOk m then s1.msgBad n m
  else if vbits m 43 1 = 0 then
    let c := sectorOf n
    if isMemStop n && tget 0 s1.mem.upd c == 3 then
      let a := s1.fget F.MEM.XLT_STS.ACKS c + 1
      let s2 := s1.fset F.MEM.XLT_STS.ACKS a c
      if a = 8 then
        let s3 := (({ s2 with mem := { s2.mem with upd := tset 0 s2.mem.upd c 0 } } : State).fput F.MEM.XLT_STS.BUSY false c).fput
          F.MEM.XLT_STS.DONE true c
        if tget 0 s.mem.updMir c = 1 then { s3 with pair := { s3.pair with curSt := 3 } }
        else s3.mirror [.xlt (tget 0 s2.mem.updKey c) (tget 0 s2.mem.updVal c)]
      else s2
    else s1
  else if vbits m 42 1 = 0 then s1.pbAck
  else s1

/-- Two ranges of 64-entry units share an entry. -/
def overlap (b1 n1 b2 n2 : Nat) : Bool := n1 != 0 && n2 != 0 && b1 < b2 + n2 && b2 < b1 + n1

/-- The range of a domain would overlap another's (R343). -/
def State.rangeTaken (s : State) (dom b n : Nat) : Bool :=
  (List.range 256).any (fun d => d != dom && overlap b n (s.fget F.GLB.PB_DBASE.BASE 0 0 0 d) (s.fget F.GLB.PB_DCNT.CNT 0 0 0 d))

/-- A write of PB_DCNT (R343). DEDUCED from Table 12-2, whose domain message carries BASE and CNT: every performed write
broadcasts it, so that each sector's copy of B and C follows. -/
def State.pbDcnt (s : State) (w : Word) : State :=
  let d := s.fget F.GLB.PB_DSEL.DOM
  let n := vbits w 0 15
  let b := s.fget F.GLB.PB_DBASE.BASE 0 0 0 d
  if n ≠ 0 ∧ (16384 < n ∨ s.fget F.GLB.PB_DCNT.CNT 0 0 0 d ≠ 0 ∨ s.rangeTaken d b n) then s.pgErr .glb 0 0x1C8
  else (s.fset F.GLB.PB_DCNT.CNT n 0 0 0 d).bcast (mkTyped 0xC 63 60 [(47, 1, 1), (39, 8, d), (25, 14, b), (10, 15, n)])

/-- A write of PB_DBASE (R343). -/
def State.pbDbase (s : State) (w : Word) : State :=
  let d := s.fget F.GLB.PB_DSEL.DOM
  let b := vbits w 0 14
  if s.fget F.GLB.PB_DCNT.CNT 0 0 0 d ≠ 0 then s.pgErr .glb 0 0x1C4 else s.fset F.GLB.PB_DBASE.BASE b 0 0 0 d

/-! ### Commands -/

def execMemResponse (c : Chan) (t : Fin 256) (d : Data) (ue : Bool) (s : State) : Res :=
  .next ((s.memResponse c t d.toNat ue).rebuildAdvance c 40).memSettle

def execReconstructDone (c : Chan) (s : State) : Res :=
  .next (((s.takeSpans c (tget [] s.ord.rdDone (s.actStop c)).length).pump c).rebuildAdvance c 40).memSettle

def execChFail (c : Chan) (s : State) : Res := .next (s.chFail c).memSettle
def execXltFillDone (x : Sector) (s : State) : Res := .next (s.takeFill x false)
def execXltFillTimeout (x : Sector) (s : State) : Res := .next (s.fillTimeout x)
def execBindFillDone (x : Sector) (s : State) : Res := .next (s.takeFill x true)
def execXltUpdate (c : Chan) (s : State) : Res := .next ((s.touch .mem c).xltUpdate c)
def execXltInv (n : Node) (m : Msg) (s : State) : Res := .next (s.xltInv n m)
def execInvAck (n : Node) (m : Msg) (s : State) : Res := .next (s.invAck n m)
def execPbUpdate (s : State) : Res := .next (s.touch .glb 0).pbUpdate
def execPbInv (n : Node) (m : Msg) (s : State) : Res := .next (s.pbInv n m)
def execPbDcntWrite (w : Word) (s : State) : Res := .next ((s.touch .glb 0).pbDcnt w)

end Sys2Proof.Machine
end

