-- ==== Sys2Proof/Machine/Port.lean ====
section
/-! DEFINITION. The receive side of a port stop: receive parts, ingress checks, identifiers and translation, rejection
(09_port_attachment R231–R240; 10_identifiers_and_attached_memory R270–R277, R292, R566; R178, R330, R331). -/

namespace Sys2Proof.Machine

/-- Key of a link. -/
def linkKey (k l : Nat) : Nat := k * 4 + l
/-- Key of a link's receive part or egress queue: 0 P, 1 NP, 2 CPL. -/
def partKey (k l p : Nat) : Nat := (k * 4 + l) * 3 + p

/-- Receive units per type of a link (Table 9-1); 0 for an absent link. -/
def rxShare (b l : Nat) : Nat :=
  match b with
  | 0 => if l = 0 then 512 else 0
  | 1 => if l < 2 then 256 else 0
  | 2 => if l = 0 then 256 else if l < 3 then 128 else 0
  | _ => 128

def State.portBif (s : State) (k : Nat) : Nat := s.fget F.STOP.PORT_CFG.BIF k

/-- A spare serves its sector's socket: some port stop's SERVED_BY_SPARE names it (R264). -/
def State.spareServes (s : State) (k : Nat) : Bool :=
  isSpareStop k && s.fbit F.STOP.SOCKET_STS.SERVED_BY_SPARE (7 * sectorOf k + s.fget F.STOP.SPARE_CTL.SOCKET k)
  && s.fget F.STOP.SPARE_CTL.CLAIM k == 1

/-- The stop has a socket on its LCI: the port stop or the spare, never both (Table 17-5). -/
def State.serves (s : State) (k : Nat) : Bool :=
  isPortStop k && !s.isolated k && (if isSpareStop k then s.spareServes k else !s.fbit F.STOP.SOCKET_STS.SERVED_BY_SPARE k)

/-- A link position is present. -/
def State.present (s : State) (k l : Nat) : Bool := s.serves k && rxShare (s.portBif k) l != 0

/-! ### The receive parts (R233–R237) -/

/-- The part of a TLP. -/
def partOf (t : TlpKind) : Nat :=
  match t with
  | .mwr | .msg | .unlock => 0
  | .cpl | .cpld => 2
  | _ => 1

/-- LCI units of a TLP (R233). -/
def unitsOf (t : Tlp) : Nat := max 1 (ceilDiv (4 * t.dws) 128)

def State.rx (s : State) (k l p : Nat) : List RxTlp := tget [] s.port.rx (partKey k l p)
def State.setRx (s : State) (k l p : Nat) (q : List RxTlp) : State :=
  { s with port := { s.port with rx := tset [] s.port.rx (partKey k l p) q } }

/-- Admitted TLPs of a part that wait to be formed still hold their units. -/
def State.lanePend (s : State) (k l p : Nat) : List FormReq := (s.formQ k).filter (fun r => r.lane == 3 * l + p)

/-- Units in use in a part. -/
def State.rxUsed (s : State) (k l p : Nat) : Nat :=
  ((s.rx k l p).map (fun x => unitsOf x.tlp)).foldl (· + ·) 0
  + ((s.lanePend k l p).map (fun r => max 1 r.chunks.length)).foldl (· + ·) 0

def State.rxFree (s : State) (k l p : Nat) : Nat := rxShare (s.portBif k) l - s.rxUsed k l p

/-- XOFF of a part follows its free units (R234), with the hysteresis between XOFF_FREE and XON_FREE; a socket that is
being switched holds NP, and from step 4 on every part, at XOFF (Table 9-8). -/
def State.xoffPart (s : State) (k l p : Nat) : State :=
  let old := s.fget F.STOP.LINK_STS.XOFF k l
  let free := s.rxFree k l p
  let ph := s.leavingPhase k
  let forced := (ph != 0 && p == 1) || 4 ≤ ph
  let on := forced || free ≤ s.fget F.STOP.LCI_FC.XOFF_FREE k
    || (nbit old p && free < s.fget F.STOP.LCI_FC.XON_FREE k)
  let v := (old &&& (7 ^^^ 2 ^ p)) ||| (if on then 2 ^ p else 0)
  s.fset F.STOP.LINK_STS.XOFF v k l

def State.xoffAll (s : State) (k : Nat) : State :=
  (List.range 4).foldl (fun t l => if t.present k l then (List.range 3).foldl (fun u p => u.xoffPart k l p) t else t) s

/-! ### Identifiers (R270, R271, R330, R566) -/

/-- The routing subfield of a message. -/
def routing (h : TlpHead) : Nat := nbits h.be.toNat 8 3

/-- A message code of an error message (Table 17-4). -/
def isErrMsg (h : TlpHead) : Bool := [0x30, 0x31, 0x33].contains (h.be.toNat % 256)

/-- A request that names its target by address. -/
def byAddress (h : TlpHead) : Bool :=
  match h.kind with
  | .mwr | .mrd | .atom | .lockrd => true
  | .msg => routing h == 1
  | _ => false

/-- The window that an address hits on link `l`, in the bank active at the stop (R271). -/
def State.windowHit (s : State) (k l a : Nat) : Option Nat :=
  let b := s.bankAt k
  (List.range 256).find? (fun i =>
    s.fbit F.STOP.WIN_CTL.V k 0 b i && s.fget F.STOP.WIN_CTL.LINK k 0 b i == l
    && (let base := 4096 * s.fget F.STOP.WIN_BASE_LO.BASE_LO k 0 b i + 2 ^ 32 * s.fget F.STOP.WIN_BASE_HI.BASE_HI k 0 b i
        base ≤ a && a < base + 2 ^ s.fget F.STOP.WIN_CTL.SIZE k 0 b i))

/-- Offset from the window's base, and the egress address (R271). -/
def State.windowOff (s : State) (k i a : Nat) : Nat :=
  let b := s.bankAt k
  a - (4096 * s.fget F.STOP.WIN_BASE_LO.BASE_LO k 0 b i + 2 ^ 32 * s.fget F.STOP.WIN_BASE_HI.BASE_HI k 0 b i)
def State.windowX (s : State) (k i : Nat) : Nat :=
  let b := s.bankAt k
  4096 * s.fget F.STOP.WIN_XBASE_LO.XBASE_LO k 0 b i + 2 ^ 32 * s.fget F.STOP.WIN_XBASE_HI.XBASE_HI k 0 b i

/-- How a request finds its target: it names a function, or it is settled without translation. -/
inductive Aim where
  | entry (sgid : Nat) (addr off : Nat)      -- translated; egress address and offset in the window
  | group (sgid g addr : Nat)                -- a multicast write (R330)
  | bcast (sgid : Nat)                       -- Broadcast from Root Complex (R331)
  | error                                    -- an error message (R178)
  | consumed                                 -- Local, terminate at receiver (R566)
  | none (sgid : Nat) (miss : Bool)          -- NO_ROUTE, a window missed or not
  deriving DecidableEq, Repr

/-- SGID of a domain and a function. -/
def sgidOf (dom fn : Nat) : Nat := dom * 65536 + fn

/-- The window that an address matches now: its function, the egress address, the offset (R271). -/
def State.windowOf (s : State) (k l a : Nat) : Option (Nat × Nat × Nat) :=
  (s.windowHit k l a).map (fun i =>
    let off := s.windowOff k i a
    (s.fget F.STOP.WIN_CTL.FN k 0 (s.bankAt k) i, s.windowX k i + off, off))

/-- Where a request goes (R270, R566); `win` is the window that it has matched before (Table 10-7). DESIGN CHOICE: where no rule gives FN, the record and a broadcast carry the
Requester ID. DEDUCED: an UNLOCK goes where its link's latest LOCKRD went. -/
def State.aim (s : State) (k l : Nat) (h : TlpHead) (win : Option (Nat × Nat × Nat) := none) : Aim :=
  let dom := s.fget F.STOP.LINK_DOM.DOM k l
  let endpoint := s.fget F.STOP.LINK_DOM.KIND k l == 1
  let me := sgidOf dom h.reqId.toNat
  let a := h.addr.toNat
  if byAddress h then
    match (match win with | some w => some w | none => s.windowOf k l a) with
    | none => .none me true
    | some (fn, xa, off) =>
      if 0xFFC0 ≤ fn then .group (sgidOf dom fn) (fn - 0xFFC0) xa else .entry (sgidOf dom fn) xa off
  else match h.kind with
    | .cfg => .entry (sgidOf dom h.target.toNat) a 0
    | .unlock =>
      match tget 0 s.port.lockFn (linkKey k l) with
      | 0 => .none me false
      | f => .entry (sgidOf dom (f - 1)) 0 0
    | _ =>
      match routing h with
      | 2 => .entry (sgidOf dom h.target.toNat) a 0
      | 3 => if endpoint then .none me false else .bcast me
      | 4 => .consumed
      | _ => if !endpoint then .none me false else if isErrMsg h then .error else .entry me a 0

/-! ### Rejection (R239, R240) -/

/-- Bytes that a request draws in completions. -/
def drawn (h : TlpHead) : Nat :=
  let f := { emptyFlit with addr := h.addr, be := h.be, len := h.len }
  match h.kind with
  | .mrd | .lockrd => readBytes f
  | .atom => atomSize f
  | .cfg => if h.addr.getLsbD 12 then 0 else 4
  | _ => 0

/-- An INGRESS_REJECT record (Table 9-3). -/
def ingRecord (tick reason k l mode sgid supp : Nat) (raw : Nat) : Nat :=
  packBits [(0, 48, tick), (48, 8, 0x10), (56, 8, reason), (64, 8, k), (72, 2, l), (74, 2, mode), (80, 24, sgid),
    (112, 16, supp), (128, 128, raw)]

/-- The port stop answers a non-posted request of source `sgid` on its link with a completion of status UR, which the fabric
has generated (R60, R239). While the link drops its traffic the completion is discarded as it is formed (R256). DEDUCED: a
request that names no target carries DGID 0, so its answer SGID 0. -/
def State.urAnswer (s : State) (k l sgid : Nat) (h : TlpHead) : State :=
  let f := { emptyFlit with
    opc := opCPL, last := 1, attr := h.attr &&& 7, dgid := BitVec.ofNat 24 sgid,
    addr := BitVec.ofNat 64 (packBits [(0, 3, stUR), (3, 13, drawn h), (23, 1, 1)]),
    be := BitVec.ofNat 16 (nbits h.be.toNat 11 3 * 2 ^ 11) }
  let s1 := s.rcInc F.STOP.SYNTH_CPL_CNT k
  if s.egrDrops k l then s1.discardFlit k l f
  else s1.toEgress k l f 4 0 (h.reqId.toNat + 65536 * h.tag.toNat) true

/-- The record of a rejection: at most one per link and tick (R240). -/
def State.ingReport (s : State) (k l reason sgid raw : Nat) : State :=
  let lk := linkKey k l
  let now := s.nodeTick k
  let supp := tget 0 s.port.ingSupp lk
  if tget 0 s.port.ingAt lk = now + 1 then
    { s with port := { s.port with ingSupp := tset 0 s.port.ingSupp lk (satAdd 16 supp 1) } }
  else
    ({ s with port := { s.port with ingAt := tset 0 s.port.ingAt lk (now + 1), ingSupp := tset 0 s.port.ingSupp lk 0 } } : State).sendErq
      k (ingRecord now reason k l (s.modeNow k) sgid supp raw)

/-- An ingress rejection (R239). -/
def State.ingReject (s : State) (k l reason sgid : Nat) (t : Tlp) (inj : Bool) : State :=
  let s1 := (s.rcInc F.STOP.ING_REJ_CNT k 1 inj).record .stop k 0x51 (packBits [(0, 2, l), (4, 4, reason)]) sgid sgid inj
  let s2 := s1.ingReport k l reason sgid t.raw.toNat
  if partOf t.head.kind = 1 then s2.urAnswer k l (sgidOf (s.fget F.STOP.LINK_DOM.DOM k l) t.head.reqId.toNat) t.head else s2

/-! ### Checks 1 to 3 (Table 9-2) -/

/-- Bytes that a request reaches over: an AtomicOp reaches its target operand. -/
def spanBytes (h : TlpHead) : Nat := if h.kind = .atom then atomSize { emptyFlit with be := h.be, len := h.len } else 4 * lenUnits h.len

/-- The TLP breaks a limit (R65, Table 3-6, R566), or its length disagrees with its payload. -/
def malformed (t : Tlp) : Bool :=
  let h := t.head
  let n := lenUnits h.len
  let crosses := 4096 < h.addr.toNat % 4096 + spanBytes h
  match h.kind with
  | .mwr => crosses || t.dws != n
  | .mrd | .lockrd => crosses || t.dws != 0
  | .atom =>
    let op := nbits h.be.toNat 0 4
    let l := h.len.toNat
    crosses || t.dws != l || 2 < op || !(if op = 2 then [2, 4, 8] else [1, 2]).contains l
  | .cfg => h.len != 1 || t.dws != (if h.addr.getLsbD 12 then 1 else 0)
  | .msg => t.dws != h.len.toNat || 6 ≤ routing h
  | .cpld => t.dws != n
  | _ => t.dws != 0

/-- The first of checks 1 to 3 that fails, 0 for none. -/
def State.earlyCheck (s : State) (k : Nat) (t : Tlp) : Nat :=
  if t.head.kind = .io ∨ t.head.otherPrefix then 1
  else if malformed t then 2
  else if s.modeNow k = 0 ∧ t.head.kind ≠ .cfg ∧ partOf t.head.kind ≠ 2 then 3
  else 0

/-! ### Translation (R273–R277, R292, R339–R341) -/

def eV (e : Nat) : Bool := nbit e 0
def eMemep (e : Nat) : Bool := nbit e 1
def ePeer (e : Nat) : Bool := nbit e 2
def ePvReq (e : Nat) : Bool := nbit e 3
def eHost (e : Nat) : Bool := nbit e 5
def eAllow (e : Nat) : Nat := nbits e 8 6
def eDgid (e : Nat) : Nat := nbits e 16 24
def eStop (e : Nat) : Nat := nbits e 40 6
def eLink (e : Nat) : Nat := nbits e 46 2
def eRid (e : Nat) : Nat := nbits e 48 16
def eUnitFirst (e : Nat) : Nat := nbits e 80 17
def eUnitCnt (e : Nat) : Nat := nbits e 97 17

/-- Bit of ALLOW that a kind needs. -/
def allowBit (t : TlpKind) : Nat :=
  match t with
  | .mrd => 0 | .mwr => 1 | .atom => 2 | .cfg => 3 | .msg => 4 | _ => 5

/-- A request carries a PASID. -/
def hasPasid (h : TlpHead) : Bool := h.attr.getLsbD 3

/-- The binding entry of a domain and PASID, when it has one (R339), by the copy of B and C that sector `x` holds (R341). -/
def State.bindIdx (s : State) (x dom pasid : Nat) : Option Nat :=
  if pasid < 64 * tget 0 s.mem.pbCnt (x * 256 + dom) then some (64 * tget 0 s.mem.pbBase (x * 256 + dom) + pasid) else none

/-- A stop admits new work of a slice (R347). -/
def State.admits (s : State) (k x : Nat) : Bool := tget 0 s.ord.adm (k * 4096 + x) == 1

/-- Slice and class of a request, when its binding or default is valid (R275, R340). -/
def State.sliceFor (s : State) (k : Nat) (h : TlpHead) (dom e : Nat) (pb : Look) : Option (Nat × Nat) :=
  let r := if hasPasid h then
      if pb.st = 3 ∧ nbit pb.val 0 ∧ nbits pb.val 24 8 = dom ∧ nbits pb.val 32 20 = h.pasid.toNat then
        some (nbits pb.val 8 12, nbits pb.val 1 2) else none
    else some (nbits e 64 12, nbits e 14 2)
  match r with
  | some (x, c) => if s.admits k x then some (x, c) else none
  | none => none

/-- The checks of R277 on a translated request. -/
def State.entryOk (s : State) (k l : Nat) (h : TlpHead) (e off : Nat) : Bool :=
  let srcHost := s.fget F.STOP.LINK_DOM.KIND k l == 0
  let dstHost := !eMemep e && eHost e
  eV e && nbit (eAllow e) (allowBit h.kind) && (!ePvReq e || hasPasid h) && (srcHost != dstHost || ePeer e)
  && (if eMemep e then h.kind != .msg && (h.kind == .cfg || off + spanBytes h ≤ eUnitCnt e * 2097152)
      else eStop e < 56 && eStop e % 7 < 4)

/-- The flit header that every request gets. -/
def headOf (h : TlpHead) (opc : BitVec 6) (sgid dgid slice cls gen addr : Nat) : Flit :=
  { emptyFlit with
    opc := opc, cls := BitVec.ofNat 2 cls, slice := BitVec.ofNat 12 slice, sgen := BitVec.ofNat 4 gen, len := h.len,
    pois := BitVec.ofNat 1 (b2n h.ep), attr := h.attr, sgid := BitVec.ofNat 24 sgid, dgid := BitVec.ofNat 24 dgid,
    pasid := if hasPasid h then h.pasid else 0, addr := BitVec.ofNat 64 addr, be := h.be }

def opOf (t : TlpKind) : BitVec 6 :=
  match t with
  | .mwr => opMWR | .mrd => opMRD | .atom => opATOM | .cfg => opCFG | .msg => opMSG | .lockrd => opLOCKRD
  | .unlock => opUNLOCK | .cpl => opCPL | .cpld => opCPLD | .io => 0

/-- The core stop that is active (CTL.CORE_STS.ACTIVE). -/
def State.activeCore (s : State) : Nat := 56 + s.fget F.CTL.CORE_STS.ACTIVE

/-- The core stop that is active as stop `k` knows it (R496): from the target boundary of a HANDOVER it has taken, the core
that the message names, before it the other one. -/
def State.activeCoreAt (s : State) (k : Nat) : Nat :=
  match tget 0 s.boot.hoNote k with
  | 0 => s.activeCore
  | v => 56 + (if atOrAfter 48 (s.nodeTick k) ((v - 1) % 2 ^ 48) then (v - 1) / 2 ^ 48 else 1 - (v - 1) / 2 ^ 48)

/-- Pool FMA of an offset into a MEMEP window (R292). -/
def State.poolAddr (s : State) (x e off : Nat) : Nat :=
  s.poolFma x + (eUnitFirst e + off / 2097152) * 2097152 + off % 2097152

/-- Destination of a translated request: logical stop, link, EG_RID and ADDR. -/
def State.destOf (s : State) (k : Nat) (h : TlpHead) (e addr off : Nat) : Nat × Nat × Nat × Nat :=
  if eMemep e then
    if h.kind = .cfg then (s.activeCoreAt k, 0, eRid e, addr)
    else
      let fma := s.poolAddr (sectorOf k) e off
      (memStop (fmaLoc fma).1, 0, 0, fma)
  else (eStop e, eLink e, eRid e, addr)

/-- The verdict on the TLP at the head of a part. -/
inductive Verdict where
  | wait | reject (reason sgid : Nat) (miss : Bool) | accept (r : FormReq) (sgid : Nat) | error | consumed | emu
  deriving DecidableEq, Repr

/-- The payload of a TLP of `n` bytes in flits of 128 bytes, zero beyond the payload (R62). -/
def cutChunks (n : Nat) (ds : List Data) : List Data :=
  (List.range (ceilDiv n 128)).map (fun i => BitVec.ofNat 1024 ((ds.getD i 0).toNat % 2 ^ (8 * min 128 (n - 128 * i))))

def tlpChunks (t : Tlp) : List Data := cutChunks (4 * t.dws) t.payload

/-- Verdict on a request that names an entry, once its lookups are answered. -/
def State.judge (s : State) (k l : Nat) (x : RxTlp) (sgid addr off : Nat) (grp : Option Nat) : Verdict :=
  let h := x.tlp.head
  let dom := s.fget F.STOP.LINK_DOM.DOM k l
  let e := x.xl.val
  let pbMiss := hasPasid h && (s.bindIdx (sectorOf k) dom h.pasid.toNat).isNone
  if x.xl.st < 2 ∨ x.xl.key ≠ sgid ∨ (hasPasid h ∧ !pbMiss ∧ x.pb.st < 2) then .wait
  else if x.xl.st = 2 then .reject 4 sgid false
  else
    let ok : Bool := match grp with
      | some g => h.kind == .mwr && eV e && nbit (eAllow e) 1 && s.fbit F.REPL.GRP_CTL.V 0 0 0 g
      | none => s.entryOk k l h e off
    match (if ok then s.sliceFor k h dom e x.pb else none) with
    | none => .reject 4 sgid false
    | some (sl, c) =>
      let d := match grp with | some _ => (58, 0, l + 1, addr) | none => s.destOf k h e addr off
      if grp.isNone && !eMemep e && s.target k d.1 d.2.1 == 2 then .reject 5 sgid false
      else
        let dgid := match grp with | some _ => sgid | none => eDgid e
        .accept {
          hdr := headOf h (opOf h.kind) sgid dgid sl c (tget 0 s.ord.gen (k * 4096 + sl)) d.2.2.2,
          chunks := tlpChunks x.tlp, ldst := d.1, link := d.2.1, rid := d.2.2.1,
          lane := 3 * l + partOf h.kind, reqLink := l, pciTag := h.tag.toNat, reqId := h.reqId.toNat, use := .tlp,
          left := drawn h, rx := some (x.tlp.raw, h), inj := x.inj } sgid

/-- Slice 0 broadcasts carry the class and slice that no rule gives: DESIGN CHOICE, the fabric's own (CTL, slice 0). -/
def bcastReq (x : RxTlp) (l sgid : Nat) : FormReq :=
  { hdr := headOf x.tlp.head opMSG sgid sgid 0 0 0 x.tlp.head.addr.toNat, chunks := tlpChunks x.tlp, ldst := 58,
    rid := l + 1, lane := 3 * l, reqLink := l, rx := some (x.tlp.raw, x.tlp.head), inj := x.inj }

/-- Remove the first record of stop `k` that satisfies `p`. -/
def eraseFirst {α : Type} (p : α → Bool) : List α → List α
  | [] => []
  | a :: t => if p a then t else a :: eraseFirst p t

/-- The completer-side record that a completion from link `l` matches (R175). -/
def State.recFor (s : State) (k l tag : Nat) : Option CplRec :=
  (tget [] s.ord.recs k).find? (fun r => r.link == l && r.outTag == tag)

/-- A completion TLP is final (R67). -/
def tlpFinal (h : TlpHead) : Bool := cplFinal { emptyFlit with opc := opOf h.kind, addr := h.addr, len := h.len }

/-- The flit header of a completion that matched a record. -/
def cplHead (h : TlpHead) (r : CplRec) : Flit :=
  { emptyFlit with
    opc := opOf h.kind, dst := BitVec.ofNat 6 r.src, cls := r.hdr.cls, slice := BitVec.ofNat 12 r.slice,
    sgen := BitVec.ofNat 4 r.sgen, tag := BitVec.ofNat 12 r.tag, len := h.len, pois := BitVec.ofNat 1 (b2n h.ep),
    attr := h.attr &&& 7, sgid := r.hdr.dgid, dgid := r.hdr.sgid, addr := BitVec.ofNat 64 (h.addr.toNat % 2 ^ 23),
    be := BitVec.ofNat 16 (nbits h.be.toNat 11 3 * 2 ^ 11) }

/-- A completion that matched a record. -/
def cplReq (x : RxTlp) (l : Nat) (r : CplRec) : FormReq :=
  { hdr := cplHead x.tlp.head r, chunks := tlpChunks x.tlp, lane := 3 * l + 2, reqRing := some r.ring }

/-- Verdict on the head of a part (Table 9-2). -/
def State.verdict (s : State) (k l : Nat) (x : RxTlp) : Verdict :=
  let h := x.tlp.head
  let me := sgidOf (s.fget F.STOP.LINK_DOM.DOM k l) h.reqId.toNat
  let early := s.earlyCheck k x.tlp
  if partOf h.kind = 2 then
    if early ≠ 0 then .reject early me false
    else if (match tget none s.port.emu (linkKey k l) with | some m => m.reading && m.outTag == h.tag.toNat | none => false) then .emu
    else match s.recFor k l h.tag.toNat with
      | some r => .accept (cplReq x l r) me
      | none => .reject 6 me false
  else
    let a := s.aim k l h x.win
    let sg := match a with | .entry g _ _ => g | .group g _ _ => g | .bcast g => g | .none g _ => g | _ => me
    if early ≠ 0 then .reject early sg false
    else match a with
      | .entry g ad off => s.judge k l x g ad off none
      | .group g i ad => s.judge k l x g ad 0 (some i)
      | .bcast g => .accept (bcastReq x l g) g
      | .error => .error
      | .consumed => .consumed
      | .none g miss => .reject 4 g miss

/-! ### Lookups (R279, R341) -/

/-- The TLP keeps the window that it matches first (Table 10-7). -/
def State.matchWin (s : State) (k l : Nat) (x : RxTlp) : RxTlp :=
  match x.win with
  | some _ => x
  | none => if byAddress x.tlp.head then { x with win := s.windowOf k l x.tlp.head.addr.toNat } else x

/-- Make the lookups of one TLP that it still needs. -/
def State.lookFor (s : State) (k l : Nat) (y : RxTlp) : State × RxTlp :=
  let h := y.tlp.head
  if partOf h.kind = 2 ∨ s.earlyCheck k y.tlp ≠ 0 then (s, y)
  else
    let x := s.matchWin k l y
    let key := match s.aim k l h x.win with | .entry g _ _ => some g | .group g _ _ => some g | _ => none
    match key with
    | none => (s, x)
    | some g =>
      let r := if x.xl.st = 0 ∨ x.xl.key ≠ g then s.lookUp (sectorOf k) false g else (s, x.xl)
      let dom := s.fget F.STOP.LINK_DOM.DOM k l
      let p := match (if hasPasid h then s.bindIdx (sectorOf k) dom h.pasid.toNat else none) with
        | some i => if x.pb.st = 0 ∨ x.pb.key ≠ i then r.1.lookUp (sectorOf k) true i else (r.1, x.pb)
        | none => (r.1, x.pb)
      (p.1, { x with xl := r.2, pb := p.2 })

/-- Lookups of the first eight TLPs of a part, in order. -/
def State.lookAll (s : State) (k l p : Nat) : State :=
  let q := s.rx k l p
  let r := (q.take 8).foldl (fun (a : State × List RxTlp) x =>
    let b := a.1.lookFor k l x
    (b.1, a.2 ++ [b.2])) (s, [])
  r.1.setRx k l p (r.2 ++ q.drop 8)

/-! ### Admission -/

/-- A POSTED_REJECT record and what goes with it (R178, R471). DESIGN CHOICE: POST_REJ_CNT counts every message, those whose
record R471 suppresses too; with an empty history the record's SLICE, SGEN, SGID and ADDR are 0. -/
def State.postedReject (s : State) (k l : Nat) (h : TlpHead) : State :=
  let lk := linkKey k l
  let now := s.nodeTick k
  let hist := tget [] s.ord.hist lk
  let gid := sgidOf (s.fget F.STOP.LINK_DOM.DOM k l) h.reqId.toNat
  let e := hist.headD ⟨0, 0, 0, 0, 0⟩
  let n := (hist.filter (fun p => !tickPast now p.tick (s.fget F.STOP.POST_WIN k + 1))).length
  let code := h.be.toNat % 256
  let s1 := (s.rcInc F.STOP.POST_REJ_CNT k).record .stop k 0x45 (packBits [(0, 2, l), (8, 8, code)]) gid e.sgid
  let supp := tget 0 s.ord.rejSupp lk
  if tget 0 s.ord.rejAt lk = now + 1 then
    { s1 with ord := { s1.ord with rejSupp := tset 0 s1.ord.rejSupp lk (satAdd 16 supp 1) } }
  else
    ({ s1 with ord := { s1.ord with rejAt := tset 0 s1.ord.rejAt lk (now + 1), rejSupp := tset 0 s1.ord.rejSupp lk 0 } } : State).sendErq k
      (packBits [(0, 48, now), (48, 8, 0x11), (56, 8, code), (64, 8, k), (72, 2, l), (80, 24, gid), (104, 8, min 255 n),
        (112, 12, e.slice), (124, 4, e.sgen), (128, 24, e.sgid), (160, 52, e.addr / 4096), (224, 16, supp)])

/-- A completion passed: its record ends with the final one, a LOCKRD's failure frees the semaphore (R175, R258). -/
def State.cplPassed (s : State) (k l : Nat) (h : TlpHead) : State :=
  match s.recFor k l h.tag.toNat with
  | none => s
  | some r =>
    let s1 := if tlpFinal h then
        { s with ord := { s.ord with recs := tset [] s.ord.recs k (eraseFirst (fun x => x == r) (tget [] s.ord.recs k)) } }
      else s
    match tget none s.port.lock (linkKey k l) with
    | some lk =>
      if r.hdr.opc = opLOCKRD ∧ h.addr.toNat % 8 ≠ 0 ∧ lk.sgid = r.hdr.sgid.toNat ∧ lk.slice = r.slice then
        let df := tget [] s1.port.defer (linkKey k l)
        ({ s1 with port := { s1.port with
          lock := tset none s1.port.lock (linkKey k l) none, defer := tset [] s1.port.defer (linkKey k l) [] } } : State).setEgr k l 1
          (df ++ s1.egr k l 1) |>.fput F.STOP.LINK_STS.LOCKED false k l
      else s1
    | none => s1

/-- A completion of an emulation's read (R260): its bytes are collected. -/
def State.emuCpl (s : State) (k l : Nat) (t : Tlp) : State :=
  match tget none s.port.emu (linkKey k l) with
  | none => s
  | some m =>
    let bytes := numOfBytes (t.payload.flatMap (fun d => bytesOf 128 d.toNat)) % 2 ^ (32 * t.dws)
    let st := t.head.addr.toNat % 8
    let m1 : Emu := { m with
      data := m.data + bytes * 2 ^ (8 * m.got), got := m.got + 4 * t.dws, pois := m.pois || t.head.ep,
      deadline := if st = 0 then m.deadline else 2 ^ 48 + st, reading := !tlpFinal t.head }
    { s with port := { s.port with emu := tset none s.port.emu (linkKey k l) (some m1) } }

/-- INGRESS_CHECK (R237–R239): the head of a part is admitted, rejected, or waits. -/
def State.ingressCheck (s0 : State) (k l p : Nat) : State :=
  if !s0.present k l || !(s0.lanePend k l p).isEmpty then s0
  else
    let s := s0.lookAll k l p
    match s.rx k l p with
    | [] => s
    | x :: rest =>
      let t := x.tlp
      let s1 := s.setRx k l p rest
      match s.verdict k l x with
      | .wait => s
      | .consumed => s1.xoffAll k
      | .error => (s1.postedReject k l t.head).xoffAll k
      | .emu => (s1.emuCpl k l t).xoffAll k
      | .reject reason sgid miss =>
        let s2 := if miss then s1.rcInc F.STOP.WIN_MISS_CNT k else s1
        (s2.ingReject k l reason sgid t x.inj).xoffAll k
      | .accept r _ =>
        let s2 := if p = 2 then s1.cplPassed k l t.head else s1
        let s3 := if t.head.kind = .lockrd then
            { s2 with port := { s2.port with lockFn := tset 0 s2.port.lockFn (linkKey k l) (1 + r.hdr.sgid.toNat % 65536) } }
          else s2
        s3.submit k r

/-- Admitted requests of a stop that satisfy `p` and are not formed are rejected after all (R347, R249). -/
def State.rejectWork (s : State) (k reason : Nat) (p : FormReq → Bool) : State :=
  let mine := fun (r : FormReq) => r.lane < 15 && !isRsp r.hdr.opc && p r
  let out := (s.formQ k).filter mine
  let s1 := s.setFormQ k ((s.formQ k).filter (fun r => !mine r))
  out.foldl (fun a r =>
    match r.rx with
    | some (raw, h) => (a.ingReject k (r.lane / 3) reason r.hdr.sgid.toNat ⟨raw, h, 0, []⟩ r.inj).xoffAll k
    | none => a) s1

/-- A transaction of a link has been formed: it counts in its sets, and its units are free (R237, R439). -/
def State.formCounts (s : State) (k : Nat) (r : FormReq) : State :=
  if 15 ≤ r.lane then s
  else
    let h := r.hdr
    let bytes := if dataUsed h.opc h.addr h.len then 4 * (if isRsp h.opc || h.opc == opMWR then lenUnits h.len else h.len.toNat) else 0
    (s.countTlp k (r.lane / 3) h.slice.toNat {
      rx := true, cls := h.cls.toNat, bytes := bytes, np := isNonPosted h.opc, pois := h.pois == 1 }).xoffAll k

/-- TRANSACTION_FORMED (R62, R100, R139, R439). -/
def State.formNext (s : State) (k : Nat) : State :=
  match s.formable k (s.formQ k) [] 0 with
  | none => s.transactionFormed k
  | some i =>
    match (s.formQ k)[i]? with
    | some r => (s.transactionFormed k).formCounts k r
    | none => s.transactionFormed k

/-! ### TLP_RECEIVED (R233, R236, R243, R476) -/

/-- LCI unit of a link and direction (R474): 0 towards the fabric, 1 towards the link controller. -/
def lciUnit (k l d : Nat) : Nat := 8 * k + 2 * l + d

/-- Invert bit `p` of a TLP: the header as received, then the payload it carries (Table 17-7). -/
def flipTlp (t : Tlp) (p : Nat) : Tlp :=
  if p < 256 then
    let raw := t.raw ^^^ BitVec.ofNat 256 (2 ^ p)
    { t with raw := raw, head := Config.parseHeader raw }
  else if p - 256 < 32 * t.dws then
    let i := (p - 256) / 1024
    { t with payload := t.payload.set i ((t.payload.getD i 0) ^^^ BitVec.ofNat 1024 (2 ^ ((p - 256) % 1024))) }
  else t

/-- A TLP is eligible at an LCI unit: the stop in TEST, and the opcode filter, which both kinds of unit have (R475, Table
17-11). -/
def State.fiTlpEligible (s : State) (k u : Nat) (t : Tlp) : Bool :=
  s.modeNow k == 2 && s.fif F.FI.FI_CTL.ARM 1 u == 1
  && (s.fif F.FI.FI_MATCH.OPC_EN 1 u == 0 || s.fif F.FI.FI_MATCH.OPC 1 u == (opOf t.head.kind).toNat)

/-- What an LCI unit holds. -/
def State.setHeld (s : State) (u : Nat) (h : Option LciHeld) : State :=
  { s with port := { s.port with held := tset none s.port.held u h } }

/-- A firing's ACTION on a TLP (Table 17-7). -/
def State.fiTlpFire (s : State) (k u : Nat) (t : Tlp) : List (Tlp × Bool) × State :=
  match s.fif F.FI.FI_CTL.ACTION 1 u with
  | 0 => ([], s)
  | 1 =>
    let t1 := flipTlp t (s.fif F.FI.FI_POS.POS0 1 u)
    ([(if s.fif F.FI.FI_CTL.NBITS2 1 u = 1 then flipTlp t1 (s.fif F.FI.FI_POS.POS1 1 u) else t1, true)], s)
  | 2 => ([], s.setHeld u (some { tlp := t, part := partOf t.head.kind, due := 0 }))
  | _ => ([], s.setHeld u (some {
      tlp := t, part := partOf t.head.kind, due := wrapAdd 48 (s.nodeTick k) (s.fif F.FI.FI_DLY.DLY 1 u) + 1 }))

/-- An LCI unit acts on a TLP: the TLPs that go on, each with its injection tag, in order (R476, R477). Behind a delayed TLP
the later ones of its part wait. -/
def State.fiLci (s : State) (k l d : Nat) (t : Tlp) : List (Tlp × Bool) × State :=
  let u := lciUnit k l d
  let r := if s.fiTlpEligible k u t then s.fiSee 1 u else (false, s)
  match tget none s.port.held u with
  | some h =>
    if h.part ≠ partOf t.head.kind then ([(t, false)], r.2)
    else if h.due = 0 then ([(t, false), (h.tlp, true)], r.2.setHeld u none)
    else ([], r.2.setHeld u (some { h with behind := h.behind ++ [t] }))
  | none => if r.1 then r.2.fiTlpFire k u t else ([(t, false)], r.2)

/-- A TLP enters its receive part, or is discarded whole when the part is full (R236). -/
def State.rxEnter (s : State) (k l : Nat) (t : Tlp) (inj : Bool) : State :=
  let p := partOf t.head.kind
  if s.rxFree k l p < unitsOf t then
    let sg := match s.aim k l t.head with | .entry g _ _ => g | .group g _ _ => g | _ => sgidOf (s.fget F.STOP.LINK_DOM.DOM k l) t.head.reqId.toNat
    ((s.rcInc F.STOP.LCI_OVR_CNT k 1 inj).record .stop k 0x52 (packBits [(0, 2, l), (4, 2, p)]) 0 0 inj).ingReject k l 7 sg t inj
  else (s.setRx k l p (s.rx k l p ++ [{ tlp := t, inj := inj }])).xoffPart k l p

/-- LCI_PROTOCOL (Table 9-4): event as in Table 16-11, 7 for a unit on a DOWN link. -/
def State.lciProto (s : State) (k l ev : Nat) (rec : Bool) : State :=
  let s1 := s.rcInc F.STOP.LCI_PROTO_CNT k
  if rec then s1.record .stop k 0x53 (packBits [(0, 2, l), (4, 3, ev), (8, 2, s.linkState k l)]) 0 else s1

/-- TLP_RECEIVED: a TLP that passes the LCI unit enters its receive part. -/
def State.tlpReceived (s : State) (k l : Nat) (t : Tlp) : State :=
  if !s.serves k then s
  else if !s.xbReady (lciBridge (s.socketOf k) l) then s
  else if !s.present k l then s.lciProto k l 7 false
  else if s.linkState k l = 0 then s.lciProto k l 7 true
  else
    let r := s.fiLci k l 0 t
    r.1.foldl (fun a x => a.rxEnter k l x.1 x.2) r.2

def execTlpReceived (k : Stop) (l : Link) (t : Tlp) (s : State) : Res := .next (s.tlpReceived k l t)
def execIngressCheck (k : Stop) (l : Link) (p : Fin 3) (s : State) : Res := .next (s.ingressCheck k l p)
def execTransactionFormed (k : Stop) (s : State) : Res := .next (s.formNext k)

end Sys2Proof.Machine
end

