-- ==== Sys2Proof/Machine/PortOut.lean ====
section
/-! DEFINITION. The transmit side of a port stop: credits, spill, locked sequences, AtomicOp emulation, and the hand-over
of TLPs to the link controller (09_port_attachment R241, R242, R250–R254, R257–R261). -/

namespace Sys2Proof.Machine

def State.asm (s : State) (k l q : Nat) : List Egr := tget [] s.port.asm (partKey k l q)
def State.setAsm (s : State) (k l q : Nat) (x : List Egr) : State :=
  { s with port := { s.port with asm := tset [] s.port.asm (partKey k l q) x } }
def State.spill (s : State) (k l : Nat) : List SpillEnt := tget [] s.port.spill (linkKey k l)
def State.linkLock (s : State) (k l : Nat) : Option Lock := tget none s.port.lock (linkKey k l)
def State.linkEmu (s : State) (k l : Nat) : Option Emu := tget none s.port.emu (linkKey k l)
def State.deferred (s : State) (k l : Nat) : List Egr := tget [] s.port.defer (linkKey k l)

/-! ### Spill (R242, R250–R254, R290) -/

/-- MiB that `n` spill entries take, rounded up. -/
def spillMib (n : Nat) : Nat := ceilDiv (192 * n) 1048576

/-- The spill list and the use it shows. -/
def State.setSpill (s : State) (k l : Nat) (x : List SpillEnt) : State :=
  let s1 : State := { s with port := { s.port with spill := tset [] s.port.spill (linkKey k l) x } }
  (s1.fset F.STOP.SPILL_USE.HOLD_USED (spillMib (x.filter (fun e => e.q < 2)).length) k l).fset F.STOP.SPILL_USE.FLUSH_USED
    (spillMib (x.filter (fun e => 2 ≤ e.q)).length) k l

/-- Queue `q` of a link is in spill mode. -/
def State.inSpill (s : State) (k l q : Nat) : Bool := nbit (tget 0 s.port.mode (linkKey k l)) q

def State.setMode (s : State) (k l m : Nat) : State :=
  ({ s with port := { s.port with mode := tset 0 s.port.mode (linkKey k l) m } } : State).fput F.STOP.LINK_STS.HOLDING (m != 0) k l

/-- A link's place in its sector's areas: 4 * place of the socket + link. -/
def State.areaOf (s : State) (k l : Nat) : Nat := 4 * (s.portName k % 7) + l

/-- Quotas in force of area `a` of a sector, in MiB. -/
def State.holdQ (s : State) (x a : Nat) : Nat := s.eff (7 * x + a / 4) (7 + a % 4)
def State.flushQ (s : State) (x a : Nat) : Nat := s.eff (7 * x + a / 4) (11 + a % 4)

/-- Quotas in force at a port stop. -/
def State.quota (s : State) (k l part : Nat) : Nat := s.eff k (if part = 0 then 7 + l else 11 + l)

/-- Entries that a part of a link's area holds. -/
def State.spillCap (s : State) (k l part : Nat) : Nat := s.quota k l part * 1048576 / 192

/-- Byte of the channel's share at which a part of a link's area begins (R290). -/
def State.spillBase (s : State) (k l part : Nat) : Nat :=
  let x := sectorOf k
  let a := s.areaOf k l
  let before := ((List.range a).map (fun i => s.holdQ x i + s.flushQ x i)).foldl (· + ·) 0
  (before + (if part = 0 then 0 else s.quota k l 0)) * 1048576

/-- Address of a spill entry in its memory stop's channel-local space (Table 10-5). -/
def State.spillAddr (s : State) (k l part slot : Nat) : Nat :=
  packBits [(56, 8, 0xC0), (32, 4, 1), (0, 32, s.spillBase k l part + 192 * slot)]

/-- The 192 bytes of a spill entry (R290). -/
def spillBytes (f : Flit) (stamp q : Nat) : List (BitVec 8) :=
  let b := bytesOf 168 (flitBits f).toNat ++ bytesOf 8 stamp ++ bytesOf 12 q
  b ++ bytesOf 4 (crc32 b).toNat

/-- The next free place of a log, from its pointer on. -/
def State.spillSlot (s : State) (k l part : Nat) : Nat :=
  let cap := max 1 (s.spillCap k l part)
  let p := tget 0 s.port.spillPtr (linkKey k l * 2 + part)
  let inUse := (s.spill k l).filter (fun e => e.q / 2 == part)
  ((List.range (inUse.length + 1)).map (fun i => (p + i) % cap)).find? (fun i => inUse.all (fun e => e.slot != i)) |>.getD 0

/-- Insert an entry in stamp order. -/
def insSpill (x : SpillEnt) : List SpillEnt → List SpillEnt
  | [] => [x]
  | y :: t => if x.stamp < y.stamp then x :: y :: t else y :: insSpill x t

/-- Write one entry to a part of the link's spill area; its ingress entry is freed as the write is formed (R251). `q` is 0 P,
1 NP, 2 and 3 the flush of each. -/
def State.spillOne (s : State) (k l q : Nat) (x : Egr) : State :=
  let part := q / 2
  let slot := s.spillSlot k l part
  let e : SpillEnt := {
    stamp := x.stamp, q := q, slot := slot, slice := x.flit.slice.toNat, rid := x.rid, ring := x.ring, tick := x.tick,
    last := x.flit.last == 1, cls := x.flit.cls.toNat, synth := x.synth }
  let s1 := s.ownWrite k (7 * sectorOf k + 5) (s.spillAddr k l part slot) (spillBytes x.flit x.stamp (min q 2))
    [(x.flit.src.toNat, x.flit.cls.toNat, x.charge)]
  let s2 := (s1.setSpill k l (insSpill e (s1.spill k l))).rcInc F.STOP.SPILL_FLIT_CNT k
  { s2 with port := { s2.port with
    spillPtr := tset 0 s2.port.spillPtr (linkKey k l * 2 + part) ((slot + 1) % max 1 (s.spillCap k l part)) } }

/-- The oldest queued entry of the queues in spill mode. -/
def State.spillNext (s : State) (k l : Nat) : Option (Nat × Egr) :=
  let c := fun q => if s.inSpill k l q then (s.egr k l q).head? else none
  match c 0, c 1 with
  | some x, some y => if y.stamp < x.stamp then some (1, y) else some (0, x)
  | some x, none => some (0, x)
  | none, some y => some (1, y)
  | none, none => none

/-- Every entry of a queue in spill mode is written to spill, oldest first, while HOLD_Q has room (R242, R250, R253). -/
def State.spillOut (s : State) (k l : Nat) : Nat → State
  | 0 => s
  | n + 1 =>
    match s.spillNext k l with
    | none => { s with port := { s.port with full := tset 0 s.port.full (linkKey k l) 0 } }
    | some (q, x) =>
      if ((s.spill k l).filter (fun e => e.q < 2)).length < s.spillCap k l 0 then
        (((s.setEgr k l q (s.egr k l q).tail).spillOne k l q x)).spillOut k l n
      else if tget 0 s.port.full (linkKey k l) = 1 then s
      else
        let s1 : State := { s with port := { s.port with full := tset 0 s.port.full (linkKey k l) 1 } }
        (((s1.rcInc F.STOP.SPILL_FULL_CNT k).record .stop k 0x54 (packBits [(0, 2, l), (4, 1, q)])
          (s.fget F.STOP.SPILL_USE.HOLD_USED k l)).intSet .stop k 0)

def State.spillAll (s : State) (k l : Nat) : State := s.spillOut k l ((s.egr k l 0).length + (s.egr k l 1).length + 1)

/-- A queue of a link that is not DOWN leaves spill mode when its spill is empty (R242, R254). DESIGN CHOICE: while entries of
it wait for room (R253) its spill is not empty. -/
def State.spillSettle (s : State) (k l : Nat) : State :=
  if s.linkState k l = 0 then s
  else
    let m := tget 0 s.port.mode (linkKey k l)
    let waits := tget 0 s.port.full (linkKey k l) == 1
    let keep := fun q => nbit m q && ((s.spill k l).any (fun e => e.q == q) || (waits && !(s.egr k l q).isEmpty))
    let m1 := b2n (keep 0) + 2 * b2n (keep 1)
    if m1 = m then s else s.setMode k l m1

/-- SPILL_AGE (R242): the P head of a link in UP or PAUSED has waited P_AGE ticks. -/
def State.spillAge (s : State) (k l : Nat) : State :=
  let age := s.eff k 1
  match s.egr k l 0 with
  | [] => s
  | x :: _ =>
    if !s.present k l || s.linkState k l == 0 || age == 0 || s.inSpill k l 0 || !tickPast (s.nodeTick k) x.tick age then s
    else (s.setMode k l (tget 0 s.port.mode (linkKey k l) ||| 1)).spillAll k l

/-- Number of a spill entry in its read-back's tag. -/
def spillNum (l stamp : Nat) : Nat := 4 * stamp + l

/-- The CRC-32 of a spilled entry that has returned fails (R290). -/
def spillBad (r : RdDone) : Bool :=
  let v := flitsNum r.flits
  (crc32 (bytesOf 188 v)).toNat != nbits v 1504 32

/-- A spilled entry has returned: its flit, poisoned when it could not be recovered or its CRC fails (R290). -/
def spillFlit (r : RdDone) : Flit :=
  let f := flitOfBits (BitVec.ofNat 1344 (flitsNum r.flits))
  if rdBad r || spillBad r then { f with pois := 1 } else f

/-- An entry whose read-back was good and whose CRC fails is handled as a poisoned read of its memory stop (R290, R295). -/
def State.spillUe (s : State) (k : Nat) (r : RdDone) : State :=
  if rdBad r || !spillBad r then s
  else
    let c := sectorOf k
    (s.rcInc F.MEM.POIS_CNT c).memUeAt c true (match r.hdr with | some h => byteLoc c 0xC0 (spaceAddr h) | none => 0)

/-- Take the read-backs of a link that have ended. -/
def State.spillLanded (s : State) (k l : Nat) : Nat → State
  | 0 => s
  | n + 1 =>
    match s.takeDone k (fun u => match u with | .spill i => i % 4 == l | _ => false) with
    | none => s
    | some (r, s1) =>
      let i := match r.use with | .spill i => i | _ => 0
      ((s1.spillUe k r).setSpill k l ((s1.spill k l).map (fun e =>
        if e.st == 1 && spillNum l e.stamp == i then { e with st := 2, flit := some (spillFlit r) } else e))).spillLanded k l n

/-- Start read-backs, oldest first, at most 32 in flight (R242, R254). -/
def State.spillReads (s : State) (k l : Nat) : Nat → State
  | 0 => s
  | n + 1 =>
    if 32 ≤ ((s.spill k l).filter (fun e => e.st != 0)).length then s
    else match (s.spill k l).find? (fun e => e.st == 0) with
      | none => s
      | some e =>
        let s1 := s.ownRead k (7 * sectorOf k + 5) (s.spillAddr k l (e.q / 2) e.slot) 192 (.spill (spillNum l e.stamp))
        (s1.setSpill k l ((s1.spill k l).map (fun y => if y.stamp == e.stamp then { y with st := 1 } else y))).spillReads k l n

/-- SPILL_READBACK: while the link is UP, entries that have returned are taken and further ones asked for. -/
def State.spillReadback (s : State) (k l : Nat) : State :=
  let s1 := s.spillLanded k l 33
  if s1.present k l && s1.linkState k l == 1 then s1.spillReads k l 32 else s1

/-! ### What stands before the link -/

/-- A landed spill entry as an entry of its queue; it holds no ingress entry. -/
def SpillEnt.toEgr (e : SpillEnt) : Option Egr :=
  if e.st = 2 then e.flit.map (fun f => ⟨f, 4, e.ring, e.stamp, e.tick, e.rid, e.synth, 0⟩) else none

/-- The queue that a spill entry belongs to. -/
def SpillEnt.queue (e : SpillEnt) : Nat := e.q % 2

/-- Oldest entry of queue `q`, when it has landed. -/
def State.portHead (s : State) (k l q : Nat) : Option Egr :=
  match (s.spill k l).find? (fun e => e.queue == q), (s.egr k l q).head? with
  | none, x => x
  | some e, none => e.toEgr
  | some e, some x => if x.stamp < e.stamp then some x else e.toEgr

/-- The next flit of queue `q`: of the TLP that has partly left the queue, else its oldest entry. -/
def State.portNext (s : State) (k l q : Nat) : Option Egr :=
  match (s.asm k l q).getLast? with
  | none => s.portHead k l q
  | some a =>
    ((s.spill k l).filterMap (fun e => if e.queue = q then e.toEgr else none) ++ s.egr k l q).find? (fun x =>
      x.flit.src == a.flit.src && x.flit.seq == a.flit.seq + 1)

/-- Remove an entry by its stamp; with the last entry of its spill the queue leaves spill mode. -/
def State.portPop (s : State) (k l q stamp : Nat) : State :=
  ((s.setEgr k l q ((s.egr k l q).filter (fun x => x.stamp != stamp))).setSpill k l
    ((s.spill k l).filter (fun e => !(e.queue == q && e.stamp == stamp)))).spillSettle k l

/-- Entries of the P queue, spilled ones too, that a later head may have to wait for. -/
def State.portP (s : State) (k l : Nat) (x : Egr) : List Egr :=
  (s.spill k l).filterMap (fun e => if e.queue = 0 then
    some { flit := e.flit.getD { emptyFlit with sgid := x.flit.sgid }, charge := 4, ring := 0, stamp := e.stamp, tick := 0 } else none)
  ++ s.asm k l 0 ++ s.egr k l 0

/-- Payload bytes of the TLP that a flit belongs to. -/
def tlpBytes (f : Flit) : Nat :=
  if dataUsed f.opc f.addr f.len then 4 * (if isRsp f.opc || f.opc == opMWR then lenUnits f.len else f.len.toNat) else 0

/-- Units of a TLP of `n` payload bytes (R233). -/
def unitsFor (n : Nat) : Nat := max 1 (ceilDiv n 128)

/-- Transmit credits of a part in units (R241, R545). -/
def State.txCredits (s : State) (k l q : Nat) : Nat :=
  wrapSub 16 (tget 0 s.port.cred (partKey k l q)) (tget 0 s.port.used (partKey k l q))

/-- The link takes a TLP of `n` bytes of part `q` now (R241). -/
def State.linkTakes (s : State) (k l q n : Nat) : Bool :=
  s.present k l && s.xbReady (lciBridge (s.socketOf k) l) && s.linkState k l == 1 && tget 0 s.port.stall (linkKey k l) == 0 && unitsFor n ≤ s.txCredits k l q

/-- The requester is the semaphore's owner. -/
def Lock.owns (o : Lock) (f : Flit) : Bool := !o.emu && o.sgid == f.sgid.toNat && o.slice == f.slice.toNat

/-- The emulation under way holds the link's semaphore. -/
def State.emuHolds (s : State) (k l : Nat) : Bool := match s.linkLock k l with | some o => o.emu | none => false

/-- A P head that writes into the 64-byte block of an emulated AtomicOp waits for it (R261); a TLP that has begun to leave
goes on. -/
def State.guarded (s : State) (k l : Nat) (x : Egr) : Bool :=
  match s.linkEmu k l with
  | some m =>
    let a := x.flit.addr.toNat
    let b := m.req.flit.addr.toNat / 64
    s.emuHolds k l && (s.asm k l 0).isEmpty && x.flit.opc == opMWR
      && !(m.req.flit.sgid == x.flit.sgid && m.req.flit.slice == x.flit.slice)
      && a / 64 ≤ b && b ≤ (a + 4 * lenUnits x.flit.len - 1) / 64
  | none => false

/-- All flits of the head's completion are in the CPL queue. -/
def State.cplThere (s : State) (k l : Nat) (x : Egr) : Bool :=
  x.synth || (s.egr k l 2).any (fun y => y.flit.last == 1 && txnKey 0 y.flit == txnKey 0 x.flit)

/-- The TLP of another queue has begun to leave: a TLP's units are never interleaved with another's (R545). -/
def State.otherLeaves (s : State) (k l q : Nat) : Bool :=
  (List.range 3).any (fun r => r != q && !(s.asm k l r).isEmpty)

/-- A head can leave for the link. DESIGN CHOICE: a completion begins to leave once its last flit is in the queue. -/
def State.portOk (s : State) (k l q : Nat) (x : Egr) : Bool :=
  s.linkTakes k l q (tlpBytes x.flit) && !s.otherLeaves k l q
  && (match q with
      | 0 => !s.guarded k l x
      | 1 => !(x.flit.opc == opATOM && s.fbit F.STOP.LINK_CFG.ATOM_EMU k l && (s.linkEmu k l).isSome)
          && (match s.linkLock k l with | some o => o.owns x.flit | none => true)
      | _ => !(s.asm k l 2).isEmpty || s.cplThere k l x)

/-- The heads that may leave, in stamp order. -/
def State.portHeads (s : State) (k l : Nat) : List (Nat × Egr) :=
  let en := s.fbit F.STOP.ORD_CFG.IDO_EN k
  let hs := (List.range 3).filterMap (fun q =>
    match s.portNext k l q with
    | some x => if s.portOk k l q x && mayPass en q x (s.portP k l x) then some (q, x) else none
    | none => none)
  hs.foldl (fun a x => a.filter (fun y => y.2.stamp ≤ x.2.stamp) ++ x :: a.filter (fun y => x.2.stamp < y.2.stamp)) []

/-! ### Semaphores (R257–R259) -/

/-- The semaphore is free; the deferred entries rejoin the head of the NP queue in release order. -/
def State.releaseLock (s : State) (k l : Nat) : State :=
  let df := s.deferred k l
  (({ s with port := { s.port with
    lock := tset none s.port.lock (linkKey k l) none, defer := tset [] s.port.defer (linkKey k l) [] } } : State).setEgr k l 1
      (df ++ s.egr k l 1)).fput F.STOP.LINK_STS.LOCKED false k l

def State.takeLock (s : State) (k l : Nat) (f : Flit) (emu : Bool) : State :=
  ({ s with port := { s.port with
    lock := tset none s.port.lock (linkKey k l) (some ⟨f.sgid.toNat, f.slice.toNat, s.nodeTick k, emu⟩) } } : State).fput
      F.STOP.LINK_STS.LOCKED true k l

/-- The semaphore is released with an Unlock formed by the port stop (R258). -/
def State.forceUnlock (s : State) (k l : Nat) : State :=
  match s.linkLock k l with
  | none => s
  | some o => (s.releaseLock k l).toEgress k l { emptyFlit with
      opc := opUNLOCK, last := 1, sgid := BitVec.ofNat 24 o.sgid, slice := BitVec.ofNat 12 o.slice, be := 0x300 } 4 0 0 true

/-- NP heads of requesters other than the semaphore's owner move to the deferred list (R257). -/
def State.deferHeads (s : State) (k l : Nat) : Nat → State
  | 0 => s
  | n + 1 =>
    match s.linkLock k l, s.portNext k l 1 with
    | some o, some x =>
      if o.owns x.flit ∨ s.linkState k l ≠ 1 then s
      else
        let s1 := (s.portPop k l 1 x.stamp).rcInc F.STOP.LOCK_DEFER_CNT k
        (({ s1 with port := { s1.port with defer := tset [] s1.port.defer (linkKey k l) (s1.deferred k l ++ [x]) } } : State)).deferHeads k l n
    | _, _ => s

/-- LOCK_TIMEOUT (R258). -/
def State.lockTimeout (s : State) (k l : Nat) : State :=
  match s.linkLock k l with
  | none => s
  | some o =>
    if !tickPast (s.nodeTick k) o.since (s.eff k 2) then s
    else ((s.rcInc F.STOP.LOCK_TO_CNT k).record .stop k 0x55 l o.sgid o.sgid).forceUnlock k l

/-! ### TLPs towards the link (R241, R274, R175, R178, R439) -/

/-- The kind of an opcode. -/
def kindOf (o : BitVec 6) : TlpKind :=
  if o = opMWR then .mwr else if o = opMRD then .mrd else if o = opATOM then .atom else if o = opCFG then .cfg
  else if o = opMSG then .msg else if o = opLOCKRD then .lockrd else if o = opUNLOCK then .unlock
  else if o = opCPL then .cpl else if o = opCPLD then .cpld else .io

/-- Header of the TLP that a flit is sent as. The Completer ID is the completer's function; of completions that the port
stop or the fabric forms, CPL_ID (R60, R239). -/
def State.txHead (s : State) (k l : Nat) (x : Egr) (tag : Nat) : TlpHead :=
  let f := x.flit
  let rsp := isRsp f.opc
  { kind := kindOf f.opc, otherPrefix := false, reqId := BitVec.ofNat 16 x.rid,
    tag := BitVec.ofNat 16 (if rsp then x.rid / 65536 else tag),
    target := BitVec.ofNat 16 (if !rsp then f.dgid.toNat else if x.synth || x.charge == 4 then s.fget F.STOP.LINK_ID.CPL_ID k l
      else f.sgid.toNat),
    addr := if rsp then BitVec.ofNat 64 (f.addr.toNat % 2 ^ 23) else f.addr, be := f.be, len := f.len, attr := f.attr,
    pasid := f.pasid, ep := f.pois == 1 }

/-- The TLP of a transaction's flits. -/
def State.txTlp (s : State) (k l : Nat) (xs : List Egr) (tag : Nat) : Tlp :=
  match xs with
  | [] => default
  | x :: _ =>
    let h := { s.txHead k l x tag with ep := xs.any (fun y => y.flit.pois == 1) }
    let n := tlpBytes x.flit
    { raw := Config.formHeader h, head := h, dws := n / 4, payload := if n = 0 then [] else xs.map (fun y => y.flit.data) }

/-- Transmit units that a TLP takes. -/
def State.txUse (s : State) (k l q : Nat) (t : Tlp) : State :=
  let key := partKey k l q
  { s with port := { s.port with used := tset 0 s.port.used key (wrapAdd 16 (tget 0 s.port.used key) (unitsOf t)) } }

/-- A TLP crosses the LCI: it is what the controller was handed last. -/
def State.txCross (s : State) (k l : Nat) (t : Tlp) : State :=
  { s with port := { s.port with
    tx := tset none s.port.tx (linkKey k l) (some t),
    stuck := tset 0 s.port.stuck (linkKey k l) 0, told := tset 0 s.port.told (linkKey k l) 0 } }

/-- Hand a TLP of part `q` to the LCI unit of its direction, and what comes out of it to the link controller. A TLP that the
unit drops has its credits back at once (Table 17-7). -/
def State.txHand (s : State) (k l q : Nat) (t : Tlp) : State :=
  let r := s.fiLci k l 1 t
  let dropped := r.1.isEmpty && (tget none r.2.port.held (lciUnit k l 1)).isNone
  let s1 := if dropped then r.2 else r.2.txUse k l q t
  r.1.foldl (fun a x => a.txCross k l x.1) s1

/-- Counts of the TLP of a transaction's flits that leaves for the link (R83, R439). -/
def State.txCounts (s : State) (k l : Nat) (xs : List Egr) : State :=
  match xs with
  | [] => s
  | x :: _ =>
    let f := x.flit
    let bad := xs.any (fun y => y.flit.pois == 1)
    let s1 := if bad then s.rcInc F.STOP.POIS_RX_CNT k else s
    s1.countTlp k l f.slice.toNat { rx := false, cls := f.cls.toNat, bytes := tlpBytes f, synth := x.synth, pois := bad }

/-- The next outgoing tag of a link that no record or emulation uses. PRESUMED: tags of 10 bits. -/
def State.newOutTag (s : State) (k l : Nat) : Option Nat :=
  let from' := tget 0 s.ord.outTag (linkKey k l)
  ((List.range 1024).map (fun i => (from' + i) % 1024)).find? (fun t =>
    (s.recFor k l t).isNone && (match s.linkEmu k l with | some m => m.outTag != t | none => true))

def State.useOutTag (s : State) (k l t : Nat) : State :=
  { s with ord := { s.ord with outTag := tset 0 s.ord.outTag (linkKey k l) ((t + 1) % 1024) } }

/-- A completer-side record (R175). -/
def State.addRec (s : State) (k l t : Nat) (x : Egr) : State :=
  let f := x.flit
  { s with ord := { s.ord with recs := tset [] s.ord.recs k (tget [] s.ord.recs k ++
    [⟨t, l, f.src.toNat, f.tag.toNat, f.slice.toNat, f.sgen.toNat, x.ring, 0, f⟩]) } }

/-- The history of the link's posted writes (R178). -/
def State.addHist (s : State) (k l : Nat) (f : Flit) : State :=
  let lk := linkKey k l
  let h : PostHist := ⟨s.nodeTick k, f.slice.toNat, f.sgen.toNat, f.sgid.toNat, f.addr.toNat⟩
  { s with ord := { s.ord with hist := tset [] s.ord.hist lk ((h :: tget [] s.ord.hist lk).take 64) } }

/-- A whole transaction leaves for the link. -/
def State.txTxn (s : State) (k l q : Nat) (xs : List Egr) (x : Egr) : State :=
  let f := x.flit
  if q = 1 then
    match s.newOutTag k l with
    | none => s
    | some t =>
      let s1 := (((s.useOutTag k l t).addRec k l t x).txHand k l q (s.txTlp k l xs t)).txCounts k l xs
      if f.opc = opLOCKRD ∧ (s1.linkLock k l).isNone then s1.takeLock k l f false else s1
  else
    let s1 := (s.txHand k l q (s.txTlp k l xs 0)).txCounts k l xs
    if f.opc = opMWR then s1.addHist k l f else s1

/-! ### AtomicOp emulation (R260) -/

/-- The flit of an emulation's own read or write on the link. -/
def emuEgr (req : Egr) (opc : BitVec 6) (size v : Nat) : Egr :=
  let n := ceilDiv size 4
  { req with
    flit := { req.flit with
      opc := opc, len := BitVec.ofNat 10 n, fidx := 0, last := 1, data := BitVec.ofNat 1024 v, pois := 0,
      be := BitVec.ofNat 16 (nbits req.flit.be.toNat 11 5 * 2 ^ 11 + (if n = 1 then 0x0F else 0xFF)) },
    charge := 4 }

/-- An emulation starts: it takes the semaphore unless it runs under its requester's lock, and sends its read. -/
def State.emuStart (s : State) (k l : Nat) (x : Egr) (tag : Nat) : State :=
  let size := atomSize x.flit
  let own := (s.linkLock k l).isNone
  let rd := emuEgr x opMRD size 0
  let m : Emu := {
    req := x, outTag := tag, size := size, deadline := wrapAdd 48 (s.nodeTick k) (s.fget F.STOP.CTO k l) }
  let s1 := (if own then s.takeLock k l x.flit true else s).rcInc F.STOP.ATOM_EMU_CNT k
  let s2 : State := { s1 with port := { s1.port with emu := tset none s1.port.emu (linkKey k l) (some m) } }
  ((s2.useOutTag k l tag).txHand k l 1 (s.txTlp k l [rd] tag)).txCounts k l [rd]

/-- The emulation ends with its answer, and the semaphore is free if it took it. -/
def State.emuEnd (s : State) (k l : Nat) (m : Emu) (status : Nat) (pois : Bool) : State :=
  let s1 : State := { s with port := { s.port with emu := tset none s.port.emu (linkKey k l) none } }
  let s2 := if status = 0 then s1.answerData k m.req.flit m.req.ring (bytesOf m.size m.data) m.size 0 pois
    else s1.answerStatus k m.req.flit m.req.ring status m.size
  if s.emuHolds k l then s2.releaseLock k l else s2

/-- ATOM_EMU_READ_DONE: the emulation's read has completed or timed out. While the link is DOWN the emulation waits. -/
def State.emuReadDone (s : State) (k l : Nat) : State :=
  match s.linkEmu k l with
  | none => s
  | some m =>
    if m.write.isSome ∨ s.linkState k l = 0 then s
    else if m.reading then
      if tickPast (s.nodeTick k) m.deadline 1 then s.emuEnd k l m stCA false else s
    else if 2 ^ 48 ≤ m.deadline then s.emuEnd k l m (m.deadline - 2 ^ 48) false
    else if m.pois then s.emuEnd k l m 0 true
    else match atomOf m.req.flit m.data with
      | none => s.emuEnd k l m 0 false
      | some v => { s with port := { s.port with emu := tset none s.port.emu (linkKey k l) (some { m with write := some v }) } }

/-- The emulation's write leaves once the link takes it; then the requester is answered. -/
def State.emuWrite (s : State) (k l : Nat) : Option State :=
  match s.linkEmu k l with
  | some m =>
    match m.write with
    | some v =>
      let w := emuEgr m.req opMWR m.size v
      if s.linkTakes k l 0 m.size && (List.range 3).all (fun q => (s.asm k l q).isEmpty) then
        some ((((s.txHand k l 0 (s.txTlp k l [w] 0)).txCounts k l [w]).addHist k l w.flit).emuEnd k l m 0 false)
      else none
    | none => none
  | none => none

/-! ### EGRESS_SEND at a port stop -/

/-- An UNLOCK whose sender does not hold the semaphore is discarded and reported (R259). -/
def State.strayUnlock (s : State) (k l : Nat) (x : Egr) : State :=
  ((s.portPop k l 0 x.stamp).freeEgr k x).ingReject k l 8 x.flit.sgid.toNat (s.txTlp k l [x] 0) false

/-- Discard everything that waits for a link that drops its traffic (R256): entries that landed while it is DOWN. -/
def State.dropQueued (s : State) (k l : Nat) : State :=
  (List.range 3).foldl (fun a q =>
    (a.egr k l q).foldl (fun b x => (b.freeEgr k x).discardFlit k l x.flit) (a.setEgr k l q [])) s

/-- The head of queue `q` cannot be part of a whole TLP: the flits before it have been discarded, or those behind the ones
that have begun to leave will not come, as their source is isolated. -/
def State.portBroken (s : State) (k l q : Nat) : Bool :=
  match (s.asm k l q).getLast? with
  | none =>
    match s.portHead k l q with
    | some x => x.flit.fidx != 0 || (q == 2 && !s.cplThere k l x && s.knowsGone k x.flit.src.toNat)
    | none => false
  | some a => (s.portNext k l q).isNone && s.knowsGone k a.flit.src.toNat
      && (s.spill k l).all (fun e => e.queue != q || e.st == 2)

/-- What is left of such a TLP is discarded. DESIGN CHOICE: the manual names the discard (R465, R256) and not what becomes of
the TLP's other flits. -/
def State.dropBroken (s : State) (k l q : Nat) : State :=
  if !s.portBroken k l q then s
  else match s.asm k l q, s.portHead k l q with
    | [], some x => ((s.portPop k l q x.stamp).freeEgr k x).discardFlit k l x.flit
    | xs, _ => (xs.foldl (fun a x => a.discardFlit k l x.flit) s).setAsm k l q []

/-- One flit of head `x` leaves its queue; the TLP is handed over with its last flit. -/
def State.portLeave (s : State) (k l q : Nat) (x : Egr) : State :=
  let s1 := (s.portPop k l q x.stamp).freeEgr k x
  let xs := s.asm k l q ++ [x]
  if x.flit.last = 1 then (s1.setAsm k l q []).txTxn k l q xs (xs.headD x) else s1.setAsm k l q xs

/-- EGRESS_SEND for link `l` of port stop `k`. -/
def State.portSend (s : State) (k l : Nat) : State :=
  if !s.present k l then s
  else if s.drops k l then s.dropQueued k l
  else
    let s1 := (List.range 3).foldl (fun a q => a.dropBroken k l q) ((s.spillSettle k l).spillAll k l)
    let s2 := s1.deferHeads k l ((s1.egr k l 1).length + (s1.spill k l).length)
    match s2.emuWrite k l with
    | some t => t
    | none =>
      match s2.portHeads k l with
      | [] => s2
      | (q, x) :: _ =>
        if q = 0 ∧ x.flit.opc = opUNLOCK ∧ !x.synth then
          match s2.linkLock k l with
          | some o => if o.owns x.flit then (s2.portLeave k l 0 x).releaseLock k l else s2.strayUnlock k l x
          | none => s2.strayUnlock k l x
        else if q = 1 then
          match s2.newOutTag k l with
          | none => s2
          | some t =>
            if x.flit.opc = opATOM ∧ s2.fbit F.STOP.LINK_CFG.ATOM_EMU k l then
              ((s2.portPop k l 1 x.stamp).freeEgr k x).emuStart k l x t
            else s2.portLeave k l 1 x
        else s2.portLeave k l q x

def execTxCreditUpdate (k : Stop) (l : Link) (p : Fin 3) (n : BitVec 16) (s : State) : Res :=
  .next { s with port := { s.port with cred := tset 0 s.port.cred (partKey k l p) n.toNat } }
def execStallChange (k : Stop) (l : Link) (level : Bool) (s : State) : Res :=
  .next { s with port := { s.port with stall := tset 0 s.port.stall (linkKey k l) (b2n level) } }
def execSpillAge (k : Stop) (l : Link) (s : State) : Res := .next (s.spillAge k l)
def execSpillReadback (k : Stop) (l : Link) (s : State) : Res := .next (s.spillReadback k l)
def execLockTimeout (k : Stop) (l : Link) (s : State) : Res := .next (s.lockTimeout k l)
def execAtomEmuReadDone (k : Stop) (l : Link) (s : State) : Res := .next (s.emuReadDone k l)

/-- FI_LCI_DELAY_EXPIRE (R477): a TLP that an LCI unit has held for FI_DLY ticks goes on, and those that wait behind it;
none on a link that is DOWN. -/
def State.lciDelay (s : State) (k l d : Nat) : State :=
  match tget none s.port.held (lciUnit k l d) with
  | none => s
  | some h =>
    if h.due = 0 ∨ !atOrAfter 48 (s.nodeTick k) h.due then s
    else
      let s1 := s.setHeld (lciUnit k l d) none
      if s.linkState k l = 0 then s1
      else if d = 0 then h.behind.foldl (fun a t => a.rxEnter k l t false) (s1.rxEnter k l h.tlp true)
      else h.behind.foldl (fun a t => a.txCross k l t) (s1.txCross k l h.tlp)

def execFiLciDelayExpire (k : Stop) (l : Link) (d : Fin 2) (s : State) : Res := .next (s.lciDelay k l d)

end Sys2Proof.Machine
end

