-- ==== Sys2Proof/Machine/Links.lean ====
section
/-! DEFINITION. Link states and events, port modes, link notices and the link watch (09_port_attachment R243–R249, R255,
R256, R231). -/

namespace Sys2Proof.Machine

/-! ### Notices (R247–R249, R172) -/

/-- LINK_NOTICE broadcast (Table 9-6). -/
def State.sendNotice (s : State) (k l op nn : Nat) : State :=
  s.bcast (mkMsg [(60, 4, 7), (54, 6, 63), (48, 6, s.portName k), (46, 2, l), (44, 2, op), (36, 8, nn)])

/-- A new notice of a link: 0 HOLD, 1 RESUME_KEPT, 2 RESUME_FRESH, 3 DROP; it is sent again at the next 3 boundaries. -/
def State.newNotice (s : State) (k l op : Nat) : State :=
  let nn := s.fget F.STOP.LINK_STS.NN k l
  let n1 := if nn = 255 then 1 else nn + 1
  let s1 := (s.fset F.STOP.LINK_STS.NN n1 k l).sendNotice k l op n1
  { s1 with port := { s1.port with notice := tset none s1.port.notice (linkKey k l) (some ⟨op, n1, 3⟩) } }

/-- The repeats that a boundary owes (R248). -/
def State.noticeRepeat (s : State) (k l : Nat) : State :=
  match tget none s.port.notice (linkKey k l) with
  | none => s
  | some n =>
    let s1 := s.sendNotice k l n.op n.nn
    { s1 with port := { s1.port with
      notice := tset none s1.port.notice (linkKey k l) (if n.left ≤ 1 then none else some { n with left := n.left - 1 }) } }

/-- Notice number `a` is later than `b`, among 1 to 255 in a circle. -/
def nnLater (a b : Nat) : Bool := a != b && (a + 255 - b) % 255 ≤ 127

/-- Fields of a LINK_NOTICE (Table 9-6). -/
def noticePort (m : Msg) : Nat := vbits m 48 6
def noticeLink (m : Msg) : Nat := vbits m 46 2
def noticeOp (m : Msg) : Nat := vbits m 44 2
def noticeNn (m : Msg) : Nat := vbits m 36 8

/-- A receiver notes a notice whose NN is new; of two before one boundary the later (R248). -/
def State.noticeIn (s : State) (n : Nat) (m : Msg) : State :=
  let key := n * 256 + noticePort m * 4 + noticeLink m
  let nn := noticeNn m
  if tget 0 s.port.applied key = nn then s
  else match tget none s.port.arrived key with
    | some (_, old) =>
      if nnLater nn old then
        { s with port := { s.port with arrived := tset none s.port.arrived key (some (noticeOp m, nn)) } }
      else s
    | none => { s with port := { s.port with arrived := tset none s.port.arrived key (some (noticeOp m, nn)) } }

/-- What a notice does to one tag aimed at the link (Table 6-3). -/
def State.noticeTag (s : State) (k t op : Nat) : State :=
  let x := s.tag k t
  let b := s.nodeTick k
  match op with
  | 0 =>
    if x.st = 1 then s.setTag k t { x with st := 2, remain := if atOrAfter 48 x.deadline b then wrapSub 48 x.deadline b else 0 }
    else if x.st = 3 then s.setTag k t { x with st := 2, remain := 0 } else s
  | 1 => if x.st = 2 then s.setTag k t { x with st := 1, deadline := wrapAdd 48 b x.remain } else s
  | 2 => if x.st = 1 ∨ x.st = 2 ∨ x.st = 3 then s.expire k t stCA else s
  | _ => if x.st = 1 ∨ x.st = 2 ∨ x.st = 3 then s.expire k t stUR else s

/-- A notice applies at stop `n`: the target state, every tag aimed at the link, and, for DROP, the admitted requests that are
not formed yet (R249, R172). -/
def State.noticeApply (s : State) (n port l op nn : Nat) : State :=
  let key := n * 256 + port * 4 + l
  let s1 : State := { s with
    port := { s.port with applied := tset 0 s.port.applied key nn, arrived := tset none s.port.arrived key none },
    ord := { s.ord with tgt := tset 0 s.ord.tgt key (if op = 0 then 1 else if op = 3 then 2 else 0) } }
  let s2 := if op = 3 then s1.rejectWork n 5 (fun r => r.ldst == port && r.link == l) else s1
  (s2.tagsOf n).foldl (fun a e => if e.2.egStop = port ∧ e.2.egLink = l then a.noticeTag n e.1 op else a) s2

/-- Every notice that has arrived applies (R248). -/
def State.noticesApply (s : State) (n : Nat) : State :=
  (s.port.arrived.filter (fun e => e.1 / 256 == n)).foldl (fun a e =>
    match e.2 with
    | some (op, nn) => a.noticeApply n (e.1 % 256 / 4) (e.1 % 4) op nn
    | none => a) s

def execLinkNotice (n : Stop) (m : Msg) (s : State) : Res :=
  let s1 := s.take n m
  if !msgOk m then .next (s1.msgBad n m) else .next (s1.noticeIn n m)

def execLinkNoticeApply (n : Stop) (s : State) : Res := .next (s.noticesApply n)

/-! ### Discards (R255, R256) -/

/-- The entries that wait for a link: queued, spilled, deferred or partly gone, as (slice, class, last). -/
def State.linkEntries (s : State) (k l : Nat) : List (Nat × Nat × Bool) :=
  let e := fun (x : Egr) => (x.flit.slice.toNat, x.flit.cls.toNat, x.flit.last == 1)
  ((List.range 3).flatMap (fun q => (s.asm k l q ++ s.egr k l q).map e)) ++ (s.deferred k l).map e
  ++ (s.spill k l).map (fun x => (x.slice, x.cls, x.last))

/-- Every entry for the link is discarded, its records end and its semaphore is free; the answer is the number of
transactions discarded. -/
def State.discardLink (s : State) (k l : Nat) : State × Nat :=
  let es := s.linkEntries k l
  let s1 := ((List.range 3).flatMap (fun q => s.egr k l q) ++ s.deferred k l).foldl (fun a x => a.freeEgr k x) s
  let s2 := (List.range 3).foldl (fun a q => (a.setEgr k l q []).setAsm k l q []) s1
  let s3 : State := { s2 with
    port := { s2.port with
      lock := tset none s2.port.lock (linkKey k l) none, defer := tset [] s2.port.defer (linkKey k l) [],
      emu := tset none s2.port.emu (linkKey k l) none, full := tset 0 s2.port.full (linkKey k l) 0 },
    ord := { s2.ord with recs := tset [] s2.ord.recs k ((tget [] s2.ord.recs k).filter (fun r => r.link != l)) } }
  let s4 := ((s3.setSpill k l []).setMode k l 0).fput F.STOP.LINK_STS.LOCKED false k l
  let s5 := s4.rcInc F.STOP.DROP_CNT k es.length
  let s6 := es.foldl (fun a e => if e.2.2 then a.countDisc k l e.1 e.2.1 else a) s5
  (s6, (es.filter (fun e => e.2.2)).length)

/-- The record of a RETURN_FRESH that discarded transactions (R255). The spec states neither its SGID nor its header
bytes: free values. -/
def State.freshRecord (s : State) (k l n : Nat) : State :=
  if n = 0 then s
  else
    let a := s.fresh
    let b := a.2.fresh
    b.2.sendErq k (ingRecord (s.nodeTick k) 5 k l (s.modeNow k) a.1 (min n 65535) b.1)

/-- Fresh-return discard of R255. -/
def State.freshDiscard (s : State) (k l : Nat) : State :=
  let r := s.discardLink k l
  r.1.freshRecord k l r.2

/-! ### Link events (Table 9-4) -/

/-- Event codes (R545): 0 PAUSE, 1 RESUME, 2 DOWN, 3 RETURN_KEPT, 4 RETURN_FRESH. -/
def State.linkEntry (s : State) (k l ev : Nat) : State :=
  s.sillage k 0x04 (packBits [(0, 2, l), (2, 3, ev), (5, 2, s.linkState k l), (7, 2, s.modeNow k),
    (16, 8, s.fget F.STOP.LINK_STS.NN k l)])

def State.setLink (s : State) (k l toward : Nat) : State :=
  let s1 := s.fset F.STOP.LINK_STS.STATE toward k l
  { s1 with port := { s1.port with
    paused := tset 0 s1.port.paused (linkKey k l) (if toward = 2 then s.nodeTick k + 1 else 0),
    stuck := tset 0 s1.port.stuck (linkKey k l) 0, told := tset 0 s1.port.told (linkKey k l) 0 } }

/-- DOWN in SERVICE: HOLD notice, P and NP in spill mode (R250). -/
def State.holdLink (s : State) (k l : Nat) : State := ((s.newNotice k l 0).setMode k l 3).spillAll k l

/-- DOWN elsewhere: DROP notice and discard (R256). -/
def State.dropLink (s : State) (k l : Nat) : State := ((s.discardLink k l).1).newNotice k l 3

/-- DOWN from UP or PAUSED. -/
def State.linkDown (s : State) (k l : Nat) : State :=
  let s1 := (s.rcInc F.STOP.LINK_DOWN_CNT k).setLink k l 0
  (if s1.modeNow k = 1 then s1.holdLink k l else s1.dropLink k l).linkEntry k l 2

/-- RETURN_FRESH while UP or PAUSED. -/
def State.freshAlive (s : State) (k l : Nat) : State :=
  let s1 := (((s.rcInc F.STOP.LCI_PROTO_CNT k).rcInc F.STOP.LINK_DOWN_CNT k).setLink k l 1).fset F.STOP.LINK_STS.LAST_RET 2 k l
  ((s1.newNotice k l 2).freshDiscard k l).linkEntry k l 4

/-- A link event as Table 9-4 gives. -/
def State.linkEvent (s : State) (k l ev : Nat) : State :=
  if !s.serves k then s
  else if !s.present k l then s.lciProto k l ev false
  else if tget 0 s.boot.lciRun (s.portName k) = 0 then s.rcInc F.STOP.LCI_PROTO_CNT k
  else match s.linkState k l, ev with
    | 0, 0 => s.lciProto k l 0 true
    | 0, 1 => s.lciProto k l 1 true
    | 0, 2 => s
    | 0, 3 =>
      let s1 := ((s.setLink k l 1).fset F.STOP.LINK_STS.LAST_RET 1 k l).newNotice k l 1
      (s1.spillSettle k l).linkEntry k l 3
    | 0, _ =>
      let s1 := ((s.setLink k l 1).fset F.STOP.LINK_STS.LAST_RET 2 k l).newNotice k l 2
      (s1.freshDiscard k l).linkEntry k l 4
    | 1, 0 => ((s.rcInc F.STOP.PAUSE_CNT k).setLink k l 2).linkEntry k l 0
    | 1, 2 => s.linkDown k l
    | 1, 4 => s.freshAlive k l
    | 1, _ => s.rcInc F.STOP.LCI_PROTO_CNT k
    | _, 0 => s
    | _, 1 => (s.setLink k l 1).linkEntry k l 1
    | _, 2 => s.linkDown k l
    | _, 3 => (((s.rcInc F.STOP.LCI_PROTO_CNT k).setLink k l 1).fset F.STOP.LINK_STS.LAST_RET 1 k l).linkEntry k l 3
    | _, _ => s.freshAlive k l

def execPause (k : Stop) (l : Link) (s : State) : Res := .next (s.linkEvent k l 0)
def execResume (k : Stop) (l : Link) (s : State) : Res := .next (s.linkEvent k l 1)
def execDown (k : Stop) (l : Link) (s : State) : Res := .next (s.linkEvent k l 2)
def execReturnKept (k : Stop) (l : Link) (s : State) : Res := .next (s.linkEvent k l 3)
def execReturnFresh (k : Stop) (l : Link) (s : State) : Res := .next (s.linkEvent k l 4)

/-- LCI_EV_CODE_UNDEFINED (R545): codes 5 to 7 are counted and otherwise ignored. -/
def execLciEvCodeUndefined (k : Stop) (_ : Link) (s : State) : Res :=
  .next (if s.serves k then s.rcInc F.STOP.LCI_PROTO_CNT k else s)

/-! ### Port modes (R245, R246) -/

/-- A write of PORT_MODE: MODE and, at the next boundary, MODE_NOW. -/
def State.portModeWrite (s : State) (k : Nat) (w : Word) : State :=
  let m := vbits w 0 2
  if !isPortStop k then s
  else if (m = 1 ∧ s.fabState ≠ 1) ∨ (m = 2 ∧ !s.fbit F.GLB.TEST_STS.UNLOCKED) then s.pgErr .stop k 0x504
  else
    let s1 := s.fset F.STOP.PORT_MODE.MODE m k
    { s1 with boot := { s1.boot with modeNext := tset 0 s1.boot.modeNext k (m + 1) } }

/-- MODE_NOW changes at a boundary, with the mode-change rows of Table 9-4 for links that are DOWN. In STARTUP of the
fabric every port stop is in STARTUP, and outside SERVICE none is in SERVICE. -/
def State.portModeChange (s : State) (k : Nat) : State :=
  match tget 0 s.boot.modeNext k with
  | 0 => s
  | v =>
    let toward := if s.fabState = 0 then 0 else if s.fabState = 2 ∧ v = 2 then 3 else v - 1
    let old := s.modeNow k
    let s0 : State := { s with boot := { s.boot with modeNext := tset 0 s.boot.modeNext k 0 } }
    if toward = old then s0
    else
      let s1 := (s0.fset F.STOP.PORT_MODE.MODE_NOW toward k).sillage k 0x05 (packBits [(0, 2, old), (2, 2, toward)])
      (List.range 4).foldl (fun a l =>
        if !a.present k l || a.linkState k l != 0 then a
        else if toward = 1 then a.holdLink k l
        else if old = 1 then a.dropLink k l
        else a) s1

def execPortModeWrite (k : Stop) (w : Word) (s : State) : Res := .next ((s.touch .stop k).portModeWrite k w)
def execPortModeChange (k : Stop) (s : State) : Res := .next (s.portModeChange k)

/-! ### The link watch (R244) -/

/-- A link is UP with something to send. -/
def State.linkBusy (s : State) (k l : Nat) : Bool :=
  s.linkState k l == 1 && (List.range 3).any (fun q => (s.portNext k l q).isSome)

/-- LINK_WATCH: an episode that has lasted WATCH ticks is recorded once. -/
def State.linkWatch (s : State) (k l : Nat) : State :=
  let lk := linkKey k l
  let w := s.eff k (3 + l)
  let now := s.nodeTick k
  let p := tget 0 s.port.paused lk
  let u := tget 0 s.port.stuck lk
  let pauseLong := p != 0 && tickPast now (p - 1) w
  let stuckLong := u != 0 && s.linkBusy k l && tickPast now (u - 1) w
  if w = 0 ∨ tget 0 s.port.told lk = 1 ∨ !(pauseLong || stuckLong) then s
  else
    let s1 := ((s.rcInc F.STOP.WATCH_CNT k).record .stop k 0x56 (packBits [(0, 2, l), (4, 1, if pauseLong then 0 else 1)])
      (now % 2 ^ 32)).intSet .stop k 0
    { s1 with port := { s1.port with told := tset 0 s1.port.told lk 1 } }

/-- The watch's start of a link that is UP, busy and accepts nothing. -/
def State.watchMark (s : State) (k l : Nat) : State :=
  let lk := linkKey k l
  if !s.linkBusy k l then
    if s.linkState k l = 1 then { s with port := { s.port with stuck := tset 0 s.port.stuck lk 0, told := tset 0 s.port.told lk 0 } } else s
  else if tget 0 s.port.stuck lk = 0 then { s with port := { s.port with stuck := tset 0 s.port.stuck lk (s.nodeTick k + 1) } }
  else s

def execLinkWatch (k : Stop) (l : Link) (s : State) : Res := .next (s.linkWatch k l)

/-! ### What a boundary does at a port stop -/

/-- Completer-side records and emulations age, but not on a link that is DOWN in SERVICE (R175, Table 9-9). -/
def State.portAge (s : State) (k : Nat) : State :=
  let held := fun l => s.linkState k l == 0 && s.modeNow k == 1
  let rs := (tget [] s.ord.recs k).map (fun r => if held r.link then r else { r with age := r.age + 1 })
  let live := rs.filter (fun r => r.age < s.eff k 15)
  let s1 : State := { s with ord := { s.ord with recs := tset [] s.ord.recs k live } }
  (List.range 4).foldl (fun a l =>
    match a.linkEmu k l with
    | some m => if held l && m.reading then
        { a with port := { a.port with emu := tset none a.port.emu (linkKey k l) (some { m with deadline := wrapAdd 48 m.deadline 1 }) } }
      else a
    | none => a) s1

/-- The per-tick duties of one link. -/
def State.linkTick (s : State) (k l : Nat) : State :=
  if !s.present k l then s
  else
    let s2 := if s.drops k l then s.dropQueued k l else (s.spillAge k l).spillAll k l
    ((s2.lockTimeout k l).emuReadDone k l).watchMark k l |>.linkWatch k l

/-- The notices that a boundary sends again at a port stop. -/
def State.noticesRepeat (s : State) (k : Nat) : State := (List.range 4).foldl (fun a l => a.noticeRepeat k l) s

/-- The per-tick duties of a port stop: notices, mode, links. -/
def State.portTick (s : State) (k : Nat) : State :=
  if !isPortStop k then s
  else
    let s1 := ((s.portAge k).noticesRepeat k).portModeChange k
    let s2 : State := { s1 with boot := { s1.boot with lciRun := tset 0 s1.boot.lciRun k 1 } }
    (List.range 4).foldl (fun a l => a.linkTick k l) s2

end Sys2Proof.Machine
end

