-- ==== Sys2Proof/Machine/Spare.lean ====
section
/-! DEFINITION. The spare port stop: its claims and the switch of a socket onto it and back (09_port_attachment
R262–R266). -/

namespace Sys2Proof.Machine

def State.setSpareRes (s : State) (k r : Nat) : State := s.fset F.STOP.SPARE_CTL.CLAIM_RES r k

/-- A write of SPARE_CTL that is refused with a CLAIM_RES code. -/
def State.spareRefuse (s : State) (k r : Nat) : State := (s.setSpareRes k r).pgErr .stop k 0x570

/-- Store CLAIM, SOCKET and FORCED. -/
def State.spareStore (s : State) (k v : Nat) : State :=
  (((s.fset F.STOP.SPARE_CTL.CLAIM (nbits v 0 2) k).fset F.STOP.SPARE_CTL.SOCKET (nbits v 2 2) k).fset
    F.STOP.SPARE_CTL.FORCED (nbits v 4 1) k).setSpareRes k 0

/-- A switch or a return starts: its first step, the second when FORCED. -/
def State.spareStart (s : State) (k : Nat) (back : Bool) : State :=
  let s1 : State := { s with boot := { s.boot with spareBack := tset 0 s.boot.spareBack k (b2n back) } }
  (s1.fput F.STOP.SPARE_CTL.GO true k).fset F.STOP.SPARE_CTL.PHASE (if s1.fbit F.STOP.SPARE_CTL.FORCED k then 2 else 1) k

/-- A REPAIR claim takes effect, with its switch when GO is set. -/
def State.spareRepair (s : State) (k v : Nat) : State :=
  let s1 := s.spareStore k v
  if nbit v 5 then s1.spareStart k false else s1

/-- Any link that stop `p` serves has entries in spill. -/
def State.socketSpilled (s : State) (p : Nat) : Bool := (List.range 4).any (fun l => !(s.spill p l).isEmpty)

/-- A write of SPARE_CTL (R262–R266). DESIGN CHOICE: while a switch is under way, or a socket is served and CLAIM is not
NONE, a write is refused with code 1. -/
def State.spareWrite (s : State) (k : Nat) (w : Word) : State :=
  let v := w.toNat
  let claim := nbits v 0 2
  let cur := s.fget F.STOP.SPARE_CTL.CLAIM k
  let go := nbit v 5
  if !isSpareStop k then s.spareRefuse k 3
  else if s.fget F.STOP.SPARE_CTL.PHASE k ≠ 0 then s.spareRefuse k 1
  else if s.spareServes k then
    if claim = 0 ∧ go ∧ !nbit v 4 ∧ s.socketSpilled k then s.spareRefuse k 2
    else if claim = 0 ∧ go then ((s.fset F.STOP.SPARE_CTL.FORCED (nbits v 4 1) k).setSpareRes k 0).spareStart k true
    else s.spareRefuse k 1
  else if claim = 0 then (if go then s.spareRefuse k 1 else s.spareStore k v)
  else if claim = 2 then (if cur = 1 then s.spareRefuse k 1 else s.spareStore k v)
  else if claim = 1 then
    if go ∧ !nbit v 4 ∧ s.socketSpilled (7 * sectorOf k + nbits v 2 2) then s.spareRefuse k 2
    else if cur = 2 then
      { s.setSpareRes k 0 with boot := { s.boot with claimNext := tset none s.boot.claimNext k (some v) } }
    else s.spareRepair k v
  else s.spareRefuse k 1

/-- Test traffic queued at the spare is discarded (R262): what waits for its links, its receive parts, its admitted requests
and the transactions of which nothing has been granted; the stop's own work goes on. -/
def State.dropTest (s : State) (k : Nat) : State :=
  let s1 := (List.range 4).foldl (fun a l => (List.range 3).foldl (fun b q => b.setRx k l q []) (a.discardLink k l).1) s
  let gone := fun (t : FTxn) => !t.own && !t.numbered
  let s2 := ((s1.queue k).filter gone).foldl (fun a t => a.refund k t) s1
  (s2.setQueue k ((s2.queue k).filter (fun t => !gone t))).setFormQ k ((s2.formQ k).filter (fun r => 15 ≤ r.lane))

/-- The leaving and the receiving stop of the switch under way at spare `sp`. -/
def State.spareEnds (s : State) (sp : Nat) : Nat × Nat :=
  if tget 0 s.boot.spareBack sp = 1 then (sp, s.portName sp) else (s.portName sp, sp)

/-- Every stop's active route entry of the socket names the receiving stop. -/
def State.routedTo (s : State) (p toward : Nat) : Bool := (List.range 60).all (fun k => s.routePhys k p == toward)

/-- Nothing waits at the leaving stop to leave for its links, and its receive parts are formed. -/
def State.portEmpty (s : State) (k : Nat) : Bool :=
  (List.range 4).all (fun l =>
    (s.spill k l).isEmpty && (s.deferred k l).isEmpty && (s.linkEmu k l).isNone
    && (List.range 3).all (fun q => (s.egr k l q).isEmpty && (s.asm k l q).isEmpty && (s.rx k l q).isEmpty))
  && (s.formQ k).all (fun r => 15 ≤ r.lane)

/-- Move a table's value from one key to another. -/
def tmove {α : Type} [DecidableEq α] (d : α) (t : Tbl α) (a b : Nat) : Tbl α := tset d (tset d t b (tget d t a)) a d

/-- Link states, semaphores and transmit credits of link `l` are copied from stop `a` to stop `b` (Table 9-8, step 5). -/
def State.linkCopy (s : State) (a b l : Nat) : State :=
  let s1 := [F.STOP.LINK_STS.STATE, F.STOP.LINK_STS.HOLDING, F.STOP.LINK_STS.LOCKED, F.STOP.LINK_STS.LAST_RET,
    F.STOP.LINK_STS.NN].foldl (fun t f => t.fset f (t.fget f a l) b l) s
  let x := linkKey a l
  let y := linkKey b l
  let p := s1.port
  let cred := (List.range 3).foldl (fun t q => tset 0 t (partKey b l q) (tget 0 t (partKey a l q))) p.cred
  let used := (List.range 3).foldl (fun t q => tset 0 t (partKey b l q) (tget 0 t (partKey a l q))) p.used
  { s1 with
    port := { p with
      cred := cred, used := used, stall := tmove 0 p.stall x y, lock := tmove none p.lock x y, mode := tmove 0 p.mode x y,
      notice := tmove none p.notice x y, paused := tmove 0 p.paused x y, stuck := tmove 0 p.stuck x y,
      told := tmove 0 p.told x y, lockFn := tmove 0 p.lockFn x y },
    ord := { s1.ord with outTag := tmove 0 s1.ord.outTag x y } }

/-- The leaving stop's links are gone. -/
def State.linkGone (s : State) (a l : Nat) : State :=
  [F.STOP.LINK_STS.STATE, F.STOP.LINK_STS.HOLDING, F.STOP.LINK_STS.LOCKED, F.STOP.LINK_STS.XOFF].foldl (fun t f => t.fset f 0 a l) s

/-- The socket mux moves: the receiving stop serves the socket from now on, SERVED_BY_SPARE says which. DEDUCED: a
link's notice numbers go on when the switch is forced too. -/
def State.muxMove (s : State) (sp : Nat) : State :=
  let e := s.spareEnds sp
  let back := tget 0 s.boot.spareBack sp == 1
  let p := s.portName sp
  let forced := s.fbit F.STOP.SPARE_CTL.FORCED sp
  let nn := fun (a : State) l => a.fset F.STOP.LINK_STS.NN (a.fget F.STOP.LINK_STS.NN e.1 l) e.2 l
  let s1 := if forced then (List.range 4).foldl nn s
    else
      let t := (List.range 4).foldl (fun a l => a.linkCopy e.1 e.2 l) s
      { t with ord := { t.ord with recs := tset [] (tset [] t.ord.recs e.2 (tget [] t.ord.recs e.1)) e.1 [] } }
  let s2 := (List.range 4).foldl (fun a l => a.linkGone e.1 l) s1
  let s3 := (s2.fput F.STOP.SOCKET_STS.SERVED_BY_SPARE (!back) p).fput F.STOP.SPARE_CTL.GO false sp
  let s4 := if back then s3.fset F.STOP.SPARE_CTL.CLAIM 0 sp else s3
  let s5 := (s4.fset F.STOP.SPARE_CTL.PHASE 7 sp).xoffAll e.2
  if forced then (List.range 4).foldl (fun a l => if a.present e.2 l then a.linkEvent e.2 l 4 else a) s5 else s5

/-- A boundary at the spare: a waiting REPAIR claim, then the steps of Table 9-8. -/
def State.spareTick (s : State) (sp : Nat) : State :=
  let s0 := match tget none s.boot.claimNext sp with
    | some v => (({ s with boot := { s.boot with claimNext := tset none s.boot.claimNext sp none } } : State).dropTest sp).spareRepair sp v
    | none => s
  let e := s0.spareEnds sp
  let go := fun (n : Nat) => (s0.fset F.STOP.SPARE_CTL.PHASE n sp).xoffAll e.1
  match s0.fget F.STOP.SPARE_CTL.PHASE sp with
  | 1 => go 2
  | 2 => if !s0.routedTo (s0.portName sp) e.2 then s0
         else if s0.fbit F.STOP.SPARE_CTL.FORCED sp then s0.muxMove sp else go 3
  | 3 => if (s0.tagsOf e.1).isEmpty then go 4 else s0
  | 4 => if s0.fbit F.GLB.EPOCH_STS.DRAINED && s0.portEmpty e.1 && (s0.tagsOf e.1).isEmpty then s0.muxMove sp else s0
  | 7 => if (s0.ret e.1).isEmpty then s0.fset F.STOP.SPARE_CTL.PHASE 0 sp else s0
  | _ => s0

def execSpareClaimRepair (k : Stop) (sock : Fin 4) (forced : Bool) (s : State) : Res :=
  .next ((s.touch .stop k).spareWrite k (BitVec.ofNat 32 (packBits [(0, 2, 1), (2, 2, sock), (4, 1, b2n forced)])))
def execSpareClaimTest (k : Stop) (s : State) : Res := .next ((s.touch .stop k).spareWrite k 2)
def execSpareGo (k : Stop) (sock : Fin 4) (forced : Bool) (s : State) : Res :=
  .next ((s.touch .stop k).spareWrite k (BitVec.ofNat 32 (packBits [(0, 2, 1), (2, 2, sock), (4, 1, b2n forced), (5, 1, 1)])))
def execSpareReturn (k : Stop) (forced : Bool) (s : State) : Res :=
  .next ((s.touch .stop k).spareWrite k (BitVec.ofNat 32 (packBits [(4, 1, b2n forced), (5, 1, 1)])))

end Sys2Proof.Machine
end

