-- ==== Sys2Proof/Machine/Engine.lean ====
section
/-! DEFINITION. Queue contexts, descriptors and their execution by the engines (11_data_movers R305–R320). -/

namespace Sys2Proof.Machine

/-- The data-mover stop of an engine. -/
def engStop (e : Nat) : Nat := 7 * e + 6

/-- STATE codes of an engine: 0 IN_SVC, 1 LEAVING, 2 OUT, 3 FAILED. -/
def State.engState (s : State) (e : Nat) : Nat := s.fget F.ENG.ENG_STS.STATE e

def qKey (e q : Nat) : Nat := e * 65536 + q

/-! ### Contexts (Table 11-1) -/

/-- The context that 512 bits spell. -/
def ctxOf (b : Nat) : QCtx :=
  { v := nbit b 0, st := nbits b 1 3, cls := nbits b 4 2, pv := nbit b 6, pushq := nbit b 7, ring := nbits b 8 4,
    slice := nbits b 12 12, dom := nbits b 24 8, pasid := nbits b 32 20, ringFn := nbits b 64 16, recFn := nbits b 80 16,
    ringBase := nbits b 128 64, recBase := nbits b 192 64, head := nbits b 256 16, tail := nbits b 272 16,
    fetched := nbits b 288 16, sgen := nbits b 304 4, land := nbits b 308 3 }

/-- The 512 bits of a context. -/
def QCtx.bits (c : QCtx) : Nat :=
  packBits [(0, 1, b2n c.v), (1, 3, c.st), (4, 2, c.cls), (6, 1, b2n c.pv), (7, 1, b2n c.pushq), (8, 4, c.ring),
    (12, 12, c.slice), (24, 8, c.dom), (32, 20, c.pasid), (64, 16, c.ringFn), (80, 16, c.recFn), (128, 64, c.ringBase),
    (192, 64, c.recBase), (256, 16, c.head), (272, 16, c.tail), (288, 16, c.fetched), (304, 4, c.sgen), (308, 3, c.land)]

/-- A context that a WRITE may store (R336): reserved bits 0, RING_SIZE 4 to 16, aligned bases. RING_SIZE has 4 bits. -/
def ctxValid (b : Nat) : Bool :=
  let c := ctxOf b
  nbits b 52 12 == 0 && nbits b 96 32 == 0 && nbits b 311 201 == 0 && 4 ≤ c.ring
  && c.ringBase % 4096 == 0 && c.recBase % max 4096 (32 * 2 ^ c.ring) == 0

/-- A queue's context is in the engine's SRAM. -/
def State.resident (s : State) (e q : Nat) : Bool :=
  (tget 0 s.eng.away (qKey e q) == 1) != (q / 8192 == e && tget 0 s.eng.noHome e == 0)

/-- Residence of a queue; a removed context is blank. -/
def State.setResident (s : State) (e q : Nat) (r : Bool) : State :=
  let home := q / 8192 == e && tget 0 s.eng.noHome e == 0
  { s with eng := { s.eng with
    away := tset 0 s.eng.away (qKey e q) (b2n (r != home)),
    ctx := if r then s.eng.ctx else tset {} s.eng.ctx (qKey e q) {} } }

/-- The context of a queue. In LEAVING every resident queue is MOVING from the state in which it was (Table 11-9). -/
def State.qctx (s : State) (e q : Nat) : QCtx :=
  let c := tget {} s.eng.ctx (qKey e q)
  if s.engState e = 1 ∧ c.st ≠ 4 then { c with st := 4, land := c.st } else c

def State.setQctx (s : State) (e q : Nat) (c : QCtx) : State :=
  { s with eng := { s.eng with ctx := tset {} s.eng.ctx (qKey e q) c } }

/-- State of a queue, or the one it takes when its move ends. -/
def QCtx.now (c : QCtx) : Nat := if c.st = 4 then c.land else c.st
def QCtx.setNow (c : QCtx) (n : Nat) : QCtx := if c.st = 4 then { c with land := n } else { c with st := n }

/-- Resident queues with a stored context, ascending. -/
def State.storedQueues (s : State) (e : Nat) : List Nat :=
  ((s.eng.ctx.filter (fun x => x.1 / 65536 == e)).map (fun x => x.1 % 65536)).filter (fun q => s.resident e q)

def State.execOf (s : State) (e : Nat) : List Dsc := tget [] s.eng.exec e

/-- The descriptors in execution; EXEC shows their number. -/
def State.setExec (s : State) (e : Nat) (l : List Dsc) : State :=
  ({ s with eng := { s.eng with exec := tset [] s.eng.exec e l } } : State).fset F.ENG.ENG_STS.EXEC l.length e

/-- Descriptors of a queue in execution. -/
def State.execOn (s : State) (e q : Nat) : List Dsc := (s.execOf e).filter (fun d => d.q == q)

def State.availOf (s : State) (q : Nat) : List (Nat × Nat) := tget [] s.eng.avail q
def State.setAvail (s : State) (q : Nat) (l : List (Nat × Nat)) : State :=
  { s with eng := { s.eng with avail := tset [] s.eng.avail q l } }
def State.setFetch (s : State) (e q : Nat) (f : Option (Nat × Nat × Nat)) : State :=
  { s with eng := { s.eng with fetch := tset none s.eng.fetch (qKey e q) f } }

/-! ### Descriptors (Tables 11-2, 11-3) -/

def dOp (b : Nat) : Nat := nbits b 0 4
def dRec (b : Nat) : Bool := nbit b 4
def dIrq (b : Nat) : Bool := nbit b 5
def dFlush (b : Nat) : Bool := nbit b 6
def dRo (b : Nat) : Bool := nbit b 7
def dPv (b : Nat) : Bool := nbit b 8
def dSrcFn (b : Nat) : Nat := nbits b 16 16
def dDstFn (b : Nat) : Nat := nbits b 32 16
def dSrc (b : Nat) : Nat := nbits b 64 64
def dDst (b : Nat) : Nat := nbits b 128 64
def dLen (b : Nat) : Nat := nbits b 192 32
def dPattern (b : Nat) : Nat := nbits b 256 64
def dUser (b : Nat) : Nat := nbits b 320 64

/-- R309, without the context's PV. -/
def dscOk (b : Nat) (pv : Bool) : Bool :=
  let op := dOp b
  1 ≤ op && op ≤ 4 && (if op == 4 then dLen b == 0 else 1 ≤ dLen b && dLen b ≤ 2 ^ 30)
  && nbits b 9 7 == 0 && nbits b 48 16 == 0 && nbits b 224 32 == 0 && nbits b 384 128 == 0 && (!dPv b || pv)

/-- Bytes that a descriptor moves. -/
def Dsc.total (d : Dsc) : Nat := if dOp d.bits = 4 then 0 else dLen d.bits

/-- First chunk that did not succeed, in address order, as a status. -/
def Dsc.chunkStatus (d : Dsc) : Nat :=
  match d.chunks.find? (fun c => c.st == 4 || c.pois) with
  | some c => if c.st = 4 then c.status else 4
  | none => 0

/-- No further chunk is formed: a chunk failed, the status was fixed before, or the descriptor was aborted. -/
def Dsc.ended (d : Dsc) : Bool := d.aborted || d.fixed != 0 || d.chunks.any (fun c => c.st == 4)

def Dsc.status (d : Dsc) : Nat := if d.aborted then 8 else if d.fixed ≠ 0 then d.fixed else d.chunkStatus

/-- Bytes of the chunks that succeeded before the status was fixed. -/
def Dsc.doneBytes (d : Dsc) : Nat :=
  ((d.chunks.takeWhile (fun c => c.st == 3 && !c.pois)).map (fun c => c.len)).foldl (· + ·) 0

/-! ### Transactions of an engine (R315) -/

/-- The header that every transaction of a queue carries. -/
def QCtx.header (c : QCtx) (opc : BitVec 6) (fn : Nat) (pasid : Bool) : Flit :=
  { emptyFlit with
    opc := opc, cls := BitVec.ofNat 2 c.cls, slice := BitVec.ofNat 12 c.slice, sgen := BitVec.ofNat 4 c.sgen,
    sgid := BitVec.ofNat 24 (sgidOf c.dom fn), attr := if pasid then 8 else 0,
    pasid := if pasid then BitVec.ofNat 20 c.pasid else 0 }

/-- LEN and byte enables of `n` bytes at `a`. -/
def withSpan (h : Flit) (a n : Nat) : Flit :=
  let dws := max 1 (ceilDiv (a % 4 + n) 4)
  let last := (a + n - 1) % 4
  let first := 0xF * 2 ^ (a % 4) % 16
  let lastBe := 2 ^ (last + 1) - 1
  let be := if n = 0 then 0 else if dws = 1 then first &&& lastBe else first + 16 * lastBe
  { h with addr := BitVec.ofNat 64 (a - a % 4), len := BitVec.ofNat 10 dws, be := BitVec.ofNat 16 be }

/-- A transaction of an engine joins those that wait for translation; the answer is its number. -/
def State.engAsk (s : State) (e kind q : Nat) (c : QCtx) (fn : Nat) (hdr : Flit) (chunks : List Data) (bytes : Nat) : Nat × State :=
  let n := s.eng.nextId
  let r : EReq := { num := n, kind := kind, q := q, dom := c.dom, fn := fn, hdr := hdr, chunks := chunks, bytes := bytes }
  (n, { s with eng := { s.eng with nextId := n + 1, wait := tset [] s.eng.wait e (tget [] s.eng.wait e ++ [r]) } })

/-- A read of `n` bytes. -/
def State.engRead (s : State) (e kind q : Nat) (c : QCtx) (fn a n : Nat) (pasid : Bool) : Nat × State :=
  s.engAsk e kind q c fn (withSpan (c.header opMRD fn pasid) a n) [] n

/-- A write of bytes; the payload begins with the DW of the first one. -/
def State.engWrite (s : State) (e kind q : Nat) (c : QCtx) (fn a : Nat) (bytes : List (BitVec 8)) (pasid ro pois : Bool) : Nat × State :=
  let h := withSpan (c.header opMWR fn pasid) a bytes.length
  let h1 := { h with attr := h.attr ||| (if ro then 2 else 0), pois := BitVec.ofNat 1 (b2n pois) }
  s.engAsk e kind q c fn h1 (chunksOf 33 (bytesOf (a % 4) 0 ++ bytes)) bytes.length

/-- The checks of R277 on an engine's transaction: PEER is not consulted (R315). -/
def entryOkEng (e : Nat) (h : Flit) (bytes : Nat) : Bool :=
  eV e && nbit (eAllow e) (if h.opc = opMRD then 0 else 1) && (!ePvReq e || h.attr.getLsbD 3)
  && (if eMemep e then h.addr.toNat + max 1 bytes ≤ eUnitCnt e * 2097152 else eStop e < 56 && eStop e % 7 < 4)

/-- Change the chunk of number `id`. -/
def State.modChunk (s : State) (e id : Nat) (f : EChunk → EChunk) : State :=
  s.setExec e ((s.execOf e).map (fun d => { d with chunks := d.chunks.map (fun c => if c.id = id then f c else c) }))

/-- The flush read of number `id` is over: with another status than OK it gives the descriptor its status (Table 11-5). -/
def State.flushEnd (s : State) (e id status : Nat) : State :=
  s.setExec e ((s.execOf e).map (fun d => if d.flushId = id + 1 then { d with flush := 2, fixed := status } else d))

/-- A fetch has failed. DESIGN CHOICE: the descriptor it was to bring first ends with that status as it is started, and the
others are fetched again. -/
def State.fetchFail (s : State) (e q id status : Nat) : State :=
  match tget none s.eng.fetch (qKey e q) with
  | some (n, i, _) =>
    if n ≠ id then s
    else
      let f := s.fresh
      let s1 := (f.2.setFetch e q none).setQctx e q { s.qctx e q with fetched := (i + 1) % 65536 }
      s1.setAvail q (s1.availOf q ++ [(i, f.1 % 2 ^ 64 * 2 ^ 320 + status * 2 ^ 512)])
  | none => s

/-- A transaction cannot be formed: NO_ROUTE or TARGET_DROPPED. -/
def State.engFail (s : State) (e : Nat) (r : EReq) (status : Nat) : State :=
  match r.kind with
  | 0 => s.fetchFail e r.q r.num status
  | 1 | 2 => s.modChunk e r.num (fun c => { c with st := 4, status := status })
  | 3 => s.flushEnd e r.num status
  | 5 => { s with eng := { s.eng with events := tset [] s.eng.events e ((tget [] s.eng.events e).filter (fun x => x.1 != r.num)) } }
  | _ => s

/-- Chunk reads of one descriptor are formed in address order, and so are its chunk writes (R314). -/
def State.engLane (s : State) (e : Nat) (r : EReq) : Nat :=
  match (s.execOf e).find? (fun d => d.chunks.any (fun c => c.id == r.num)) with
  | some d => 16 + 2 * (d.q * 65536 + d.index) + b2n (r.hdr.opc == opMWR)
  | none => 15

/-- Form a transaction whose entry is `v`: a multicast write, or one to the entry's target. -/
def State.engForm (s : State) (e : Nat) (r : EReq) (v : Nat) : State :=
  let use : TagUse := if r.kind = 0 then .desc r.num else .chunk r.num
  let k := engStop e
  let wr := r.hdr.opc == opMWR
  let req : FormReq := {
    hdr := r.hdr, chunks := r.chunks, ldst := 58, use := use, left := r.bytes, job := r.num + 1, lane := s.engLane e r }
  let count := fun (t : State) => if wr then t.countEvt .eng e 0x203 r.bytes { slice := some r.hdr.slice.toNat } else t
  if 0xFFC0 ≤ r.fn then
    if wr && eV v && nbit (eAllow v) 1 && s.fbit F.REPL.GRP_CTL.V 0 0 0 (r.fn - 0xFFC0) then
      count (s.submit k { req with hdr := { r.hdr with dgid := r.hdr.sgid } })
    else s.engFail e r 5
  else if !entryOkEng v r.hdr r.bytes then s.engFail e r 5
  else if !eMemep v && s.target k (eStop v) (eLink v) == 2 then s.engFail e r 6
  else
    let fma := s.poolAddr e v r.hdr.addr.toNat
    let h := { r.hdr with
      dgid := BitVec.ofNat 24 (eDgid v), addr := if eMemep v then BitVec.ofNat 64 fma else r.hdr.addr }
    count (s.submit k { req with
      hdr := h, ldst := if eMemep v then memStop (fmaLoc fma).1 else eStop v, link := if eMemep v then 0 else eLink v,
      rid := eRid v, reqLink := 0 })

/-- The translation of a waiting transaction: formed, failed, or kept. -/
def State.engTry (s : State) (e : Nat) (r : EReq) : State × Bool :=
  let key := e * 65536 + r.num % 65536
  let l0 := tget {} s.mem.eLook key
  let a := if l0.st = 0 then s.lookUp e false (sgidOf r.dom r.fn) else (s, l0)
  let keep : State := { a.1 with mem := { a.1.mem with eLook := tset {} a.1.mem.eLook key a.2 } }
  let gone : State := { a.1 with mem := { a.1.mem with eLook := tset {} a.1.mem.eLook key {} } }
  match a.2.st with
  | 2 => (gone.engFail e r 5, true)
  | 3 => (gone.engForm e r a.2.val, true)
  | _ => (keep, false)

/-- Every waiting transaction whose translation is answered is formed; one that still waits holds back those of its
queue behind it. -/
def State.engTryAll (s : State) (e : Nat) : State :=
  let l := tget [] s.eng.wait e
  let s0 : State := { s with eng := { s.eng with wait := tset [] s.eng.wait e [] } }
  let r := l.foldl (fun (a : State × List EReq) x =>
    if a.2.any (fun y => y.q == x.q) then (a.1, a.2 ++ [x])
    else
      let b := a.1.engTry e x
      if b.2 then (b.1, a.2) else (b.1, a.2 ++ [x])) (s0, [])
  { r.1 with eng := { r.1.eng with wait := tset [] r.1.eng.wait e (r.2 ++ tget [] r.1.eng.wait e) } }

/-- A write of number `n` is not yet acknowledged, or not yet formed (R163, R317). -/
def State.jobOut (s : State) (e n : Nat) : Bool :=
  let k := engStop e
  (tget [] s.eng.wait e).any (fun r => r.num == n) || (s.formQ k).any (fun r => r.job == n + 1)
  || (s.queue k).any (fun t => t.job == n + 1) || (s.ret k).any (fun c => c.job == n + 1)
  || (match tget none s.arb.burst k with | some b => b.job == n + 1 | none => false)

/-! ### Fetching (R312) -/

/-- A slice admits new work at a data-mover stop; SLICE 0x000 is the fabric's own. -/
def State.engAdmits (s : State) (e x : Nat) : Bool := x == 0 || s.admits (engStop e) x

/-- Descriptors that the next fetch of a queue covers: up to 64, not across 4 KiB of the ring nor past its end. -/
def fetchSpan (c : QCtx) : Nat :=
  let size := 2 ^ c.ring
  let i := c.fetched % size
  min (min 64 (wrapSub 16 c.tail c.fetched)) (min (size - i) ((4096 - 64 * i % 4096) / 64))

/-- Start the fetch of a queue that may fetch. DESIGN CHOICE: a queue restarted (FETCHED = HEAD) with descriptors still in
execution fetches once they have retired. -/
def State.fetchQueue (s : State) (e q : Nat) : State :=
  let c := s.qctx e q
  let n := fetchSpan c
  if c.st ≠ 1 ∨ c.pushq ∨ n = 0 ∨ !(s.availOf q).isEmpty ∨ (tget none s.eng.fetch (qKey e q)).isSome
      ∨ !s.engAdmits e c.slice ∨ wrapSub 16 c.fetched c.head < (s.execOn e q).length then s
  else
    let a := (c.ringBase + 64 * (c.fetched % 2 ^ c.ring)) % 2 ^ 64
    let r := s.engRead e 0 q c c.ringFn a (64 * n) c.pv
    (r.2.setFetch e q (some (r.1, c.fetched, n))).setQctx e q { c with fetched := (c.fetched + n) % 65536 }

/-! ### Chunks (R305, R314) -/

/-- Bytes up to the next 4 KiB boundary of an address. -/
def toPage (a : Nat) : Nat := 4096 - a % 4096

/-- Length of the chunk at offset `off` of a descriptor. -/
def chunkLen (b off cap : Nat) : Nat :=
  let op := dOp b
  let n := min (dLen b - off) (max 1 cap)
  let n1 := if op = 2 then n else min n (toPage (dSrc b + off))
  if op = 3 then n1 else min n1 (toPage (dDst b + off))

/-- Bytes of a FILL from `a` on. -/
def fillBytes (pat a n : Nat) : List (BitVec 8) :=
  (List.range n).map (fun i => BitVec.ofNat 8 (nbits pat (8 * ((a + i) % 8)) 8))

def State.budget (s : State) (e : Nat) : Nat := tget 0 s.eng.budget e
def State.setBudget (s : State) (e v : Nat) : State := { s with eng := { s.eng with budget := tset 0 s.eng.budget e v } }

/-- Work of the engine that has not been formed into flits is below what its stop takes at once. DESIGN CHOICE: 8. -/
def State.engRoom (s : State) (e : Nat) : Bool :=
  (tget [] s.eng.wait e).length + ((s.formQ (engStop e)).filter (fun r => r.job != 0)).length < 8

/-- Replace the descriptor at place `i`. -/
def State.setDsc (s : State) (e i : Nat) (d : Dsc) : State := s.setExec e ((s.execOf e).set i d)

/-- The next chunk of descriptor `i` is formed if it can be: the read of a COPY or CHECK, the write of a FILL. A chunk that
waits for budget counts (Table 16-3). -/
def State.chunkNext (s : State) (e i : Nat) : Option State :=
  match (s.execOf e)[i]? with
  | none => none
  | some d =>
    let c := s.qctx e d.q
    let op := dOp d.bits
    let len := chunkLen d.bits d.next (s.fget F.ENG.CHUNK e)
    if d.ended ∨ d.total ≤ d.next ∨ !s.engRoom e then none
    else if op ≠ 1 ∧ s.budget e < len then none
    else
      let pasid := c.pv && dPv d.bits
      let r := if op = 2 then
          s.engWrite e 2 d.q c (dDstFn d.bits) ((dDst d.bits + d.next) % 2 ^ 64)
            (fillBytes (dPattern d.bits) (dDst d.bits + d.next) len) pasid (dRo d.bits) false
        else s.engRead e 1 d.q c (dSrcFn d.bits) ((dSrc d.bits + d.next) % 2 ^ 64) len pasid
      let s1 := if op = 1 then r.2 else r.2.setBudget e (s.budget e - len)
      let ch : EChunk := { id := r.1, off := d.next, len := len, st := if op = 2 then 2 else 0 }
      some (s1.setDsc e i { d with next := d.next + len, chunks := d.chunks ++ [ch] })

/-- The first chunk of descriptor `i` whose read has landed and whose write is to be formed next, in address order. -/
def Dsc.toWrite (d : Dsc) : Option EChunk :=
  if d.aborted || dOp d.bits != 1 then none
  else match d.chunks.find? (fun c => c.st != 3 && c.st != 2) with
    | some c => if c.st = 1 then some c else none
    | none => none

/-- Form the write of a COPY chunk once the budget has room for it. -/
def State.writeNext (s : State) (e i : Nat) : Option State :=
  match (s.execOf e)[i]? with
  | none => none
  | some d =>
    match d.toWrite with
    | none => none
    | some c =>
      if s.budget e < c.len then none
      else
        let q := s.qctx e d.q
        let r := s.engWrite e 2 d.q q (dDstFn d.bits) ((dDst d.bits + c.off) % 2 ^ 64) c.data (q.pv && dPv d.bits) (dRo d.bits) c.pois
        some ((r.2.setBudget e (s.budget e - c.len)).setDsc e i { d with
          chunks := d.chunks.map (fun x => if x.id = c.id then { x with id := r.1, st := 2, data := [] } else x) })

/-- Writes that have been acknowledged have succeeded. -/
def State.settleWrites (s : State) (e : Nat) : State :=
  s.setExec e ((s.execOf e).map (fun d => { d with
    chunks := d.chunks.map (fun c => if c.st = 2 && !s.jobOut e c.id then { c with st := 3 } else c) }))

/-- Chunks, in address order, of which nothing is under way: a landed COPY chunk is not written any more behind one that
failed. -/
def chunksOver : List EChunk → Bool → Bool
  | [], _ => true
  | c :: t, gone => (c.st == 3 || c.st == 4 || (c.st == 1 && gone)) && chunksOver t (gone || c.st == 4)

/-- Nothing of a descriptor is under way. -/
def Dsc.settled (d : Dsc) : Bool := (d.ended || d.total ≤ d.next) && chunksOver d.chunks d.aborted

/-- The flush read of a descriptor whose writes are over (R316, R317). DESIGN CHOICE: FLUSH has a read for COPY and FILL
alone, which have a DST_FN. -/
def State.flushNext (s : State) (e i : Nat) : Option State :=
  match (s.execOf e)[i]? with
  | none => none
  | some d =>
    if !d.settled ∨ d.flush ≠ 0 ∨ d.status ≠ 0 ∨ !dFlush d.bits ∨ dOp d.bits = 3 ∨ dOp d.bits = 4 then none
    else
      let c := s.qctx e d.q
      let r := s.engRead e 3 d.q c (dDstFn d.bits) (dDst d.bits) 0 (c.pv && dPv d.bits)
      some (r.2.setDsc e i { d with flush := 1, flushId := r.1 + 1 })

/-- One step of forming for the engine: the first descriptor, in the order of starting, for which something can be
formed. -/
def State.engStep (s : State) (e : Nat) : Option State :=
  (List.range (s.execOf e).length).findSome? (fun i =>
    match s.writeNext e i with
    | some t => some t
    | none => match s.flushNext e i with
      | some t => some t
      | none => s.chunkNext e i)

def State.engSteps (s : State) (e : Nat) : Nat → State
  | 0 => s
  | n + 1 => match s.engStep e with
    | some t => (t.engTryAll e).engSteps e n
    | none => s

/-! ### Starting (R312, R313) -/

def vtKey (e x : Nat) : Nat := e * 4096 + x

/-- A queue has a startable descriptor. -/
def State.startable? (s : State) (e q : Nat) : Bool :=
  let c := s.qctx e q
  c.st == 1 && s.engAdmits e c.slice && (s.execOn e q).length < 8
  && (match s.availOf q with
      | (_, b) :: _ => dOp b != 4 || (s.execOn e q).isEmpty
      | [] => false)

/-- Engine weight of a slice. -/
def State.engWt (s : State) (e x : Nat) : Nat := s.fget F.ENG.SW_DATA.WEIGHT e 0 0 x

/-- The slices of the queues `qs`, each once. -/
def State.slicesOf (s : State) (e : Nat) (qs : List Nat) : List Nat :=
  qs.foldl (fun l q => insUniq (s.qctx e q).slice l) []

/-- Queues of the engine with a startable descriptor. -/
def State.startables (s : State) (e : Nat) : List Nat := (s.storedQueues e).filter (fun q => s.startable? e q)

/-- The slices that have startable queues become the active ones; one that becomes active takes no time back (R313). DESIGN
CHOICE: among the active slices are those that were active before. -/
def State.vtActivate (s : State) (e : Nat) : State :=
  let slices := s.slicesOf e (s.startables e)
  let act := slices.filter (fun y => tget 0 s.eng.act (vtKey e y) == 1)
  let raise := match vMin (act.map (fun y => tget 0 s.eng.vt (vtKey e y))) with
    | some m => (slices.filter (fun x => !act.contains x)).foldl (fun t x => tset 0 t (vtKey e x) (vMax (tget 0 t (vtKey e x)) m)) s.eng.vt
    | none => s.eng.vt
  { s with eng := { s.eng with
      vt := raise, act := slices.foldl (fun t x => tset 0 t (vtKey e x) 1) (tdrop (fun i => i / 4096 == e) s.eng.act) } }

/-- Everything an engine can form now: fetches, chunks, flush reads; then the slices with startable descriptors are active. -/
def State.engPump (s : State) (e : Nat) : State :=
  let s1 := (s.engTryAll e).settleWrites e
  let s2 := if s1.engState e ≤ 1 then (s1.storedQueues e).foldl (fun a q => a.fetchQueue e q) s1 else s1
  ((s2.engTryAll e).engSteps e 64).vtActivate e

/-- Start the first descriptor of a queue. -/
def State.startDsc (s : State) (e q : Nat) : State :=
  match s.availOf q with
  | [] => s
  | (i, b) :: rest =>
    let c := s.qctx e q
    let st := b / 2 ^ 512
    let fixed := if st ≠ 0 then st else if dscOk b c.pv then 0 else 7
    let s1 := (s.setAvail q rest).setExec e (s.execOf e ++ [{ q := q, index := i, bits := b % 2 ^ 512, fixed := fixed }])
    let s2 := if fixed ≠ 7 then s1
      else (s1.rcInc F.ENG.BAD_DESC_CNT e).record .eng e 0x71 (packBits [(0, 16, q), (16, 16, i)]) (b % 2 ^ 32)
    s2.countEvt .eng e 0x201 1 { slice := some c.slice }

/-- Start the next descriptor of slice `x`: the queue after the one that started last, in rising order, of the startable
queues `mine`; the slice's virtual time moves on by its step. -/
def State.vtStart (s : State) (e x : Nat) (mine : List Nat) : State :=
  let last := tget 0 s.eng.rr (vtKey e x)
  match (mine.find? (fun q => last ≤ q)).or mine.head? with
  | none => s
  | some q =>
    (State.startDsc { s with eng := { s.eng with
      vt := tset 0 s.eng.vt (vtKey e x) (wrapAdd 32 (tget 0 s.eng.vt (vtKey e x)) (vStep (s.engWt e x))),
      rr := tset 0 s.eng.rr (vtKey e x) (q + 1) } } e q).engPump e

/-- DESC_START (R313): the slice with the smallest virtual time, its queues round-robin. -/
def State.descStart (s0 : State) (e : Nat) : State :=
  let s := s0.engPump e
  let qs := s.startables e
  let vt := fun x => tget 0 s.eng.vt (vtKey e x)
  if s.engState e ≠ 0 ∨ 64 ≤ (s.execOf e).length then s
  else match bestOf (fun x y => if vt x = vt y then decide (x < y) else vBefore (vt x) (vt y)) (s.slicesOf e qs) with
    | none => s
    | some x => s.vtStart e x (qs.filter (fun q => (s.qctx e q).slice == x))

/-! ### Ends of reads (R316) -/

/-- Status of Table 11-5 of an ended read. -/
def rdStatus (r : RdDone) : Nat :=
  if r.synth then 3 else if r.status = 0 then 0 else if r.status = 1 then 1 else 2

/-- Bytes that the data flits of completions carry, in the order of landing. -/
def rdBytes (r : RdDone) : List (BitVec 8) :=
  r.flits.flatMap (fun f => bytesOf (min 128 (4 * lenUnits f.len - 128 * f.fidx.toNat)) f.data.toNat)

/-- The bytes that a read asked for: its first DW may begin before them. -/
def rdWanted (r : RdDone) (len : Nat) : List (BitVec 8) :=
  let h := r.hdr.getD emptyFlit
  ((rdBytes r).drop (lowGap (h.be.toNat % 16))).take len

def rdPois (r : RdDone) : Bool := r.flits.any (fun f => f.pois == 1)

/-- DESC_FETCH_DONE: the descriptors become startable in index order; a fetch that failed ends the first of them. -/
def State.fetchDone (s : State) (e : Nat) : State :=
  match s.takeDone (engStop e) (fun u => match u with | .desc _ => true | _ => false) with
  | none => s
  | some (r, s1) =>
    let id := match r.use with | .desc n => n | _ => 0
    match s1.eng.fetch.find? (fun x => x.1 / 65536 == e && (match x.2 with | some (n, _, _) => n == id | none => false)) with
    | some (key, some (_, i, n)) =>
      let q := key % 65536
      let c := s1.qctx e q
      if c.now = 3 then s1.setFetch e q none
      else if rdStatus r ≠ 0 then (s1.fetchFail e q id (rdStatus r)).engPump e
      else if rdPois r then (s1.fetchFail e q id 4).engPump e
      else
        let v := rdBytes r
        let ds := (List.range n).map (fun j => ((i + j) % 65536, numOfBytes ((v.drop (64 * j)).take 64)))
        ((s1.setFetch e q none).setAvail q (s1.availOf q ++ ds)).engPump e
    | _ => s1

/-- CHUNK_READ_DONE: the read of a chunk, or a flush read, has ended. -/
def State.chunkDone (s : State) (e : Nat) : State :=
  let evs := (tget [] s.eng.events e).map (fun x => x.1)
  match s.takeDone (engStop e) (fun u => match u with | .chunk n => !evs.contains n | _ => false) with
  | none => s.engPump e
  | some (r, s1) =>
    let id := match r.use with | .chunk n => n | _ => 0
    let st := rdStatus r
    let sl := (r.hdr.getD emptyFlit).slice.toNat
    let op := fun (d : Dsc) => dOp d.bits
    let len := (((s1.execOf e).flatMap (fun d => d.chunks)).find? (fun c => c.id == id)).map (fun c => c.len)
    let check := (s1.execOf e).any (fun d => op d == 3 && d.chunks.any (fun c => c.id == id))
    let s2 := (s1.flushEnd e id st).modChunk e id (fun c =>
      if st ≠ 0 then { c with st := 4, status := st }
      else { c with st := if check then 3 else 1, pois := rdPois r, data := rdWanted r c.len })
    (s2.countEvt .eng e 0x204 (if st = 0 then len.getD 0 else 0) { slice := some sl }).engPump e

/-! ### Retirement (R317, R318, R329) -/

/-- The 32 bytes of a completion record (Table 11-6). -/
def recordBytes (d : Dsc) (ring tick : Nat) : List (BitVec 8) :=
  let crc := if dOp d.bits = 3 then (crc32 (d.chunks.flatMap (fun c => c.data))).toNat else 0
  bytesOf 32 (packBits [(0, 16, d.index), (16, 8, d.status), (24, 1, nbits d.index ring 1), (32, 32, d.doneBytes), (64, 32, crc),
    (128, 64, dUser d.bits), (192, 48, tick)])

/-- The statuses that stop a queue. -/
def stopsQueue (st : Nat) : Bool := [1, 2, 3, 5, 6, 7].contains st

/-- The descriptor in execution that may retire: the oldest of its queue, with nothing under way and its flush over. -/
def State.retirable (s : State) (e : Nat) : Option Dsc :=
  (s.execOf e).find? (fun d =>
    d.index == (s.qctx e d.q).head && d.settled
    && (d.status != 0 || !dFlush d.bits || dOp d.bits == 3 || dOp d.bits == 4 || d.flush == 2))

/-- A retirement while a sample is armed (R329): the first at least 4 cycles after the overflow is sampled. DESIGN CHOICE:
each retirement since then has taken a cycle, and idle cycles count. -/
def State.engSample (s : State) (e q index : Nat) : State :=
  let v := tget 0 s.cnt.smpEng e
  if v = 0 then s
  else
    let n := (v - 1) % 8
    if s.cycle - (v - 1) / 16 + n + 1 < 4 + (v - 1) / 8 % 2 then
      { s with cnt := { s.cnt with smpEng := tset 0 s.cnt.smpEng e (v + 1) } }
    else
      let s1 : State := { s with cnt := { s.cnt with smpEng := tset 0 s.cnt.smpEng e 0 } }
      let s2 := ((s1.fset F.ENG.SMP_STS.SKID n e).fset F.ENG.SMP_STS.CTR (s1.fget F.ENG.SMP_CFG.CTR e) e).fset F.ENG.SMP_REC.QUEUE q e
      (((s2.fset F.ENG.SMP_REC.INDEX index e).setWide F.ENG.SMP_TICK_LO.TICK_LO F.ENG.SMP_TICK_HI.TICK_HI
        (s.nodeTick (engStop e)) e).fput F.ENG.SMP_STS.VALID true e).intSet .eng e 1

/-- A retirement of slice `x`: it may take an armed sample, and it is counted; SKID counts one that makes the counter
overflow, in the overflow cycle itself. -/
def State.retireCounted (s : State) (e q index x : Nat) : State :=
  let s1 := s.engSample e q index
  let s2 := s1.countEvt .eng e 0x202 1 { slice := some x }
  let v := tget 0 s2.cnt.smpEng e
  if v = tget 0 s1.cnt.smpEng e then s2 else { s2 with cnt := { s2.cnt with smpEng := tset 0 s2.cnt.smpEng e (v + 9) } }

/-- The engine leaves IN_SVC: an armed sample is abandoned and counted (R329). -/
def State.engSampleLost (s : State) (e : Nat) : State :=
  if tget 0 s.cnt.smpEng e = 0 then s
  else ({ s with cnt := { s.cnt with smpEng := tset 0 s.cnt.smpEng e 0 } } : State).rcInc F.ENG.SMP_LOST_CNT e

/-- A queue stops: descriptors fetched and not started are fetched again after a restart; those pushed stay. -/
def State.haltQueue (s : State) (e q : Nat) : State :=
  (if (s.qctx e q).pushq then s else s.setAvail q []).setFetch e q none

/-- A descriptor error stops its queue and aborts the later descriptors in execution (Table 11-8). -/
def State.stopQueue (s : State) (e q : Nat) : State :=
  let s1 := (s.haltQueue e q).setQctx e q ((s.qctx e q).setNow 3)
  s1.setExec e ((s1.execOf e).map (fun d => if d.q = q then { d with aborted := true } else d))

/-- A flacon COPY counts the descriptors of its queue that retire, and notes the first that fails (R374). -/
def State.copyRetired (s : State) (q st : Nat) : State :=
  if s.fl.op = 4 ∧ s.fl.step = 2 ∧ q = s.fget F.GLB.FL_CPY_Q.QUEUE then
    if s.fl.skip ≠ 0 then { s with fl := { s.fl with skip := s.fl.skip - 1 } }
    else
      let e := match s.fl.err with
        | some x => some x
        | none => if st = 0 then none else some (s.fl.done, st)
      { s with fl := { s.fl with done := s.fl.done + 1, err := e } }
  else s

/-- Retire a descriptor. -/
def State.retire (s : State) (e : Nat) (d : Dsc) : State :=
  let st := d.status
  let c := s.qctx e d.q
  let pasid := c.pv && dPv d.bits
  let tick := s.nodeTick (engStop e)
  let at' := (c.recBase + 32 * (d.index % 2 ^ c.ring)) % 2 ^ 64
  let s1 := s.setExec e (eraseFirst (fun x => x == d) (s.execOf e))
  let s2 := if (dRec d.bits || st != 0) && !d.noRec then
      (s1.engWrite e 4 d.q c c.recFn at' (recordBytes d c.ring tick) pasid false false).2 else s1
  let hd := (c.head + 1) % 65536
  let s3 := s2.setQctx e d.q { c with head := hd, fetched := if c.fetched = c.head then hd else c.fetched }
  let s4 := if dIrq d.bits && !d.noRec then
      let r := s3.engRead e 5 d.q c c.recFn at' 0 pasid
      { r.2 with eng := { r.2.eng with events := tset [] r.2.eng.events e (tget [] r.2.eng.events e ++ [(r.1, d.q)]) } }
    else s3
  let s5 := if stopsQueue st then s4.stopQueue e d.q else s4
  let s6 := s5.rcInc (if st = 0 then F.ENG.DESC_DONE_CNT else F.ENG.DESC_ERR_CNT) e
  ((s6.copyRetired d.q st).retireCounted e d.q d.index c.slice).engPump e

/-- DESC_RETIRE. -/
def State.descRetire (s0 : State) (e : Nat) : State :=
  let s := s0.engPump e
  match s.retirable e with
  | some d => s.retire e d
  | none => s

def execDescFetchDone (e : EngNo) (s : State) : Res := .next (s.fetchDone e)
def execDescStart (e : EngNo) (s : State) : Res := .next (s.descStart e)
def execChunkReadDone (e : EngNo) (s : State) : Res := .next (s.chunkDone e)
def execDescRetire (e : EngNo) (s : State) : Res := .next (s.descRetire e)

/-- The budget of a boundary (R305). -/
def State.budgetRefill (s : State) (e : Nat) : State :=
  let g := 500 * s.fget F.ENG.BW_CAP e
  s.setBudget e (min (s.budget e + g) (2 * g))

end Sys2Proof.Machine
end

