-- ==== Sys2Proof/Machine/Maint.lean ====
section
/-! DEFINITION. The maintenance ring in a cycle of its clock: slots, their owners, insertion, priority, node 60's bypass
register, dead segments (01_fabric_overview R26, 05_reservation R126–R128, 17_faults_and_containment R460).
A row of the table that takes a message acts whether or not the copy has reached its node; what the ring adds is which
copies are lost at a dead segment, and which messages have been inserted (R125). -/

namespace Sys2Proof.Machine

def Flight.isMark (f : Flight) : Bool := msgType f.msg == 1

/-- The node that inserts the message (R128: node 60 the marks). -/
def Flight.sender (f : Flight) : Nat := if f.isMark then 60 else msgSrc f.msg

def Flight.leg (f : Flight) (d : Nat) : Leg := if d = 0 then f.up else f.down
def Flight.setLeg (f : Flight) (d : Nat) (g : Leg) : Flight := if d = 0 then { f with up := g } else { f with down := g }

/-- Reservation traffic: the messages of Table 5-3. -/
def Flight.isResv (f : Flight) : Bool := 2 ≤ msgType f.msg && msgType f.msg ≤ 6

/-- The next node in direction `d` (R126). -/
def nextNode (d p : Nat) : Nat := if d = 0 then (p + 1) % 64 else (p + 63) % 64

/-- Hops from node `a` to node `b` in direction `d` (R126). -/
def nodeHops (d a b : Nat) : Nat := if d = 0 then (b + 64 - a % 64) % 64 else (a + 64 - b % 64) % 64

/-- The owner of the slot that is at node `p` in cycle `t`. DESIGN CHOICE: every node's own slot is at it in cycle 0 of a
frame of 64 cycles. -/
def slotOwner (d p t : Nat) : Nat := if d = 0 then (p + 64 - t % 64) % 64 else (p + t) % 64

/-- The segment on which direction `d` enters node `n` is out of service (R460). -/
def State.segOut (s : State) (d n : Nat) : Bool := tget 0 s.net.dead (n * 2 + d) == 1
def State.anySegOut (s : State) : Bool := (List.range 128).any (fun i => s.segOut (i % 2) (i / 2))

/-- A segment on the way of `n` hops from node `a` in direction `d` is out of service. -/
def State.wayCut (s : State) (d : Nat) : Nat → Nat → Bool
  | 0, _ => false
  | n + 1, a => s.segOut d (nextNode d a) || s.wayCut d n (nextNode d a)

/-- The direction of a message from `a` to `b`: the shorter, on a tie the ascending one; the other when a segment on that
way is out of service (R26, R126). DESIGN CHOICE: with both ways cut it takes the shorter. -/
def State.maintWay (s : State) (a b : Nat) : Nat :=
  let short := if nodeHops 0 a b ≤ nodeHops 1 a b then 0 else 1
  let cut := fun (d : Nat) => s.wayCut d (nodeHops d a b) a
  if cut short && !cut (1 - short) then 1 - short else short

/-- A copy in direction `d` is to be inserted: a mark's own direction, for a broadcast the ascending one and, once a
segment has a dead direction, both (R127, R460). -/
def State.wantsDir (s : State) (f : Flight) (d : Nat) : Bool :=
  f.leg d == .wait && (f.isMark || (if f.all then d == 0 || s.anySegOut else s.maintWay f.sender (msgDst f.msg) == d))

/-- The slot of a copy moves on: it is lost in a segment that is out; it leaves the ring at its target and, of a broadcast,
at a node that a copy has reached before: the sender, or the node where two copies meet (R127, R460). -/
def State.hopOne (s : State) (d : Nat) (f : Flight) : Flight :=
  match f.leg d with
  | .slot p =>
    let q := nextNode d p
    if s.segOut d q then f.setLeg d .done
    else if f.reach.getLsbD q then f.setLeg d .done
    else ({ f with reach := f.reach ||| maskOf q } : Flight).setLeg d (if !f.all && q = msgDst f.msg then .done else .slot q)
  | _ => f

/-- A message is inserted at node `p`; unless both directions are wanted, its copy in the other is none. -/
def State.insertOne (s : State) (d p : Nat) (f : Flight) : Flight :=
  let g := ({ f with reach := f.reach ||| maskOf p } : Flight).setLeg d (.slot p)
  if f.leg (1 - d) = .wait ∧ !(f.all && s.anySegOut) then g.setLeg (1 - d) .done else g

/-- Change the first element that meets `c`. -/
def updFirst {α : Type} (c : α → Bool) (g : α → α) : List α → List α
  | [] => []
  | x :: xs => if c x then g x :: xs else x :: updFirst c g xs

/-- A message may take the slot of owner `j` at node `p`: its own, or another's when it reaches its target before `j`. -/
def mayInsert (d p j : Nat) (f : Flight) : Bool :=
  j == p || (!f.all && nodeHops d p (msgDst f.msg) < nodeHops d p j)

/-- The head of node `p`'s register or reservation queue in direction `d`, if it may take the slot of owner `j`. -/
def State.nodeHead (s : State) (d p j : Nat) (resv : Bool) (fl : List Flight) : Option Flight :=
  match fl.find? (fun f => f.sender == p && !f.isMark && f.isResv == resv && s.wantsDir f d) with
  | some f => if mayInsert d p j f then some f else none
  | none => none

/-- What node `p` inserts into the slot of direction `d` that is at it (R127, R128). -/
def State.insertAt (s : State) (d p : Nat) (fl : List Flight) : List Flight :=
  let here := fun (f : Flight) => f.leg d == .slot p
  let mark := fun (f : Flight) => f.isMark && s.wantsDir f d
  if p = 60 ∧ fl.any mark = true then
    updFirst mark (s.insertOne d p) (fl.map (fun f => if here f then f.setLeg d .bypass else f))
  else if fl.any here then fl
  else if p = 60 ∧ fl.any (fun f => f.leg d == .bypass) = true then
    updFirst (fun f => f.leg d == .bypass) (fun f => f.setLeg d (.slot p)) fl
  else
    let j := slotOwner d p s.cycle
    let first := j == p && s.cycle / 64 % 8 == 7
    let pick := match s.nodeHead d p j (!first) fl with
      | some f => some f
      | none => s.nodeHead d p j first fl
    match pick with
    | some f => updFirst (fun g => g == f) (s.insertOne d p) fl
    | none => fl

/-- A message that its sender addresses to itself uses no slot. -/
def Flight.homed (f : Flight) : Flight :=
  if f.up = .wait ∧ f.down = .wait ∧ !f.all ∧ f.sender = msgDst f.msg then
    { f with up := .done, down := .done, reach := maskOf f.sender }
  else f

/-- A message whose copies have all left the ring: only nodes that one of them reached have still to take it. -/
def Flight.settled (f : Flight) : Flight :=
  if f.up = .done ∧ f.down = .done then { f with left := f.left &&& f.reach } else f

/-- A cycle of the maintenance ring: every slot moves one node on, then every node inserts into the slots at it. -/
def State.ringStep (s : State) : State :=
  if s.net.flight.isEmpty then s else
    let moved := s.net.flight.map (fun f => s.hopOne 1 (s.hopOne 0 f.homed))
    let ins := (List.range 128).foldl (fun fl i => s.insertAt (i % 2) (i / 2) fl) moved
    { s with net := { s.net with flight := (ins.map Flight.settled).filter (fun f => f.left != 0) } }

end Sys2Proof.Machine
end

