-- ==== Sys2Proof/Machine/EngQ.lean ====
section
/-! DEFINITION. Doorbells, queue and engine commands, moves of contexts, pushes and the queue events of a slice
(11_data_movers R306, R307, R310, R311, R317, R321–R328). -/

namespace Sys2Proof.Machine

/-! ### Residence and free slots -/

def State.engRes (s : State) (e : Nat) : Nat := s.fget F.ENG.ENG_STS.RESIDENT e
def State.setEngRes (s : State) (e n : Nat) : State := s.fset F.ENG.ENG_STS.RESIDENT n e

/-- Context slots of an engine (R306). -/
def engSlots : Nat := 16384

def State.stubOf (s : State) (e q : Nat) : Option Stub := tget none s.eng.stub (qKey e q)
def State.setStub (s : State) (e q : Nat) (x : Option Stub) : State :=
  { s with eng := { s.eng with stub := tset none s.eng.stub (qKey e q) x } }

/-- What the queue map of GLB, and the slice page owner's copy, name for a queue (R306, R326). -/
def State.qmap (s : State) (q : Nat) : Nat := s.fget F.GLB.QMAP_DATA.ENGINE 0 0 0 q
def State.qmapCopy (s : State) (q : Nat) : Nat :=
  let v := tget 0 s.eng.qmapS q
  if v = 0 then q / 8192 else v - 1
def State.setQmapCopy (s : State) (q e : Nat) : State :=
  { s with eng := { s.eng with qmapS := tset 0 s.eng.qmapS q (if e = q / 8192 then 0 else e + 1) } }

/-- An engine holds the queue's context. -/
def State.queueHeld (s : State) (q : Nat) : Bool := (List.range 8).any (fun e => s.resident e q)

/-- Set a queue's state, or its LAND while it moves. -/
def State.queueTo (s : State) (e q n : Nat) : State := s.setQctx e q ((s.qctx e q).setNow n)

/-! ### Doorbells (R310, R311) -/

/-- A DOORBELL message. -/
def doorbellMsg (e src q tail sgen : Nat) : Msg := mkTyped 9 (engStop e) src [(32, 16, q), (16, 16, tail), (12, 4, sgen)]

def State.dbReject (s : State) (e q tail why : Nat) : State := s.record .eng e 0x73 (packBits [(0, 16, q), (16, 16, tail)]) why

/-- A doorbell at engine `e`. -/
def State.doorbell (s : State) (e q tail sgen : Nat) : State :=
  if s.resident e q then
    let c := s.qctx e q
    if sgen ≠ c.sgen then s.rcInc F.ENG.DB_STALE_CNT e
    else if c.st = 0 then s.rcInc F.ENG.DB_STRAY_CNT e
    else if signedDiff 16 tail c.tail ≤ 0 then s.rcInc F.ENG.DB_OLD_CNT e
    else if 2 ^ c.ring < wrapSub 16 tail c.head then ((s.haltQueue e q).queueTo e q 3).dbReject e q tail 0
    else (s.setQctx e q { c with tail := tail }).engPump e
  else match s.stubOf e q with
    | some x => s.send (doorbellMsg x.toward (engStop e) q tail sgen)
    | none => (s.rcInc F.ENG.DB_STRAY_CNT e).dbReject e q tail 1

def execDoorbell (n : Node) (m : Msg) (s : State) : Res :=
  let s1 := s.take n m
  if !msgOk m then .next (s1.msgBad n m)
  else if isEngStop n then .next (s1.doorbell (n / 7) (vbits m 32 16) (vbits m 16 16) (vbits m 12 4))
  else .next s1

/-! ### Completion events (R317, R353) -/

/-- A slice's owner presents SLICE_IRQ when it is armed: the slice joins those that wait for the interrupt group, and ARMED
clears (R353, R552). -/
def State.sliceIrq (s : State) (x : Nat) : State :=
  if s.sliceState x = 1 && s.fbit F.SLICE.EVT_CFG.EN x && s.fbit F.SLICE.EVT_CFG.ARMED x then
    let s1 := s.fput F.SLICE.EVT_CFG.ARMED false x
    if s.irq.slices.contains x then s1 else { s1 with irq := { s1.irq with slices := s1.irq.slices ++ [x] } }
  else s

/-- The completion event of a queue of slice `x`. -/
def State.evtPend (s : State) (x q : Nat) : State :=
  let k := wrapSub 16 q (s.fget F.SLICE.ACC_Q.QBASE x)
  if 256 ≤ k then s
  else
    let v := s.fget F.SLICE.EVT_PEND.PEND x (k / 32)
    if nbit v (k % 32) then s
    else (s.fset F.SLICE.EVT_PEND.PEND (v + 2 ^ (k % 32)) x (k / 32)).sliceIrq x

/-- COMPLETION_EVENT: a zero-length read to REC_FN has completed. -/
def State.completionEvent (s : State) (e : Nat) : State :=
  let evs := tget [] s.eng.events e
  match s.takeDone (engStop e) (fun u => match u with | .chunk n => evs.any (fun x => x.1 == n) | _ => false) with
  | none => s
  | some (r, s1) =>
    let id := match r.use with | .chunk n => n | _ => 0
    let s2 : State := { s1 with eng := { s1.eng with events := tset [] s1.eng.events e (evs.filter (fun x => x.1 != id)) } }
    match evs.find? (fun x => x.1 == id) with
    | some (_, q) => s2.evtPend (r.hdr.getD emptyFlit).slice.toNat q
    | none => s2

def execCompletionEvent (e : EngNo) (s : State) : Res := .next (s.completionEvent e)

/-! ### QC_CMD (R307, R323, R336, R345) -/

def State.qcRes (s : State) (e r : Nat) : State := s.fset F.ENG.QC_CMD.QC_RES r e

/-- The 512 bits of QC_DATA. -/
def State.qcData (s : State) (e : Nat) : Nat := packBits ((List.range 16).map (fun i => (32 * i, 32, s.fget F.ENG.QC_DATA.DATA e i)))

def State.setQcData (s : State) (e b : Nat) : State :=
  (List.range 16).foldl (fun a i => a.fset F.ENG.QC_DATA.DATA (nbits b (32 * i) 32) e i) s

def State.qIdx (s : State) (e : Nat) : Nat := s.fget F.ENG.QSEL.QIDX e

def State.qcRead (s : State) (e : Nat) : State :=
  let q := s.qIdx e
  if !s.resident e q then s.qcRes e 2 else (s.setQcData e (s.qctx e q).bits).qcRes e 0

/-- A queue lies in a slice's accord. -/
def State.ownsQueue (s : State) (x q : Nat) : Bool :=
  let b := s.fget F.SLICE.ACC_Q.QBASE x
  b ≤ q && q < b + s.fget F.SLICE.ACC_Q.QCNT x

/-- WRITE stores a context at the engine that GLB.QMAP names; where the queue was lost (R328) it becomes resident there.
DEDUCED from R323: the STATE written is not taken, the queue stays DISABLED; descriptors of the context before are gone. -/
def State.qcWrite (s : State) (e : Nat) : State :=
  let q := s.qIdx e
  let b := s.qcData e
  let c := ctxOf b
  let here := s.resident e q
  if s.qmap q ≠ e ∨ (!here ∧ (s.queueHeld q ∨ s.engState e ≠ 0 ∨ engSlots ≤ s.engRes e)) then s.qcRes e 2
  else if here ∧ (s.qctx e q).st ≠ 0 then s.qcRes e 1
  else if !ctxValid b ∨ s.sliceState c.slice ≠ 0 ∨ !s.ownsQueue c.slice q then s.qcRes e 3
  else
    let s1 := if here then s else (s.setResident e q true).setEngRes e (s.engRes e + 1)
    ((s1.setAvail q []).setQctx e q { c with st := 0 }).qcRes e 0

/-- ENABLE. DESIGN CHOICE: a context with V = 0 is refused as invalid. -/
def State.qcEnable (s : State) (e : Nat) : State :=
  let q := s.qIdx e
  let c := s.qctx e q
  if !s.resident e q then s.qcRes e 2
  else match c.st with
    | 0 => if c.v then (((s.haltQueue e q).setQctx e q { c with st := 1, fetched := c.head }).qcRes e 0).engPump e else s.qcRes e 3
    | 2 | 4 => s.qcRes e 1
    | _ => s.qcRes e 0

def State.qcDisable (s : State) (e : Nat) : State :=
  let q := s.qIdx e
  let c := s.qctx e q
  if !s.resident e q then s.qcRes e 2
  else match c.st with
    | 0 => s.qcRes e 0
    | 2 | 3 => if (s.execOn e q).isEmpty then ((s.haltQueue e q).setQctx e q { c with st := 0 }).qcRes e 0 else s.qcRes e 1
    | _ => s.qcRes e 1

def State.qcRestart (s : State) (e : Nat) : State :=
  let q := s.qIdx e
  let c := s.qctx e q
  if !s.resident e q then s.qcRes e 2
  else match c.st with
    | 2 | 4 => s.qcRes e 1
    | 3 => (((s.haltQueue e q).setQctx e q { c with st := 1, fetched := c.head }).qcRes e 0).engPump e
    | _ => s.qcRes e 0

/-- A write of QC_CMD.OP. -/
def State.qcCmd (s : State) (e op : Nat) : State :=
  if !s.stopRuns (engStop e) then s.pgErr .eng e 0x118
  else match op with
  | 1 => s.qcRead e
  | 2 => s.qcWrite e
  | 3 => s.qcEnable e
  | 4 => s.qcDisable e
  | 5 => s.qcRestart e
  | _ => s

def execQcRead (e : EngNo) (s : State) : Res := .next ((s.touch .eng e).qcCmd e 1)
def execQcWrite (e : EngNo) (s : State) : Res := .next ((s.touch .eng e).qcCmd e 2)
def execQcEnable (e : EngNo) (s : State) : Res := .next ((s.touch .eng e).qcCmd e 3)
def execQcDisable (e : EngNo) (s : State) : Res := .next ((s.touch .eng e).qcCmd e 4)
def execQcRestart (e : EngNo) (s : State) : Res := .next ((s.touch .eng e).qcCmd e 5)

/-! ### Engine states and moves (R324–R328) -/

def State.setEng (s : State) (e st : Nat) : State := s.fset F.ENG.ENG_STS.STATE st e
def State.engCmdRes (s : State) (e r : Nat) : State := s.fset F.ENG.ENG_STS.CMD_RES r e

/-- Queues resident at an engine, ascending. -/
def State.residents (s : State) (e : Nat) : List Nat := (List.range 65536).filter (fun q => s.resident e q)

/-- The engines that DEST names. -/
def destList (dest : Nat) : List Nat := (List.range 8).filter (fun d => nbit dest d)

/-- R325: DEST cannot take `n` queues of engine `e`. -/
def State.destBad (s : State) (e dest n : Nat) : Bool :=
  let ds := destList dest
  ds.isEmpty || ds.contains e || ds.any (fun d => s.engState d != 0)
  || (ds.map (fun d => engSlots - s.engRes d)).foldl (· + ·) 0 < n

/-- Queues on their way: contexts in CONTEXT flits not acknowledged. -/
def State.onTheWay (s : State) (e : Nat) : Nat := ((tget [] s.eng.moving e).map (fun x => x.2)).foldl (· + ·) 0

/-- No queue is resident at the engine and nothing of it is left there. -/
def State.engEmpty (s : State) (e : Nat) : State :=
  { s with eng := { s.eng with
    noHome := tset 0 s.eng.noHome e 1, abort := tdrop (fun i => i / 65536 == e) s.eng.abort, away := tdrop (fun i => i / 65536 == e) s.eng.away,
    ctx := tdrop (fun i => i / 65536 == e) s.eng.ctx, fetch := tdrop (fun i => i / 65536 == e) s.eng.fetch } }

/-- CONTEXT flits that are acknowledged free their slots; a LEAVING engine with the last one is OUT (Table 11-9). DEDUCED
from Table 11-11: an armed sample waits for a retirement until OUT. -/
def State.engSettle (s : State) (e : Nat) : State :=
  let l := tget [] s.eng.moving e
  let done := l.filter (fun x => !s.jobOut e x.1)
  let keep := l.filter (fun x => s.jobOut e x.1)
  let n := (done.map (fun x => x.2)).foldl (· + ·) 0
  let s1 := ({ s with eng := { s.eng with moving := tset [] s.eng.moving e keep } } : State).setEngRes e (s.engRes e - n)
  if s.engState e = 1 ∧ s1.engRes e = 0 then ((s1.engEmpty e).setEng e 2).engSampleLost e else s1

def State.setMoveTo (s : State) (q v : Nat) : State := { s with eng := { s.eng with moveTo := tset 0 s.eng.moveTo q v } }

/-- LEAVE: every resident queue is to move, round-robin to the engines of DEST in ascending queue number. -/
def State.engLeave (s : State) (e dest : Nat) : State :=
  let n := s.engRes e - s.onTheWay e
  if s.engState e ≠ 0 then s.engCmdRes e 1
  else if s.destBad e dest n then s.engCmdRes e 2
  else
    let ds := destList dest
    let r := (s.residents e).foldl (fun (a : State × Nat) q =>
      if (s.qctx e q).st = 4 then a else (a.1.setMoveTo q (1 + ds.getD (a.2 % ds.length) 0), a.2 + 1)) (s, 0)
    ((r.1.engCmdRes e 0).setEng e 1).engSettle e

def State.engJoin (s : State) (e : Nat) : State :=
  if s.engState e = 2 then ((s.engEmpty e).setEng e 0).engCmdRes e 0 else s.engCmdRes e 1

def State.engClear (s : State) (e : Nat) : State :=
  if s.engState e = 3 then ((s.engEmpty e).setEng e 2).engCmdRes e 0 else s.engCmdRes e 1

/-- MOVEQ: queue QSEL goes to the lowest engine of DEST. DESIGN CHOICE: a queue that is not resident is refused as R325
refuses; one that already moves as Table 11-8 does. -/
def State.engMoveq (s : State) (e dest : Nat) : State :=
  let q := s.qIdx e
  let c := s.qctx e q
  if s.engState e ≠ 0 then s.engCmdRes e 1
  else if s.destBad e dest 1 ∨ !s.resident e q then s.engCmdRes e 2
  else if c.st = 4 then s.engCmdRes e 1
  else ((s.setMoveTo q (1 + (destList dest).headD 0)).setQctx e q { c with st := 4, land := c.st }).engCmdRes e 0

/-- A write of ENG_CTL: DEST is stored and CMD taken or refused. -/
def State.engCtl (s : State) (e cmd dest : Nat) : State :=
  let s1 := s.fset F.ENG.ENG_CTL.DEST dest e
  match cmd with
  | 1 => s1.engLeave e dest
  | 2 => s1.engJoin e
  | 3 => s1.engClear e
  | 4 => s1.engMoveq e dest
  | _ => s1

def execEngLeave (e : EngNo) (dest : BitVec 8) (s : State) : Res := .next ((s.touch .eng e).engCtl e 1 dest.toNat)
def execEngJoin (e : EngNo) (dest : BitVec 8) (s : State) : Res := .next ((s.touch .eng e).engCtl e 2 dest.toNat)
def execEngClear (e : EngNo) (dest : BitVec 8) (s : State) : Res := .next ((s.touch .eng e).engCtl e 3 dest.toNat)
def execEngMoveq (e : EngNo) (dest : BitVec 8) (s : State) : Res := .next ((s.touch .eng e).engCtl e 4 dest.toNat)

/-- The queue moves and has no descriptor in execution (R326). -/
def State.sendable (s : State) (e q : Nat) : Bool :=
  tget 0 s.eng.moveTo q != 0 && s.resident e q && (s.qctx e q).st == 4 && (s.execOn e q).isEmpty

/-- The context as it leaves: fetched descriptors that were not started are fetched again at the new engine. -/
def State.leaving (s : State) (e q : Nat) : QCtx :=
  let c := s.qctx e q
  if c.pushq then c else { c with fetched := c.head }

/-- A queue's context leaves engine `e` for `d`: a stub stays (R327). -/
def State.sendOff (s : State) (e d q : Nat) : State :=
  let s1 := (s.haltQueue e q).setStub e q (some ⟨d, (s.qctx e q).slice, 0⟩)
  (s1.setMoveTo q 0).setResident e q false

/-- CONTEXT_SEND: up to two contexts for one engine in a CONTEXT flit (Table 11-7). -/
def State.contextSend (s : State) (e : Nat) : State :=
  let qs := (s.eng.moveTo.map (fun x => x.1)).filter (fun q => s.sendable e q)
  match qs with
  | [] => s.engSettle e
  | q :: rest =>
    let d := tget 0 s.eng.moveTo q - 1
    let two := rest.find? (fun r => tget 0 s.eng.moveTo r == d + 1)
    let id := s.eng.nextId
    let bits := (s.leaving e q).bits + (match two with | some r => 2 ^ 512 * (s.leaving e r).bits | none => 0)
    let hdr : Flit := { emptyFlit with
      opc := opDESC, len := if two.isSome then 32 else 16,
      addr := BitVec.ofNat 64 (packBits [(0, 16, q), (16, 16, two.getD 0), (32, 1, b2n two.isSome), (56, 8, 2)]) }
    let s1 := (s.sendOff e d q)
    let s2 := match two with | some r => s1.sendOff e d r | none => s1
    let s3 : State := { s2 with eng := { s2.eng with
      nextId := id + 1, moving := tset [] s2.eng.moving e (tget [] s2.eng.moving e ++ [(id, 1 + b2n two.isSome)]) } }
    s3.submit (engStop e) { hdr := hdr, chunks := [BitVec.ofNat 1024 bits], ldst := engStop d, job := id + 1 }

def execContextSend (e : EngNo) (s : State) : Res := .next (s.contextSend e)

/-! ### DESC flits at an engine (R321, R322, R326) -/

def descKind (f : Flit) : Nat := vbits f.addr 56 8
def descTwo (f : Flit) : Bool := f.addr.getLsbD 32
def descItems (f : Flit) : List Nat := if descTwo f then [vbits f.data 0 512, vbits f.data 512 512] else [vbits f.data 0 512]

def State.descReject (s : State) (e : Nat) (f : Flit) (why : Nat) : State :=
  (s.rcInc F.ENG.DESC_REJ_CNT e).record .eng e 0x74 (packBits [(0, 16, vbits f.addr 0 16), (16, 6, f.src.toNat)]) why

/-- The QMAP_UPD message of engine `e` for queue `q`. -/
def qmapUpdMsg (e q : Nat) : Msg := mkTyped 0xA 63 (engStop e) [(32, 16, q), (16, 3, e)]

/-- A context is installed and its queue takes LAND; an Abort forwarded meanwhile applies (Table 11-11). -/
def State.install1 (s : State) (e q b : Nat) : State :=
  let c0 := ctxOf b
  let note := tget 0 s.eng.abort (qKey e q)
  let c1 := { c0 with st := c0.land }
  let c := if note ≠ 0 then { c1 with st := 3, sgen := note - 1 } else c1
  let s1 : State := { s with eng := { s.eng with abort := tset 0 s.eng.abort (qKey e q) 0 } }
  ((((s1.setStub e q none).setResident e q true).setQctx e q c).setEngRes e (s.engRes e + 1)).bcast (qmapUpdMsg e q)

/-- A CONTEXT flit at engine `e`. -/
def State.contextIn (s : State) (e : Nat) (f : Flit) : State :=
  let n := (descItems f).length
  if !isEngStop f.src.toNat then s.descReject e f 0
  else if s.engState e ≠ 0 ∨ engSlots < s.engRes e + n then s.descReject e f 2
  else
    let qs := [vbits f.addr 0 16, vbits f.addr 16 16]
    (((List.range n).foldl (fun a i => a.install1 e (qs.getD i 0) ((descItems f).getD i 0)) s)).engPump e

/-- Descriptors of a queue in the engine that have not retired. -/
def State.unretired (s : State) (e q : Nat) : Nat := (s.execOn e q).length + (s.availOf q).length

/-- A PUSH flit at engine `e`. -/
def State.pushIn (s : State) (e : Nat) (f : Flit) : State :=
  let q := vbits f.addr 0 16
  let c := s.qctx e q
  let ds := descItems f
  if !([56, 57, 59].contains f.src.toNat) then s.descReject e f 0
  else if !s.resident e q ∨ !c.pushq then s.descReject e f 1
  else if 64 < s.unretired e q + ds.length then s.descReject e f 2
  else
    let new := (List.range ds.length).map (fun i => ((c.tail + i) % 65536, ds.getD i 0))
    let t := (c.tail + ds.length) % 65536
    ((s.setAvail q (s.availOf q ++ new)).setQctx e q { c with tail := t, fetched := t }).engPump e

/-- The DESC flit at the head of the engine's stop, if it has one of kind `kind`. -/
def State.descHead (s : State) (e kind : Nat) : Option Egr :=
  match s.egr (engStop e) 0 0 with
  | x :: _ => if x.flit.opc = opDESC ∧ descKind x.flit = kind then some x else none
  | [] => none

/-- Take the head of the engine's stop. -/
def State.descTake (s : State) (e : Nat) (x : Egr) : State := s.egrTake (engStop e) 0 x

def execContextLand (e : EngNo) (s : State) : Res :=
  match s.descHead e 2 with
  | some x => .next ((s.descTake e x).contextIn e x.flit)
  | none => .next s

def execPush (e : EngNo) (s : State) : Res :=
  match s.descHead e 1 with
  | some x => .next ((s.descTake e x).pushIn e x.flit)
  | none => .next s

/-! ### QMAP_UPD and stubs (R326, R327) -/

/-- QMAP_UPD at node `n`: GLB and the slice page owner take it; an engine with a stub starts its last two ticks. -/
def State.qmapUpd (s : State) (n q e : Nat) : State :=
  if n = 60 then s.fset F.GLB.QMAP_DATA.ENGINE e 0 0 0 q
  else if n = 62 then s.setQmapCopy q e
  else if isEngStop n then
    match s.stubOf (n / 7) q with
    | some x => s.setStub (n / 7) q (some { x with seen := 1 + s.nodeTick n })
    | none => s
  else s

def execQmapUpd (n : Node) (m : Msg) (s : State) : Res :=
  let s1 := s.take n m
  if !msgOk m then .next (s1.msgBad n m) else .next (s1.qmapUpd n (vbits m 32 16) (vbits m 16 3))

/-- STUB_EXPIRE. -/
def State.stubExpire (s : State) (e : Nat) : State :=
  let now := s.nodeTick (engStop e)
  { s with eng := { s.eng with stub := s.eng.stub.filter (fun x =>
      x.1 / 65536 != e || (match x.2 with | some y => y.seen == 0 || !tickPast now (y.seen - 1) 2 | none => true)) } }

def execStubExpire (e : EngNo) (s : State) : Res := .next (s.stubExpire e)

/-! ### Loss of a context (Table 11-9) -/

/-- ENG_CTX_UE: the engine is FAILED and its resident queues are lost. -/
def State.engCtxUe (s : State) (e q : Nat) : State :=
  if 2 ≤ s.engState e ∨ !s.resident e q then s
  else
    let lost := s.engRes e - s.onTheWay e
    let gone := fun x => s.resident e x
    let s1 := (s.setExec e []).engEmpty e
    let s2 : State := { s1 with eng := { s1.eng with
      avail := tdrop gone s1.eng.avail, moveTo := tdrop gone s1.eng.moveTo, wait := tset [] s1.eng.wait e [],
      events := tset [] s1.eng.events e [] } }
    ((((s2.setEngRes e 0).setEng e 3).record .eng e 0x72 q lost).intSet .eng e 0).engSampleLost e

def execEngCtxUe (e : EngNo) (q : QueueNo) (s : State) : Res := .next (s.engCtxUe e q)

/-! ### Queue events of a slice (R348, R359, Table 11-8) -/

/-- Work of a slice that the engine has not yet formed is dropped; its chunks end. -/
def State.dropWork (s : State) (e x : Nat) : State :=
  let k := engStop e
  let mine := fun (f : Flit) => f.slice.toNat == x
  let end1 := fun (a : State) (n : Nat) =>
    let b := a.modChunk e n (fun c => { c with st := 4, status := 8 })
    { b with eng := { b.eng with events := tset [] b.eng.events e ((tget [] b.eng.events e).filter (fun y => y.1 != n)) } }
  let w := tget [] s.eng.wait e
  let s1 : State := { s with eng := { s.eng with wait := tset [] s.eng.wait e (w.filter (fun r => !mine r.hdr)) } }
  let s2 := (w.filter (fun r => mine r.hdr)).foldl (fun a r => end1 a r.num) s1
  let out := (s2.formQ k).filter (fun r => r.job != 0 && mine r.hdr)
  let s3 := s2.setFormQ k ((s2.formQ k).filter (fun r => r.job == 0 || !mine r.hdr))
  out.foldl (fun a r => end1 a (r.job - 1)) s3

/-- Abort of one queue. -/
def State.queueAbort (s : State) (e q sgen : Nat) : State :=
  let c := s.qctx e q
  if c.st = 0 then s
  else
    let s1 := (({ s with eng := { s.eng with avail := tset [] s.eng.avail q [] } } : State).haltQueue e q).setQctx e q
      { c.setNow 3 with sgen := sgen }
    s1.setExec e ((s1.execOf e).map (fun d => if d.q = q then { d with aborted := true, noRec := true } else d))

/-- Descriptor fetches of a slice that the engine has not yet formed are not formed (R347); they are fetched again later. -/
def State.dropFetches (s : State) (e x : Nat) : State :=
  let k := engStop e
  let w := tget [] s.eng.wait e
  let mine := fun (r : EReq) => r.kind == 0 && r.hdr.slice.toNat == x
  let inQ := fun (r : FormReq) => r.hdr.slice.toNat == x && (match r.use with | .desc _ => true | _ => false)
  let ids := (w.filter mine).map (fun r => r.num) ++ ((s.formQ k).filter inQ).map (fun r => r.job - 1)
  let s1 := ({ s with eng := { s.eng with wait := tset [] s.eng.wait e (w.filter (fun r => !mine r)) } } : State).setFormQ k
    ((s.formQ k).filter (fun r => !inQ r))
  (s.storedQueues e).foldl (fun a q =>
    match tget none a.eng.fetch (qKey e q) with
    | some (n, i, _) => if ids.contains n then (a.setFetch e q none).setQctx e q { a.qctx e q with fetched := i } else a
    | none => a) s1

/-- An Abort forwarded to engine `e` (R327, R335): applied there, forwarded on by a stub, or noted for the landing of the
context. An engine at which it has applied already does nothing. -/
def State.forwardAbort (s : State) (e q x sgen : Nat) : Nat → State
  | 0 => s
  | n + 1 =>
    if s.resident e q then
      if (s.qctx e q).slice = x ∧ (s.qctx e q).sgen ≠ sgen then s.queueAbort e q sgen else s
    else match s.stubOf e q with
      | some y => s.forwardAbort y.toward q x sgen n
      | none => { s with eng := { s.eng with abort := tset 0 s.eng.abort (qKey e q) (1 + sgen) } }

/-- Reset of one queue (QRESET): the descriptors pushed to it are gone with its indexes. -/
def State.queueReset (s : State) (e q sgen : Nat) : State :=
  ((s.setAvail q []).haltQueue e q).setQctx e q { (s.qctx e q).setNow 0 with head := 0, tail := 0, fetched := 0, sgen := sgen }

/-- An update of slice `x` applies at engine `e`: OP 0 Open, 1 Close, 2 Abort. -/
def State.sliceAtEngine (s : State) (e x op sgen : Nat) (qreset : Bool) : State :=
  let qs := (s.storedQueues e).filter (fun q => (s.qctx e q).slice == x)
  match op with
  | 0 => (qs.foldl (fun a q =>
      if qreset then a.queueReset e q sgen else if (a.qctx e q).now = 2 then a.queueTo e q 1 else a) s).engPump e
  | 1 => (qs.foldl (fun a q => if (a.qctx e q).now = 1 then a.queueTo e q 2 else a) (s.dropFetches e x)).engPump e
  | _ =>
    let s1 := (qs.foldl (fun a q => a.queueAbort e q sgen) s).dropWork e x
    let s2 : State := { s1 with eng := { s1.eng with
      events := tset [] s1.eng.events e ((tget [] s1.eng.events e).filter (fun y => !qs.contains y.2
        && (s1.stubOf e y.2).elim true (fun z => z.slice != x))) } }
    ((s2.eng.stub.filter (fun y => y.1 / 65536 == e)).foldl (fun a y =>
      match y.2 with
      | some st => if st.slice = x then a.forwardAbort st.toward (y.1 % 65536) x sgen 8 else a
      | none => a) s2).engPump e

end Sys2Proof.Machine
end

