-- ==== Sys2Proof/Machine/Repl.lean ====
section
/-! DEFINITION. The replicator at stop 58 (11_data_movers R330–R333). -/

namespace Sys2Proof.Machine

/-- The member set of a transaction (R330, R331): its group's members, or the domain's broadcast map; 128 bits by link
index. -/
def State.members (s : State) (f : Flit) : Nat :=
  let map := fun (g : Fld) (sel : Nat) => packBits ((List.range 4).map (fun j => (32 * j, 32, s.fget g 0 j 0 sel)))
  if f.opc = opMSG then map F.REPL.BC_MAP.MEMBERS (f.sgid.toNat / 65536)
  else map F.REPL.GRP_MAP.MEMBERS (f.dgid.toNat % 65536 - 0xFFC0)

/-- The link index (4·socket + link) on which a transaction entered; 128 when it came from an engine. -/
def State.entryLink (s : State) (f : Flit) (rid : Nat) : Nat :=
  if rid = 0 then 128 else 4 * s.socketOf f.src.toNat + (rid - 1)

def State.setFan (s : State) (l : List Fan) : State :=
  ({ s with eng := { s.eng with fan := l } } : State).fset F.REPL.FAN_STS.PENDING l.length

/-- The flits of a transaction in a queue of stop 58, and whether they are all there. -/
def txnIn (q : List Egr) (x : Egr) : List Egr := q.filter (fun y => txnKey 58 y.flit == txnKey 58 x.flit)
def txnWhole (xs : List Egr) : Bool := xs.any (fun y => y.flit.last == 1 && y.flit.fidx.toNat + 1 == xs.length)

/-- The first transaction of stop 58 that has wholly arrived is released: it takes the snapshot of its members and joins
the pending list, which holds at most 256 (R332). A message copy bears the Requester ID of its source (DEDUCED: RID belongs
to a group). DESIGN CHOICE: what an isolated source has left of a transaction that is not whole is discarded. -/
def State.replTakeOne (s : State) : Option State :=
  let q := s.egr 58 0 0
  if 256 ≤ s.eng.fan.length then none
  else match q.find? (fun x => txnWhole (txnIn q x) || s.knowsGone 58 x.flit.src.toNat) with
    | none => none
    | some x =>
      let xs := txnIn q x
      let h := (xs.map (fun y => y.flit)).headD emptyFlit
      let m := s.members h
      let own := s.entryLink h x.rid
      let ls := (List.range 128).filter (fun i => nbit m i && i != own)
      let rid := if h.opc = opMSG then h.sgid.toNat % 65536 else s.fget F.REPL.GRP_CTL.RID 0 0 0 (h.dgid.toNat % 65536 - 0xFFC0)
      let s1 := xs.foldl (fun a y => a.poisTake 58 y.flit) (s.setEgr 58 0 0 (q.filter (fun y => !xs.contains y)))
      if ls.isEmpty || !txnWhole xs then some (xs.foldl (fun a y => a.freeEgr 58 y) s1)
      else some (s1.setFan (s1.eng.fan ++ [{ flits := xs.map (fun y => y.flit), members := ls, rid := rid, entries := xs }]))

def State.replTakeAll (s : State) : Nat → State
  | 0 => s
  | n + 1 => match s.replTakeOne with
    | some t => t.replTakeAll n
    | none => s

/-- Everything that can be released at stop 58 is. -/
def State.replTake (s : State) (k : Nat) : State := if k = 58 then s.replTakeAll (s.egr 58 0 0).length else s

/-- Transaction `n` of the pending list has served member `i`; with the last one it leaves the list and its ingress entries are
freed (R333). -/
def State.served (s : State) (n i : Nat) (x : Fan) : State :=
  match x.members.filter (fun j => j != i) with
  | [] => (x.entries.foldl (fun a y => a.freeEgr 58 y) (s.setFan (s.eng.fan.eraseIdx n))).replTake 58
  | ms => s.setFan (s.eng.fan.set n { x with members := ms, part := 0 })

/-- A copy flit of transaction `n` for member `i`; the copy is formed with its last flit. -/
def State.copyFlit (s : State) (n i : Nat) (x : Fan) : State :=
  if x.part + 1 < x.flits.length then s.setFan (s.eng.fan.set n { x with part := x.part + 1, cur := i })
  else ((s.formOne 58 (copyReq x i)).fsat F.REPL.COPY_CNT 1).served n i x

/-- Copies that meet a disabled route entry for the first time (R100). -/
def State.copyHolds (s : State) : State :=
  (copyHeads 0 s.eng.fan []).foldl (fun a p =>
    if a.formBlock 58 (copyReq p.2.2 p.2.1) = 1 ∧ !p.2.2.held.contains p.2.1 then
      (a.rcInc F.STOP.ROUTE_HOLD_CNT 58).setFan (a.eng.fan.modify p.1 (fun y => { y with held := y.held ++ [p.2.1] }))
    else a) s

/-- REPL_COPY: one copy flit: of the copy under way, else of the oldest transaction and its lowest member whose copy can be
formed. A DROPPED member gets none. -/
def State.replCopy (s0 : State) : State :=
  let s := (s0.replTake 58).copyHolds
  let hs := copyHeads 0 s.eng.fan []
  match hs.find? (fun p => p.2.2.part != 0 && p.2.2.cur == p.2.1) with
  | some (n, i, x) => s.copyFlit n i x
  | none =>
    let drop := fun (i : Nat) => s.target 58 (linkOf i).1 (linkOf i).2 == 2
    match hs.find? (fun p => drop p.2.1 || s.formBlock 58 (copyReq p.2.2 p.2.1) == 0) with
    | none => s
    | some (n, i, x) => if drop i then (s.fsat F.REPL.SKIP_CNT 1).served n i x else s.copyFlit n i x

def execReplCopy (s : State) : Res := .next s.replCopy

end Sys2Proof.Machine
end

