-- ==== Sys2Proof/Machine/Landing.lean ====
section
/-! DEFINITION. The flits at the head of an ejection lane land (06_ordering_and_completion). -/

namespace Sys2Proof.Machine

/-- After acknowledgements at a memory stop, rows may close and updates go on (R284, R294); at an engine's, slots are
freed (R326); at the replicator, transactions are released (R332). -/
def State.settled (s : State) (k : Nat) : State :=
  if isMemStop k then (s.pump (sectorOf k)).memSettle else if isEngStop k then s.engSettle (sectorOf k) else s.replTake k

/-- The REQ or RSP flit at the head of a lane lands. -/
def State.landLane (s : State) (k lane : Nat) : State :=
  match s.ejectHead k lane with
  | none => s
  | some e =>
    if e.flit.opc = opACK then s
    else
      let s1 := s.ejectPop k lane
      if e.flit.crc ≠ e2eCrc e.flit then s1.e2eFail k e
      else
        let s2 := if e.flit.ackp = 1 then s1.ackOne k e.flit.src.toNat e.flit.ackSeq.toNat else s1
        (s2.landFilter k lane e).settled k

/-- FLIT_LANDING (R81, R70, R167): the REQ or RSP flit at the head of the lane. -/
def execFlitLanding (k : Stop) (lane : Fin 19) (s : State) : Res := .next (s.landLane k lane)

/-- The lowest lane of a stop with a completion at its head. -/
def State.cplLane (s : State) (k : Nat) : Option Nat :=
  (List.range 19).find? (fun i => match s.ejectHead k i with | some e => isRsp e.flit.opc | none => false)

/-- CPL_LANDING (R67, R140, R141, R172, R565): the completion flit at the head of the stop's lowest lane that has one. -/
def execCplLanding (k : Stop) (s : State) : Res :=
  .next (match s.cplLane k with | some i => s.landLane k i | none => s)

/-- ACK_FLIT (R69, R81, R165): the ACK flit at the head of the lane frees the copies it names. -/
def execAckFlit (k : Stop) (lane : Fin 19) (s : State) : Res :=
  match s.ejectHead k lane with
  | none => .next s
  | some e =>
    if e.flit.opc ≠ opACK then .next s
    else
      let s1 := s.ejectPop k lane
      if e.flit.crc ≠ e2eCrc e.flit then .next (s1.e2eFail k e)
      else .next (((ackNumbers e.flit).foldl (fun a n => a.ackOne k e.flit.src.toNat n) s1).settled k)

end Sys2Proof.Machine
end

