-- ==== Sys2Proof/Machine/Slices.lean ====
section
/-! DEFINITION. Slices: commands, updates at the stops, residue, trackers, drydown and removal (12_slices_and_drydown
R344–R361). -/

namespace Sys2Proof.Machine

/-! ### The owner's state -/

def State.sliceGen (s : State) (x : Nat) : Nat := s.fget F.SLICE.MSTS.SGEN x
def State.sliceRes (s : State) (x r : Nat) : State := s.fset F.SLICE.MSTS.RES r x

/-- Change a slice's state; the sillage shows it. -/
def State.setSlice (s : State) (x toward : Nat) : State :=
  let old := s.sliceState x
  (s.fset F.SLICE.MSTS.STATE toward x).sillage 62 0x08 (packBits [(0, 12, x), (12, 3, old), (15, 3, toward), (18, 4, s.sliceGen x)])

/-- The SLICE_UPD message (Table 12-4). -/
def sliceUpdMsg (x : Nat) (u : SliceUpd) : Msg :=
  mkTyped 0xB 63 62 [(36, 12, x), (32, 4, u.sgen), (30, 2, u.op), (29, 1, b2n u.qreset), (21, 8, u.nn)]

/-- A new update of slice `x` with its current generation; it is sent again at the next 3 boundaries (R348). DESIGN CHOICE:
a newer update ends the repeats of an older one. -/
def State.sliceUpd (s : State) (x op : Nat) (qreset : Bool := false) : State :=
  let nn := tget 0 s.slc.nn x % 255 + 1
  let u : SliceUpd := { op := op, sgen := s.sliceGen x, qreset := qreset, nn := nn, left := 3 }
  ({ s with slc := { s.slc with nn := tset 0 s.slc.nn x nn, again := tset none s.slc.again x (some u) } } : State).bcast (sliceUpdMsg x u)

/-- Send the updates of the last boundaries again. -/
def State.sliceAgain (s : State) : State :=
  s.slc.again.foldl (fun a e =>
    match e.2 with
    | none => a
    | some u =>
      let v := if u.left ≤ 1 then none else some { u with left := u.left - 1 }
      ({ a with slc := { a.slc with again := tset none a.slc.again e.1 v } } : State).bcast (sliceUpdMsg e.1 u)) s

/-- The generation goes up by 1 (R349). -/
def State.bump (s : State) (x : Nat) : State := s.fset F.SLICE.MSTS.SGEN ((s.sliceGen x + 1) % 16) x

/-! ### Trackers (R349) -/

def State.freeTracker (s : State) : Option Nat := (List.range 32).find? (fun i => tget 0 s.slc.trk i == 0)

def State.trackerOf (s : State) (x : Nat) : Option Nat := (List.range 32).find? (fun i => tget 0 s.slc.trk i == x + 1)

/-- Tracking of a slice begins at tracker `i`. DEDUCED from R356: until the first census PENDING shows all 60 stops. -/
def State.track (s : State) (x i : Nat) : State :=
  let now := s.nodeTick 62
  let s1 : State := { s with slc := { s.slc with
    trk := tset 0 s.slc.trk i (x + 1), clean := tset 0 s.slc.clean i 0, since := tset 0 s.slc.since i (now + 1) } }
  ((s1.fset F.SLICE.MSTS.TRACKER i x).fput F.SLICE.MSTS.TRACKED true x).fset F.SLICE.DRY_STS.PENDING 60 x

/-- A slice entering REMOVED keeps its tracker, takes a free one, or waits. -/
def State.trackRemoved (s : State) (x : Nat) : State :=
  match s.trackerOf x, s.freeTracker with
  | some i, _ => s.track x i
  | none, some i => s.track x i
  | none, none => ({ s with slc := { s.slc with waiting := s.slc.waiting ++ [x] } } : State).fset F.SLICE.DRY_STS.PENDING 0x7F x

/-- The tracker of a slice is released; a waiting REMOVED slice takes it first. -/
def State.untrack (s : State) (x : Nat) : State :=
  match s.trackerOf x with
  | none => s
  | some i =>
    let s1 := ((({ s with slc := { s.slc with
      trk := tset 0 s.slc.trk i 0, clean := tset 0 s.slc.clean i 0, since := tset 0 s.slc.since i 0 } } : State).fset
        F.SLICE.MSTS.TRACKER 0 x).fput F.SLICE.MSTS.TRACKED false x).fset F.SLICE.DRY_STS.PENDING 0 x
    match s1.slc.waiting with
    | y :: ys => ({ s1 with slc := { s1.slc with waiting := ys } } : State).track y i
    | [] => s1

/-! ### CREATE (R345, R346) -/

/-- Slices other than `x` that own their accord: those not FREE, and those whose CREATE has passed (R346). -/
def State.otherSlices (s : State) (x : Nat) : List Nat :=
  ((s.activeSlices.filter (fun y => s.sliceState y != 0 && tget 0 s.slc.moved y == 0))
    ++ (s.slc.create.map (fun e => e.1)).filter (fun y => s.sliceState y == 0)).filter (fun y => y != x)

/-- Two ranges of resources meet. -/
def rangesMeet (a n b m : Nat) : Bool := a < b + m && b < a + n && n != 0 && m != 0

/-- The accord's fields are within Table 12-3. -/
def State.accordRange (s : State) (x : Nat) : Bool :=
  let g := fun f => s.fget f x
  g F.SLICE.ACC_Q.QCNT ≤ 256 && g F.SLICE.ACC_Q.QBASE + g F.SLICE.ACC_Q.QCNT ≤ 65536
  && g F.SLICE.ACC_M.MCNT ≤ 64 && g F.SLICE.ACC_M.MBASE + g F.SLICE.ACC_M.MCNT ≤ 16384
  && g F.SLICE.ACC_C.CCNT ≤ 4 && g F.SLICE.ACC_C.CBASE + g F.SLICE.ACC_C.CCNT ≤ 4096
  && (List.range 8).all (fun c => g F.SLICE.ACC_UFIRST.UNIT_FIRST + g F.SLICE.ACC_UCNT.UNIT_CNT ≤ s.fget F.MEM.POOL_UNITS c)
  && g F.SLICE.ACC_EW.ENG_WT != 0

/-- Every queue context of the accord is as R345 requires. -/
def State.accordQueues (s : State) (x : Nat) : Bool :=
  (List.range (s.fget F.SLICE.ACC_Q.QCNT x)).all (fun i =>
    let q := (s.fget F.SLICE.ACC_Q.QBASE x + i) % 65536
    let e := s.qmapCopy q
    let c := s.qctx e q
    s.resident e q && c.v && c.st == 0 && c.slice == x && c.dom == s.fget F.SLICE.ACC_DOM.DOM x)

/-- Two slices' accords share a resource. -/
def State.accordsMeet (s : State) (x y : Nat) : Bool :=
  let m := fun a n => rangesMeet (s.fget a x) (s.fget n x) (s.fget a y) (s.fget n y)
  m F.SLICE.ACC_Q.QBASE F.SLICE.ACC_Q.QCNT || m F.SLICE.ACC_M.MBASE F.SLICE.ACC_M.MCNT
  || m F.SLICE.ACC_C.CBASE F.SLICE.ACC_C.CCNT || m F.SLICE.ACC_UFIRST.UNIT_FIRST F.SLICE.ACC_UCNT.UNIT_CNT

/-- Sum of FLUSH_Q over all links. -/
def State.flushTotal (s : State) : Nat :=
  ((List.range 8).flatMap (fun x => (List.range 16).map (fun a => s.flushQ x a))).foldl (· + ·) 0

def State.flushGranted (s : State) (l : List Nat) : Nat := (l.map (fun x => s.fget F.SLICE.ACC_FLUSH.FLUSH_MIB x)).foldl (· + ·) 0

/-- What CREATE ends with: 0, 3 CONFLICT or 4 BAD_ACCORD. DESIGN CHOICE: 4 when both hold. -/
def State.accordRes (s : State) (x : Nat) : Nat :=
  let others := s.otherSlices x
  if !s.accordRange x || !s.accordQueues x then 4
  else if others.any (fun y => s.accordsMeet x y) || s.flushTotal < s.flushGranted (x :: others) then 3
  else 0

/-- The two UNIT_RNG messages for a memory stop (Table 5-8). -/
def State.sendUnits (s : State) (x : Nat) : State :=
  (List.range 8).foldl (fun a c =>
    let msg := fun (h v : Nat) => mkCtrl 0xA (7 * c + 5) 62 [(32, 12, x), (31, 1, h), (14, 17, v)]
    (a.send (msg 0 (s.fget F.SLICE.ACC_UFIRST.UNIT_FIRST x))).send (msg 1 (s.fget F.SLICE.ACC_UCNT.UNIT_CNT x))) s

/-- Every meter bound to the slice is full (R205). -/
def State.metersFull (s : State) (x : Nat) : State :=
  (s.mtr.bind.filter (fun e => e.1 % 4096 == x)).foldl (fun a e =>
    let y := e.1 / 16384
    a.setMeter (2048 * y + (e.2 - 1)) (freshMeter (a.nodeTick (7 * y + 4)) (a.meterRates y (e.2 - 1) (a.bankAt (7 * y + 4))))) s

/-- The accord passes: weights, unit ranges and meters are set, and the command stays BUSY until they have arrived. -/
def State.createStart (s : State) (x : Nat) : State :=
  let s1 := (List.range 8).foldl (fun a e => a.fset F.ENG.SW_DATA.WEIGHT (s.fget F.SLICE.ACC_EW.ENG_WT x) e 0 0 x) s
  let s2 := ((s1.metersFull x).sendUnits x).fput F.SLICE.MSTS.BUSY true x
  ({ s2 with slc := { s2.slc with create := tset 0 s2.slc.create x (1 + s.nodeTick 62) } } : State).sliceRes x 0

/-- Frames that mirror a created home slice (Table 19-3). -/
def State.createItems (s : State) (x : Nat) : List MirItem :=
  if !s.isHome x then []
  else
    [.acc x] ++ (List.range (ceilDiv (s.fget F.SLICE.ACC_Q.QCNT x) 2)).map (fun i => .qctx x (2 * i))
    ++ (List.range (ceilDiv (s.fget F.SLICE.ACC_M.MCNT x) 2)).map (fun i => .mtr x (2 * i)) ++ [.created x]

/-- A THAW or FORCE of the source of a SAVE or COPY under way ends that command (Table 13-7). -/
def State.flSourceLost (s : State) (x : Nat) : State :=
  if (s.fl.op = 1 ∨ s.fl.op = 4) ∧ s.fget F.GLB.FL_SLICE.SRC = x then { s with fl := { s.fl with lost := true } } else s

/-- FORCE (R359): REMOVED under a new generation. -/
def State.forceNow (s : State) (x : Nat) : State :=
  ((((((s.flSourceLost x).bump x).setSlice x 5).sliceUpd x 2).trackRemoved x).fset F.SLICE.DRY_TICKS 0 x).sliceRes x 0

/-- A FORCE that was held is taken as the next command. -/
def State.forceHeld (s : State) (x : Nat) : State :=
  if tget 0 s.slc.force x = 0 then s
  else
    let s1 : State := { s with slc := { s.slc with force := tset 0 s.slc.force x 0 } }
    if s1.sliceState x = 0 then s1.sliceRes x 1 else if s1.sliceState x = 5 then s1.sliceRes x 0 else s1.forceNow x

/-- CREATE ends: the slice is LIVE. -/
def State.createEnd (s : State) (x : Nat) : State :=
  let s1 : State := { s with
    slc := { s.slc with create := tset 0 s.slc.create x 0 }, pair := { s.pair with shadow := tset 0 s.pair.shadow x 0 } }
  let s2 := ((s1.fput F.SLICE.MSTS.BUSY false x).setSlice x 1).clearRq x
  let s3 := if s.boot.serving then s2.sliceUpd x 0 else { s2 with slc := { s2.slc with heldOpen := s2.slc.heldOpen ++ [x] } }
  (s3.mirror (s.createItems x)).forceHeld x

/-- CREATEs whose unit ranges have arrived, or that began 8 ticks ago, end at a boundary of the page owner (R346). -/
def State.createTick (s : State) : State :=
  let busy := fun x => s.net.flight.any (fun f => msgType f.msg == 0 && msgSub f.msg == 0xA && vbits f.msg 32 12 == x)
  s.slc.create.foldl (fun a e =>
    if !busy e.1 || tickPast (s.nodeTick 62) (e.2 - 1) 8 then a.createEnd e.1 else a) s

/-! ### Commands (Table 12-5) -/

def State.doCreate (s : State) (x : Nat) : State :=
  let r := s.accordRes x
  if r ≠ 0 then s.sliceRes x r else s.createStart x

/-- DRYDOWN. DESIGN CHOICE: FLUSH_FULL of an earlier drydown clears. -/
def State.doDrydown (s : State) (x : Nat) : State :=
  match s.freeTracker with
  | none => s.sliceRes x 5
  | some i =>
    ((((((s.track x i).setSlice x 2).sliceUpd x 1).fset F.SLICE.DRY_TICKS 0 x).fput F.SLICE.DRY_STS.FLUSH_FULL false x).sliceRes x 0)

def State.doOpen (s : State) (x : Nat) : State := (((s.untrack x).setSlice x 1).sliceUpd x 0).sliceRes x 0

def State.doReset (s : State) (x : Nat) : State :=
  let s1 := (((s.bump x).setSlice x 1).sliceUpd x 0 true)
  let s2 := s1.metersFull x
  let s3 := (List.range 8).foldl (fun a i => a.fset F.SLICE.EVT_PEND.PEND 0 x i) s2
  ((s3.fput F.SLICE.EVT_CFG.EN false x).fput F.SLICE.EVT_CFG.ARMED false x).sliceRes x 0

def State.doRemove (s : State) (x : Nat) : State :=
  (((((s.bump x).setSlice x 5).sliceUpd x 1).trackRemoved x).fset F.SLICE.DRY_TICKS 0 x).sliceRes x 0

/-- FREEZE (R365): a migration freeze is armed. -/
def State.doFreeze (s : State) (x : Nat) : State :=
  let s1 := ((s.setSlice x 4).fput F.SLICE.FRZ_TICK_HI.LATCHED false x).sliceRes x 0
  ({ s1 with cnt := { s1.cnt with freezeQ := s1.cnt.freezeQ ++ [some x] } } : State).setFreezeOwner

/-- THAW: the slice is LIVE again, its latched shadows are given up (Table 13-7). -/
def State.doThaw (s : State) (x : Nat) : State :=
  let s1 := s.flSourceLost x
  let s2 : State := { s1 with fl := { s1.fl with read := tset 0 s1.fl.read x 0 } }
  (s2.doOpen x).fput F.SLICE.FRZ_TICK_HI.LATCHED false x

/-- A command of SLICE.CMD.OP: 1 CREATE, 2 DRYDOWN, 3 OPEN, 4 RESET, 5 REMOVE, 6 FREEZE, 7 THAW, 8 FORCE; 9 to 15 name
none (R349). -/
def State.sliceCmd (s : State) (x op : Nat) : State :=
  if op = 0 then s
  else if 9 ≤ op then s.pgErr .slice x 0x800
  else if s.fbit F.SLICE.MSTS.BUSY x then
    if op = 8 then { s with slc := { s.slc with force := tset 0 s.slc.force x 1 } } else s.sliceRes x 5
  else
    match s.sliceState x, op with
    | 0, 1 => s.doCreate x
    | 0, _ => s.sliceRes x 1
    | 1, 2 => s.doDrydown x
    | 1, 4 | 1, 5 | 1, 6 => s.sliceRes x 2
    | 2, 3 => s.doOpen x
    | 2, 4 | 2, 5 | 2, 6 => s.sliceRes x 2
    | 3, 4 => s.doReset x
    | 3, 3 => s.doOpen x
    | 3, 5 => s.doRemove x
    | 3, 6 => s.doFreeze x
    | 4, 7 => s.doThaw x
    | 4, 5 => s.doRemove x
    | 5, 8 => s.sliceRes x 0
    | _, 8 => s.forceNow x
    | _, _ => s.sliceRes x 1

def execSliceCreate (x : SliceNo) (s : State) : Res := .next ((s.touch .slice x).sliceCmd x 1)
def execSliceDrydown (x : SliceNo) (s : State) : Res := .next ((s.touch .slice x).sliceCmd x 2)
def execSliceOpen (x : SliceNo) (s : State) : Res := .next ((s.touch .slice x).sliceCmd x 3)
def execSliceReset (x : SliceNo) (s : State) : Res := .next ((s.touch .slice x).sliceCmd x 4)
def execSliceRemove (x : SliceNo) (s : State) : Res := .next ((s.touch .slice x).sliceCmd x 5)
def execSliceFreeze (x : SliceNo) (s : State) : Res := .next ((s.touch .slice x).sliceCmd x 6)
def execSliceThaw (x : SliceNo) (s : State) : Res := .next ((s.touch .slice x).sliceCmd x 7)
def execSliceForce (x : SliceNo) (s : State) : Res := .next ((s.touch .slice x).sliceCmd x 8)

/-! ### Updates at the stops (R347, R348, R359) -/

def sliceKey (k x : Nat) : Nat := k * 4096 + x

/-- A stop takes a SLICE_UPD. -/
def State.sliceUpdIn (s : State) (n : Nat) (m : Msg) : State :=
  let x := vbits m 36 12
  let key := sliceKey n x
  let nn := vbits m 21 8
  let u : SliceUpd := { op := vbits m 30 2, sgen := vbits m 32 4, qreset := m.getLsbD 29, nn := nn }
  if 60 ≤ n ∨ tget 0 s.slc.applied key = nn then s
  else
    let put : State := { s with slc := { s.slc with arrived := tset none s.slc.arrived key (some u) } }
    match tget none s.slc.arrived key with
    | some o => if nnLater nn o.nn then put else s
    | none => put

def execSliceUpd (n : Node) (m : Msg) (s : State) : Res :=
  let s1 := s.take n m
  if !msgOk m then .next (s1.msgBad n m) else .next (s1.sliceUpdIn n m)

/-- The Removal row of Table 6-3: a tag that is not IDLE becomes EXPIRED and owes nothing; a read of the stop's own
ends. -/
def State.removeTag (s : State) (k t : Nat) : State :=
  let x := s.tag k t
  if x.st = 0 ∨ x.st = 4 then s
  else
    (s.setTag k t { x with st := 4, owes := 0, expAt := s.nodeTick k }).rdEnd k x.num stUR true

/-- A deferred NP entry of the slice rejoins its queue in stamp order (R359). -/
def State.rejoin (s : State) (k l x : Nat) : State :=
  let d := s.deferred k l
  let back := d.filter (fun e => e.flit.slice.toNat == x)
  let q := s.egr k l 1
  let merged := back.foldl (fun l e => (l.filter (fun y => y.stamp < e.stamp)) ++ e :: l.filter (fun y => e.stamp < y.stamp)) q
  if back.isEmpty then s
  else ({ s with port := { s.port with
    defer := tset [] s.port.defer (linkKey k l) (d.filter (fun e => e.flit.slice.toNat != x)) } } : State).setEgr k l 1 merged

/-- Admitted TLPs of the slice that are not formed are rejected with NO_ROUTE (R347). -/
def State.rejectAdmitted (s : State) (k x : Nat) : State := s.rejectWork k 4 (fun r => r.hdr.slice.toNat == x)

/-- What ABORT does at a stop beside the queues (R359). -/
def State.abortAt (s : State) (k x : Nat) : State :=
  let s1 := (s.tagsOf k).foldl (fun a e => if e.2.slice = x ∧ e.2.use.ofSlice then a.removeTag k e.1 else a) s
  if !isPortStop k then s1
  else
    (List.range 4).foldl (fun a l =>
      let b := a.rejoin k l x
      match b.linkLock k l with
      | some o => if o.slice = x then b.forceUnlock k l else b
      | none => b) (s1.rejectAdmitted k x)

/-- One update applies at stop `k`. -/
def State.sliceApply (s : State) (k x : Nat) (u : SliceUpd) : State :=
  let key := sliceKey k x
  let s1 : State := { s with
    slc := { s.slc with
      applied := tset 0 s.slc.applied key u.nn, arrived := tset none s.slc.arrived key none,
      closedAt := tset 0 s.slc.closedAt key (if u.op = 1 then 1 + s.nodeTick k else 0) },
    ord := { s.ord with
      gen := tset 0 s.ord.gen key u.sgen, adm := tset 0 s.ord.adm key (if u.op = 0 then 1 else if u.op = 1 then 0 else 2) } }
  let s2 := if isEngStop k then s1.sliceAtEngine (sectorOf k) x u.op u.sgen u.qreset else s1
  if u.op = 2 then s2.abortAt k x else s2

/-- Every update that has arrived at stop `k` applies. -/
def State.sliceApplyAll (s : State) (k : Nat) : State :=
  s.slc.arrived.foldl (fun a e =>
    match e.2 with
    | some u => if e.1 / 4096 = k then a.sliceApply k (e.1 % 4096) u else a
    | none => a) s

def execSliceUpdApply (k : Stop) (s : State) : Res := .next (s.sliceApplyAll k)

/-- UNIT_RNG at a memory stop: the range counts once both halves have come (R346, Table 5-8). -/
def State.unitRng (s : State) (c : Nat) (m : Msg) : State :=
  let key := c * 4096 + vbits m 32 12
  let half := vbits m 31 1
  let v := vbits m 14 17
  let old := tget 0 s.mem.unitsPart key
  if old ≠ 0 ∧ (old - 1) % 2 ≠ half then
    let o := (old - 1) / 2
    let r := if half = 1 then o + 131072 * v else v + 131072 * o
    { s with mem := { s.mem with units := tset 0 s.mem.units key r, unitsPart := tset 0 s.mem.unitsPart key 0 } }
  else { s with mem := { s.mem with unitsPart := tset 0 s.mem.unitsPart key (1 + half + 2 * v) } }

def execUnitRng (n : Node) (m : Msg) (s : State) : Res :=
  let s1 := s.take n m
  if !msgOk m then .next (s1.msgBad n m)
  else if isMemStop n then .next (s1.unitRng (sectorOf n) m) else .next s1

/-! ### Residue and the census (R356) -/

def ofSlice (x : Nat) (f : Flit) : Bool := f.slice.toNat == x

/-- Stop `k` holds residue of slice `x`, tracked as drying or as removed. -/
def State.residue (s : State) (k x : Nat) (drying : Bool) : Bool :=
  let mine := ofSlice x
  let early := tget 0 s.slc.applied (sliceKey k x) != tget 0 s.slc.nn x
  let q := (s.queue k).any (fun t => mine t.head) || (s.formQ k).any (fun r => mine r.hdr)
    || (match tget none s.arb.burst k with | some b => mine (b.flits.headD emptyFlit) | none => false)
    || (isEngStop k && (tget [] s.eng.wait (sectorOf k)).any (fun r => mine r.hdr))
  let t := (s.tagsOf k).any (fun e => e.2.slice == x && e.2.st != 0 && !(drying && e.2.st == 4))
  let c := (s.ret k).any (fun c => mine c.flit)
  let e := isEngStop k && (s.execOf (sectorOf k)).any (fun d => (s.qctx (sectorOf k) d.q).slice == x)
  let p := s.ord.wait.any (fun w => w.1 / 64 == k && w.2.any (fun l => !l.released && isPosted l.flit.opc && mine l.flit))
    || (List.range 4).any (fun l => (s.egr k l 0).any (fun y => mine y.flit) || (s.asm k l 0).any (fun y => mine y.flit))
    || (k == 58 && s.eng.fan.any (fun y => mine (y.flits.headD emptyFlit)))
  early || q || t || c || e || (drying && p)

/-- The residue bits of stop `k`, by tracker. -/
def State.residueBits (s : State) (k : Nat) : Nat :=
  packBits ((List.range 32).map (fun i =>
    let x := tget 0 s.slc.trk i
    (i, 1, b2n (x != 0 && s.residue k (x - 1) (s.sliceState (x - 1) == 2)))))

/-- Stop `k` sends its census to GLB and to the slice page owner (duty 7 of Table 2-3); the node of a stop that sleeps or
is isolated reports neither an old-epoch flit nor residue (R402, R464). -/
def State.sendCensus (s : State) (k : Nat) (oldEp : Bool) : State :=
  let run := s.stopRuns k
  let msg := fun (d : Nat) =>
    mkCtrl 7 d k [(43, 1, b2n (run && oldEp)), (11, 32, if run then s.residueBits k else 0), (7, 4, s.nodeTick k % 16)]
  (s.send (msg 60)).send (msg 62)

/-- All 60 reports of a boundary are in: each tracker's slice shows how many stops reported residue, and a second clean
boundary in a row is the census event (R349). -/
def State.censusEnd (s : State) (b : Nat) : State :=
  (List.range 32).foldl (fun a i =>
    let x := tget 0 s.slc.trk i
    if x = 0 ∨ atOrAfter 48 (tget 0 s.slc.since i - 1) b then a
    else
      let n := ((List.range 60).filter (fun k => nbit (tget 0 s.slc.censusSeen k - 1) i)).length
      let old := tget 0 s.slc.clean i
      let new := if n ≠ 0 then 0 else if old = 2 * (wrapSub 48 b 1) + 2 ∨ old % 2 = 1 then 1 else 2 * b + 2
      ({ a with slc := { a.slc with clean := tset 0 a.slc.clean i new } } : State).fset F.SLICE.DRY_STS.PENDING n (x - 1)) s

/-- The slice page owner takes a census report. -/
def State.census62 (s : State) (k low bits : Nat) : State :=
  let b := countWithLow (s.nodeTick 62) 4 low
  let seen := if s.slc.censusTick = b then s.slc.censusSeen else []
  let s1 : State := { s with slc := { s.slc with censusTick := b, censusSeen := tset 0 seen k (1 + bits) } }
  if (List.range 60).all (fun j => tget 0 s1.slc.censusSeen j != 0) then s1.censusEnd b else s1

/-- The census event of a tracked slice has occurred. -/
def State.censusHit (s : State) (x : Nat) : Bool :=
  match s.trackerOf x with
  | some i => tget 0 s.slc.clean i % 2 == 1
  | none => false

def execCensus (n : Node) (m : Msg) (s : State) : Res :=
  let s1 := s.take n m
  if !msgOk m then .next (s1.msgBad n m)
  else if n = 60 then .next (s1.census60 (msgSrc m) (vbits m 7 4) (m.getLsbD 43))
  else if n = 62 then .next (s1.census62 (msgSrc m) (vbits m 7 4) (vbits m 11 32))
  else .next s1

/-- DRY_REACHED. -/
def State.dryReached (s : State) (x : Nat) : State :=
  if s.sliceState x = 2 ∧ s.censusHit x then (s.setSlice x 3).untrack x else s

/-- The resources of a removed slice are released: contexts V = 0, bindings cleared, weights 16, counter sets emptied. -/
def State.releaseSlice (s : State) (x : Nat) : State :=
  let qs := (List.range (s.fget F.SLICE.ACC_Q.QCNT x)).map (fun i => s.fget F.SLICE.ACC_Q.QBASE x + i)
  let s1 : State := { s with eng := { s.eng with
    ctx := s.eng.ctx.map (fun e => if qs.contains (e.1 % 65536) && e.2.slice == x then (e.1, { e.2 with v := false }) else e),
    avail := tdrop (fun q => qs.contains q) s.eng.avail } }
  let s2 : State := { s1 with mtr := { s1.mtr with bind := tdrop (fun i => i % 4096 == x) s1.mtr.bind } }
  let s3 := (List.range 8).foldl (fun a e => a.fset F.ENG.SW_DATA.WEIGHT 16 e 0 0 x) s2
  (List.range (s.fget F.SLICE.ACC_C.CCNT x)).foldl (fun a i => a.clearSet (s.fget F.SLICE.ACC_C.CBASE x + i)) s3

/-- CLEARED: the slice is FREE. -/
def State.cleared (s : State) (x : Nat) : State :=
  if s.sliceState x = 5 ∧ s.censusHit x then
    let s0 := if tget 0 s.slc.moved x = 1 then { s with slc := { s.slc with moved := tset 0 s.slc.moved x 0 } } else s.releaseSlice x
    ((s0.setSlice x 0).untrack x).mirror (if s.isHome x then [.cleared x] else [])
  else s

def execDryReached (x : SliceNo) (s : State) : Res := .next (s.dryReached x)
def execCleared (x : SliceNo) (s : State) : Res := .next (s.cleared x)

/-- DRY_TICKS, and census events not yet taken, at a boundary of the slice page owner. -/
def State.sliceTick (s : State) : State :=
  let s1 := (s.activeSlices).foldl (fun a x =>
    if a.sliceState x = 2 ∨ a.sliceState x = 5 then a.fsat F.SLICE.DRY_TICKS 1 x else a) s
  let hits := (List.range 32).filterMap (fun i => if tget 0 s1.slc.trk i = 0 then none else some (tget 0 s1.slc.trk i - 1))
  (hits.foldl (fun a x => (a.dryReached x).cleared x) s1.createTick).sliceAgain

/-! ### Flush of a drydown (R357) -/

/-- Entries of a slice in flush spill, over all links. -/
def State.flushUse (s : State) (x : Nat) : Nat :=
  ((s.port.spill.map (fun e => (e.2.filter (fun y => 2 ≤ y.q && y.slice == x)).length)).foldl (· + ·) 0)

/-- Move what fits of the slice's posted entries of a link, oldest first; the answer says whether one did not fit. -/
def State.flushLink (s : State) (k l x : Nat) : State :=
  ((s.egr k l 0).filter (fun y => ofSlice x y.flit)).foldl (fun a y =>
    let room := ((a.spill k l).filter (fun e => 2 ≤ e.q)).length < a.spillCap k l 1
    let quota := 192 * (a.flushUse x + 1) ≤ 1048576 * a.fget F.SLICE.ACC_FLUSH.FLUSH_MIB x
    if room && quota then (a.setEgr k l 0 ((a.egr k l 0).filter (fun z => z.stamp != y.stamp))).spillOne k l 2 y
    else a.fput F.SLICE.DRY_STS.FLUSH_FULL true x) s

/-- DRYDOWN_FLUSH at a stop. -/
def State.drydownFlush (s : State) (k x : Nat) : State :=
  let at' := tget 0 s.slc.closedAt (sliceKey k x)
  if !isPortStop k ∨ s.sliceState x ≠ 2 ∨ at' = 0 ∨ !tickPast (s.nodeTick k) (at' - 1) (s.fget F.SLICE.CTL.FLUSH_AGE x) then s
  else (List.range 4).foldl (fun a l => if a.present k l && a.linkState k l != 0 then a.flushLink k l x else a) s

def execDrydownFlush (k : Stop) (x : SliceNo) (s : State) : Res := .next (s.drydownFlush k x)

/-! ### The slice page (R352–R354) -/

/-- DOORBELL written (R352). -/
def State.doorbellWrite (s : State) (x tail qoff : Nat) : State :=
  let s1 := (s.fset F.SLICE.DOORBELL.TAIL tail x).fset F.SLICE.DOORBELL.QOFF qoff x
  let n := s.fget F.SLICE.ACC_Q.QCNT x
  if n ≤ qoff then (s1.pgErr .slice x 0x104).record .slice x 0x82 (packBits [(0, 8, qoff), (8, 16, tail)]) n
  else
    let q := (s.fget F.SLICE.ACC_Q.QBASE x + qoff) % 65536
    s1.send (doorbellMsg (s.qmapCopy q) 62 q tail (s.sliceGen x))

def execDoorbellWrite (x : SliceNo) (tail : BitVec 16) (qoff : BitVec 8) (s : State) : Res :=
  .next ((s.touch .slice x).doorbellWrite x tail.toNat qoff.toNat)

/-- ARMED written 1 (R353): a bit already set presents at once. -/
def State.evtRearm (s : State) (x : Nat) : State :=
  let s1 := s.fput F.SLICE.EVT_CFG.ARMED true x
  if (List.range 8).any (fun i => s1.fget F.SLICE.EVT_PEND.PEND x i != 0) then s1.sliceIrq x else s1

def execEvtRearm (x : SliceNo) (s : State) : Res := .next ((s.touch .slice x).evtRearm x)

/-- Heads bound to meter `g` at the stops of its sector. -/
def State.meterHeads (s : State) (g : Nat) : List (Nat × FTxn) :=
  (sectorStops (g / 2048)).flatMap (fun k =>
    ((s.heads k).filter (fun t => s.boundTo (g / 2048) t.rq == g % 2048 + 1)).map (fun t => (k, t)))

/-- MTR_SEL written (R354). -/
def State.mtrSel (s : State) (x g : Nat) : State :=
  let own := s.ownsMeter x g
  let m := s.meter g
  let hs := s.meterHeads g
  let s1 := (((s.fset F.SLICE.MTR_SEL.METER g x).fput F.SLICE.MTR_STS.VALID true x).fput F.SLICE.MTR_STS.OWN own x)
  let s2 := (s1.fput F.SLICE.MTR_STS.RED (own && hs.any (fun h => h.2.colour == 2)) x).fput F.SLICE.MTR_STS.GATE_WAIT
    (own && hs.any (fun h => !s.gateOk h.1 h.2)) x
  (s2.fset F.SLICE.MTR_TC.TC (if own then m.tc else 0) x).fset F.SLICE.MTR_TP.TP (if own then m.tp else 0) x

def execMtrSelWrite (x : SliceNo) (g : Fin 16384) (s : State) : Res := .next ((s.touch .slice x).mtrSel x g)

end Sys2Proof.Machine
end

