-- ==== Sys2Proof/Machine/Telem.lean ====
section
/-! DEFINITION. Snapshots and freezes, counter writes, the sideband bridge and the sillage writers
(16_counters_and_sillage). -/

namespace Sys2Proof.Machine

/-! ### Arming (R430–R432) -/

/-- SNAP_REQ (R430). -/
def execSnapReq (s : State) : Res := .next ((s.touch .glb 0).fput F.GLB.SNAP.REQ true)

/-- A write of FREEZE.ARM; not performed while the hold is in force (R431). -/
def State.freezeArm (s : State) : State :=
  if s.fbit F.GLB.FREEZE_STS.HELD then s.pgErr .glb 0 0x300
  else if s.cnt.freezeQ.contains none then s
  else (({ s with cnt := { s.cnt with freezeQ := s.cnt.freezeQ ++ [none] } } : State).fput F.GLB.FREEZE.ARM true).setFreezeOwner

/-- A write of FREEZE.RELEASE: the hold ends at the next boundary. -/
def State.freezeRelease (s : State) : State :=
  if s.fbit F.GLB.FREEZE_STS.HELD then { s with cnt := { s.cnt with relAt := 1 + wrapAdd 48 (s.nodeTick 60) 1 } } else s

def execFreezeArm (s : State) : Res := .next (s.touch .glb 0).freezeArm
def execFreezeRelease (s : State) : Res := .next (s.touch .glb 0).freezeRelease

/-- A write of FREEZE: RELEASE first; ARM is not performed while HELD is 1 (Table 16-12). -/
def State.freezeWrite (s : State) (w : Word) : State :=
  let s1 := if w.getLsbD 1 then s.freezeRelease else s
  if w.getLsbD 0 then s1.freezeArm else s1

/-! ### The latch (R429, R431, R433, duty 2) -/

/-- One counter block copies its counters into their shadows, unless they are held; a counter freeze then holds them. -/
def State.latchBlock (s : State) (c : Cls) (inst now : Nat) (hold : Bool) : State :=
  if s.fbit (F.CB.SH_TICK_HI.HELD c) inst then s
  else
    let s1 := (List.range 8).foldl (fun a i => a.setWide (F.CB.SH_LO c) (F.CB.SH_HI c)
      (a.wide (F.CB.CNT_LO c) (F.CB.CNT_HI c) inst i) inst i) s
    let s2 := s1.setWide (F.CB.SH_CYC_LO.SH_CYC c) (F.CB.SH_CYC_HI.SH_CYC c) (s1.wide (F.CB.CYC_LO.CYC c) (F.CB.CYC_HI.CYC c) inst) inst
    let s3 := s2.setWide (F.CB.SH_TICKS_LO.SH_TICKS c) (F.CB.SH_TICKS_HI.SH_TICKS c)
      (s2.wide (F.CB.TICKS_LO.TICKS c) (F.CB.TICKS_HI.TICKS c) inst) inst
    (s3.setWide (F.CB.SH_TICK_LO.SH_LO c) (F.CB.SH_TICK_HI.SH_HI c) now inst).fput (F.CB.SH_TICK_HI.HELD c) hold inst

/-- Slots of a stop that have crossed and are not settled (UNSET). -/
def State.unsetCnt (s : State) (k : Nat) : Nat := (tget [] s.arb.unset k).length

/-- The slot accounting of stop `k` is latched with its block (R436). -/
def State.latchSlots (s : State) (k : Nat) : State :=
  let s1 := (List.range 20).foldl (fun a e => a.setWide F.PMU.SH_SLOT_LO.SH_COUNT F.PMU.SH_SLOT_HI.SH_COUNT
    (a.wide F.PMU.SLOT_LO.COUNT_LO F.PMU.SLOT_HI.COUNT_HI k e) k e) s
  (s1.setWide F.PMU.SH_SLOTS_LO.SH_SLOTS F.PMU.SH_SLOTS_HI.SH_SLOTS (s1.wide F.PMU.SLOTS_LO.SLOTS F.PMU.SLOTS_HI.SLOTS k) k).fset
    F.PMU.SH_UNSET (s.unsetCnt k) k

/-- A migration freeze has latched a slice's sets and SAVE has not read them (R433). -/
def State.setsHeld (s : State) (x : Nat) : Bool :=
  s.sliceState x == 4 && s.fbit F.SLICE.FRZ_TICK_HI.LATCHED x && tget 0 s.fl.read x == 0

/-- The latch under way copies the sets of slice `y` in sector `x`: the freezing slice's; of the others not those that wait
for SAVE, and none while a counter freeze holds at a migration freeze (Table 16-12). -/
def State.latchesSets (s : State) (x y : Nat) : Bool :=
  let mig := s.cnt.latchKind == 2
  (mig && y == s.cnt.latchSlice) || (!s.setsHeld y && !(mig && s.fbit (F.CB.SH_TICK_HI.HELD .pwr) x))

/-- The partials of sector `x` are latched. -/
def State.latchSets (s : State) (x : Nat) : State :=
  (s.activeSlices.filter (s.latchesSets x)).foldl (fun a y =>
    (a.setsOf y).foldl (fun b n => let p := b.cpart n x; b.setCpart n x { p with sh := p.cnt }) a) s

/-- Counter blocks whose page a node owns (Table 16-1). -/
def blocksAt (n : Nat) : List (Cls × Nat) :=
  (if n < 60 then [(Cls.pmu, n)] else []) ++ (if n = 61 then (List.range 9).map (fun r => (Cls.ring, r)) else [])
  ++ (if isEngStop n then [(Cls.eng, sectorOf n)] else []) ++ (if isSpareStop n then [(Cls.pwr, sectorOf n)] else [])

/-- What node `n` latches at this boundary. -/
def State.latchNow (s : State) (n : Nat) : State :=
  let now := s.nodeTick n
  let hold := s.cnt.latchKind == 1
  let s0 : State := { s with cnt := { s.cnt with latched := tset 0 s.cnt.latched n s.cnt.latchAt } }
  let s1 := if n < 60 ∧ !s.fbit (F.CB.SH_TICK_HI.HELD .pmu) n then s0.latchSlots n else s0
  let s2 := (blocksAt n).foldl (fun a b => a.latchBlock b.1 b.2 now hold) s1
  let s3 := if isSpareStop n then s2.latchSets (sectorOf n) else s2
  let s4 := if n ≠ 60 then s3 else
    let a := (s3.setWide F.GLB.LATCH_LO F.GLB.LATCH_HI.LATCH_HI now).fset F.GLB.LATCH_HI.KIND s.cnt.latchKind
    let b := if hold then a.fput F.GLB.FREEZE_STS.HELD true else a
    b.sillage 60 0x02 (packBits [(0, 2, s.cnt.latchKind), (16, 12, s.cnt.latchSlice)])
  if n = 62 ∧ s.cnt.latchKind = 2 ∧ s.sliceState s.cnt.latchSlice = 4 then
    let x := s.cnt.latchSlice
    (s4.setWide F.SLICE.FRZ_TICK_LO.FRZ_LO F.SLICE.FRZ_TICK_HI.FRZ_HI now x).fput F.SLICE.FRZ_TICK_HI.LATCHED true x
  else s4

/-- The hold of a counter freeze ends at the node (R431). -/
def State.releaseHold (s : State) (n : Nat) : State :=
  if s.cnt.relAt ≠ 0 ∧ tget 0 s.cnt.relDone n ≠ s.cnt.relAt ∧ atOrAfter 48 (s.nodeTick n) (s.cnt.relAt - 1) then
    let s0 : State := { s with cnt := { s.cnt with relDone := tset 0 s.cnt.relDone n s.cnt.relAt } }
    let s1 := (blocksAt n).foldl (fun a b => a.fput (F.CB.SH_TICK_HI.HELD b.1) false b.2) s0
    if n = 60 then s1.fput F.GLB.FREEZE_STS.HELD false else s1
  else s

/-- Duty 2 of a boundary at node `n`. -/
def State.latchDuty (s : State) (n : Nat) : State :=
  let s1 := s.releaseHold n
  let at' := s.cnt.latchAt
  if at' ≠ 0 ∧ tget 0 s.cnt.latched n ≠ at' ∧ atOrAfter 48 (s.nodeTick n) (at' - 1) then s1.latchNow n else s1

/-- TICKS of the counter blocks of a node (R424); the blocks of a stop that does not run keep their values (R402). -/
def State.ticksDuty (s : State) (n : Nat) : State :=
  ((blocksAt n).filter (fun b => b.1 == .ring || s.stopRuns n)).foldl (fun a b =>
    let v := a.wide (F.CB.TICKS_LO.TICKS b.1) (F.CB.TICKS_HI.TICKS b.1) b.2 + 1
    let a1 := a.setWide (F.CB.TICKS_LO.TICKS b.1) (F.CB.TICKS_HI.TICKS b.1) (v % 2 ^ 48) b.2
    if v < 2 ^ 48 then a1 else a1.fput (F.CB.CB_OVF.OVF_TICKS b.1) true b.2) s

/-! ### Counter writes (R428) -/

def blockKey (c : Cls) (inst i : Nat) : Nat := (c.code * 64 + inst) * 8 + i

/-- A write of CNT_LO is held. -/
def State.cntLoWrite (s : State) (c : Cls) (inst i : Nat) (w : Word) : State :=
  { s with cnt := { s.cnt with loHold := tset 0 s.cnt.loHold (blockKey c inst i) w.toNat } }

/-- A write of CNT_HI sets all 48 bits, the low ones from the held CNT_LO. -/
def State.cntHiWrite (s : State) (c : Cls) (inst i : Nat) (w : Word) : State :=
  s.setWide (F.CB.CNT_LO c) (F.CB.CNT_HI c) (tget 0 s.cnt.loHold (blockKey c inst i) + 2 ^ 32 * vbits w 0 16) inst i

/-- Blocks of a class. -/
def blockCount (c : Cls) : Nat := match c with | .pmu => 60 | .ring => 9 | .eng => 8 | .pwr => 8 | _ => 0

/-- CNT_HI_WRITE (R428); a class without counter blocks has no such register. -/
def execCntHiWrite (c : Cls) (inst : Fin 60) (i : Fin 8) (w : Word) (s : State) : Res :=
  .next (if inst.val < blockCount c then (s.touch c inst).cntHiWrite c inst i w else s)

/-! ### The sideband (R446, R551) -/

/-- Number of links that satisfy a test. -/
def State.linkCount (s : State) (p : Nat → Nat → Bool) : Nat :=
  ((portStops.flatMap (fun k => (List.range 4).map (fun l => (k, l)))).filter (fun x => s.present x.1 x.2 && p x.1 x.2)).length

/-- Some page of a class has a code in PG_ERR_FIRST. -/
def State.errHeld (s : State) (c : Cls) : Bool :=
  s.regs.any (fun e => e.1 == (F.HDR.PG_ERR_FIRST.CODE c).key (keyPage e.1 % 4096) 0 0 0)

/-- Slices in a state. -/
def State.slicesIn (s : State) (st : Nat) : Nat := (s.activeSlices.filter (fun x => s.sliceState x == st)).length

/-- Sum of a field over eight instances, 32 bits. -/
def State.sum8 (s : State) (f : Fld) : Nat := ((List.range 8).map (fun i => s.fget f i)).foldl (· + ·) 0 % 2 ^ 32

/-- The status items of Table 16-8 as node 60 knows them. -/
def State.sbValue (s : State) (i : Nat) : Nat :=
  let each := fun (n w : Nat) (f : Nat → Nat) => packBits ((List.range n).map (fun j => (w * j, w, f j)))
  match i with
  | 0 => packBits [(0, 2, s.fabState), (2, 1, s.fget F.TICK.TICK_STS.RUNNING), (3, 1, s.fget F.TICK.TICK_STS.HOLDOVER)]
  | 1 => s.nodeTick 60
  | 2 => packBits [(0, 16, s.fget F.GLB.EPOCH_STS.EPOCH_NUM), (16, 1, s.fget F.GLB.EPOCH_STS.ACTIVE), (17, 1, s.fget F.GLB.EPOCH_STS.DRAINED)]
  | 3 => each 9 3 s.ringState + 2 ^ 27 * each 9 1 (fun r => s.fget F.RING.RING_STS.SUSPECT r)
  | 4 => each 8 5 (fun x => s.sectorState x + 4 * s.fget F.PWR.PS_STS.PHASE x)
  | 5 => each 8 2 (chState s)
  | 6 => each 8 2 (fun e => s.fget F.ENG.ENG_STS.STATE e)
  | 7 => packBits [(0, 1, s.fget F.GLB.SPINE_PWR.STATE), (1, 1, s.fget F.GLB.CORE_PWR.STATE), (2, 16, s.fget F.GLB.LSG_STS.EST),
      (18, 1, s.fget F.GLB.LSG_STS.LIMITING)]
  | 8 =>
    let other := [Cls.tick, .arb, .gate, .pmu, .eng, .repl, .pair, .pwr, .xb, .fi, .ctl, .mbox, .slice].any s.errHeld
    each 60 1 (fun k => b2n (s.fget (F.HDR.PG_ERR_FIRST.CODE .stop) k != 0))
      + packBits [(60, 1, b2n (s.errHeld .glb)), (61, 1, b2n (s.errHeld .ring)), (62, 1, b2n (s.errHeld .mem)), (63, 1, b2n other)]
  | 9 => s.sum8 F.MEM.SIL_WPTR.WPTR + 2 ^ 32 * s.sum8 F.MEM.SIL_LOST.LOST
  | 10 =>
    let st := fun (v : Nat) => s.linkCount (fun k l => s.fget F.STOP.LINK_STS.STATE k l == v)
    packBits [(0, 8, st 1), (8, 8, st 2), (16, 8, st 0), (24, 8, s.linkCount (fun k l => s.fbit F.STOP.LINK_STS.HOLDING k l))]
  | 11 => packBits [(0, 13, s.slicesIn 1), (13, 13, s.slicesIn 2), (26, 13, s.slicesIn 5)]
  | _ => 0

/-- GLB samples every item at its boundary (R446). DESIGN CHOICE: with SB_CTL.EN = 1 a launched value has crossed and is
acknowledged before the next boundary. -/
def State.sbSample (s : State) : State :=
  let en := s.fbit F.GLB.SB_CTL.EN
  (List.range 12).foldl (fun a i =>
    let x := tget {} a.cnt.sb i
    let v := s.sbValue i
    let y := if v = x.val then x else { x with val := v, seq := wrapAdd 8 x.seq 1 }
    let z := if en then { y with out := y.val, outSeq := y.seq } else y
    { a with cnt := { a.cnt with sb := tset {} a.cnt.sb i z } }) s

/-- SB_VAL and SB_CSEQ (R551): the selected item as last transferred; items 12–15 read 0. -/
def State.sbOut (s : State) : Nat × Nat := let x := tget {} s.cnt.sb s.cnt.sbSel; (x.out, x.outSeq)

/-- SB_SELECT (R551). -/
def execSbSelect (sel : Fin 16) (s : State) : Res := .next { s with cnt := { s.cnt with sbSel := sel } }

/-! ### The sillage writers (R447–R449) -/

def State.silStg (s : State) (x : Nat) : List SilEnt := tget [] s.cnt.silStg x

/-- Staging changes: STAGED and DONE follow (R449, Table 16-14). -/
def State.setSilStg (s : State) (x : Nat) (l : List SilEnt) : State :=
  let s1 : State := { s with cnt := { s.cnt with silStg := tset [] s.cnt.silStg x l } }
  (s1.fset F.MEM.SIL_STG.STAGED l.length x).fset F.MEM.SIL_DONE.DONE (match l with | [] => s.fget F.MEM.SIL_WPTR.WPTR x | e :: _ => e.seq) x

/-- The 32 bytes of an entry (Table 16-10). -/
def silBytes (tick seq src code inj supp writer info : Nat) : Nat :=
  packBits [(0, 48, tick), (48, 32, seq), (80, 8, src), (88, 8, code), (96, 1, inj), (104, 16, supp), (120, 8, writer), (128, 128, info)]

/-- Stage an entry, there being room. -/
def State.silPut (s : State) (x tick src code inj supp info : Nat) : State :=
  let q := s.fget F.MEM.SIL_WPTR.WPTR x
  let e : SilEnt := { seq := q, data := silBytes tick q src code inj supp x info, tick := s.nodeTick (memStop x) }
  (s.fset F.MEM.SIL_WPTR.WPTR (wrapAdd 32 q 1) x).setSilStg x (s.silStg x ++ [e])

/-- Room has returned: the entries discarded meanwhile are told first (R449). -/
def State.silTell (s : State) (x : Nat) : State :=
  let n := tget 0 s.cnt.silOver x
  if n = 0 ∨ 1024 ≤ (s.silStg x).length then s
  else
    ({ s with cnt := { s.cnt with silOver := tset 0 s.cnt.silOver x 0 } } : State).silPut x (s.nodeTick (memStop x)) (memStop x) 0x0C 0 0 n

/-- A complete entry reaches its writer. -/
def State.silEntry (s : State) (x node payload : Nat) : State :=
  if 1024 ≤ (s.silStg x).length then
    ({ s with cnt := { s.cnt with silOver := tset 0 s.cnt.silOver x (tget 0 s.cnt.silOver x + 1) } } : State).fsat F.MEM.SIL_LOST.LOST 1 x
  else
    s.silPut x (countWithLow (s.nodeTick (memStop x)) 15 (nbits payload 9 15)) node (nbits payload 0 8) (nbits payload 8 1)
      (nbits payload 24 16) (nbits payload 40 128)

/-- A fragment at writer `x` (Table 16-9). -/
def State.silFrag (s : State) (x : Nat) (m : Msg) : State :=
  let key := msgSrc m * 128 + vbits m 38 7
  let f := vbits m 45 3
  let b := tget {} s.cnt.silPart key
  if 6 ≤ f then s
  else
    let b1 : FragBuf := if nbit b.seen f then b else ⟨b.seen + 2 ^ f, b.data + vbits m 7 31 * 2 ^ (31 * f)⟩
    if b1.seen = 63 then
      ({ s with cnt := { s.cnt with silPart := tset {} s.cnt.silPart key {} } } : State).silEntry x (msgSrc m) b1.data
    else { s with cnt := { s.cnt with silPart := tset {} s.cnt.silPart key b1 } }

/-- SIL_FRAG (R449); only a memory stop's node is a writer. -/
def execSilFrag (n : Stop) (m : Msg) (s : State) : Res :=
  let s1 := s.take n m
  .next (if !msgOk m then s1.msgBad n m else if isMemStop n then s1.silFrag (sectorOf n) m else s1)

/-- SIL_FRAG_TIMEOUT (R449): the reporter's entry `e` is discarded. -/
def execSilFragTimeout (r : Node) (e : Fin 128) (s : State) : Res :=
  let key := r.val * 128 + e.val
  .next (if (tget {} s.cnt.silPart key).seen = 0 then s
    else ({ s with cnt := { s.cnt with silPart := tset {} s.cnt.silPart key {} } } : State).fsat F.MEM.SIL_LOST.LOST 1 (sectorOf (writerStop r)))

/-- FMA of an entry in segment `x` (R447). -/
def silFma (x seq : Nat) : Nat := 0x32022000 + x * 0x08000000 + 32 * (seq % 4194304)

/-- The line that is due: its staged entries, four of them or the oldest two ticks old (R449). -/
def State.silLine (s : State) (x : Nat) : List SilEnt :=
  match (s.silStg x).find? (fun e => e.st == 0) with
  | none => []
  | some e =>
    let l := (s.silStg x).filter (fun y => y.st == 0 && y.seq / 4 == e.seq / 4)
    if l.length = 4 ∨ tickPast (s.nodeTick (memStop x)) e.tick 2 then l else []

/-- The number of a line's write at the memory stop. -/
def silJob (seq : Nat) : Nat := 2 + seq

/-- Attached memory is being zeroed: a core is ACTIVE and MEM_INIT is still 0 (R493). -/
def State.zeroing (s : State) : Bool :=
  !s.fbit F.GLB.FAB_STS.MEM_INIT && (s.fget F.CTL.CORE_STS.STATE_A == 4 || s.fget F.CTL.CORE_STS.STATE_B == 4)

/-- SIL_LINE_WRITE (R449): one CTL MWR with SLICE 0x000, held while the memory stop is closed, HALT is 1 or memory is being
zeroed (R493). -/
def State.silWrite (s : State) (x : Nat) : State :=
  let m := memStop x
  let l := s.silLine x
  if l.isEmpty ∨ s.fbit F.GLB.SIL_CTL.HALT ∨ s.zeroing ∨ s.fbit F.STOP.POOL_STS.CLOSING m ∨ !s.stopRuns m then s
  else
    let seq := (l.map (fun e => e.seq)).headD 0
    let fma := silFma x seq
    let bytes := bytesOf (32 * l.length) (packBits ((List.range l.length).map (fun i => (256 * i, 256, (l.map (fun e => e.data)).getD i 0))))
    (s.setSilStg x ((s.silStg x).map (fun e => if l.contains e then { e with st := 1, line := silJob seq } else e))).submit m {
      hdr := { emptyFlit with
        opc := opMWR, cls := clsCTL, addr := BitVec.ofNat 64 fma, be := 0xFF, len := BitVec.ofNat 10 (8 * l.length) },
      chunks := chunksOf 32 bytes, ldst := memStop (fmaLoc fma).1, lane := 15, job := silJob seq }

def execSilLineWrite (x : Sector) (s : State) : Res := .next (s.silWrite x)

/-- A write of stop `k` with a number is not yet acknowledged. -/
def State.writeOut (s : State) (k j : Nat) : Bool :=
  (s.formQ k).any (fun r => r.job == j) || (s.queue k).any (fun t => t.job == j) || (s.ret k).any (fun c => c.job == j)
  || (match tget none s.arb.burst k with | some b => b.job == j | none => false)

/-- SIL_LINE_ACK (R449): lines whose write is acknowledged leave staging from the oldest. -/
def State.silAck (s : State) (x : Nat) : State :=
  let m := memStop x
  let l := (s.silStg x).map (fun (e : SilEnt) => if e.st == 1 && !s.writeOut m e.line then { e with st := 2 } else e)
  (s.setSilStg x (l.dropWhile (fun e => e.st == 2))).silTell x

def execSilLineAck (x : Sector) (s : State) : Res := .next (s.silAck x)

/-- SIL_ST_DATA: the staged entry that SIL_ST_SEL addresses. -/
def State.silStaged (s : State) (x : Nat) : Nat :=
  ((s.silStg x)[s.fget F.MEM.SIL_ST_SEL.IDX x]?).map (fun e => e.data) |>.getD 0

end Sys2Proof.Machine
end

