-- ==== Sys2Proof/Machine/Cycle.lean ====
section
/-! DEFINITION. A clock cycle of the block in which no command comes: CYC and the occupancy events of Table 16-3
(16_counters_and_sillage R424, R425). -/

namespace Sys2Proof.Machine

/-- A cycle counted by CYC of a block (R424). -/
def State.cycInc (s : State) (b : Cls) (inst : Nat) : State :=
  let v := s.wide (F.CB.CYC_LO.CYC b) (F.CB.CYC_HI.CYC b) inst + 1
  let s1 := s.setWide (F.CB.CYC_LO.CYC b) (F.CB.CYC_HI.CYC b) (v % 2 ^ 48) inst
  if v < 2 ^ 48 then s1 else s1.fput (F.CB.CB_OVF.OVF_CYC b) true inst

/-- An occupancy event in a cycle: `parts` are its amounts by attribute. A counter takes the sum of what its selection
admits; LEVEL adds 1 while that is not 0, EDGE in the first such cycle, SUM adds it (R425, R427). -/
def State.occEvt (s : State) (b : Cls) (inst evt : Nat) (parts : List (EvtAttr × Nat)) : State :=
  (List.range 8).foldl (fun a i =>
    if !(a.fbit (F.CB.EVT_SEL.EN b) inst i && a.fget (F.CB.EVT_SEL.EVT b) inst i == evt) then a
    else
      let n := ((parts.filter (fun p => a.ctrMatches b inst i evt p.1)).map (fun p => p.2)).foldl (· + ·) 0
      let key := blockKey b inst i
      let was := tget 0 a.cnt.edge key
      let a1 : State := { a with cnt := { a.cnt with edge := tset 0 a.cnt.edge key (min 1 n) } }
      let add := match a.fget (F.CB.EVT_SEL.MODE b) inst i with
        | 2 => n
        | 1 => if n ≠ 0 ∧ was = 0 then 1 else 0
        | _ => min 1 n
      if add = 0 then a1 else a1.ctrAdd b inst i add) s

/-- Requests for credit outstanding, by class. -/
def State.reqsOut (s : State) (k : Nat) : List (EvtAttr × Nat) :=
  (s.resv.credit.filter (fun e => e.1 / 256 == k && e.2.out.isSome)).map (fun e => ({ cls := some (e.1 % 4) }, 1))

/-- Heads held red. -/
def State.redHeads (s : State) (k : Nat) : List (EvtAttr × Nat) :=
  ((s.heads k).filter (fun t => t.colour == 2)).map (fun t =>
    ({ cls := some t.head.cls.toNat, slice := some t.head.slice.toNat }, 1))

/-- Receive parts whose XOFF is asserted. -/
def State.xoffCount (s : State) (k : Nat) : Nat :=
  ((List.range 4).map (fun l => popCount (s.fget F.STOP.LINK_STS.XOFF k l) 3)).foldl (· + ·) 0

/-- A cycle at stop `k`, whose clock runs. -/
def State.stopCycle (s : State) (k : Nat) : State :=
  let one := fun (n : Nat) => [(({} : EvtAttr), n)]
  let s1 := (((s.cycInc .pmu k).occEvt .pmu k 0x005 (one (s.ingressUsed k))).occEvt .pmu k 0x006 (one (s.sramUsed k))).occEvt
    .pmu k 0x007 (one (s.tagsOf k).length)
  ((s1.occEvt .pmu k 0x008 (s.reqsOut k)).occEvt .pmu k 0x00D (s.redHeads k)).occEvt .pmu k 0x00E (one (s.xoffCount k))

/-- A chunk of the engine waits for budget (R305). -/
def State.budgetWait (s : State) (e : Nat) : Bool :=
  (s.execOf e).any (fun d =>
    (match d.toWrite with
      | some c => s.budget e < c.len
      | none => false)
    || (!d.ended && d.next < d.total && dOp d.bits != 1 && s.engRoom e
        && s.budget e < chunkLen d.bits d.next (s.fget F.ENG.CHUNK e)))

/-- A cycle at engine `e`. -/
def State.engCycle (s : State) (e : Nat) : State :=
  ((s.cycInc .eng e).occEvt .eng e 0x205 [({}, (s.execOf e).length)]).occEvt .eng e 0x206 [({}, b2n (s.budgetWait e))]

/-- The clock of stop `k` makes an edge in this cycle: every second one in TRIM (Table 15-1). -/
def State.clockEdge (s : State) (k : Nat) : Bool := s.stopRuns k && (!s.stopTrim k || s.cycle % 2 == 0)

/-- A cycle without a command. DESIGN CHOICE: every clock of the block that runs at full rate makes one edge in it. -/
def State.idleCycle (s : State) : State :=
  let s1 := (List.range 60).foldl (fun a k => if a.clockEdge k then a.stopCycle k else a) s
  let s2 := (List.range 9).foldl (fun a r => a.cycInc .ring r) s1
  let s3 := (List.range 8).foldl (fun a e => if a.clockEdge (engStop e) then a.engCycle e else a) s2
  let s4 := (List.range 8).foldl (fun a x => if a.clockEdge (engStop x) then a.cycInc .pwr x else a) s3
  let s5 := s4.ringStep
  { s5 with cycle := s5.cycle + 1 }

end Sys2Proof.Machine
end

