-- ==== Sys2Proof/Machine/Flacon.lean ====
section
/-! DEFINITION. Flacons: SAVE, LOAD, REBIND, COPY, DROP and slot access (13_flacons_and_migration R365–R377, R445). -/

namespace Sys2Proof.Machine

/-! ### The layout (Tables 13-1 to 13-3, 16-6) -/

/-- LENGTH of a flacon in bytes, and the 128-byte pieces that it takes. -/
def flLength : Nat := 0x4500
def flPieces : Nat := 138

/-- FMA of byte `b` of slot `i`. -/
def slotFma (i b : Nat) : Nat := regionFma rowFlacon (65536 * i + b)

/-- A field of a flacon: first byte, bytes, value, as a place for `packBits`. -/
def at8 (b n v : Nat) : Nat × Nat × Nat := (8 * b, 8 * n, v)

/-- The fields of an accord register, by its place 0 to 7 at 0x810 to 0x82C. -/
def accordReg : Nat → List Fld
  | 0 => [F.SLICE.ACC_DOM.DOM]
  | 1 => [F.SLICE.ACC_Q.QBASE, F.SLICE.ACC_Q.QCNT]
  | 2 => [F.SLICE.ACC_M.MBASE, F.SLICE.ACC_M.MCNT]
  | 3 => [F.SLICE.ACC_C.CBASE, F.SLICE.ACC_C.CCNT]
  | 4 => [F.SLICE.ACC_UFIRST.UNIT_FIRST]
  | 5 => [F.SLICE.ACC_UCNT.UNIT_CNT]
  | 6 => [F.SLICE.ACC_FLUSH.FLUSH_MIB]
  | _ => [F.SLICE.ACC_EW.ENG_WT]

def ctlReg : List Fld := [F.SLICE.CTL.CNT_VIS, F.SLICE.CTL.FLUSH_AGE]

def csCfg : List Fld :=
  [F.GLB.CS_CFG.LINK, F.GLB.CS_CFG.ANY, F.GLB.CS_CFG.RX, F.GLB.CS_CFG.TX, F.GLB.CS_CFG.CLS, F.GLB.CS_CFG.SCHED, F.GLB.CS_CFG.V]

/-- FRZ_TICK of a slice. -/
def State.frzTick (s : State) (x : Nat) : Nat := s.wide F.SLICE.FRZ_TICK_LO.FRZ_LO F.SLICE.FRZ_TICK_HI.FRZ_HI x

/-- Meter record `i` of a slice (R368), at byte `b`, its buckets as at tick `frz`. -/
def State.meterRec (s : State) (x i b frz : Nat) : List (Nat × Nat × Nat) :=
  let g := s.fget F.SLICE.ACC_M.MBASE x + i
  let y := g / 2048
  let m := g % 2048
  let bank := s.bankAt (meterPage y)
  let r := s.meterRates y m bank
  let m0 := s.meter g
  let v := if atOrAfter 48 frz m0.last then access m0 frz s.epochLast r else m0
  let bind := packBits ((List.range 4).map (fun c => (c, 1, b2n (s.boundTo y (4096 * c + x) == m + 1))))
  [at8 b 4 r.1, at8 (b + 4) 4 r.2.1, at8 (b + 8) 4 r.2.2.1, at8 (b + 12) 4 r.2.2.2,
   at8 (b + 16) 1 (s.fget F.STOP.METER_MODE.AWARE (meterPage y) 0 bank m),
   at8 (b + 17) 1 (s.fget F.STOP.METER_MODE.TC_YEL (meterPage y) 0 bank m), at8 (b + 18) 1 bind,
   at8 (b + 19) 1 (b2n m0.ovfG + 2 * b2n m0.ovfY), at8 (b + 20) 6 m0.green, at8 (b + 26) 6 m0.yellow,
   at8 (b + 32) 4 m0.red, at8 (b + 36) 4 v.tc, at8 (b + 40) 4 v.tp]

/-- Counter-set image of set `n` (R445): the shadows and OVF. -/
def State.setImage (s : State) (n b : Nat) : List (Nat × Nat × Nat) :=
  let v := s.viewSet n
  [at8 b 4 (s.word csCfg 0 0 0 n), at8 (b + 4) 1 v.ovf]
  ++ (List.range 8).map (fun i => at8 (b + 8 + 8 * i) 8 (v.sh.getD i (0, false)).1)

/-- Billing window block of set `n` (Table 16-6). DESIGN CHOICE: the window is the schedule's at FRZ_TICK, its bytes what the
accumulators still hold of it. -/
def State.windowBlock (s : State) (n frz b : Nat) : List (Nat × Nat × Nat) :=
  let j := s.fget F.GLB.CS_CFG.SCHED 0 0 0 n
  let w := s.windowAt j frz
  let by' := (List.range 8).map (fun y => (s.cpart n y).bytes w)
  let sum := fun (f : Nat × Nat → Nat) => (by'.map f).foldl (· + ·) 0 % 2 ^ 48
  let c := tget {} s.cnt.cset n
  let cur := tget {} s.cnt.wsCur j
  let fl := (if cur.k = w then cur.flags else 0) ||| (if c.moved = w ∧ w ≠ 0 then 8 else 0) ||| (if c.fresh = w ∧ w ≠ 0 then 32 else 0)
  let r := s.setRecord n
  [at8 b 4 (w - 1), at8 (b + 4) 2 fl, at8 (b + 8) 6 (sum (fun p => p.1)), at8 (b + 16) 6 (sum (fun p => p.2)),
   at8 (b + 32) 4 r.k, at8 (b + 36) 6 r.close, at8 (b + 42) 6 r.rx, at8 (b + 48) 6 r.tx, at8 (b + 54) 2 r.flags]

/-- Queue record of queue `q` (R369). -/
def State.queueRec (s : State) (q k b : Nat) : List (Nat × Nat × Nat) :=
  let c := s.qctx (s.qmap q) q
  [at8 b 1 k, at8 (b + 1) 1 c.now, at8 (b + 2) 1 (packBits [(0, 2, c.cls), (2, 1, b2n c.pv), (3, 1, b2n c.pushq), (4, 4, c.ring - 4)]),
   at8 (b + 4) 4 c.pasid, at8 (b + 8) 2 c.ringFn, at8 (b + 10) 2 c.recFn, at8 (b + 12) 2 c.head, at8 (b + 14) 2 c.tail,
   at8 (b + 16) 8 c.ringBase, at8 (b + 24) 8 c.recBase]

/-- The bytes of a flacon of slice `x` as a number, CRC 0 and VALID 1 (R367). DESIGN CHOICE: the completion tick is that at
which the bytes are formed. -/
def State.flaconBody (s : State) (x : Nat) : Nat :=
  let g := fun f => s.fget f x
  let frz := s.frzTick x
  let head := [at8 0 2 0xF1AC, at8 2 1 1, at8 3 1 1, at8 4 2 (x + 4096 * s.sliceGen x), at8 6 2 flLength, at8 8 6 frz,
    at8 14 6 (s.nodeTick 60), at8 20 2 s.boot.instId, at8 22 1 (g F.SLICE.ACC_M.MCNT),
    at8 23 1 (g F.SLICE.ACC_C.CCNT), at8 24 2 (g F.SLICE.ACC_Q.QCNT)]
  let acc := (List.range 8).map (fun i => at8 (0x40 + 4 * i) 4 (s.word (accordReg i) x))
  let wts := (List.range 60).map (fun k => at8 (0x80 + k) 1 (s.fget F.ARB.SW_DATA.SLICE_WT k 0 (s.bankAt k) x))
  let evt := (List.range 8).map (fun i => at8 (0xC0 + 4 * i) 4 (s.fget F.SLICE.EVT_PEND.PEND x i))
    ++ [at8 0xE0 1 (s.word [F.SLICE.EVT_CFG.EN, F.SLICE.EVT_CFG.ARMED] x)]
  let sets := (List.range (g F.SLICE.ACC_C.CCNT)).flatMap (fun j =>
    s.windowBlock (g F.SLICE.ACC_C.CBASE + j) frz (0x100 + 256 * j) ++ s.setImage (g F.SLICE.ACC_C.CBASE + j) (0x1500 + 1024 * j))
  let mtrs := (List.range (g F.SLICE.ACC_M.MCNT)).flatMap (fun i => s.meterRec x i (0x500 + 64 * i) frz)
  let qs := (List.range (g F.SLICE.ACC_Q.QCNT)).flatMap (fun k =>
    s.queueRec ((g F.SLICE.ACC_Q.QBASE + k) % 65536) k (0x2500 + 32 * k))
  packBits (head ++ acc ++ [at8 0x60 4 (s.word ctlReg x)] ++ wts ++ evt ++ sets ++ mtrs ++ qs)

/-- Replace a byte range of a number. -/
def putBytes (v b n w : Nat) : Nat := v - nbits v (8 * b) (8 * n) * 2 ^ (8 * b) + w % 2 ^ (8 * n) * 2 ^ (8 * b)

/-- CRC over bytes 0 to LENGTH − 1 with the CRC field 0 and VALID 1 (R367). -/
def flaconCrc (v : Nat) : Nat := (crc32 (bytesOf flLength (putBytes (putBytes v 60 4 0) 3 1 1))).toNat

/-- A field of a flacon. -/
def flAt (v b n : Nat) : Nat := nbits v (8 * b) (8 * n)

/-! ### Reads and writes of the slot (R370) -/

def State.setFl (s : State) (f : FlSt) : State := { s with fl := f }

/-- A CTL write of bytes to the store, by the stop of the core that carries the command out. -/
def State.flWrite (s : State) (fma first last : Nat) (bytes : List (BitVec 8)) : State :=
  let n := bytes.length
  s.submit s.fl.core {
    hdr := { emptyFlit with
      opc := opMWR, addr := BitVec.ofNat 64 fma, len := BitVec.ofNat 10 (n / 4),
      be := BitVec.ofNat 16 (first + 16 * (if n = 4 then 0 else last)) },
    chunks := chunksOf 32 bytes, ldst := memStop (fmaLoc fma).1, job := 1 }

/-- A CTL read of `n` bytes of the store, its answer numbered `id`. -/
def State.flRead (s : State) (fma n id : Nat) : State :=
  s.submit s.fl.core {
    hdr := { emptyFlit with
      opc := opMRD, addr := BitVec.ofNat 64 fma, len := BitVec.ofNat 10 (n / 4), be := BitVec.ofNat 16 (if n = 4 then 0xF else 0xFF) },
    ldst := memStop (fmaLoc fma).1, use := .flacon id, left := n }

def State.slotNow (s : State) : Nat := s.fget F.GLB.FL_IDX.SLOT

/-- Byte 3 of the slot. -/
def State.writeValid (s : State) (v : Nat) : State :=
  s.flWrite (slotFma s.slotNow 0) 8 0 (bytesOf 4 (v * 2 ^ 24))

/-- Every other byte of the flacon. -/
def State.writeBody (s : State) (v : Nat) : State :=
  (List.range flPieces).foldl (fun a i =>
    a.flWrite (slotFma s.slotNow (128 * i)) (if i = 0 then 7 else 15) 15 (bytesOf 128 (nbits v (1024 * i) 1024))) s

/-- Every write of the command has been acknowledged. -/
def State.flAcked (s : State) : Bool :=
  let k := s.fl.core
  !((s.formQ k).any (fun r => r.job == 1) || (s.queue k).any (fun t => t.job == 1) || (s.ret k).any (fun c => c.job == 1)
    || (match tget none s.arb.burst k with | some b => b.job == 1 | none => false))

/-- Answers to the command's reads are taken: a piece that did not come is 0, one that came is 1 + its bytes. DEDUCED: a
read that fails gives no bytes, so that a check of the flacon fails. -/
def State.flTake (s : State) : Nat → State
  | 0 => s
  | n + 1 =>
    match s.takeDone s.fl.core (fun u => match u with | .flacon i => i < 201 | _ => false) with
    | none => s
    | some (r, t) =>
      let i := match r.use with | .flacon i => i | _ => 0
      (t.setFl { t.fl with got := tset 0 t.fl.got i (1 + numOfBytes (rdBytes r)) }).flTake n

def State.flGot (s : State) (i : Nat) : Option Nat := let v := tget 0 s.fl.got i; if v = 0 then none else some (v - 1)

/-- The pieces of the flacon read, as one number, once all are there. -/
def State.flImage (s : State) : Option Nat :=
  if (List.range flPieces).all (fun i => (s.flGot i).isSome) then
    some (packBits ((List.range flPieces).map (fun i => (1024 * i, 1024, (s.flGot i).getD 0))))
  else none

def State.readSlot (s : State) : State :=
  (List.range flPieces).foldl (fun a i => a.flRead (slotFma s.slotNow (128 * i)) 128 i) s

/-! ### Ends -/

/-- The command ends with a RES code. -/
def State.flEnd (s : State) (res : Nat) : State :=
  let s1 := (((s.fset F.GLB.FL_CMD.OP 0).fput F.GLB.FL_STS.BUSY false).fput F.GLB.FL_STS.DONE true).fset F.GLB.FL_STS.RES res
  s1.setFl { s1.fl with op := 0, step := 0, got := [], lost := false }

def State.flSrc (s : State) : Nat := s.fget F.GLB.FL_SLICE.SRC
def State.flTgt (s : State) : Nat := s.fget F.GLB.FL_SLICE.TGT

/-- A SAVE's frames for the partner (Table 19-3): 512 blocks; those beyond LENGTH are not part of what SAVE wrote, their
bytes are free values. -/
def State.flMirror (s : State) (v : Nat) : State :=
  if !s.fbit F.PAIR.PAIR_CTL.MIRROR then s
  else
    let body := (List.range flPieces).map (fun i => MirItem.flc s.slotNow i (nbits v (1024 * i) 1024))
    let rest := (List.range' flPieces (512 - flPieces)).foldl (fun (a : State × List MirItem) i =>
      let f := a.1.fresh
      (f.2, a.2 ++ [.flc s.slotNow i (f.1 % 2 ^ 1024)])) (s, [])
    rest.1.mirror (body ++ rest.2)

/-! ### Checks (R372, R373) -/

/-- The first check that a flacon fails, 0 for none: 1 VALID, 2 MAGIC, 3 VERSION, 4 LENGTH, 5 CRC. -/
def flCheck (v : Nat) : Nat :=
  if !nbit (flAt v 3 1) 0 then 1
  else if flAt v 0 2 ≠ 0xF1AC then 2
  else if flAt v 2 1 ≠ 1 then 3
  else if flAt v 6 2 ≠ flLength then 4
  else if flAt v 60 4 ≠ flaconCrc v then 5
  else 0

/-- SLICE, SGEN and FRZ_TICK are the source's current ones (R373). -/
def State.flIdentity (s : State) (v : Nat) : Bool :=
  flAt v 4 2 == s.flSrc + 4096 * s.sliceGen s.flSrc && flAt v 8 6 == s.frzTick s.flSrc

def State.flBad (s : State) (v check : Nat) : State :=
  (s.record .glb 0 0x91 (packBits [(0, 12, s.slotNow), (12, 4, check)]) (flaconCrc v)).flEnd 2

/-! ### LOAD (R372) -/

/-- Step 1: the accord, with the bases and the domain given. -/
def State.loadAccord (s : State) (t v q m c u : Nat) : State :=
  let s1 := (List.range 8).foldl (fun a i => a.setWord (accordReg i) (flAt v (0x40 + 4 * i) 4) t) s
  ((((s1.fset F.SLICE.ACC_DOM.DOM (s.fget F.GLB.FL_MAP_DOM.DOM) t).fset F.SLICE.ACC_Q.QBASE q t).fset
    F.SLICE.ACC_M.MBASE m t).fset F.SLICE.ACC_C.CBASE c t).fset F.SLICE.ACC_UFIRST.UNIT_FIRST u t

/-- Step 2: one queue record, where R307 lets its context be written. -/
def State.loadQueue (s : State) (t v b : Nat) : State :=
  let q := (s.fget F.SLICE.ACC_Q.QBASE t + flAt v b 1) % 65536
  let e := s.qmap q
  let w := flAt v (b + 2) 1
  let c : QCtx := {
    v := true, cls := nbits w 0 2, pv := nbit w 2, pushq := nbit w 3, ring := nbits w 4 4 + 4, slice := t,
    dom := s.fget F.SLICE.ACC_DOM.DOM t, pasid := flAt v (b + 4) 4 % 2 ^ 20, ringFn := flAt v (b + 8) 2, recFn := flAt v (b + 10) 2,
    ringBase := flAt v (b + 16) 8, recBase := flAt v (b + 24) 8, head := flAt v (b + 12) 2, tail := flAt v (b + 14) 2,
    fetched := flAt v (b + 12) 2, sgen := s.sliceGen t }
  if s.resident e q && (s.qctx e q).st == 0 then s.setQctx e q c else s

/-- Step 3: meter record `i` of slice `t`, at byte `b` of `v`: parameters in both banks, and its bindings where no other
slice's stand. -/
def State.loadMeter (s : State) (t v i b : Nat) : State :=
  let g := s.fget F.SLICE.ACC_M.MBASE t + i
  let y := g / 2048
  let m := g % 2048
  let p := meterPage y
  let put := fun (a : State) (bank : Nat) =>
    ((((((a.fset F.STOP.METER_CIR.CIR (flAt v b 4) p 0 bank m).fset F.STOP.METER_PIR.PIR (flAt v (b + 4) 4) p 0 bank m).fset
      F.STOP.METER_CBS.CBS (flAt v (b + 8) 4) p 0 bank m).fset F.STOP.METER_PBS.PBS (flAt v (b + 12) 4) p 0 bank m).fset
      F.STOP.METER_MODE.AWARE (flAt v (b + 16) 1) p 0 bank m).fset F.STOP.METER_MODE.TC_YEL (flAt v (b + 17) 1) p 0 bank m)
  let s1 := put (put s 0) 1
  (List.range 4).foldl (fun a c =>
    if nbit (flAt v (b + 18) 1) c && (a.bindings y m).all (fun r => r % 4096 == t) then
      a.setBinding y (4096 * c + t) (m + 1) (a.nodeTick (7 * y + 4)) (a.bankAt (7 * y + 4))
    else a) s1

/-- Step 5: one counter-set image and its billing window (R445). -/
def State.loadSet (s : State) (t v j : Nat) : State :=
  let n := s.fget F.SLICE.ACC_C.CBASE t + j
  let b := 0x1500 + 1024 * j
  let wb := 0x100 + 256 * j
  let cfg := flAt v b 4
  let s1 := ((List.range 8).foldl (fun a y => a.setCpart n y {}) s).setWord csCfg cfg 0 0 0 n
  let home := if nbit cfg 7 then 0 else nbits cfg 0 7 / 16
  let l := (List.range 8).map (fun i => flAt v (b + 8 + 8 * i) 8 % 2 ^ 48)
  let w := s1.windowAt (nbits cfg 14 4) (s.nodeTick 60)
  let p : CPart := ({ cnt := l, sh := l, ovf := flAt v (b + 4) 1 } : CPart).acc w (flAt v (wb + 8) 6) (flAt v (wb + 16) 6)
  let r : WinRec := {
    k := flAt v (wb + 32) 4, close := flAt v (wb + 36) 6, rx := flAt v (wb + 42) 6, tx := flAt v (wb + 48) 6,
    flags := flAt v (wb + 54) 2 % 256 }
  let s2 := s1.setCpart n home p
  { s2 with cnt := { s2.cnt with cset := tset {} s2.cnt.cset n { moved := w, readK := r.k + 1, loaded := some r } } }

/-- Steps 1 to 5 of LOAD. -/
def State.loadAll (s : State) (t v q m c u : Nat) : State :=
  let s1 := s.loadAccord t v q m c u
  let s2 := (List.range (min 256 (flAt v 24 2))).foldl (fun a k => a.loadQueue t v (0x2500 + 32 * k)) s1
  let s3 := (List.range (min 64 (flAt v 22 1))).foldl (fun a i => a.loadMeter t v i (0x500 + 64 * i)) s2
  let s4 := (List.range 60).foldl (fun a k =>
    (a.fset F.ARB.SW_DATA.SLICE_WT (flAt v (0x80 + k) 1) k 0 0 t).fset F.ARB.SW_DATA.SLICE_WT (flAt v (0x80 + k) 1) k 0 1 t) s3
  let s5 := (List.range (min 4 (flAt v 23 1))).foldl (fun a j => a.loadSet t v j) s4
  let s6 := (List.range 8).foldl (fun a i => a.fset F.SLICE.EVT_PEND.PEND (flAt v (0xC0 + 4 * i) 4) t i) s5
  (s6.setWord [F.SLICE.EVT_CFG.EN, F.SLICE.EVT_CFG.ARMED] (flAt v 0xE0 1) t).setWord ctlReg (flAt v 0x60 4) t

/-- Step 6: CREATE, whose refusal ends the command with CONFLICT. -/
def State.loadCreate (s : State) (t : Nat) : State :=
  let s1 := s.doCreate t
  if s1.fbit F.SLICE.MSTS.BUSY t then s1.setFl { s1.fl with step := 3 } else s1.flEnd 3

/-! ### REBIND (R373) -/

/-- The source gives up its queues' state, as Disable does, its bindings and its ownership. -/
def State.rebindSource (s : State) (x : Nat) : State :=
  let qs := (List.range (s.fget F.SLICE.ACC_Q.QCNT x)).map (fun i => (s.fget F.SLICE.ACC_Q.QBASE x + i) % 65536)
  let s1 := qs.foldl (fun a q =>
    let e := a.qmap q
    let c := a.qctx e q
    if a.resident e q ∧ (c.st = 2 ∨ c.st = 3) ∧ (a.execOn e q).isEmpty then (a.haltQueue e q).setQctx e q { c with st := 0 } else a) s
  { s1 with
    mtr := { s1.mtr with bind := tdrop (fun i => i % 4096 == x) s1.mtr.bind },
    slc := { s1.slc with moved := tset 0 s1.slc.moved x 1 } }

/-- Steps 1 to 6 of REBIND. -/
def State.rebindAll (s : State) (x t v : Nat) : State :=
  let g := fun f => s.fget f x
  let s1 := (s.rebindSource x).loadAll t v (g F.SLICE.ACC_Q.QBASE) (g F.SLICE.ACC_M.MBASE) (g F.SLICE.ACC_C.CBASE)
    (g F.SLICE.ACC_UFIRST.UNIT_FIRST)
  (s1.doRemove x).loadCreate t

/-- REBIND has ended: the source's BUSY is 0, and a FORCE held meanwhile is taken. -/
def State.freeSource (s : State) (x : Nat) : State := (s.fput F.SLICE.MSTS.BUSY false x).forceHeld x

/-! ### COPY (R374) -/

/-- The queue and the engine of FL_CPY_Q. -/
def State.cpyQ (s : State) : Nat := s.fget F.GLB.FL_CPY_Q.QUEUE

def State.cpyQueueOk (s : State) : Bool :=
  let e := s.qmap s.cpyQ
  let c := s.qctx e s.cpyQ
  s.resident e s.cpyQ && c.st == 1 && c.pushq && c.slice == 0

/-- The COPY descriptor of unit `u`. -/
def State.cpyDesc (s : State) (u : Nat) : Nat :=
  let dst := s.wide F.GLB.FL_CPY_DADDR_LO.DADDR_LO F.GLB.FL_CPY_DADDR_HI.DADDR_HI + u * 2097152
  packBits [(0, 4, 1), (4, 1, 1), (6, 1, 1), (16, 16, s.fget F.GLB.FL_CPY_FN.SFN), (32, 16, s.fget F.GLB.FL_CPY_FN.DFN),
    (64, 64, u * 2097152), (128, 64, dst), (192, 32, 2097152)]

/-- Firmware pushes the next descriptor. -/
def State.cpyPush (s : State) : State :=
  let q := s.cpyQ
  let hdr : Flit := { emptyFlit with opc := opDESC, len := 16, addr := BitVec.ofNat 64 (packBits [(0, 16, q), (56, 8, 1)]) }
  let s1 := s.submit s.fl.core { hdr := hdr, chunks := [BitVec.ofNat 1024 (s.cpyDesc s.fl.pushed)], ldst := engStop (s.qmap q) }
  s1.setFl { s1.fl with pushed := s1.fl.pushed + 1 }

/-- Push while at most 64 are unretired. -/
def State.cpyPushes (s : State) (cnt : Nat) : Nat → State
  | 0 => s
  | n + 1 =>
    if s.fl.pushed < cnt ∧ s.fl.pushed < s.fl.done + 64 - s.fl.skip then s.cpyPush.cpyPushes cnt n else s

def State.cpyStep (s : State) : State :=
  let x := s.flSrc
  let cnt := s.fget F.SLICE.ACC_UCNT.UNIT_CNT x
  match s.fl.step with
  | 1 =>
    match s.flGot 200 with
    | none => s
    | some e =>
      let ok : Bool := eV e && eMemep e && eUnitFirst e == s.fget F.SLICE.ACC_UFIRST.UNIT_FIRST x && eUnitCnt e == cnt
      if !ok ∨ !s.cpyQueueOk then s.flEnd 4
      else (s.setFl { s.fl with step := 2, pushed := 0, done := 0, skip := s.unretired (s.qmap s.cpyQ) s.cpyQ, err := none }).cpyPushes cnt 64
  | _ =>
    match s.fl.err with
    | some (u, st) => (((s.fset F.GLB.FL_UNIT.UNIT u).record .glb 0 0x92 (packBits [(0, 17, u), (20, 4, st)]) s.cpyQ)).flEnd 6
    | none =>
      if s.sliceState x ≠ 4 ∨ s.fl.lost then
        if s.fl.done = s.fl.pushed then (s.fset F.GLB.FL_UNIT.UNIT s.fl.pushed).flEnd 1 else s
      else if s.fl.done = cnt then s.flEnd 0
      else s.cpyPushes cnt 64

/-! ### The commands and their steps -/

/-- One step of the command under way, taken when what it waits for is there. -/
def State.flStep (s0 : State) : State :=
  let s := s0.flTake 600
  let x := s.flSrc
  let t := s.flTgt
  let open' := s.fbit F.GLB.EPOCH_STS.INACTIVE_OPEN
  match s.fl.op, s.fl.step with
  | 0, _ => s
  | 1, 1 =>
    if s.sliceState x ≠ 4 ∨ !s.fbit F.SLICE.FRZ_TICK_HI.LATCHED x ∨ s.fl.lost then s.flEnd 1
    else if !s.flAcked then s
    else
      let v := s.flaconBody x
      let w := putBytes v 60 4 (flaconCrc v)
      let s1 := s.writeBody w
      s1.setFl { s1.fl with step := 2, got := [(0, 1 + w)], read := tset 0 s1.fl.read x 1 }
  | 1, 2 =>
    if s.sliceState x ≠ 4 ∨ s.fl.lost then s.flEnd 1
    else if !s.flAcked then s
    else
      let s1 := s.writeValid 1
      s1.setFl { s1.fl with step := 3 }
  | 1, 3 =>
    if s.sliceState x ≠ 4 ∨ s.fl.lost then
      let s1 := s.writeValid 0
      s1.setFl { s1.fl with step := 4 }
    else if s.flAcked then (s.flMirror ((s.flGot 0).getD 0)).flEnd 0 else s
  | 1, _ => if s.flAcked then s.flEnd 1 else s
  | 2, 1 =>
    match s.flImage with
    | none => s
    | some v =>
      if flCheck v ≠ 0 then s.flBad v (flCheck v)
      else if !open' then s
      else (s.loadAll t v (s.fget F.GLB.FL_MAP_Q.QBASE) (s.fget F.GLB.FL_MAP_M.MBASE) (s.fget F.GLB.FL_MAP_M.CBASE)
        (s.fget F.GLB.FL_MAP_U.UNIT_FIRST)).loadCreate t
  | 2, _ => if s.fbit F.SLICE.MSTS.BUSY t then s else s.flEnd 0
  | 3, 1 =>
    match s.flImage with
    | none => s
    | some v =>
      let c := if flCheck v ≠ 0 then flCheck v else if s.flIdentity v then 0 else 6
      if c ≠ 0 then (s.freeSource x).flBad v c
      else if !open' then s
      else
        let s1 := s.rebindAll x t v
        if s1.fl.op = 0 then s1.freeSource x else s1
  | 3, _ => if s.fbit F.SLICE.MSTS.BUSY t then s else (s.freeSource x).flEnd 0
  | 4, _ => s.cpyStep
  | _, _ => if s.flAcked then s.flEnd 0 else s

/-- A command starts: BUSY, DONE 0. -/
def State.flStart (s : State) (op : Nat) : State :=
  let s1 := ((s.fset F.GLB.FL_CMD.OP op).fput F.GLB.FL_STS.BUSY true).fput F.GLB.FL_STS.DONE false
  s1.setFl { s1.fl with op := op, step := 1, core := s1.activeCore, got := [] }

/-- A write of FL_CMD.OP (R370). -/
def State.flCmd (s : State) (op : Nat) : State :=
  let x := s.flSrc
  let t := s.flTgt
  if op = 0 ∨ 6 ≤ op then s
  else if s.fbit F.GLB.FL_STS.BUSY then s.fset F.GLB.FL_STS.RES 5
  else
    let a := s.flStart op
    match op with
    | 1 => if s.sliceState x ≠ 4 ∨ !s.fbit F.SLICE.FRZ_TICK_HI.LATCHED x then a.flEnd 1 else a.writeValid 0
    | 2 => if s.sliceState t ≠ 0 then a.flEnd 1 else a.readSlot
    | 3 => if s.sliceState x ≠ 4 ∨ s.sliceState t ≠ 0 then a.flEnd 1 else (a.fput F.SLICE.MSTS.BUSY true x).readSlot
    | 4 =>
      if s.sliceState x ≠ 4 then a.flEnd 1
      else
        let key := sgidOf (s.qctx (s.qmap s.cpyQ) s.cpyQ).dom (s.fget F.GLB.FL_CPY_FN.SFN)
        a.flRead (xltFma false key) 16 200
    | _ => a.writeValid 0

def execFlSave (s : State) : Res := .next ((s.touch .glb 0).flCmd 1)
def execFlLoad (s : State) : Res := .next ((s.touch .glb 0).flCmd 2)
def execFlRebind (s : State) : Res := .next ((s.touch .glb 0).flCmd 3)
def execFlCopy (s : State) : Res := .next ((s.touch .glb 0).flCmd 4)
def execFlDrop (s : State) : Res := .next ((s.touch .glb 0).flCmd 5)

/-- The stop that carries out a slot access: that of the command under way, or the active core's. -/
def State.slotCore (s : State) : State :=
  s.setFl { s.fl with core := if s.fl.op = 0 then s.activeCore else s.fl.core, offNum := s.fl.offNum + 1 }

/-- FL_OFF written (R375, R380): a read of 4 bytes starts. -/
def State.flOffWrite (s : State) (w : Word) : State :=
  if s.fbit F.GLB.FL_STS.BUSY then s.pgErr .glb 0 0x234
  else
    let s1 := (s.fset F.GLB.FL_OFF.OFF (vbits w 2 14)).fput F.GLB.FL_OFF.VALID false
    s1.slotCore.flRead (slotFma s.slotNow (4 * vbits w 2 14)) 4 (201 + s1.slotCore.fl.offNum)

/-- Bytes of the slot have come; those of the newest access are the ones at FL_OFF. DEDUCED: a read that fails leaves VALID 0. -/
def State.flOffDone (s : State) : State :=
  let got := fun (k : Nat) => s.takeDone k (fun u => match u with | .flacon i => 201 ≤ i | _ => false)
  match (got 56).or (got 57) with
  | none => s
  | some (r, t) =>
    if r.use ≠ .flacon (201 + t.fl.offNum) ∨ rdStatus r ≠ 0 then t
    else (t.fset F.GLB.FL_DATA.DATA (numOfBytes (rdBytes r))).fput F.GLB.FL_OFF.VALID true

/-- FL_DATA written: 4 bytes at FL_OFF, and OFF goes on. COPY, which has no slot, does not keep it out. -/
def State.flDataWrite (s : State) (w : Word) : State :=
  if s.fbit F.GLB.FL_STS.BUSY ∧ s.fl.op ≠ 4 then s.pgErr .glb 0 0x238
  else
    let off := s.fget F.GLB.FL_OFF.OFF
    let s1 := ((s.fset F.GLB.FL_DATA.DATA w.toNat).fset F.GLB.FL_OFF.OFF (off + 1)).fput F.GLB.FL_OFF.VALID false
    s1.slotCore.flWrite (slotFma s.slotNow (4 * off)) 15 0 (bytesOf 4 w.toNat)

def execFlOffWrite (w : Word) (s : State) : Res := .next ((s.touch .glb 0).flOffWrite w)
def execFlDataWrite (w : Word) (s : State) : Res := .next ((s.touch .glb 0).flDataWrite w)

end Sys2Proof.Machine
end

