-- ==== Sys2Proof/Machine/Clear.lean ====
section
/-! DEFINITION. What a stop loses when its domain loses its state: in OFF (R401), at isolation (R465) and at fabric reset
(R482). -/

namespace Sys2Proof.Machine

/-- Ordering state of stop `k` as source and as destination. -/
def lostOrd (k : Nat) (o : OrdSt) : OrdSt :=
  { o with
    ret := tset [] o.ret k [], nextSeq := tdrop (fun i => i / 64 == k) o.nextSeq,
    low := tdrop (fun i => i / 64 == k) o.low, seen := tdrop (fun i => i / 65536 / 64 == k) o.seen,
    wait := tdrop (fun i => i / 64 == k) o.wait, acks := tdrop (fun i => i / 64 == k) o.acks, ackQ := tset [] o.ackQ k [],
    egr := tdrop (fun i => i / 24 == k) o.egr, stamp := tdrop (fun i => i / 8 == k) o.stamp,
    tags := tdrop (fun i => i / 8192 == k) o.tags, recs := tset [] o.recs k [],
    outTag := tdrop (fun i => i / 4 == k) o.outTag, hist := tdrop (fun i => i / 4 == k) o.hist,
    formQ := tset [] o.formQ k [], rdUse := tdrop (fun i => i % 64 == k) o.rdUse,
    rdData := tdrop (fun i => i % 64 == k) o.rdData, pois := tdrop (fun i => i / 65536 / 64 == k) o.pois,
    rdDone := tset [] o.rdDone k [], rejAt := tdrop (fun i => i / 4 == k) o.rejAt, rejSupp := tdrop (fun i => i / 4 == k) o.rejSupp }

/-- Arbiter state of stop `k`; its requesters' counters read 0 (R401). -/
def lostArb (k : Nat) (a : ArbSt) : ArbSt :=
  let rq := fun i => i / 16384 == k
  { a with
    queue := tset [] a.queue k [], burst := tset none a.burst k none, clsAct := tdrop (fun i => i / 4 == k) a.clsAct,
    waitCnt := tdrop rq a.waitCnt, credit := tdrop (fun i => i / 18 == k) a.credit, vclass := tdrop (fun i => i / 4 == k) a.vclass,
    vreq := tdrop rq a.vreq, active := tdrop rq a.active, waitFrom := tdrop rq a.waitFrom, grants := tdrop rq a.grants,
    waits := tdrop rq a.waits, longest := tdrop rq a.longest, ovf := tdrop rq a.ovf, ctlUsed := tset 0 a.ctlUsed k 0,
    unset := tset [] a.unset k [], decided := tset 0 a.decided k 0 }

/-- The stop's credits, as source, and charges, as destination. The island keeps the pending requests and what tells their
retries (R401). DESIGN CHOICE: a source drops its outstanding RES_REQ and keeps the RID used last. -/
def lostResv (k : Nat) (r : ResvSt) : ResvSt :=
  { r with
    credit := (List.range 256).foldl (fun t i =>
      let key := k * 256 + i
      tset {} t key { f := 0, rid := (tget {} r.credit key).rid }) r.credit,
    charge := (r.charge.filter (fun e => e.1 / 256 == k && e.2.pend)).foldl
      (fun t e => tset {} t e.1 { lastRid := e.2.lastRid, pend := true }) (tdrop (fun i => i / 256 == k) r.charge),
    rr := tset 3 r.rr k 3 }

/-- The port state of stop `k`: its links are DOWN with nothing held. Cumulative credits cross again as values (R393), so
both ends of them are kept, as are the island's registers, notices and target states (R401). -/
def lostPort (k : Nat) (p : PortSt) : PortSt :=
  let lk := fun i => i / 4 == k
  { p with
    rx := tdrop (fun i => i / 12 == k) p.rx, tx := tdrop lk p.tx, asm := tdrop (fun i => i / 12 == k) p.asm,
    lock := tdrop lk p.lock, defer := tdrop lk p.defer, emu := tdrop lk p.emu, mode := tdrop lk p.mode,
    spill := tdrop lk p.spill, spillPtr := tdrop (fun i => i / 8 == k) p.spillPtr, full := tdrop lk p.full,
    paused := tdrop lk p.paused, stuck := tdrop lk p.stuck, told := tdrop lk p.told,
    held := tdrop (fun i => i / 8 == k) p.held, ingAt := tdrop lk p.ingAt, ingSupp := tdrop lk p.ingSupp,
    lockFn := tdrop lk p.lockFn }

/-- The bridges whose stop side is in the domain of stop `k` (Table 14-6). -/
def bridgesOf (k : Nat) : List Nat :=
  (List.range 4).map (stopBridge k) ++
  (if k < 56 && k % 7 < 4 then (List.range 4).map (lciBridge (4 * (k / 7) + k % 7)) else []) ++
  (if isMemStop k then [memBridge (k / 7)] else []) ++ (if k = 59 then [pairBridge] else [])

/-- The stop's sector-domain state is lost: buffers, retention, tags, filters and in-order points are empty (R401). -/
def State.stopLost (s : State) (k : Nat) : State :=
  let s1 : State := { s with
    ord := lostOrd k s.ord, arb := lostArb k s.arb, resv := lostResv k s.resv,
    mtr := { s.mtr with beyond := tdrop (fun i => i / 16384 == k) s.mtr.beyond, gate := tdrop (fun i => i / 16384 == k) s.mtr.gate }, port := lostPort k s.port }
  let s2 := if isPortStop k then (List.range 4).foldl (fun a l => ((a.fset F.STOP.LINK_STS.STATE 0 k l).fput
      F.STOP.LINK_STS.HOLDING false k l).fput F.STOP.LINK_STS.LOCKED false k l) s1 else s1
  (((List.range 4).foldl (fun a c => a.setUsed k c 0) s2).fset F.STOP.POOL_STS.NP_USED 0 k).xbReset (bridgesOf k)

end Sys2Proof.Machine
end

