-- ==== Sys2Proof/Machine/Power.lean ====
section
/-! DEFINITION. Sector power states, closing, entering, waking, and the load-step governor (15_power_sectors). -/

namespace Sys2Proof.Machine

/-- PS_STS.PHASE: 0 IDLE, 1 SHIFTING, 2 CLOSING, 3 ENTERING, 4 WAKING. -/
def State.pwrPhase (s : State) (x : Nat) : Nat := s.fget F.PWR.PS_STS.PHASE x
def State.setPhase (s : State) (x p : Nat) : State :=
  (s.fset F.PWR.PS_STS.PHASE p x).fset F.PWR.PS_STS.STEP 0 x
def State.pwrRes (s : State) (x r : Nat) : State := s.fset F.PWR.PS_STS.RES r x

/-- The maintenance node of the PWR page's owner. -/
def pwrNode (x : Nat) : Nat := 7 * x + 4

def State.setTgt (s : State) (x t : Nat) : State := { s with pwr := { s.pwr with tgt := tset 0 s.pwr.tgt x t } }
def State.pwrTgt (s : State) (x : Nat) : Nat := tget 0 s.pwr.tgt x

/-- PWR_CMD to each stop of the sector (Table 5-8). -/
def State.pwrCmdAll (s : State) (x op : Nat) (flag : Bool) (count : Nat) : State :=
  (sectorStops x).foldl (fun a k => a.send (mkCtrl 6 k (pwrNode x) [(42, 2, op), (41, 1, b2n flag), (25, 16, count)])) s

/-- A transition starts now. -/
def State.startTr (s : State) (x t phase : Nat) : State :=
  let s1 := (s.setTgt x t).setPhase x phase
  (({ s1 with pwr := { s1.pwr with
    trStart := tset 0 s1.pwr.trStart x (s.nodeTick (pwrNode x)), phaseAt := tset 0 s1.pwr.phaseAt x 0 } } : State).fset
    F.PWR.TR_STS.LSG_WAIT 0 x)

/-- First refusal of Table 15-2 that holds, 0 for none. -/
def State.sleepRefusal (s : State) (x : Nat) : Nat :=
  let ports := (List.range 4).map (fun j => 7 * x + j)
  let links := (List.range 4)
  if s.fget F.ENG.ENG_STS.STATE x < 2 then 1
  else if ports.any (fun k => links.any (fun l => s.fget F.STOP.LINK_STS.STATE k l != 0)) then 2
  else if (sectorStops x).any (fun k => links.any (fun l => s.fbit F.STOP.LINK_STS.HOLDING k l))
      || s.fget F.STOP.SPARE_CTL.PHASE (7 * x + 4) != 0 then 3
  else if (List.range 8).any (fun c => s.fget F.MEM.CH_STS.STATE c == 2) then 4
  else 0

/-! ### Wakes (R406, R407, R409–R411) -/

/-- LW_REC and LW_TICK (R411). -/
def State.wakeRecord (s : State) (x code chan thr : Nat) (cancel : Bool) : State :=
  let s1 := ((s.fset F.PWR.LW_REC.CODE code x).fput F.PWR.LW_REC.VALID true x).fset F.PWR.LW_REC.FROM (s.sectorState x) x
  let s2 := ((s1.fput F.PWR.LW_REC.CANCEL cancel x).fset F.PWR.LW_REC.CHAN chan x).fset F.PWR.LW_REC.THR thr x
  s2.setWide F.PWR.LW_TICK_LO.TICK_LO F.PWR.LW_TICK_HI.TICK_HI (s.nodeTick (pwrNode x)) x

def State.wakeCount (s : State) (x code : Nat) : State := s.rcInc F.PWR.WAKE_CNT x 1 false (code % 7)

/-- TARGET takes effect in a sector in RUN or TRIM without a transition (R399, R403). -/
def State.takeAwake (s : State) (x t : Nat) : State :=
  if t < 2 then
    let s1 := s.pwrRes x 0
    if t = s.sectorState x then s1
    else
      let s2 := s1.startTr x t 1
      if t = 0 then { s2 with pwr := { s2.pwr with svokLow := tset 0 s2.pwr.svokLow x 1 } } else s2
  else
    let r := s.sleepRefusal x
    if r ≠ 0 then s.pwrRes x r
    else
      let b := wrapAdd 48 (s.nodeTick (pwrNode x)) 1
      let s1 := ((s.pwrRes x 0).setTgt x t).setPhase x 2
      ({ s1 with pwr := { s1.pwr with
        closeAt := tset 0 s1.pwr.closeAt x (1 + b), empty := tset 0 s1.pwr.empty x 0 } } : State).pwrCmdAll x 0 false b

/-- The close is abandoned: the stops reopen with FRESH = 0 and the state does not change (R405, R406); a TARGET written
meanwhile is taken, as the transition has ended (Table 15-7). -/
def State.abandonClose (s : State) (x res : Nat) : State :=
  let p := tget 0 s.pwr.pendTgt x
  let s1 := ((s.pwrRes x res).setPhase x 0).pwrCmdAll x 1 false (s.nodeTick (pwrNode x))
  let s2 : State := { s1 with pwr := { s1.pwr with
    closeAt := tset 0 s1.pwr.closeAt x 0, pendTgt := tset 0 s1.pwr.pendTgt x 0 } }
  if p ≠ 0 then s2.takeAwake x (p - 1) else s2

/-- Start the wake to state `to` (R411). -/
def State.startWake (s : State) (x code chan thr toward : Nat) : State :=
  let s1 := ((s.wakeRecord x code chan thr false).wakeCount x code).startTr x toward 4
  { s1 with pwr := { s1.pwr with svokLow := tset 0 s1.pwr.svokLow x 1 } }

/-- WAKE_EN bit of a source. -/
def State.wakeEn (s : State) (x code : Nat) : Bool :=
  s.fbit ([F.PWR.WAKE_EN.DEMAND, F.PWR.WAKE_EN.SIGDET, F.PWR.WAKE_EN.SUPPLY, F.PWR.WAKE_EN.THERM, F.PWR.WAKE_EN.TIMER,
    F.PWR.WAKE_EN.MGR, F.PWR.WAKE_EN.PAIR].getD code F.PWR.WAKE_EN.MGR) x

/-- A wake event is taken at all: enabled, and the sector asleep, closing, entering or waking (R409). -/
def State.wakeTakes (s : State) (x code : Nat) : Bool :=
  s.wakeEn x code && (2 ≤ s.sectorState x || 2 ≤ s.pwrPhase x)

/-- A wake event of source `code` for state `to`. Before its first phase has been taken an entry is abandoned (R407). DEDUCED:
one from RUN or TRIM as a close is, one from DOZE to OFF by a wake from DOZE; an event latched later is accepted as the
entry completes. -/
def State.wakeEvent (s : State) (x code chan thr toward : Nat) : State :=
  if !s.wakeTakes x code then s
  else
    let s0 := if code = 4 then s.fput F.PWR.WAKE_EN.TIMER false x else s
    match s.pwrPhase x with
    | 2 =>
      let s1 := ((s0.wakeRecord x code chan thr true).wakeCount x code).abandonClose x 5
      if code = 5 ∧ toward ≠ s.sectorState x then s1.startTr x toward 1 else s1
    | 3 =>
      if s.fget F.PWR.PS_STS.STEP x = 0 ∧ s.sectorState x < 2 then
        ((s0.wakeRecord x code chan thr true).wakeCount x code).abandonClose x 5
      else if s.fget F.PWR.PS_STS.STEP x = 0 then (s0.setPhase x 0).startWake x code chan thr toward
      else if tget 0 s.pwr.latch x = 0 then
        { s0 with pwr := { s0.pwr with latch := tset 0 s0.pwr.latch x (1 + code + 8 * chan + 512 * thr + 32768 * toward) } }
      else s0.wakeCount x code
    | 4 => s0.wakeCount x code
    | _ => s0.startWake x code chan thr toward

/-- State for wakes other than MGR. -/
def State.wakeTo (s : State) (x : Nat) : Nat := s.fget F.PWR.PS_CTL.WAKE_TO x

/-! ### TARGET writes (R399, R403, Table 15-7) -/

/-- TARGET takes effect in a sector without a transition. -/
def State.takeTarget (s : State) (x t : Nat) : State :=
  let st := s.sectorState x
  if st < 2 then s.takeAwake x t
  else if t < 2 then (s.pwrRes x 0).wakeEvent x 5 0 0 t
  else if t = 3 ∧ st = 2 then (s.pwrRes x 0).startTr x 3 3
  else s.pwrRes x 0

/-- A write of PS_CTL with TARGET = `t`. -/
def State.psTarget (s : State) (x t : Nat) (w : Word) : State :=
  let s0 := ((s.fset F.PWR.PS_CTL.TARGET t x).fset F.PWR.PS_CTL.WAKE_TO (vbits w 2 1) x).fset F.PWR.PS_CTL.CLOSE_TO (vbits w 8 16) x
  if s.pwrPhase x = 0 then s0.takeTarget x t
  else if s.pwrPhase x = 2 ∧ t < 2 then
    ({ s0 with pwr := { s0.pwr with pendTgt := tset 0 s0.pwr.pendTgt x 0 } } : State).wakeEvent x 5 0 0 t
  else { s0 with pwr := { s0.pwr with pendTgt := tset 0 s0.pwr.pendTgt x (t + 1) } }

def execPsTargetRun (x : Sector) (w : Word) (s : State) : Res := .next ((s.touch .pwr x).psTarget x 0 w)
def execPsTargetTrim (x : Sector) (w : Word) (s : State) : Res := .next ((s.touch .pwr x).psTarget x 1 w)
def execPsTargetDoze (x : Sector) (w : Word) (s : State) : Res := .next ((s.touch .pwr x).psTarget x 2 w)
def execPsTargetOff (x : Sector) (w : Word) (s : State) : Res := .next ((s.touch .pwr x).psTarget x 3 w)

/-! ### Closing (R144, R403–R405) -/

/-- A closing stop is empty (R144): every surrender has come, nothing is granted, and its ingress buffer and response buffer
hold no flit. -/
def State.poolEmpty (s : State) (k : Nat) : Bool :=
  s.fbit F.STOP.POOL_STS.CLOSING k
  && tget 0 s.resv.surr k % 2 ^ 60 == 2 ^ 60 - 1
  && s.resv.charge.all (fun e => e.1 / 256 != k || (e.2.gp == 0 && e.2.ga == 0))
  && s.ingressUsed k == 0 && s.responseUsed k == 0

/-- A stop of a closing sector is empty (R404). -/
def State.stopEmpty (s : State) (k : Nat) : Bool :=
  s.poolEmpty k && (s.ret k).isEmpty && (s.tagsOf k).isEmpty
  && s.ord.acks.all (fun e => e.1 / 64 != k) && (tget [] s.ord.ackQ k).isEmpty
  && (s.fillsOf k == 0)

/-- Entry begins at the first boundary at which all seven stops are empty (R404). -/
def State.sectorEmpty (s : State) (x : Nat) : State :=
  if s.pwrPhase x = 2 ∧ tget 0 s.pwr.empty x % 128 = 127 then
    let s1 := s.startTr x (s.pwrTgt x) 3
    { s1 with pwr := { s1.pwr with closeAt := tset 0 s1.pwr.closeAt x 0, empty := tset 0 s1.pwr.empty x 0 } }
  else s

/-- The close has lasted CLOSE_TO ticks (R405). -/
def State.closeTimeout (s : State) (x : Nat) : State :=
  let c := tget 0 s.pwr.closeAt x
  if s.pwrPhase x = 2 ∧ c ≠ 0 ∧ tickPast (s.nodeTick (pwrNode x)) (c - 1) (max 1 (s.fget F.PWR.PS_CTL.CLOSE_TO x)) then
    let miss := packBits ((List.range 7).map (fun j => (j, 1, b2n (!s.stopEmpty (7 * x + j)))))
    (s.record .pwr x 0xB3 miss (s.fget F.PWR.PS_CTL.TARGET x)).abandonClose x 6
  else s

/-- A stop begins to close once the boundary that its CLOSE names has come (R403). -/
def State.closeDue (s : State) (k : Nat) : State :=
  let c := tget 0 s.pwr.closeReq k
  if c ≠ 0 ∧ atOrAfter 48 (s.nodeTick k) (c - 1) then
    ({ s with pwr := { s.pwr with closeReq := tset 0 s.pwr.closeReq k 0 } } : State).beginClose k
  else s

/-- A stop of a closing sector reports at each boundary whether it is empty (Table 5-8). -/
def State.emptyReport (s : State) (k : Nat) : State :=
  if k < 56 ∧ s.fbit F.STOP.POOL_STS.CLOSING k ∧ s.pwrPhase (sectorOf k) = 2 then
    s.send (mkCtrl 6 (pwrNode (sectorOf k)) k [(42, 2, 2), (41, 1, b2n (s.stopEmpty k)), (25, 16, s.nodeTick k)])
  else s

/-- PWR_CMD at its node: CLOSE and REOPEN at a stop node, EMPTY at the owner. -/
def State.pwrCmd (s : State) (n : Nat) (m : Msg) : State :=
  let cnt := vbits m 25 16
  let flag := vbits m 41 1 == 1
  match vbits m 42 2 with
  | 0 => { s with pwr := { s.pwr with closeReq := tset 0 s.pwr.closeReq n (1 + s.boundaryOf n cnt) } }
  | 1 => ({ s with pwr := { s.pwr with closeReq := tset 0 s.pwr.closeReq n 0 } } : State).reopen n flag
  | 2 =>
    let x := sectorOf n
    let old := tget 0 s.pwr.empty x
    let mask := if old / 256 = cnt then old % 256 else 0
    let bit := 2 ^ (msgSrc m % 7)
    let mask' := if flag then mask ||| bit else mask
    ({ s with pwr := { s.pwr with empty := tset 0 s.pwr.empty x (cnt * 256 + mask') } } : State).sectorEmpty x
  | _ => s

/-- A PWR_CMD message at node `n`. -/
def State.pwrCmdMsg (s : State) (n : Nat) (m : Msg) : State :=
  let s1 := s.take n m
  if !msgOk m then s1.msgBad n m else s1.pwrCmd n m

def execPwrCmdClose (n : Stop) (m : Msg) (s : State) : Res := .next (s.pwrCmdMsg n m)
def execPwrCmdReopen (n : Stop) (m : Msg) (s : State) : Res := .next (s.pwrCmdMsg n m)
def execPwrCmdEmpty (n : Stop) (m : Msg) (s : State) : Res := .next (s.pwrCmdMsg n m)
def execSectorEmpty (x : Sector) (s : State) : Res := .next (s.sectorEmpty x)
def execCloseTimeout (x : Sector) (s : State) : Res := .next (s.closeTimeout x)

/-! ### Wake sources (Table 15-4) -/

/-- A comparator changed less than 2 µs (4 ticks) ago (R410). -/
def State.blanked (s : State) (x c : Nat) : Bool :=
  let b := tget 0 s.pwr.blank (x * 64 + c)
  b != 0 && !tickPast (s.nodeTick (pwrNode x)) (b - 1) 4

/-- A comparator's threshold, direction or enable changes (R410). -/
def State.blankNow (s : State) (x c : Nat) : State :=
  { s with pwr := { s.pwr with blank := tset 0 s.pwr.blank (x * 64 + c) (1 + s.nodeTick (pwrNode x)) } }

/-- Source of the oldest RES_REQ pending at a closed stop of the sector (R145). -/
def State.demandOf (s : State) (x : Nat) : Option Nat :=
  ((sectorStops x).flatMap (fun k => if s.fbit F.STOP.POOL_STS.CLOSING k then
    (List.range 4).flatMap (fun c => (s.pendQ k c).map (fun r => r.src)) else [])).head?

def execWakeDemand (x : Sector) (s : State) : Res :=
  match s.demandOf x with
  | some src => .next (s.wakeEvent x 0 src 0 (s.wakeTo x))
  | none => .next s

def execWakeSigdet (x : Sector) (ch : Fin 32) (s : State) : Res :=
  if nbit (s.fget F.PWR.SIG_EN x) ch && !s.blanked x (8 + ch) then
    .next (s.wakeEvent x 1 ch (s.fget F.PWR.SIG_THR.THR x (ch / 8)) (s.wakeTo x))
  else .next s

def execWakeSupply (x : Sector) (c : Fin 2) (s : State) : Res :=
  if s.fbit F.PWR.CMP_SUP.SUP_EN x c && !s.blanked x c then
    .next (s.wakeEvent x 2 c (s.fget F.PWR.CMP_SUP.SUP_THR x c) (s.wakeTo x))
  else .next s

def execWakeTherm (x : Sector) (c : Fin 4) (s : State) : Res :=
  if s.fbit F.PWR.CMP_THM.THM_EN x c && !s.blanked x (2 + c) then
    .next (s.wakeEvent x 3 c (s.fget F.PWR.CMP_THM.THM_THR x c) (s.wakeTo x))
  else .next s

/-- WAKE_TIMER (Table 15-4): the count has reached WAKE_AT. -/
def State.wakeTimer (s : State) (x : Nat) : State :=
  if tickPast (s.nodeTick (pwrNode x)) (s.wide F.PWR.WAKE_AT_LO.AT_LO F.PWR.WAKE_AT_HI.AT_HI x) 0 then
    s.wakeEvent x 4 0 0 (s.wakeTo x)
  else s

def execWakeTimer (x : Sector) (s : State) : Res := .next (s.wakeTimer x)
def execWakePair (x : Sector) (s : State) : Res := .next (s.wakeEvent x 6 0 0 (s.wakeTo x))

/-! ### The end of a transition (R399, R407, R408, R412) -/

/-- A sector has lost what its island does not keep: its caches start empty (R401). -/
def State.sectorLost (s : State) (x : Nat) : State :=
  let s1 := (((sectorStops x).foldl State.stopLost s).emptyCache x false).emptyCache x true
  { s1 with mem := { s1.mem with dozeInv := tset [] s1.mem.dozeInv x [], dozePb := tset [] s1.mem.dozePb x [] } }

/-- The four bridges of a stop's interface are READY. -/
def State.bridgesReady (s : State) (k : Nat) : Bool := (List.range 4).all (fun j => s.xbReady (stopBridge k j))

/-- Every step of the transition has been made; a wake from OFF ends once the bridges are READY (Table 15-11). -/
def State.trComplete (s : State) (x : Nat) : Bool :=
  let ok := tget 0 s.pwr.svokLow x == 0
  match s.pwrPhase x with
  | 1 => s.pwrTgt x == 1 || ok
  | 3 => s.fget F.PWR.PS_STS.STEP x == 8
  | 4 => s.fget F.PWR.PS_STS.STEP x == 8 && ok && (s.sectorState x != 3 || (sectorStops x).all (fun k => s.bridgesReady k))
  | _ => false

/-- The POWER entry of a sector's change of state (Table 16-11). -/
def State.powerEntry (s : State) (x a b : Nat) (wake : Bool) : State :=
  s.sillage (pwrNode x) 0x03 (packBits [(0, 2, a), (2, 2, b), (4, 3, s.fget F.PWR.PS_STS.RES x),
    (7, 3, if wake then s.fget F.PWR.LW_REC.CODE x else 0), (10, 1, b2n wake)])

/-- TRANSITION_DONE (R413): STATE and PHASE follow; a wake reopens the sector's stops; a latched wake and a TARGET
written meanwhile are taken. -/
def State.transitionDone (s : State) (x : Nat) : State :=
  if !s.trComplete x then s
  else
    let from' := s.sectorState x
    let ph := s.pwrPhase x
    let t := s.pwrTgt x
    let us := wrapSub 48 (s.nodeTick (pwrNode x)) (tget 0 s.pwr.trStart x) / 2
    let s0 := (((s.fset F.PWR.PS_STS.STATE t x).fset F.PWR.PS_STS.PHASE 0 x).fset F.PWR.TR_STS.TR_US (min us 65535) x)
    let s1 := s0.powerEntry x from' t (ph == 4)
    let s2 := if ph = 3 ∧ t = 3 then s1.sectorLost x else s1
    let s3 := if ph = 4 then
        let a := if from' = 3 then (sectorStops x).foldl (fun b k => b.gateAdvance k) (s2.metersFresh x) else s2
        let b := if from' = 3 then (sectorStops x).foldl State.unsyncAll a else a.wakeCaches x
        b.pwrCmdAll x 1 (from' == 3) (b.nodeTick (pwrNode x))
      else s2
    let l := tget 0 s3.pwr.latch x
    let p := tget 0 s3.pwr.pendTgt x
    let s4 : State := { s3 with pwr := { s3.pwr with latch := tset 0 s3.pwr.latch x 0, pendTgt := tset 0 s3.pwr.pendTgt x 0 } }
    if l ≠ 0 then
      let v := l - 1
      let a := s4.startWake x (v % 8) (v / 8 % 64) (v / 512 % 64) (v / 32768)
      { a with pwr := { a.pwr with pendTgt := tset 0 a.pwr.pendTgt x p } }
    else if p ≠ 0 then s4.takeTarget x (p - 1) else s4

def execTransitionDone (x : Sector) (s : State) : Res := .next (s.transitionDone x)

/-- SVOK_ASSERTED (R408). -/
def execSvokAsserted (x : Sector) (s : State) : Res :=
  .next { s with pwr := { s.pwr with svokLow := tset 0 s.pwr.svokLow x 0 } }

/-! ### Spine and core (R400) -/

/-- SPINE_PWR_WRITE: refused in TRIM's favour while HOLD_DIV is above 550; the change ends at node 60's next boundary. -/
def State.spinePwr (s : State) (w : Word) : State :=
  let t := vbits w 0 1
  if t = 1 ∧ 550 < s.fget F.TICK.HOLD_DIV then s.fput F.GLB.SPINE_PWR.REFUSED true
  else ((s.fset F.GLB.SPINE_PWR.TARGET t).fput F.GLB.SPINE_PWR.REFUSED false).fput F.GLB.SPINE_PWR.BUSY
    (t != s.fget F.GLB.SPINE_PWR.STATE)

def State.corePwr (s : State) (w : Word) : State :=
  let t := vbits w 0 1
  (s.fset F.GLB.CORE_PWR.TARGET t).fput F.GLB.CORE_PWR.BUSY (t != s.fget F.GLB.CORE_PWR.STATE)

/-- A spine or core change in progress ends. -/
def State.pwrSettle (s : State) : State :=
  let entry := fun (t : State) (a b : Nat) => if a = b then t else t.sillage 60 0x03 (packBits [(0, 2, a), (2, 2, b), (11, 1, 1)])
  let s0 := (s.fset F.GLB.SPINE_PWR.STATE (s.fget F.GLB.SPINE_PWR.TARGET)).fput F.GLB.SPINE_PWR.BUSY false
  let s1 := entry (entry s0 (s.fget F.GLB.SPINE_PWR.STATE) (s.fget F.GLB.SPINE_PWR.TARGET))
    (s.fget F.GLB.CORE_PWR.STATE) (s.fget F.GLB.CORE_PWR.TARGET)
  (s1.fset F.GLB.CORE_PWR.STATE (s.fget F.GLB.CORE_PWR.TARGET)).fput F.GLB.CORE_PWR.BUSY false

def execSpinePwrWrite (w : Word) (s : State) : Res := .next ((s.touch .glb 0).spinePwr w)
def execCorePwrWrite (w : Word) (s : State) : Res := .next ((s.touch .glb 0).corePwr w)

/-! ### The load-step governor (R415–R418) -/

/-- I_EST of a state in mA; OFF has none (R415). -/
def State.iEst (s : State) (x st : Nat) : Nat :=
  250 * (match st with
    | 0 => s.fget F.PWR.I_EST.I_RUN x | 1 => s.fget F.PWR.I_EST.I_TRIM x | 2 => s.fget F.PWR.I_EST.I_DOZE x | _ => 0)

/-- Difference of two numbers, whichever is larger. -/
def absDiff (a b : Nat) : Nat := (a - b) + (b - a)

/-- A sector has phases to take: waking or entering. -/
def State.phased (s : State) (x : Nat) : Bool := s.pwrPhase x == 3 || s.pwrPhase x == 4

/-- Current of a sector with the phases taken so far. -/
def State.iSector (s : State) (x : Nat) : Nat :=
  let o := s.iEst x (s.sectorState x)
  if s.phased x then
    let n := s.iEst x (s.pwrTgt x)
    (o * (8 - s.fget F.PWR.PS_STS.STEP x) + n * s.fget F.PWR.PS_STS.STEP x) / 8
  else o

/-- One phase of a sector (R416). -/
def State.phaseCost (s : State) (x : Nat) : Nat := absDiff (s.iEst x (s.pwrTgt x)) (s.iEst x (s.sectorState x)) / 8

/-- Least spacing between phases, in intervals (Table 15-3, Table 15-11). -/
def State.phaseGap (s : State) (x : Nat) : Nat :=
  if s.pwrPhase x = 3 then (if s.pwrTgt x = 3 then 10 else 5) else (if s.sectorState x = 3 then 80 else 5)

/-- The next phase of the sector may be taken as far as its spacing goes. -/
def State.phaseDue (s : State) (x ph : Nat) : Bool :=
  s.pwrPhase x == ph && s.fget F.PWR.PS_STS.STEP x < 8
  && (let a := tget 0 s.pwr.phaseAt x; a == 0 || a - 1 + s.phaseGap x ≤ s.pwr.interval)

/-- Phases of one kind within a budget, ascending sectors: the state and what is left. A phase that does not fit waits. -/
def State.takePhases (s : State) (ph budget : Nat) : State × Nat × Bool :=
  (List.range 8).foldl (fun a x =>
    let t := a.1
    if !t.phaseDue x ph then a
    else
      let c := t.phaseCost x
      if c ≤ a.2.1 then
        let t1 := t.fset F.PWR.PS_STS.STEP (t.fget F.PWR.PS_STS.STEP x + 1) x
        ({ t1 with pwr := { t1.pwr with phaseAt := tset 0 t1.pwr.phaseAt x (1 + t.pwr.interval) } }, a.2.1 - c, a.2.2)
      else (t.fsat F.PWR.TR_STS.LSG_WAIT 1 x, a.2.1, true)) (s, budget, false)

/-- Activity level of a stop in the interval just ended (R415). -/
def State.activity (s : State) (k : Nat) : Nat :=
  let n := tget 0 s.pwr.slots k
  max (if n = 0 then 0 else min 16 (ceilDiv (16 * tget 0 s.pwr.used k) n)) (tget 0 s.pwr.gball k)

/-- Stops in round-robin order after one. -/
def rrAfter (last : Nat) : List Nat := (List.range 60).map (fun i => (last + 1 + i) % 60)

/-- Raise caps of stops with demand while the budget lasts. -/
def raiseCaps (demand : Tbl Nat) (iact : Nat) : List Nat → Tbl Nat × Nat × Nat → Tbl Nat × Nat × Nat
  | [], a => a
  | k :: ks, (cap, up, last) =>
    let c := tget 16 cap k
    if tget 0 demand k = 1 ∧ c < 16 ∧ iact ≤ up then raiseCaps demand iact ks (tset 16 cap k (c + 1), up - iact, k)
    else raiseCaps demand iact ks (cap, up, last)

/-- Lower ballast levels above the least while the budget lasts. -/
def lowerBall (mn iact : Nat) : List Nat → Tbl Nat × Nat × Nat → Tbl Nat × Nat × Nat
  | [], a => a
  | k :: ks, (b, dn, last) =>
    let v := tget 0 b k
    if mn < v ∧ iact ≤ dn then lowerBall mn iact ks (tset 0 b k (v - 1), dn - iact, k)
    else lowerBall mn iact ks (b, dn, last)

/-- Send the new caps and ballast levels to the stops whose values change (R417). -/
def State.sendLsg (s : State) (cap ball : Tbl Nat) : State :=
  let s1 := (List.range 60).foldl (fun a k =>
    let c := tget 16 cap k
    let b := tget 0 ball k
    if c = tget 16 s.pwr.gcap k ∧ b = tget 0 s.pwr.gball k then a
    else a.send (mkCtrl 0xB k 60 [(39, 5, c), (34, 5, b)])) s
  { s1 with pwr := { s1.pwr with gcap := cap, gball := ball } }

/-- GOVERNOR_INTERVAL (R416–R418). DESIGN CHOICE: while EN is 0 no budget holds a sector's phases back. -/
def State.governor (s : State) : State :=
  let dq := min (s.fget F.GLB.LSG_STEP.STEP) (s.fget F.GLB.LSG_SLEW.SLEW / 10)
  let d := 250 * dq
  let iact := s.fget F.GLB.LSG_CFG.IACT
  let mn := s.fget F.GLB.LSG_CFG.MIN_ACT
  let acts := (List.range 60).map s.activity
  let e := ((List.range 8).map s.iSector).foldl (· + ·) 0 + iact * acts.foldl (· + ·) 0
  let refused := !s.pwr.demand.isEmpty
  let s0 := s.fset F.GLB.LSG_STS.EST (min 65535 (e / 250))
  let s1 := if refused then s0.rcInc F.GLB.LSG_CAP_CNT 0 else s0
  let s2 := match s.pwr.why, s.pwr.est with
    | some w, some p =>
      if d < absDiff e p then
        (s1.rcInc F.GLB.LSG_EXCEED_CNT 0).record .glb 0 0xB2 (packBits [(0, 16, absDiff e p / 250), (16, 2, w)]) (min 65535 (e / 250))
      else s1
    | _, _ => s1
  let s3 : State := { s2 with pwr := { s2.pwr with
    est := some e, why := none, interval := s2.pwr.interval + 1, used := [], slots := [], demand := [] } }
  if s.fbit F.GLB.LSG_CFG.EN then
    let w := s3.takePhases 4 d
    let n := w.1.takePhases 3 d
    let base := fun t0 => (List.range 60).foldl (fun t k => tset t0 t k (max (acts.getD k 0) mn)) ([] : Tbl Nat)
    let caps := raiseCaps s.pwr.demand iact (rrAfter s.pwr.rrCap) (base 16, w.2.1, s.pwr.rrCap)
    let ball := lowerBall mn iact (rrAfter s.pwr.rrBall) (base 0, n.2.1, s.pwr.rrBall)
    let s4 := (n.1.fput F.GLB.LSG_STS.LIMITING (refused || w.2.2 || n.2.2)).sendLsg caps.1 ball.1
    { s4 with pwr := { s4.pwr with rrCap := caps.2.2, rrBall := ball.2.2 } }
  else
    let w := s3.takePhases 4 (8 * 250 * 256)
    let n := w.1.takePhases 3 (8 * 250 * 256)
    (n.1.fput F.GLB.LSG_STS.LIMITING false).sendLsg [] []

def execGovernorInterval (s : State) : Res := .next s.governor

/-- LSG_SET (R417): the stop's new cap and ballast level. -/
def execLsgSet (n : Stop) (m : Msg) (s : State) : Res :=
  let s1 := s.take n m
  if !msgOk m then .next (s1.msgBad n m)
  else .next { s1 with pwr := { s1.pwr with
    cap := tset 16 s1.pwr.cap n (vbits m 39 5), ball := tset 0 s1.pwr.ball n (vbits m 34 5) } }

end Sys2Proof.Machine
end

