-- ==== Sys2Proof/Machine/Xb.lean ====
section
/-! DEFINITION. Bridges between clock domains: readiness, resynchronisation, clock changes and the XB pages
(14_clock_crossings). The latency of R385 is time and is left out; a FIFO keeps its depth and its order. -/

namespace Sys2Proof.Machine

/-- KIND of the bridge with an index in a group (Table 14-6); none where no bridge has the index. -/
def xbKind (g i : Nat) : Option Nat :=
  if g < 8 then (if i < 28 then some (i % 4) else if i < 44 then some 4 else if i = 44 then some 5 else none)
  else if g = 8 then (if i < 16 then some (i % 4) else if i = 16 then some 8 else none)
  else if g = 9 then (match i with | 0 => some 6 | 1 => some 7 | 2 => some 9 | _ => none)
  else none

/-- The stop whose domain holds one side of the bridge; none for a bridge of group 9. -/
def xbStop (g i : Nat) : Option Nat :=
  if g < 8 then some (if i < 28 then 7 * g + i / 4 else if i < 44 then 7 * g + (i - 28) / 4 else 7 * g + 5)
  else if g = 8 then some (if i < 16 then 56 + i / 4 else 59)
  else none

/-- A waking sector has its supply: every phase taken and SVOK asserted. -/
def State.wakeSupplied (s : State) (x : Nat) : Bool :=
  s.fget F.PWR.PS_STS.PHASE x == 4 && s.fget F.PWR.PS_STS.STEP x == 8 && tget 0 s.pwr.svokLow x == 0

/-- No side of the bridge is in reset: its stop's sector is not OFF, or has come to the end of its wake (Table 15-11), the
stop is not isolated, no fabric reset is in progress (R393, R464, R482). -/
def State.xbOut (s : State) (g i : Nat) : Bool :=
  !s.boot.inReset &&
  (match xbStop g i with
   | none => true
   | some k => isCoreStop k
       || ((s.sectorState (sectorOf k) != 3 || s.wakeSupplied (sectorOf k)) && !s.isolated k))

/-- The unread entries of the bridge's FIFOs: flits towards the injection registers, or in the ejection lanes. -/
def State.xbUnread (s : State) (g i : Nat) : Nat :=
  match xbKind g i, xbStop g i with
  | some 0, some k => ((List.range 18).map (fun l => (tget [] s.spine.xfer (k * 18 + l)).length)).foldl (· + ·) 0
  | some 1, some k => ((List.range 18).map (fun l => (tget [] s.spine.eject (k * 32 + l)).length)).foldl (· + ·) 0
  | some 8, _ => s.pair.out.length + s.pair.rx.length
  | _, _ => 0

/-- The unread entries are discarded and the pointers are 0. -/
def State.xbDiscard (s : State) (g i : Nat) : State :=
  match xbKind g i, xbStop g i with
  | some 0, some k => { s with
      spine := { s.spine with xfer := tdrop (fun q => q / 18 == k) s.spine.xfer },
      arb := { s.arb with credit := tdrop (fun q => q / 18 == k) s.arb.credit } }
  | some 1, some k => { s with spine := { s.spine with eject := tdrop (fun q => q / 32 == k && q % 32 < 18) s.spine.eject } }
  | some 8, _ => { s with pair := { s.pair with out := [], rx := [] } }
  | _, _ => s

/-- The handshake of Table 14-4 of one bridge: unread entries are discarded, counted and recorded (R394), and both sides
become READY. A bridge that is READY, or has a side in reset, does nothing. -/
def State.bridgeResync (s : State) (g i : Nat) : State :=
  match xbKind g i with
  | none => s
  | some kind =>
    if s.xbReady (g * 64 + i) || !s.xbOut g i then s
    else
      let n := s.xbUnread g i
      let x := tget {} s.xb (g * 64 + i)
      let s1 := s.xbDiscard g i
      let x1 := { x with ready := 3, resync := satAdd 32 x.resync 1, drop := satAdd 32 x.drop n }
      let s2 : State := { s1 with xb := tset {} s1.xb (g * 64 + i) x1 }
      if n = 0 then s2 else s2.record .xb g 0xA1 (packBits [(0, 6, i), (6, 4, kind)]) n

/-- BRIDGE_RESYNC (R393, R394). -/
def execBridgeResync (g : Fin 10) (i : Fin 64) (s : State) : Res := .next (s.bridgeResync g i)

/-- CLOCK_SWITCH (R392): pointers, holding registers and FIFO contents are kept. -/
def execClockSwitch (s : State) : Res := .next s

/-- One side of the bridge runs at half rate (Table 15-1). -/
def State.xbTrim (s : State) (g i : Nat) : Bool := match xbStop g i with | some k => s.stopTrim k | none => false

/-- A write of XB_SEL: the selected bridge's status and counts are copied; CLR clears the counts (R396). The copy is
complete with the write. OCC_MAX of a bridge whose entries the model passes on at once (SPINE_CTL, MAINT, LCI, MEMIF,
MGMT) is a free value within the depth of Table 14-3. -/
def State.xbSel (s : State) (b : Nat) (w : Word) : State :=
  let i := vbits w 0 6
  let x := tget {} s.xb (b * 64 + i)
  let there := (xbKind b i).isSome
  let v := fun (n : Nat) => if there then n else 0
  let fr := s.fresh
  let occ := match xbKind b i with
    | some 0 => x.occ | some 1 => x.occ | some 8 => x.occ | some 7 => 0 | some 9 => 0
    | some 2 => fr.1 % 33 | some 5 => fr.1 % 33 | _ => fr.1 % 17
  let s0 := (fr.2.fset F.XB.XB_SEL.IDX i b).fput F.XB.XB_STS.VALID true b
  let s1 := (s0.fput F.XB.XB_STS.PRESENT there b).fset F.XB.XB_STS.KIND (v ((xbKind b i).getD 0)) b
  let s2 := (s1.fset F.XB.XB_STS.READY_A (v (x.ready % 2)) b).fset F.XB.XB_STS.READY_B (v (x.ready / 2 % 2)) b
  let s3 := (s2.fset F.XB.XB_STS.OCC_MAX (v occ) b).fset F.XB.XB_STS.LAT_Q
    (v (min 32032 (Config.latQ (b * 64 + i) (s.xbTrim b i)))) b
  let s4 := ((s3.fset F.XB.RESYNC_CNT (v x.resync) b).fset F.XB.DROP_CNT (v x.drop) b).fset F.XB.OVF_CNT (v x.ovf) b
  if w.getLsbD 31 && there then
    { s4 with xb := tset {} s4.xb (b * 64 + i) { x with resync := 0, drop := 0, ovf := 0, occ := 0 } }
  else s4

/-- XB_SEL_WRITE (R396). -/
def execXbSelWrite (b : Fin 10) (w : Word) (s : State) : Res := .next ((s.touch .xb b).xbSel b w)

/-- NRDY: bridges of a group with a side that is not READY. -/
def State.xbNotReady (s : State) (g : Nat) : Nat :=
  ((List.range 64).filter (fun i => (xbKind g i).isSome && !s.xbReady (g * 64 + i))).length

end Sys2Proof.Machine
end

