-- ==== Sys2Proof/Machine/Iso.lean ====
section
/-! DEFINITION. Isolation of a stop or a sector, supply faults, maintenance segments, the error record queue and the
test key (17_faults_and_containment; R414). -/

namespace Sys2Proof.Machine

/-! ### The error record queue (R470) -/

/-- The records queued, 256 bits each; COUNT follows. -/
def State.setErq (s : State) (q : List Nat) : State :=
  ({ s with cnt := { s.cnt with erq := q } } : State).fset F.GLB.ERQ_STS.COUNT q.length

/-- A record is discarded: 0 incomplete, 1 at a full queue. -/
def State.erqLost (s : State) (reporter why : Nat) : State :=
  (s.rcInc F.GLB.ERQ_LOST 0).record .glb 0 0xC5 (packBits [(0, 6, reporter), (6, 1, why)]) 0

def erqKey (reporter rnum : Nat) : Nat := reporter * 64 + rnum

/-- Node 60 takes a fragment; with the last of its eight the record joins the queue. -/
def State.erqFrag (s : State) (m : Msg) : State :=
  let key := erqKey (msgSrc m) (vbits m 39 6)
  let f := vbits m 45 3
  let x := tget {} s.cnt.erqPart key
  let y : FragBuf := if nbit x.seen f then x else ⟨x.seen + 2 ^ f, x.data + vbits m 7 32 * 2 ^ (32 * f)⟩
  if y.seen = 255 then
    let s1 : State := { s with cnt := { s.cnt with erqPart := tset {} s.cnt.erqPart key {} } }
    if s1.cnt.erq.length < 512 then s1.setErq (s1.cnt.erq ++ [y.data]) else s1.erqLost (msgSrc m) 1
  else { s with cnt := { s.cnt with erqPart := tset {} s.cnt.erqPart key y } }

/-- ERQ_FRAG (R470). -/
def execErqFrag (m : Msg) (s : State) : Res :=
  let s1 := s.take 60 m
  .next (if !msgOk m then s1.msgBad 60 m else s1.erqFrag m)

/-- ERQ_FRAG_TIMEOUT (R470): a record incomplete for 2 048 cycles is discarded. -/
def execErqFragTimeout (r : Node) (rnum : Fin 64) (s : State) : Res :=
  let key := erqKey r rnum
  .next (if (tget {} s.cnt.erqPart key).seen = 0 then s
    else ({ s with cnt := { s.cnt with erqPart := tset {} s.cnt.erqPart key {} } } : State).erqLost r 0)

/-- ERQ_POP (R470, Table 17-9): the head record leaves. -/
def State.erqPop (s : State) : State := s.setErq s.cnt.erq.tail
def execErqPop (s : State) : Res := .next (s.touch .glb 0).erqPop

/-! ### Starting an isolation (R462, R463) -/

/-- The stops of a unit: KIND 0 a stop, 1 a sector. -/
def isoStops (kind id : Nat) : List Nat := if kind = 0 then [id] else sectorStops id

/-- The unit is already isolated. -/
def State.unitIsolated (s : State) (kind id : Nat) : Bool := (isoStops kind id).all (fun k => s.isolated k)

/-- First refusal of GO with OP = ISOLATE, 0 for none (R462). DESIGN CHOICE: a unit that does not exist, and any unit while an
isolation is in progress, is in the wrong state. -/
def State.isoRefusal (s : State) (kind id : Nat) : Nat :=
  if kind = 0 ∧ 56 ≤ id ∧ id < 60 then 1
  else if kind = 0 ∧ isEngStop id ∧ s.fget F.ENG.ENG_STS.STATE (sectorOf id) < 2 then 2
  else if (kind = 0 && 60 ≤ id) || (kind = 1 && 8 ≤ id) || s.unitIsolated kind id || s.fbit F.GLB.ISO_STS.BUSY then 3
  else 0

def isoMsg (u : IsoMsg) : Msg := mkTyped 0xF 63 60 [(47, 1, u.kind), (41, 6, u.id), (33, 8, u.nn)]

/-- CAUSE of a commanded isolation (Table 17-4): STOP_UE when the stop has raised it, a resynchronisation loss when its
bridge group's page names one of its bridges, a command otherwise. -/
def State.isoCause (s : State) (kind id : Nat) : Nat :=
  if kind = 1 then 2
  else if nbit (s.intSts .stop id) 3 then 0
  else
    let g := sectorOf id
    if s.fget (F.HDR.PG_ERR_FIRST.CODE .xb) g = 0xA1
        ∧ xbStop g (s.fget (F.HDR.PG_ERR_INFO0.INFO0 .xb) g % 64) = some id then 3 else 2

/-- The links that the unit's port stops serve at this moment, as (stop, link). -/
def State.isoLinks (s : State) (kind id : Nat) : List (Nat × Nat) :=
  (isoStops kind id).flatMap (fun k => ((List.range 4).filter (fun l => s.present k l)).map (fun l => (k, l)))

/-- The ISOLATE and DROP broadcasts; the boundary is the next one. -/
def State.isoStart (s : State) (kind id cause : Nat) : State :=
  let nn := if s.iso.nn = 255 then 1 else s.iso.nn + 1
  let u : IsoMsg := ⟨kind, id, nn, 3⟩
  let s1 := (s.fput F.GLB.ISO_STS.BUSY true).bcast (isoMsg u)
  let s2 : State := { s1 with iso := { s1.iso with
    nn := nn, again := some u, unit := some (kind, id, cause), bound := wrapAdd 48 (s.nodeTick 60) 1, done := 0,
    drops := (s.isoLinks kind id).map (fun p => 4 * s.portName p.1 + p.2), freed := 0, tags := 0, breaks := 0, rows := 0 } }
  (s.isoLinks kind id).foldl (fun a p => a.newNotice p.1 p.2 3) s2

/-- An isolation without a command waits while another is in progress. -/
def State.isoAsk (s : State) (kind id cause : Nat) : State :=
  if s.unitIsolated kind id then s
  else if s.fbit F.GLB.ISO_STS.BUSY then { s with iso := { s.iso with queue := s.iso.queue ++ [(kind, id, cause)] } }
  else s.isoStart kind id cause

/-- GO of ISO_CTL with OP = ISOLATE. -/
def State.isolate (s : State) (kind id : Nat) : State :=
  let r := s.isoRefusal kind id
  let s1 := s.fset F.GLB.ISO_STS.RES r
  if r = 0 then s1.isoStart kind id (s.isoCause kind id) else s1

def execIsolate (kind : Fin 2) (id : Fin 64) (s : State) : Res := .next ((s.touch .glb 0).isolate kind id)

/-! ### An isolation at its nodes (R464–R467) -/

/-- A node takes ISOLATE once per NN (R248, R463). -/
def State.isoIn (s : State) (n : Nat) (m : Msg) : State :=
  let nn := vbits m 33 8
  if tget 0 s.iso.applied n = nn then s
  else { s with iso := { s.iso with arrived := tset none s.iso.arrived n (some ⟨vbits m 47 1, vbits m 41 6, nn, 0⟩) } }

def execIsolateMsg (n : Node) (m : Msg) (s : State) : Res :=
  let s1 := s.take n m
  .next (if !msgOk m then s1.msgBad n m else s1.isoIn n m)

/-- The queued transactions for `x` are dropped, but those for its memory, which wait for the route (R466). -/
def keepsFor (x : Nat) (t : FTxn) : Bool := t.head.dst.toNat != x || (isMemStop x && !t.rsp && !t.numbered)

/-- Stop `k` frees what it holds towards the isolated stop `x`. -/
def State.isoFree (s : State) (k x : Nat) : State :=
  let n := ((s.ret k).filter (fun c => c.flit.dst.toNat == x)).length
  let s1 := (s.withdrawCredits k x).setRet k ((s.ret k).filter (fun c => c.flit.dst.toNat != x))
  let s2 := (List.range 4).foldl (fun a c => a.setCredit k x c { f := 0 }) (s1.rcInc F.STOP.ISO_FREE_CNT k n)
  let s3 := s2.setQueue k ((s2.queue k).filter (keepsFor x))
  let s4 := match tget none s3.arb.burst k with
    | some b =>
      if (b.flits.headD emptyFlit).dst.toNat = x ∧ b.self = false then
        ({ s3 with arb := { s3.arb with burst := tset none s3.arb.burst k none } } : State).setBridge k b.ring b.dir
          (s3.bridgeUsed k b.ring b.dir - b.flits.length)
      else s3
    | none => s3
  { s4 with
    resv := { s4.resv with closed := tset 0 s4.resv.closed (pairKey k x) 1, recalls := tset 0 s4.resv.recalls (pairKey k x) 0 },
    ord := { s4.ord with
      acks := tset [] s4.ord.acks (pairKey k x) [],
      ackQ := tset [] s4.ord.ackQ k ((tget [] s4.ord.ackQ k).filter (fun f => f.dst.toNat != x)),
      recs := tset [] s4.ord.recs k ((tget [] s4.ord.recs k).filter (fun r => r.src != x)) },
    iso := { s4.iso with freed := s4.iso.freed + n } }

/-- Requests of `x` end and the shared entries granted to it return. -/
def State.isoDrop (s : State) (k x : Nat) : State :=
  (List.range 4).foldl (fun a c =>
    let y := a.charge k x c
    let a1 := a.setCharge k x c { y with gp := 0, ga := 0, lastRid := 0, pend := false }
    let a2 := (a1.setUsed k c (a1.used k c - (y.gp + y.ga))).fset F.STOP.POOL_STS.NP_USED (a1.npUsed k - y.ga) k
    a2.setPendQ k c ((a2.pendQ k c).filter (fun r => r.src != x))) s

/-- The flits of `x` in the ejection FIFOs are discarded. -/
def State.isoEject (s : State) (k x : Nat) : State :=
  (List.range 18).foldl (fun a lane =>
    let q := tget [] a.spine.eject (k * 32 + lane)
    let kept := q.filter (fun e => e.flit.src.toNat != x)
    ({ a with spine := { a.spine with eject := tset [] a.spine.eject (k * 32 + lane) kept } } : State).rcInc
      F.STOP.ISO_RM_CNT k (q.length - kept.length)) s

/-- What landed from `x` is released in SEQ order over the missing numbers (R465). -/
def State.isoRelease (s : State) (k x : Nat) : State :=
  let pk := pairKey k x
  let l := tget [] s.ord.wait pk
  let low := tget 0 s.ord.low pk
  let due := l.filter (fun y => !y.released)
  let s1 := due.foldl (fun a y => a.releaseOne k y) s
  let s2 : State := { s1 with ord := { s1.ord with wait := tset [] s1.ord.wait pk [] } }
  match due.getLast? with
  | none => s2
  | some y =>
    let span := wrapSub 16 y.flit.seq.toNat low
    let there := (l.filter (fun z => wrapSub 16 z.flit.seq.toNat low < span)).length
    if span ≤ there then s2 else
    let s3 := (s2.rcInc F.STOP.ORDER_BREAK_CNT k).record .stop k 0xC3 (packBits [(0, 6, x), (16, 16, low)]) (span - there) low
    { s3 with iso := { s3.iso with breaks := s3.iso.breaks + 1 } }

/-- Tags of stop `k` that the DROP notices of the isolation end. -/
def State.isoTags (s : State) (k : Nat) : Nat :=
  ((s.tagsOf k).filter (fun e => s.iso.drops.contains (4 * e.2.egStop + e.2.egLink) && 1 ≤ e.2.st && e.2.st ≤ 3)).length

/-- Row holds for an isolated memory stop end. DESIGN CHOICE: the manual names no release for them. -/
def State.isoHolds (s : State) (k x : Nat) : State :=
  if !isMemStop k then s
  else
    let c := sectorOf k
    ({ s with mem := { s.mem with holds := tset [] s.mem.holds c ((tget [] s.mem.holds c).filter (fun h => h.2 != x)) } } : State).pump c

/-- Stop `k` applies the isolation of stop `x`. -/
def State.isoOther (s : State) (k x : Nat) : State :=
  if s.knowsGone k x then s
  else
    let s0 : State := { s with iso := { s.iso with
      known := tset 0 s.iso.known (k * 64 + x) 1 } }
    (((((s0.isoFree k x).isoDrop k x).isoEject k x).isoRelease k x).restartPair k x).isoHolds k x

/-- The open rows of a memory stop are lost, each with a sillage entry. DESIGN CHOICE: the spec names no code for it; the row
stands in a CH_STATE entry, under R450's limit of one entry per code and tick. MEM takes the FAIL command row (R466). -/
def State.isoMem (s : State) (c : Nat) : State :=
  let open' := ((s.accsOf c).filterMap (fun a => if isWriteOp a.2.2.op ∧ 1 ≤ a.2.2.ph then some (a.2.2.addr / 4096) else none)).eraseDups
  let s1 : State := { s with iso := { s.iso with rows := s.iso.rows + min 64 open'.length } }
  let s2 := (open'.take 64).foldl (fun a row => a.sillage (memStop c) 0x07
    (packBits [(0, 2, chState a c), (2, 2, 1), (4, 23, row)])) s1
  (s2.setJobs c []).chLost c 2

/-- Stop `x` itself: its interface is held in reset (R464). DESIGN CHOICE: a flit in an injection register of its station,
which injects nothing from now on, is discarded. -/
def State.isoSelf (s : State) (x : Nat) : State :=
  let s1 := s.stopLost x
  let s1 : State := { s1 with spine := { s1.spine with
    inj := tdrop (fun i => i / 18 == x) s1.spine.inj, missed := tdrop (fun i => i / 18 == x) s1.spine.missed } }
  let s2 := if isMemStop x then s1.isoMem (sectorOf x) else s1
  if x < 32 then s2.fset F.GLB.ISO_SET_LO.SET_LO (s2.fget F.GLB.ISO_SET_LO.SET_LO ||| 2 ^ x)
  else s2.fset F.GLB.ISO_SET_HI.SET_HI (s2.fget F.GLB.ISO_SET_HI.SET_HI ||| 2 ^ (x - 32))

/-- A sector goes to OFF without a close; a transition in progress is abandoned (R414, R467). -/
def State.sectorOff (s : State) (x : Nat) : State :=
  let st := s.sectorState x
  let s1 := (s.fset F.PWR.PS_STS.STATE 3 x).setPhase x 0
  let s2 : State := { s1 with pwr := { s1.pwr with
    closeAt := tset 0 s1.pwr.closeAt x 0, latch := tset 0 s1.pwr.latch x 0, pendTgt := tset 0 s1.pwr.pendTgt x 0,
    empty := tset 0 s1.pwr.empty x 0 } }
  let s3 := if st = 3 then s2 else s2.powerEntry x st 3 false
  s3.sectorLost x

/-- The sector's part of its isolation: contexts lost, OFF (R467). -/
def State.isoSector (s : State) (x : Nat) : State :=
  let s1 := match (s.residents x).head? with
    | some q => s.engCtxUe x q
    | none => s
  let s2 := s1.sectorOff x
  { s2 with pwr := { s2.pwr with why := some (s2.pwr.why.getD 1) } }

/-- ISOLATE_APPLY at node `n` (R463–R467). -/
def State.isoApply (s : State) (n : Nat) : State :=
  match tget none s.iso.arrived n with
  | none => s
  | some u =>
    let s0 : State := { s with iso := { s.iso with
      arrived := tset none s.iso.arrived n none, applied := tset 0 s.iso.applied n u.nn, done := s.iso.done ||| maskOf n } }
    let xs := isoStops u.kind u.id
    if 60 ≤ n then s0
    else if xs.contains n then
      (if u.kind = 1 ∧ n = pwrNode u.id then s0.isoSector u.id else s0).isoSelf n
    else xs.foldl (fun a x => a.isoOther n x) { s0 with iso := { s0.iso with tags := s0.iso.tags + s.isoTags n } }

def execIsolateApply (n : Node) (s : State) : Res := .next (s.isoApply n)

/-- All 60 stops have applied the isolation in progress. -/
def State.isoAll (s : State) : Bool := s.iso.unit.isSome && s.iso.done.toNat % 2 ^ 60 == 2 ^ 60 - 1

/-- ISOLATION_COMPLETE (R468): the CONTAIN record, STOP_ISOLATED, BUSY clears; a waiting isolation starts. -/
def State.isoComplete (s : State) : State :=
  match s.iso.unit with
  | none => s
  | some (kind, id, cause) =>
    if !s.isoAll then s
    else
      let i := s.iso
      let s1 := s.sendErq 60 (packBits [(0, 48, s.nodeTick 60), (48, 8, 0x12), (56, 8, cause), (64, 8, id), (72, 1, kind),
        (80, 24, min 16777215 i.freed), (112, 16, min 65535 i.tags), (128, 24, i.breaks), (152, 8, i.rows), (160, 48, i.bound)])
      let s2 := s1.record .glb 0 0xC2 (packBits [(0, 6, id), (6, 1, kind), (8, 2, cause)]) (i.bound % 2 ^ 32)
      let s3 := ({ s2 with iso := { s2.iso with unit := none } } : State).fput F.GLB.ISO_STS.BUSY false
      match s3.iso.queue with
      | [] => s3
      | u :: rest => ({ s3 with iso := { s3.iso with queue := rest } } : State).isoAsk u.1 u.2.1 u.2.2

def execIsolationComplete (s : State) : Res := .next s.isoComplete

/-- A boundary of node 60 sends ISOLATE and the DROP notices of isolated stops again (R248, R463). -/
def State.isoAgain (s : State) : State :=
  let s1 := match s.iso.again with
    | none => s
    | some u => { s.bcast (isoMsg u) with iso := { s.iso with again := if u.left ≤ 1 then none else some { u with left := u.left - 1 } } }
  ((List.range 56).filter (fun k => isPortStop k && s1.isolated k)).foldl (fun a k =>
    a.noticesRepeat k) s1

/-- REJOIN (R469): the isolation ends; a stop whose sector runs reopens with FRESH = 1. -/
def State.rejoinUnit (s : State) (kind id : Nat) : State :=
  let xs := isoStops kind id
  if (kind = 0 && 60 ≤ id) || (kind = 1 && 8 ≤ id) || !s.unitIsolated kind id || s.fbit F.GLB.ISO_STS.BUSY then
    s.fset F.GLB.ISO_STS.RES 3
  else
    let clear := fun (a : State) (x : Nat) =>
      let a1 := if x < 32 then a.fset F.GLB.ISO_SET_LO.SET_LO (a.fget F.GLB.ISO_SET_LO.SET_LO ^^^ 2 ^ x)
        else a.fset F.GLB.ISO_SET_HI.SET_HI (a.fget F.GLB.ISO_SET_HI.SET_HI ^^^ 2 ^ (x - 32))
      { a1 with iso := { a1.iso with known := tdrop (fun i => i % 64 == x) a1.iso.known } }
    let s1 := xs.foldl clear (s.fset F.GLB.ISO_STS.RES 0)
    xs.foldl (fun a x => if a.stopRuns x then (a.reopen x true).syncAll x else a) s1

def execRejoin (kind : Fin 2) (id : Fin 64) (s : State) : Res := .next ((s.touch .glb 0).rejoinUnit kind id)

/-- A write of ISO_CTL: the fields are stored, then GO (Table 17-9). -/
def State.isoCtl (s : State) (w : Word) : State :=
  let s1 := ((s.fset F.GLB.ISO_CTL.ID (vbits w 0 6)).fset F.GLB.ISO_CTL.KIND (vbits w 6 1)).fset F.GLB.ISO_CTL.OP (vbits w 7 1)
  if !w.getLsbD 8 then s1
  else if w.getLsbD 7 then s1.rejoinUnit (vbits w 6 1) (vbits w 0 6) else s1.isolate (vbits w 6 1) (vbits w 0 6)

/-- Transactions waiting for an isolated memory stop follow the route once a swap has moved it (R466). -/
def State.isoReroute (s : State) (k : Nat) : State :=
  if (s.queue k).all (fun t => !s.knowsGone k t.head.dst.toNat) then s
  else
    let move := fun (t : FTxn) =>
      let d := s.routePhys k t.ldst
      if t.rsp || t.numbered || !s.knowsGone k t.head.dst.toNat || d == t.head.dst.toNat then t
      else { t with flits := t.flits.map (fun f => { f with dst := BitVec.ofNat 6 d }) }
    (s.setQueue k ((s.queue k).map move)).resService k

/-! ### Supply faults (R414) -/

/-- The sector goes to OFF with PWR_FAULT; one that ran is isolated. -/
def State.supplyFault (s : State) (x why : Nat) : State :=
  let st := s.sectorState x
  let s1 := ((s.rcInc F.PWR.PWR_FAULT_CNT x).record .pwr x 0xB1 (packBits [(0, 2, st), (2, 1, why)]) 0).intSet .pwr x 0
  let s2 : State := { s1 with pwr := { s1.pwr with why := some 0, svokLow := tset 0 s1.pwr.svokLow x 1 } }
  let s3 := if st < 2 then s2.isoAsk 1 x 1 else s2
  s3.sectorOff x

/-- SVOK_TIMEOUT (R414): SVOK is still low 16 µs after the last phase of a supply raise. -/
def execSvokTimeout (x : Sector) (s : State) : Res :=
  let raising := s.pwrPhase x = 4 ∨ (s.pwrPhase x = 1 ∧ s.pwrTgt x = 0)
  .next (if raising ∧ tget 0 s.pwr.svokLow x = 1 then s.supplyFault x 0 else s)

/-- SVOK_LOST (R414): SVOK is deasserted in RUN, TRIM or DOZE. -/
def execSvokLost (x : Sector) (s : State) : Res :=
  .next (if s.sectorState x < 3 then s.supplyFault x 1
    else { s with pwr := { s.pwr with svokLow := tset 0 s.pwr.svokLow x 1 } })

/-! ### Maintenance segments, SRAM errors, the test key -/

/-- The segment from node `i` to the next is dead in both directions. -/
def State.segDead (s : State) (i : Nat) : Bool :=
  tget 0 s.net.dead ((i + 1) % 64 * 2) == 1 && tget 0 s.net.dead (i * 2 + 1) == 1

/-- The condition of a cause of Table 17-2: 1 TICKREF, 2 NO_RING, 3 CORES, 4 MAINT_CUT. -/
def State.causeHolds (s : State) (c : Nat) : Bool :=
  let core := fun (i : Nat) =>
    let v := s.fget (if i = 0 then F.CTL.CORE_STS.STATE_A else F.CTL.CORE_STS.STATE_B)
    v == 3 || v == 4
  match c with
  | 1 => s.tick.stopped
  | 2 => s.ringsUsable == 0
  | 3 => !core 0 && !core 1
  | 4 => 2 ≤ ((List.range 64).filter (fun i => s.segDead i)).length
  | _ => false

/-- A cause acts once, when its condition comes to hold (R461). DESIGN CHOICE: what holds from cold reset on (no ring, no
core) is no event until it has once ceased to hold. -/
def State.causeCheck (s : State) (c : Nat) : State :=
  let seen := nbit s.boot.causeSeen c
  let mark := fun (a : State) => { a with boot := { a.boot with causeSeen := a.boot.causeSeen ^^^ 2 ^ c } }
  if s.causeHolds c then (if seen then s else (mark s).recoveryCause c)
  else if seen then mark s else s

/-- RECOVERY_CAUSE (R461). -/
def execRecoveryCause (c : Fin 5) (s : State) : Res := .next (s.causeCheck c)

/-- MAINT_SEG (R460, R461): node `n` receives no mark from direction `d`. -/
def State.maintSeg (s : State) (n d : Nat) : State :=
  let s1 := s.record .glb 0 0xC4 (packBits [(0, 6, n), (6, 1, d)]) 0
  ({ s1 with net := { s1.net with dead := tset 0 s1.net.dead (n * 2 + d) 1 } } : State).causeCheck 4

def execMaintSeg (n : Node) (d : Dir) (s : State) : Res := .next (s.maintSeg n d)

/-- STOP_UE (R456). -/
def execStopUe (k : Stop) (which : Fin 9) (idx : Word) (s : State) : Res := .next (s.stopUe k which idx.toNat)

/-- TEST_KEY_WRITE (R475): the key unlocks; anything else locks and disarms every unit. A flit that a unit holds is placed
as its action places it. -/
def State.testKey (s : State) (w : Word) : State :=
  if w = 0x00007E57 then s.fput F.GLB.TEST_STS.UNLOCKED true
  else
    let arm := fun (k : Nat) => k == F.FI.FI_CTL.ARM.key (keyPage k % 4096) 0 0 (keySel k)
    ({ s with regs := tdrop arm s.regs } : State).fput F.GLB.TEST_STS.UNLOCKED false

def execTestKeyWrite (w : Word) (s : State) : Res := .next ((s.touch .glb 0).testKey w)

/-- Units armed (ARMED_CNT). -/
def State.armedCnt (s : State) : Nat :=
  (s.regs.filter (fun e => e.1 == F.FI.FI_CTL.ARM.key (keyPage e.1 % 4096) 0 0 (keySel e.1))).length

end Sys2Proof.Machine
end

