-- ==== Sys2Proof/Machine/Boot.lean ====
section
/-! DEFINITION. Resets, the boot mailbox and the loader, core states, handover, SERVICE and the pool-memory virtual
endpoint (18_bringup_and_live_change; R543, R544, R560). -/

namespace Sys2Proof.Machine

/-! ### Cores (Table 18-2) -/

/-- CORE_STS.STATE: 0 RESET, 1 WAIT_IMAGE, 2 VERIFY, 3 STANDBY, 4 ACTIVE, 5 FAILED. -/
def coreFld (c : Nat) : Fld := if c = 0 then F.CTL.CORE_STS.STATE_A else F.CTL.CORE_STS.STATE_B
def State.coreState (s : State) (c : Nat) : Nat := s.fget (coreFld c)
def State.setCore (s : State) (c st : Nat) : State := s.fset (coreFld c) st
def State.setLdr (s : State) (c r : Nat) : State :=
  s.fset (if c = 0 then F.CTL.CORE_STS.LDR_RES_A else F.CTL.CORE_STS.LDR_RES_B) r
def svnFld (c : Nat) : Fld := if c = 0 then F.CTL.SVN_A else F.CTL.SVN_B

/-- A core is ACTIVE. -/
def State.anyActive (s : State) : Bool := s.coreState 0 == 4 || s.coreState 1 == 4

/-- Everything accepted for a core and its image are discarded. -/
def State.dropImage (s : State) (c : Nat) : State :=
  ({ s with boot := { s.boot with
    img := tdrop (fun i => i / 262144 == c) s.boot.img, acc := tset 0 s.boot.acc c 0, held := tset 0 s.boot.held c 0 } } : State).fset
    (svnFld c) 0

/-- A core enters RESET: its image is kept, a download under way is discarded (Tables 18-2 and 18-7). -/
def State.coreReset (s : State) (c : Nat) : State :=
  let s1 := if tget 0 s.boot.held c = 0 then s.dropImage c else s
  ({ s1 with boot := { s1.boot with
    posts := s1.boot.posts.filter (fun p => p.core != c), acc := tset 0 s1.boot.acc c 0,
    copying := tset 0 s1.boot.copying c 0, settling := tset 0 s1.boot.settling c 0 } } : State).setCore c 0

/-- OWNER of the mailbox pages follows the posts not yet copied. -/
def State.mbOwners (s : State) : State :=
  (List.range 2).foldl (fun a m => a.fput F.MBOX.MB_STS.OWNER (a.boot.posts.any (fun p => p.page == m)) m) s

/-- CORE_FAIL is recorded (Table 20-7): how 0 ROM, 1 heartbeat. -/
def State.coreFailed (s : State) (c how : Nat) : State :=
  ((s.setCore c 5).record .ctl 0 0xD2 (packBits [(0, 1, c), (1, 1, how)]) (s.coreState c)).intSet .ctl 0 0

/-- CORE_RESET_EXIT (Table 18-2): the ROM self-check passes or fails. -/
def State.coreExit (s : State) (c : Nat) (ok : Bool) : State :=
  if s.boot.inReset || s.coreState c != 0 then s
  else if !ok then s.coreFailed c 0
  else s.setCore c (if tget 0 s.boot.held c = 0 then 1 else 2)

def execCoreResetExit (c : Fin 2) (ok : Bool) (s : State) : Res := .next (s.coreExit c ok)

/-- CORE_RST (Table 18-2): refused for the active core. -/
def State.coreRst (s : State) (c : Nat) : State :=
  if s.coreState c = 4 then s.fset F.CTL.HO_STS.RES 3 else (s.coreReset c).mbOwners

def execCoreRst (c : Fin 2) (s : State) : Res := .next ((s.touch .ctl 0).coreRst c)

/-! ### The mailbox (R484, R485) -/

/-- Words of a post: LEN 0 is 512. -/
def State.mbLen (s : State) (m : Nat) : Nat := let n := s.fget F.MBOX.MB_CTL.LEN m; if n = 0 then 512 else n

/-- RESTART: everything accepted for the named core is discarded. DESIGN CHOICE: it has no effect on a core that is not in
WAIT_IMAGE, whose rows of Table 18-2 do not have it. -/
def State.mbRestart (s : State) (m : Nat) : State :=
  let c := s.fget F.MBOX.MB_CTL.CORE m
  if s.coreState c ≠ 1 then s
  else
    (({ s with boot := { s.boot with posts := s.boot.posts.filter (fun p => p.core != c) } } : State).dropImage c).mbOwners

/-- First refusal of a post, 0 for none. -/
def State.mbRefusal (s : State) (c off len : Nat) : Nat :=
  if 1048576 < off + 4 * len then 1 else if s.coreState c ≠ 1 then 2 else if off ≠ tget 0 s.boot.acc c then 3 else 0

/-- POST: the page's words are offered to the named core's loader. -/
def State.mbPost (s : State) (m : Nat) : State :=
  let c := s.fget F.MBOX.MB_CTL.CORE m
  let off := 4 * s.fget F.MBOX.MB_OFF.OFF m
  let len := s.mbLen m
  let last := s.fbit F.MBOX.MB_CTL.LAST m
  let r := s.mbRefusal c off len
  let s1 := s.fset F.MBOX.MB_STS.RES r m
  if r ≠ 0 then s1
  else
    let s2 : State := { s1 with boot := { s1.boot with
      posts := s1.boot.posts ++ [⟨m, c, off, len, last⟩], acc := tset 0 s1.boot.acc c (off + 4 * len) } }
    let s3 := (s2.fput F.MBOX.MB_STS.OWNER true m).fset F.MBOX.MB_STS.POSTS (s2.fget F.MBOX.MB_STS.POSTS m + 1) m
    if last then ({ s3 with boot := { s3.boot with held := tset 0 s3.boot.held c (off + 4 * len) } } : State).setCore c 2 else s3

/-- A write of MB_CTL: the fields, RESTART, then POST. -/
def State.mbCtl (s : State) (m : Nat) (w : Word) : State :=
  let s1 := ((s.fset F.MBOX.MB_CTL.LAST (vbits w 1 1) m).fset F.MBOX.MB_CTL.CORE (vbits w 2 1) m).fset F.MBOX.MB_CTL.LEN
    (vbits w 16 10) m
  let s2 := if w.getLsbD 3 then s1.mbRestart m else s1
  if w.getLsbD 0 then s2.mbPost m else s2

def execMbPost (m : Fin 2) (w : Word) (s : State) : Res := .next ((s.touch .mbox m).mbCtl m (w ||| 1))
def execMbRestart (m : Fin 2) (w : Word) (s : State) : Res := .next ((s.touch .mbox m).mbCtl m (w ||| 8))

/-- MB_COPY_DONE (R484): the loader has copied the page's oldest post, the oldest one of its core. -/
def State.mbCopied (s : State) (m : Nat) : State :=
  match s.boot.posts.find? (fun p => p.page == m) with
  | none => s
  | some p =>
    if (s.boot.posts.find? (fun q => q.core == p.core)) ≠ some p then s
    else
      let img := (List.range p.len).foldl (fun t i => tset 0 t (p.core * 262144 + p.off / 4 + i) (s.fget F.MBOX.MB_DATA.DATA m i)) s.boot.img
      ({ s with boot := { s.boot with img := img, posts := s.boot.posts.filter (fun q => q != p) } } : State).mbOwners

def execMbCopyDone (m : Fin 2) (s : State) : Res := .next (s.mbCopied m)

/-! ### The loader's checks (R486–R489) -/

/-- Byte `i` of a core's image. -/
def State.imgByte (s : State) (c i : Nat) : BitVec 8 :=
  BitVec.ofNat 8 (tget 0 s.boot.img (c * 262144 + i / 4) / 2 ^ (8 * (i % 4)))

def State.imgBytes (s : State) (c from' n : Nat) : List (BitVec 8) := (List.range n).map (fun i => s.imgByte c (from' + i))
/-- A little-endian field of the header. -/
def State.imgLe (s : State) (c b n : Nat) : Nat := numOfBytes (s.imgBytes c b n)
/-- A big-endian field of the header. -/
def State.imgBe (s : State) (c b n : Nat) : Nat := numOfBytes (s.imgBytes c b n).reverse

/-- LDR_RES of the check of a core's image, 0 when it passes (R487). -/
def State.imgCheck (s : State) (c : Nat) : Nat :=
  let n := s.imgLe c 8 4
  let zero := fun (b k : Nat) => (s.imgBytes c b k).all (fun x => x == 0)
  let digest := Config.sha384 (s.imgBytes c 0 128 ++ s.imgBytes c 224 (n - 224))
  let kh := s.boot.keyHash
  if s.imgLe c 0 4 ≠ 0x4C414458 ∨ s.imgLe c 4 2 ≠ 1 ∨ s.imgLe c 6 2 ≠ 0x200 ∨ !zero 20 4 ∨ !zero 224 288 ∨ n ≤ s.imgLe c 12 4 then 1
  else if n ≠ tget 0 s.boot.held c then 2
  else if (Config.sha384 (s.imgBytes c 32 96)).toNat ≠ kh ∨ kh = 0 ∨ kh = 2 ^ 384 - 1 then 3
  else if !Config.ecdsaOk (s.imgBe c 32 48) (s.imgBe c 80 48) (s.imgBe c 128 48) (s.imgBe c 176 48) digest then 4
  else if s.coreState (1 - c) = 4 ∧ s.imgLe c 16 4 < s.fget (svnFld (1 - c)) ∧ !s.fbit F.CTL.UPD_CTL.ALLOW_DOWN then 5
  else 0

/-- A flacon command that is BUSY is taken over: SAVE, COPY and DROP restart from their first step, LOAD and REBIND go on
after the last step complete (R496). -/
def State.flTakeover (s : State) (core : Nat) : State :=
  let a := s.setFl { s.fl with core := core }
  match s.fl.op with
  | 0 => s
  | 1 => (a.setFl { a.fl with step := 1, got := [] }).writeValid 0
  | 4 =>
    let key := sgidOf (s.qctx (s.qmap s.cpyQ) s.cpyQ).dom (s.fget F.GLB.FL_CPY_FN.SFN)
    (a.setFl { a.fl with step := 1, got := [], pushed := 0, done := 0, skip := 0, err := none }).flRead (xltFma false key) 16 200
  | 5 => (a.setFl { a.fl with step := 1 }).writeValid 0
  | _ => if s.fl.step = 1 ∧ s.flImage.isNone then a.readSlot else a

/-- An unformed request is one of the manager's own accesses of a slot (R375), not of the command under way. -/
def State.slotAccess (s : State) (r : FormReq) : Bool :=
  match r.use with
  | .flacon i => 201 ≤ i
  | _ => r.job == 1 && s.fl.op != 1 && s.fl.op != 5

/-- Core `c` carries out the operations of firmware from now on (R496, R497): what no core has formed of a command that is
BUSY is asked for anew, and slot accesses move to its stop. -/
def State.coreTakes (s : State) (c : Nat) : State :=
  let rsps := fun (k : Nat) => (s.formQ k).filter (fun r => isRsp r.hdr.opc)
  let moved := (s.formQ 56 ++ s.formQ 57).filter (fun r => !isRsp r.hdr.opc && s.slotAccess r)
  let s1 := (s.setFormQ 56 (rsps 56)).setFormQ 57 (rsps 57)
  (s1.setFormQ (56 + c) (s1.formQ (56 + c) ++ moved)).flTakeover (56 + c)

/-- A core whose image passed starts Ladex: ACTIVE, or a copy of the active core's state towards STANDBY. -/
def State.coreStarts (s : State) (c : Nat) : State :=
  if s.anyActive then { s with boot := { s.boot with copying := tset 0 s.boot.copying c 1 } }
  else ((s.setCore c 4).fset F.CTL.CORE_STS.ACTIVE c).coreTakes c

/-- IMAGE_VERIFY_DONE (R487): every post of the image has been copied. -/
def State.verifyDone (s : State) (c : Nat) : State :=
  if s.coreState c ≠ 2 ∨ tget 0 s.boot.copying c = 1 ∨ s.boot.posts.any (fun p => p.core == c) then s
  else
    let r := s.imgCheck c
    let s1 := s.setLdr c r
    if r = 0 then (s1.fset (svnFld c) (s.imgLe c 16 4)).coreStarts c
    else (((s1.record .ctl 0 0xD1 (packBits [(0, 1, c), (1, 3, r)]) (tget 0 s.boot.held c)).dropImage c).setCore c 1)

def execImageVerifyDone (c : Fin 2) (s : State) : Res := .next (s.verifyDone c)

/-- STANDBY_STATE_COPY_DONE (Table 18-2); with no core ACTIVE left it becomes ACTIVE (Table 18-7). -/
def State.standbyDone (s : State) (c : Nat) : State :=
  if tget 0 s.boot.copying c ≠ 1 then s
  else
    let s1 : State := { s with boot := { s.boot with copying := tset 0 s.boot.copying c 0 } }
    if s.anyActive then s1.setCore c 3 else s1.coreStarts c

def execStandbyStateCopyDone (c : Fin 2) (s : State) : Res := .next (s.standbyDone c)

/-! ### Handover (R496–R498) -/

/-- The HANDOVER broadcast and its target boundary. -/
def State.hoStart (s : State) (at' : Nat) (auto : Bool) : State :=
  let new := 1 - s.fget F.CTL.CORE_STS.ACTIVE
  let s1 := ((s.fput F.CTL.HO_STS.PENDING true).fput F.CTL.HO_CTL.GO true)
  ({ s1 with boot := { s1.boot with hoAt := 1 + at' } } : State).bcast
    (mkCtrl 5 63 63 [(43, 1, new), (42, 1, b2n auto), (26, 16, at')])

/-- A write of HO_CTL (R496). -/
def State.hoWrite (s : State) (w : Word) : State :=
  let s1 := s.fset F.CTL.HO_CTL.AT_EN (vbits w 1 1)
  if !w.getLsbD 0 then s1
  else if s.coreState 0 ≠ 3 ∧ s.coreState 1 ≠ 3 then s1.fset F.CTL.HO_STS.RES 1
  else if s.fbit F.CTL.HO_STS.PENDING then s1.fset F.CTL.HO_STS.RES 2
  else
    let b := wrapAdd 48 (s.nodeTick 63) 2
    let at' := s.wide F.CTL.HO_AT_LO.AT_LO F.CTL.HO_AT_HI.AT_HI
    (s1.fset F.CTL.HO_STS.RES 0).hoStart (if w.getLsbD 1 ∧ at' ≠ b ∧ atOrAfter 48 at' b then at' else b) false

def execHandoverReq (w : Word) (s : State) : Res := .next ((s.touch .ctl 0).hoWrite (w ||| 1))

/-- HANDOVER_MESSAGE: a node notes the core and the boundary. -/
def execHandoverMessage (n : Node) (m : Msg) (s : State) : Res :=
  let s1 := s.take n m
  if !msgOk m then .next (s1.msgBad n m)
  else .next { s1 with boot := { s1.boot with hoNote := tset 0 s1.boot.hoNote n (1 + s1.boundaryOf n (vbits m 26 16) + 2 ^ 48 * vbits m 43 1) } }

/-- HANDOVER (R496): at the target boundary the active core changes. -/
def State.handover (s : State) : State :=
  if !s.fbit F.CTL.HO_STS.PENDING || s.boot.hoAt == 0 || !atOrAfter 48 (s.nodeTick 63) (s.boot.hoAt - 1) then s
  else
    let old := s.fget F.CTL.CORE_STS.ACTIVE
    let new := 1 - old
    let s1 := ((s.fput F.CTL.HO_STS.PENDING false).fput F.CTL.HO_CTL.GO false)
    let s2 : State := { s1 with boot := { s1.boot with hoAt := 0 } }
    if s.coreState new ≠ 3 then s2
    else
      let s3 := ((s2.fset F.CTL.CORE_STS.ACTIVE new).setCore new 4).fset F.CTL.HO_STS.HO_CNT (s2.fget F.CTL.HO_STS.HO_CNT + 1)
      let s4 : State := if s.coreState old = 4 then { s3 with boot := { s3.boot with settling := tset 0 s3.boot.settling old 1 } } else s3
      (s4.sillage 63 0x0A new).coreTakes new

def execHandover (s : State) : Res := .next s.handover

/-- CFGs pending at a core stop (CFG_PEND). -/
def State.cfgPend (s : State) (c : Nat) : List Egr := tget [] s.boot.cfg c

/-- OLD_CORE_SETTLED (R496): its pending list is empty and its tags have settled. -/
def State.oldSettled (s : State) (c : Nat) : State :=
  if tget 0 s.boot.settling c ≠ 1 ∨ !(s.cfgPend c).isEmpty ∨ (s.tagsOf (56 + c)).any (fun e => e.2.st == 1 || e.2.st == 2 || e.2.st == 3) then s
  else ({ s with boot := { s.boot with settling := tset 0 s.boot.settling c 0 } } : State).setCore c 3

def execOldCoreSettled (c : Fin 2) (s : State) : Res := .next (s.oldSettled c)

/-- CORE_FAIL (R489, R490, R497): HB_LIM heartbeats missed. An active core's failure hands over to a STANDBY core. -/
def State.coreFail (s : State) (c : Nat) : State :=
  let st := s.coreState c
  if tget 0 s.boot.hbMiss c < s.fget F.CTL.CORE_CTL.HB_LIM ∨ (st ≠ 3 ∧ st ≠ 4) then s
  else
    let s1 := s.coreFailed c 1
    let s2 : State := { s1 with boot := { s1.boot with
      settling := tset 0 s1.boot.settling c 0, hbMiss := tset 0 s1.boot.hbMiss c 0 } }
    if st = 4 ∧ tget 0 s.boot.settling c = 0 ∧ s.coreState (1 - c) = 3 ∧ !s.fbit F.CTL.HO_STS.PENDING then
      s2.hoStart (wrapAdd 48 (s.nodeTick 63) 2) true
    else s2

def execCoreFail (c : Fin 2) (s : State) : Res := .next (s.coreFail c)

/-- CTL samples the heartbeat of a core that is STANDBY or ACTIVE, unless HB_EN is 0 (R490): `beat` says whether its toggle
has changed since the boundary before. The HB_LIM-th miss in a row fails it (R497). -/
def State.heartbeat (s : State) (c : Nat) (beat : Bool) : State :=
  let set := fun (n : Nat) => ({ s with boot := { s.boot with hbMiss := tset 0 s.boot.hbMiss c n } } : State)
  if s.coreState c ≠ 3 ∧ s.coreState c ≠ 4 then set 0
  else if !s.fbit F.CTL.CORE_CTL.HB_EN then s
  else (set (if beat then 0 else tget 0 s.boot.hbMiss c + 1)).coreFail c

/-! ### The pool-memory virtual endpoint (R495) -/

/-- The smallest power of two that is at least `n`, tried from 2^21 up. -/
def roundPow (n : Nat) : Nat := ((List.range 40).map (fun i => 2 ^ (21 + i))).find? (fun p => n ≤ p) |>.getD (2 ^ 60)

/-- What a configuration read of the endpoint returns. -/
def State.vepRead (s : State) (x reg : Nat) : Nat :=
  let u := s.fget F.SLICE.ACC_UCNT.UNIT_CNT x
  let mask := 2 ^ 64 - roundPow (u * 2097152)
  match reg with
  | 0 => s.fget F.CTL.VEP_ID
  | 4 => if u = 0 then 0 else mask / 16 % 2 ^ 28 * 16 + 0xC
  | 5 => if u = 0 then 0 else mask / 2 ^ 32
  | _ => 0

/-- The stop that answers the CFGs pending at a core stop: the core itself while it runs, else the active core (R496, R497).
DEDUCED: a core counts as failed whenever it is neither ACTIVE nor STANDBY (R489), and a CFG that lands after the old core has
become STANDBY is its own. -/
def State.cfgAnswerer (s : State) (c : Nat) : Option Nat :=
  if s.coreState c = 4 ∨ s.coreState c = 3 then some c
  else if s.coreState (1 - c) = 4 ∧ s.fget F.CTL.CORE_STS.ACTIVE = 1 - c then some (1 - c) else none

/-- MEMEP_CFG (R495): the oldest CFG pending at core stop `c` is answered. -/
def State.memepCfg (s : State) (c : Nat) : State :=
  match s.cfgPend c, s.cfgAnswerer c with
  | x :: rest, some a =>
    let f := x.flit
    let s1 : State := { s with boot := { s.boot with cfg := tset [] s.boot.cfg c rest } }
    if f.addr.getLsbD 12 then s1.answerStatus (56 + a) f x.ring stSC 4
    else s1.answerData (56 + a) f x.ring (bytesOf 4 (s.vepRead f.slice.toNat (nbits f.addr.toNat 2 10))) 4 0 false
  | _, _ => s

def execMemepCfg (c : Fin 2) (s : State) : Res := .next (s.memepCfg c)

/-! ### SERVICE (R491–R493) -/

/-- MEM_INIT_DONE (R493): every channel has been zeroed. -/
def execMemInitDone (s : State) : Res := .next (s.fput F.GLB.FAB_STS.MEM_INIT true)

/-- First failing code of R492, 0 for none. DEDUCED: in SERVICE too, where Table 18-3 gives 6, an earlier condition that fails
gives its own code. -/
def State.goRefusal (s : State) : Nat :=
  if !s.fbit F.TICK.TICK_STS.RUNNING || (!s.fbit F.TICK.TICK_STS.REF_OK && !s.fbit F.TICK.TICK_CTL.HOLD_EN) then 1
  else if ((List.range 9).filter (fun r => s.ringState r == 1)).length < 8 || s.ringsUsable == 0 || s.causeHolds 4 then 2
  else if !s.fbit F.GLB.FAB_STS.MEM_INIT || 1 < ((List.range 8).filter (fun c => chState s c != 0)).length then 3
  else if !s.anyActive then 4
  else if (List.range 10).any (fun g => s.xbNotReady g != 0 && (8 ≤ g || s.sectorState g != 3)) then 5
  else if s.fabState = 1 then 6 else 0

/-- GO_SERVICE (R491): accepted for the next mark, or refused. -/
def State.goService (s : State) : State :=
  let r := s.goRefusal
  let s1 := s.fset F.GLB.FAB_STS.REFUSE r
  if r = 0 then { s1 with boot := { s1.boot with goPend := max 1 s1.boot.goPend } } else s1

def execGoService (s : State) : Res := .next (s.touch .glb 0).goService

/-- GLB's boundary of the mark that carried the new state: the conditions are judged again after any cause (Table 18-7). -/
def State.goTake (s : State) : State :=
  if s.boot.goPend ≠ 2 then s
  else
    let s1 : State := { s with boot := { s.boot with goPend := 0 } }
    let r := s.goRefusal
    if r = 0 then s1.setFab 1 else s1.fset F.GLB.FAB_STS.REFUSE r

/-- FAIL_OUT is deasserted at the first boundary in SERVICE or with a LIVE slice; the OPENs held meanwhile go out (R560). -/
def State.failOutDuty (s : State) : State :=
  if s.boot.serving || s.boot.inReset then s
  else if s.fabState = 1 || s.activeSlices.any (fun x => s.sliceState x == 1) then
    let l := s.slc.heldOpen
    let s1 : State := { s with boot := { s.boot with serving := true }, slc := { s.slc with heldOpen := [] } }
    (l.filter (fun x => s.sliceState x == 1)).foldl (fun a x => a.sliceUpd x 0) s1
  else s

/-! ### Resets (R481–R483, R543, R544) -/

/-- The fields that show a block input take its level again (R14): CTRL_READY of each channel, PARTNER_FAIL; SB_SEL is an
input itself. -/
def State.keepInputs (s old : State) : State :=
  let s1 := (List.range 8).foldl (fun a c => a.fput F.MEM.CH_STS.CTRL_READY (old.fbit F.MEM.CH_STS.CTRL_READY c) c) s
  let s2 := s1.fput F.PAIR.PAIR_STS.PARTNER_FAIL (old.fbit F.PAIR.PAIR_STS.PARTNER_FAIL)
  { s2 with cnt := { s2.cnt with sbSel := old.cnt.sbSel } }

/-- COLD_RESET (R481): every field and every table is as after cold reset. -/
def execColdReset (s : State) : Res :=
  .next (State.keepInputs { State.reset with pending := s.pending, freeNext := s.freeNext, cycle := s.cycle } s)

/-- COLD_RESET_RELEASE (R543): KEYHASH and INST_ID are sampled. -/
def execColdResetRelease (keyHash : BitVec 384) (instId : BitVec 16) (s : State) : Res :=
  .next { s with boot := { s.boot with keyHash := keyHash.toNat, instId := instId.toNat } }

/-- FABRIC_RESET_REQUEST (R482): a write of RST_CTL with the key and GO. A handover that is PENDING is cancelled
(Table 18-7). -/
def State.fabricResetAsk (s : State) : State :=
  let b := wrapAdd 48 (s.nodeTick 60) 1
  if s.boot.rstAt ≠ 0 then s
  else
    let s1 := (s.fput F.CTL.HO_STS.PENDING false).fput F.CTL.HO_CTL.GO false
    ({ s1 with boot := { s1.boot with rstAt := 1 + b, hoAt := 0, hoNote := [] } } : State).bcast (mkCtrl 8 63 60 [(28, 16, b)])

def execFabricResetRequest (_ : Origin) (s : State) : Res := .next (s.touch .glb 0).fabricResetAsk

/-- RESET_MESSAGE: a node notes the boundary. -/
def execResetMessage (n : Node) (m : Msg) (s : State) : Res :=
  let s1 := s.take n m
  if !msgOk m then .next (s1.msgBad n m)
  else .next { s1 with boot := { s1.boot with rstNote := tset 0 s1.boot.rstNote n (1 + s1.boundaryOf n (vbits m 28 16)) } }

/-- A field element has a key of the register file. -/
def Fld.hits (f : Fld) (k : Nat) : Bool :=
  keyPage k / 4096 == f.cls.code && (List.range f.count).any (fun e => f.key (keyPage k % 4096) e (keyBank k - 1) (keySel k) == k)

/-- A register entry survives a fabric reset: ST fields, the tick generator's page, the channel states (R482), and what shows
a block input. -/
def keepsReg (k : Nat) : Bool :=
  let pg := keyPage k / 4096
  pg == Cls.tick.code
  || [F.MEM.CH_STS.STATE, F.MEM.CH_STS.CTRL_READY, F.MEM.REBUILD_PTR.PTR, F.PAIR.PAIR_STS.PARTNER_FAIL].any (fun f => f.hits k)
  || (match allPages.find? (fun c => c.1.code == pg) with
      | some c => (fieldsOf c.1).any (fun f => f.st && f.hits k)
      | none => false)

/-- Messages that survive: tick marks, register accesses, RESET, records of the sillage and the error queue, ISOLATE; the
rest reach units in reset. -/
def keepsMsg (m : Msg) : Bool :=
  [1, 0xD, 0xE, 0xF].contains (msgType m) || (msgType m == 0 && [0, 1, 2, 3, 8, 0xD].contains (msgSub m))

/-- Staged entries are kept over a fabric reset; those whose line write was under way are to be written again (R482). -/
def SilEnt.again (e : SilEnt) : SilEnt := if e.st = 1 then { e with st := 0, line := 0 } else e

/-- The state that a fabric reset leaves at boundary b (R482). -/
def State.fabricClear (s : State) : State :=
  { s with
    regs := s.regs.filter (fun e => keepsReg e.1),
    tick := { s.tick with nodeBank := [], weOut := [], swapWait := [], censusSeen := [] },
    net := { s.net with flight := s.net.flight.filter (fun f => keepsMsg f.msg) },
    cnt := { erqNum := s.cnt.erqNum, silPart := s.cnt.silPart, silStg := s.cnt.silStg.map (fun e => (e.1, e.2.map SilEnt.again)), silOver := s.cnt.silOver,
             silLast := s.cnt.silLast, silSupp := s.cnt.silSupp, silEnum := s.cnt.silEnum, sb := s.cnt.sb, sbSel := s.cnt.sbSel },
    spine := {},
    resv := { closed := s.iso.known }, ord := {}, arb := {}, mtr := {},
    pwr := { interval := s.pwr.interval, est := s.pwr.est, why := some 2 },
    boot := { keyHash := s.boot.keyHash, instId := s.boot.instId, rstAt := s.boot.rstAt, img := s.boot.img, held := s.boot.held,
              inReset := true },
    port := {}, mem := { nextId := s.mem.nextId }, eng := { nextId := s.eng.nextId }, slc := {},
    xb := (s.xb.filter (fun e => (e.1 / 64 < 9 && e.1 % 64 < 28 && e.1 % 4 == 3) || e.1 == 578)).map (fun e => (e.1, { ready := e.2.ready })),
    iso := { known := s.iso.known, nn := s.iso.nn, applied := s.iso.applied },
    irq := { shown := s.irq.shown }, fl := {}, pair := { up := s.pair.up } }

/-- FABRIC_RESET_ENTER (R482): boundary b has come. -/
def State.fabricEnter (s : State) : State :=
  if s.boot.rstAt = 0 ∨ s.boot.inReset ∨ !atOrAfter 48 (s.nodeTick 60) (s.boot.rstAt - 1) then s
  else
    let s1 := (List.range 2).foldl (fun a c => a.coreReset c) s
    s1.fabricClear.fset F.GLB.RST_CNT (s.fget F.GLB.RST_CNT + 1)

def execFabricResetEnter (s : State) : Res := .next s.fabricEnter

/-- FABRIC_RESET_EXIT (R482): boundary b + 2; the fabric state is STARTUP, with its entry. -/
def State.fabricExit (s : State) : State :=
  if !s.boot.inReset || !atOrAfter 48 (s.nodeTick 60) (wrapAdd 48 (s.boot.rstAt - 1) 2) then s
  else ({ s with boot := { s.boot with inReset := false, rstAt := 0, rstNote := [] } } : State).setFab 0

def execFabricResetExit (s : State) : Res := .next s.fabricExit

end Sys2Proof.Machine
end

