-- ==== Sys2Proof/Machine/Leave.lean ====
section
/-! DEFINITION. The head of an egress leaves for what stands behind it: a link, a channel, an engine, the replicator, a
core's pending list (06_ordering_and_completion R159, Table 6-1; 18_bringup_and_live_change R495). -/

namespace Sys2Proof.Machine

/-- The head of a stop without a unit of its own behind the egress is consumed. -/
def State.consumeHead (s : State) (k : Nat) : State :=
  match s.egrNext k 0 (fun _ _ => true) with
  | some (q, x) => s.egrTake k q x
  | none => s

/-- At a core stop a CFG joins the pending list (R495). -/
def State.coreTake (s : State) (c : Nat) : State :=
  match s.egrNext (56 + c) 0 (fun _ _ => true) with
  | some (q, x) =>
    let s1 := s.egrTake (56 + c) q x
    if x.flit.opc = opCFG then { s1 with boot := { s1.boot with cfg := tset [] s1.boot.cfg c (s1.cfgPend c ++ [x]) } } else s1
  | none => s

/-- An engine takes a CONTEXT or a push; any other head is consumed. -/
def State.engTake (s : State) (e : Nat) : State :=
  match s.descHead e 2, s.descHead e 1 with
  | some x, _ => (s.descTake e x).contextIn e x.flit
  | none, some x => (s.descTake e x).pushIn e x.flit
  | none, none => s.consumeHead (engStop e)

/-- EGRESS_SEND: the next head that its egress accepts leaves stop `k`, at a port stop towards link `l`. -/
def State.egressSend (s : State) (k l : Nat) : State :=
  if !s.stopRuns k then s
  else if isPortStop k then s.portSend k l
  else if isMemStop k then s.memTake (sectorOf k) (fun _ => true)
  else if isEngStop k then s.engTake (sectorOf k)
  else if k = 58 then s.replTake 58
  else if k < 58 then s.coreTake (k - 56)
  else s.consumeHead k

def execEgressSend (k : Stop) (l : Link) (s : State) : Res := .next (s.egressSend k l)

end Sys2Proof.Machine
end

