-- ==== Sys2Proof/Machine/Pair.lean ====
section
/-! DEFINITION. The pair link at stop 59: pair frames, mirroring and takeover (19_duplex_and_cascade R504–R515, R519). -/

namespace Sys2Proof.Machine

/-! ### Frames (Tables 19-1, 19-2) -/

/-- CRC of a frame: its bytes 0 to 167, bytes 36 to 39 taken as 0 (R505). -/
def pairCrc (raw : Nat) : Nat := (crc32 (bytesOf 168 (putBytes raw 36 4 0))).toNat

/-- The frame that 168 bytes spell. -/
def frameOf (raw : Nat) : PairFrame :=
  { type := flAt raw 0 1, count := flAt raw 1 1, pseq := flAt raw 2 2, pack := flAt raw 4 2, restart := nbit raw 48,
    item := flAt raw 8 8, payload := flAt raw 40 128 }

/-- The 168 bytes of a frame, with its CRC. -/
def PairFrame.bits (f : PairFrame) : BitVec 1344 :=
  let v := packBits [at8 0 1 f.type, at8 1 1 f.count, at8 2 2 f.pseq, at8 4 2 f.pack, (48, 1, b2n f.restart), at8 8 8 f.item,
    at8 40 128 f.payload]
  BitVec.ofNat 1344 (putBytes v 36 4 (pairCrc v))

/-- The CRC of 168 bytes is right. -/
def pairCrcOk (raw : BitVec 1344) : Bool := flAt raw.toNat 36 4 == pairCrc raw.toNat

/-- Contexts of two queues from `q` on. -/
def State.ctxPayload (s : State) (q n : Nat) : Nat :=
  packBits ((List.range n).map (fun i => (512 * i, 512, (s.qctx (s.qmap (q + i)) (q + i)).bits)))

/-- Two meter records with counts 0. -/
def State.mtrPayload (s : State) (x off n : Nat) : Nat :=
  packBits ((List.range n).flatMap (fun i =>
    (s.meterRec x (off + i) (64 * i) (s.nodeTick 59)).filter (fun p => p.1 < 8 * (64 * i + 19) || 8 * (64 * i + 36) ≤ p.1)))

/-- The frame of a mirrored item, without PSEQ (Table 19-2). DESIGN CHOICE: one item per XLT and PB frame; COUNT of an ACC
and of an FLC frame is 1; HEAD is the low half of a CKPT pair. -/
def State.itemFrame (s : State) (it : MirItem) : PairFrame :=
  match it with
  | .xlt key v => { type := 1, count := 1, item := key, payload := packBits [(0, 24, key), (32, 128, v)] }
  | .pb i v => { type := 2, count := 1, item := i, payload := v % 2 ^ 256 }
  | .acc x =>
    let v := packBits ((List.range 8).map (fun i => (32 * i, 32, s.word (accordReg i) x)) ++ [(256, 32, s.word ctlReg x)])
    { type := 3, count := 1, item := x, payload := v }
  | .qctx x off =>
    let n := min 2 (s.fget F.SLICE.ACC_Q.QCNT x - off)
    let q := (s.fget F.SLICE.ACC_Q.QBASE x + off) % 65536
    { type := 4, count := n, item := x + 65536 * q, payload := s.ctxPayload q n }
  | .mtr x off =>
    let n := min 2 (s.fget F.SLICE.ACC_M.MCNT x - off)
    { type := 5, count := n, item := x + 65536 * off, payload := s.mtrPayload x off n }
  | .created x => { type := 6, item := x }
  | .cleared x => { type := 6, item := x + 4096 }
  | .flc slot blk v => { type := 7, count := 1, item := slot + 65536 * blk, payload := v }
  | .ckpt q n =>
    let v := packBits ((List.range n).map (fun i =>
      let c := s.qctx (s.qmap (q + i)) (q + i)
      (32 * i, 32, c.head + 65536 * c.tail)))
    { type := 8, count := n, item := q, payload := v }
  | .wake m => { type := 9, item := m }

/-! ### Sending (R504, R506) -/

def State.pairMs (s : State) : Nat := s.fget F.PAIR.PAIR_STS.MSTATE
def State.setMs (s : State) (n : Nat) : State := s.fset F.PAIR.PAIR_STS.MSTATE n

/-- LINK as PAIR_STS shows it (R504). -/
def State.pairUp (s : State) : Bool := s.fbit F.PAIR.PAIR_CTL.EN && s.pair.up

/-- The retained copies; MIR_PEND follows. -/
def State.setKept (s : State) (l : List PairFrame) : State :=
  ({ s with pair := { s.pair with ret := l } } : State).fset F.PAIR.MIR_PEND.PEND l.length

/-- Some frames need no acknowledgement any more: MARK counts them (R506). -/
def State.markDown (s : State) (n : Nat) : State :=
  match s.pair.mark with
  | none => s
  | some m =>
    let left := m - n
    ({ s with pair := { s.pair with mark := if left = 0 then none else some left } } : State).fput F.PAIR.MARK (left != 0)

/-- Every retained frame is dropped. DESIGN CHOICE: a MARK does not wait for a dropped frame. -/
def State.dropRet (s : State) : State := ((s.setKept []).markDown s.pair.ret.length)

/-- DESYNC from SYNC, LAG or RESYNC, with MIR_DESYNC: cause 0 retention full, 1 RESTART, 2 refusal, 3 link lost in RESYNC
(Table 19-4). -/
def State.toDesync (s : State) (cause : Nat) : State :=
  let m := s.pairMs
  if m = 1 ∨ m = 2 ∨ m = 4 then
    let s1 : State := { s with pair := { s.pair with full := 0, fullOut := [] } }
    (s1.setMs 3).record .pair 0 0xE2 cause s.pair.ret.length
  else s

/-- Items become frames while fewer than 4 096 are unacknowledged; in LAG a full retention ends mirroring. -/
def State.pairForm (s : State) : Nat → State
  | 0 => s
  | n + 1 =>
    match s.pair.items with
    | [] => s
    | it :: rest =>
      if 4096 ≤ s.pair.ret.length then
        if s.pairMs = 2 then (({ s with pair := { s.pair with items := [] } } : State).markDown s.pair.items.length).toDesync 0
        else s
      else
        let f := { s.itemFrame it with pseq := s.pair.txSeq, sent := s.nodeTick 59 }
        let s1 : State := { s with pair := { s.pair with
          items := rest, txSeq := (s.pair.txSeq + 1) % 65536, out := if s.pairUp then s.pair.out ++ [f] else s.pair.out } }
        (((s1.setKept (s.pair.ret ++ [f])).rcInc F.PAIR.MIR_TX_CNT 0).xbOcc pairBridge s1.pair.out.length).pairForm n

/-- Frames are handed to the pair link controller while it has granted credit (R559); PACK is the PSEQ expected now. -/
def State.pairSend (s : State) : Nat → State
  | 0 => s
  | n + 1 =>
    match s.pair.out with
    | [] => s
    | f :: rest =>
      let left := wrapSub 16 s.pair.cred s.pair.used
      if !s.pairUp || !s.xbReady pairBridge || left == 0 || 32768 ≤ left then s
      else
        let f1 := { f with pack := s.pair.rxSeq }
        ({ s with pair := { s.pair with
          out := rest, lastTx := some f1.bits, used := (s.pair.used + 1) % 65536 } } : State).pairSend n

def State.pairPump (s : State) : State :=
  let s1 := s.pairForm (s.pair.items.length + 1)
  s1.pairSend (s1.pair.out.length + 1)

/-- Every retained frame is sent again in PSEQ order (R506). -/
def State.pairReplay (s : State) : State :=
  let l := s.pair.ret.map (fun f => { f with sent := s.nodeTick 59 })
  let s1 := (s.setKept l).rcInc F.PAIR.REPLAY_CNT 0
  let o := s.pair.out.filter (fun f => f.type == 10) ++ l
  ({ s1 with pair := { s1.pair with out := o } } : State).pairPump

/-- The oldest retained frame has waited ACK_TO ticks. -/
def State.replayDue (s : State) : Bool :=
  match s.pair.ret with
  | f :: _ => s.pairUp && tickPast (s.nodeTick 59) f.sent (max 1 (s.fget F.PAIR.PAIR_CFG.ACK_TO))
  | [] => false

def execPairReplay (s : State) : Res := .next (if s.replayDue then s.pairReplay else s)

/-- An HB frame is formed (R506); it takes the place of one that still waits for credit. -/
def State.sendHb (s : State) : State :=
  if !s.pairUp then s
  else
    let v := packBits [(0, 2, s.fabState), (2, 1, s.fget F.PAIR.PAIR_CTL.PRIMARY), (3, 1, s.fget F.PAIR.PAIR_CTL.MIRROR)]
    let f : PairFrame := { type := 10, restart := s.pair.restart || s.pair.out.any (fun f => f.restart), payload := v }
    ({ s with pair := { s.pair with
      restart := false, out := s.pair.out.filter (fun f => f.type != 10) ++ [f] } } : State).pairPump

/-! ### Full send (R511) -/

/-- Ends of its parts: the translation table in blocks of 8 entries, the binding table in blocks of 4, the slices. -/
def fullXlt : Nat := 2097152
def fullPb : Nat := fullXlt + 262144
def fullEnd : Nat := fullPb + 4096

/-- The items of a block of a table. -/
def blockItems (p v : Nat) : List MirItem :=
  if p < fullXlt then
    (List.range 8).filterMap (fun i => let e := nbits v (128 * i) 128; if nbit e 0 then some (.xlt (8 * p + i) e) else none)
  else
    (List.range 4).filterMap (fun i => let e := nbits v (256 * i) 256; if nbit e 0 then some (.pb (4 * (p - fullXlt) + i) e) else none)

/-- Stop 59 reads a block of a table. DESIGN CHOICE: by a CTL read of 128 bytes of copy A, as the other units read it. -/
def State.fullRead (s : State) (p : Nat) : State :=
  let fma := if p < fullXlt then xltFma false (8 * p) else bindFma (4 * (p - fullXlt))
  ({ s with pair := { s.pair with fullOut := s.pair.fullOut ++ [p] } } : State).ownRead 59 (memStop (fmaLoc fma).1) fma 128 (.pair p)

/-- Checkpoint items of a slice: 32 queues each. -/
def State.ckptItems (s : State) (x : Nat) : List MirItem :=
  let n := s.fget F.SLICE.ACC_Q.QCNT x
  (List.range (ceilDiv n 32)).map (fun i => .ckpt ((s.fget F.SLICE.ACC_Q.QBASE x + 32 * i) % 65536) (min 32 (n - 32 * i)))

def State.addItems (s : State) (l : List MirItem) : State := { s with pair := { s.pair with items := s.pair.items ++ l } }

/-- Blocks that have come are mirrored; one that cannot be read is asked for again. -/
def State.fullTake (s : State) : Nat → State
  | 0 => s
  | n + 1 =>
    match s.takeDone 59 (fun u => match u with | .pair _ => true | _ => false) with
    | none => s
    | some (r, t) =>
      let p := match r.use with | .pair p => p | _ => 0
      if !t.pair.fullOut.contains p then t.fullTake n
      else
        let t1 : State := { t with pair := { t.pair with fullOut := t.pair.fullOut.filter (fun q => q != p) } }
        if rdBad r then (t1.fullRead p).fullTake n else (t1.addItems (blockItems p (flitsNum r.flits))).fullTake n

/-- The send goes on: at most 32 reads at once, each part after the one before it. -/
def State.fullNext (s : State) : Nat → State
  | 0 => s
  | n + 1 =>
    if s.pair.full = 0 then s
    else
      let p := s.pair.full - 1
      let on : State := { s with pair := { s.pair with full := s.pair.full + 1 } }
      if p < fullPb then
        if 32 ≤ s.pair.fullOut.length ∨ (p = fullXlt ∧ s.pair.fullOut ≠ []) then s else (on.fullRead p).fullNext n
      else if s.pair.fullOut ≠ [] then s
      else if p < fullEnd then
        let x := p - fullPb
        if s.isHome x && s.sliceState x != 0 then (on.addItems (s.createItems x ++ s.ckptItems x)).fullNext n else on.fullNext n
      else if p = fullEnd ∧ s.pair.items = [] then { on with pair := { on.pair with fullLast := s.pair.txSeq } }
      else s

def State.fullStep (s : State) : State :=
  let s1 := ((s.fullTake 64).fullNext 4200).pairPump
  (s1.fullNext 1)

/-- A full send starts (Table 19-4): the tables are sent by the PRIMARY die alone. -/
def State.startResync (s : State) : State :=
  let p := if s.fbit F.PAIR.PAIR_CTL.PRIMARY then 0 else fullPb
  (({ s with pair := { s.pair with full := 1 + p, fullOut := [] } } : State).setMs 4).fullStep

/-- RESYNC_DONE: every frame of the full send has been applied at the partner. -/
def State.resyncDone (s : State) : State :=
  if s.pairMs = 4 ∧ s.pair.full = fullEnd + 2 ∧ s.pair.ret.all (fun f => 0 ≤ signedDiff 16 f.pseq s.pair.fullLast) then
    ({ s with pair := { s.pair with full := 0 } } : State).setMs 1
  else s

def execResyncDone (s : State) : Res := .next s.resyncDone

/-- RSYNC.GO: only from DESYNC with the link UP. -/
def State.rsyncGo (s : State) : State := if s.pairMs = 3 && s.pairUp then s.startResync else s

def execRsyncGo (s : State) : Res := .next (s.touch .pair 0).rsyncGo

/-- DESYNC with AUTO_RESYNC and the link UP. DEDUCED: it waits for a takeover to end, as the partner's frames are discarded
until then (R519). -/
def State.autoResync (s : State) : State :=
  if s.fbit F.PAIR.PAIR_CTL.AUTO_RESYNC && !s.fbit F.PAIR.TKO_STS.BUSY then s.rsyncGo else s

/-- The partner is heard of, by its link or a frame, while a takeover is BUSY: mirroring is in DESYNC (R519). -/
def State.tkoMeets (s : State) : State :=
  if s.pairMs = 0 then s else ({ s with pair := { s.pair with full := 0, fullOut := [] } } : State).setMs 3

/-! ### The link and MIRROR (R504, R510) -/

/-- LINK may have changed. -/
def State.linkMove (s : State) : State :=
  let now := s.pairUp
  if s.fbit F.PAIR.PAIR_STS.LINK == now then s
  else
    let s1 := s.fput F.PAIR.PAIR_STS.LINK now
    if now then (if s1.fbit F.PAIR.TKO_STS.BUSY then s1.tkoMeets else s1.autoResync)
    else
      let s2 : State := { s1 with pair := { s1.pair with out := [] } }
      if s.pairMs = 1 then s2.setMs 2 else if s.pairMs = 4 then s2.toDesync 3 else s2

def execPlUpChange (up : Bool) (s : State) : Res := .next ({ s with pair := { s.pair with up := up } } : State).linkMove

/-- MIRROR written 1 in OFF, or 0. -/
def State.mirrorSet (s : State) (on : Bool) : State :=
  let s1 := s.fput F.PAIR.PAIR_CTL.MIRROR on
  if on then
    if s.pairMs ≠ 0 then s1 else if s1.pairUp then s1.startResync else s1.setMs 3
  else
    let s2 : State := { s1 with pair := { s1.pair with items := [], out := [], full := 0, fullOut := [] } }
    ((s2.markDown s.pair.items.length).dropRet).setMs 0

/-- A write of PAIR_CTL. DESIGN CHOICE: one that would change PRIMARY while MIRROR is 1 leaves PRIMARY alone and counts in
PG_ERR_CNT; its other fields are written (R520). -/
def State.pairCtl (s : State) (w : Word) : State :=
  let locked := s.fbit F.PAIR.PAIR_CTL.MIRROR && (w.getLsbD 2 != s.fbit F.PAIR.PAIR_CTL.PRIMARY)
  let s1 := if locked then s.pgErr .pair 0 0x100 else s.fput F.PAIR.PAIR_CTL.PRIMARY (w.getLsbD 2)
  let s2 := ((s1.fput F.PAIR.PAIR_CTL.EN (w.getLsbD 0)).fput F.PAIR.PAIR_CTL.AUTO (w.getLsbD 3)).fput F.PAIR.PAIR_CTL.AUTO_RESYNC
    (w.getLsbD 4)
  (s2.linkMove).mirrorSet (w.getLsbD 1)

def execMirrorWrite (w : Word) (s : State) : Res := .next ((s.touch .pair 0).pairCtl w)

/-! ### Applying frames (R506, R508, R509, R515) -/

/-- A mirrored write is refused (R509). -/
def State.mirRefuse (s : State) (f : PairFrame) : State :=
  ((s.rcInc F.PAIR.REFUSE_CNT 0).record .pair 0 0xE3 (packBits [(0, 8, f.type), (8, 24, f.item)]) (nbits f.item 24 32)).toDesync 2

def State.isShadow (s : State) (x : Nat) : Bool := tget 0 s.pair.shadow x == 1

/-- A slice may take mirrored writes: FREE, in SHD, no command in progress. -/
def State.takesMirror (s : State) (x : Nat) : Bool := s.sliceState x == 0 && s.isShd x && !s.fbit F.SLICE.MSTS.BUSY x

/-- SLC CLEARED applied: accord 0, contexts V = 0, bindings cleared. -/
def State.shadowClear (s : State) (x : Nat) : State :=
  let b := s.fget F.SLICE.ACC_Q.QBASE x
  let n := s.fget F.SLICE.ACC_Q.QCNT x
  let s1 : State := { s with
    eng := { s.eng with ctx := s.eng.ctx.filter (fun e => !(e.2.slice == x && b ≤ e.1 % 65536 && e.1 % 65536 < b + n)) },
    mtr := { s.mtr with bind := tdrop (fun i => i % 4096 == x) s.mtr.bind },
    pair := { s.pair with shadow := tset 0 s.pair.shadow x 0 } }
  (List.range 8).foldl (fun a i => a.setWord (accordReg i) 0 x) s1

/-- Before a full send of the partner is applied, every SHADOW slice is cleared (R511). -/
def State.clearShadows (s : State) : State := s.pair.shadow.foldl (fun a e => a.shadowClear e.1) s

/-- The entry as this die installs it (Table 19-3), and whether its link has no valid mapping. -/
def State.mapEntry (s : State) (e : Nat) : Nat × Bool :=
  if eMemep e then (e, false)
  else
    let k := eStop e
    let i := 4 * (k / 7 * 4 + k % 7) + eLink e
    let ok := k < 56 && k % 7 < 4 && s.fbit F.PAIR.EG_MAP.V 0 i
    if ok then
      let l := s.fget F.PAIR.EG_MAP.LOCAL 0 i
      (e - nbits e 40 8 * 2 ^ 40 + (portStopOf (l / 4) + 64 * (l % 4)) * 2 ^ 40, false)
    else (e - e % 2, true)

/-- The next entry of an XLT frame is written through the update path of its page (R284); none while the page is BUSY. -/
def State.applyXlt (s : State) (f : PairFrame) : Option State :=
  let v := nbits f.payload (160 * s.pair.curItem) 160
  let key := nbits v 0 24
  let c := (fmaLoc (xltFma false key)).1
  if s.fbit F.MEM.XLT_STS.BUSY c then none
  else
    let e := s.mapEntry (nbits v 32 128)
    let s1 := if e.2 then s.rcInc F.PAIR.NOMAP_CNT 0 else s
    some (({ s1 with pair := { s1.pair with curSt := 1 } } : State).xltStart c key e.1 true)

/-- The binding entry of a domain and PASID by GLB's own B and C (R339). -/
def State.glbBindIdx (s : State) (dom pasid : Nat) : Option Nat :=
  if pasid < 64 * s.fget F.GLB.PB_DCNT.CNT 0 0 0 dom then some (s.fget F.GLB.PB_DBASE.BASE 0 0 0 dom * 64 + pasid) else none

/-- The next entry of a PB frame, through the update of R342. DEDUCED from R511, which sends bindings before accords: the
entry is held against the key alone, not against ACC_DOM. -/
def State.applyPb (s : State) (f : PairFrame) : Option State :=
  let v := nbits f.payload (256 * s.pair.curItem) 256
  let i := (f.item + s.pair.curItem) % 1048576
  if nbit v 0 && s.glbBindIdx (nbits v 24 8) (nbits v 32 20) != some i then
    some (({ s with pair := { s.pair with curSt := 3 } } : State).mirRefuse f)
  else if s.fbit F.GLB.PB_STS.BUSY then none
  else some (({ s with pair := { s.pair with curSt := 1 } } : State).pbStart i v true)

/-- ACC: the accord and CTL of a slice (R344); an FLUSH_AGE of 0 is not written (R363). -/
def State.applyAcc (s : State) (f : PairFrame) : State :=
  let x := f.item % 4096
  if !s.takesMirror x then s.mirRefuse f
  else
    let s1 := (List.range 8).foldl (fun a i => a.setWord (accordReg i) (nbits f.payload (32 * i) 32) x) s
    let c := nbits f.payload 256 32
    if nbits c F.SLICE.CTL.FLUSH_AGE.lo F.SLICE.CTL.FLUSH_AGE.width = 0 then s1 else s1.setWord ctlReg c x

/-- QCTX: each context, DISABLED, under R307, R336 and R345; its SGEN is this die's (DEDUCED). -/
def State.applyQctx (s : State) (f : PairFrame) : State :=
  let x := f.item % 4096
  let q0 := nbits f.item 16 16
  (List.range (min 2 f.count)).foldl (fun a i =>
    let q := (q0 + i) % 65536
    let b := nbits f.payload (512 * i) 512
    let c := ctxOf b
    let e := a.qmap q
    if a.takesMirror x && a.resident e q && (a.qctx e q).st == 0 && ctxValid b && c.slice == x && a.ownsQueue x q then
      a.setQctx e q { c with st := 0, fetched := c.head, sgen := a.sliceGen x }
    else a.mirRefuse f) s

/-- MTR: parameters into both banks, and bindings, as LOAD writes them (R372). -/
def State.applyMtr (s : State) (f : PairFrame) : State :=
  let x := f.item % 4096
  (List.range (min 2 f.count)).foldl (fun a i =>
    let off := nbits f.item 16 12 + i
    if a.takesMirror x && off < a.fget F.SLICE.ACC_M.MCNT x then a.loadMeter x f.payload off (64 * i) else a.mirRefuse f) s

/-- SLC: CREATED marks the slice SHADOW, CLEARED clears it; a slice that is not FREE refuses both (R519). -/
def State.applySlc (s : State) (f : PairFrame) : State :=
  let x := f.item % 4096
  if nbits f.item 12 4 = 0 then
    if s.takesMirror x then { s with pair := { s.pair with shadow := tset 0 s.pair.shadow x 1 } } else s.mirRefuse f
  else if s.sliceState x = 0 then s.shadowClear x else s.mirRefuse f

/-- CKPT: HEAD and TAIL of shadow contexts. -/
def State.applyCkpt (s : State) (f : PairFrame) : State :=
  (List.range (min 32 f.count)).foldl (fun a i =>
    let q := (f.item % 65536 + i) % 65536
    let e := a.qmap q
    let c := a.qctx e q
    if a.resident e q && c.v && c.st == 0 && a.isShadow c.slice then
      a.setQctx e q { c with
        head := nbits f.payload (32 * i) 16, tail := nbits f.payload (32 * i + 16) 16, fetched := nbits f.payload (32 * i) 16 }
    else a.mirRefuse f) s

/-- WAKE: the PAIR wake event of each sector named (R515, Table 15-4). -/
def State.applyWake (s : State) (f : PairFrame) : State :=
  (List.range 8).foldl (fun a x => if nbit f.item x then a.wakeEvent x 6 0 0 (a.wakeTo x) else a) s

/-- A write of stop 59 to a flacon slot. -/
def State.pairWrite (s : State) (fma first last : Nat) (bytes : List (BitVec 8)) : State :=
  let n := bytes.length
  s.submit 59 {
    hdr := { emptyFlit with
      opc := opMWR, addr := BitVec.ofNat 64 fma, len := BitVec.ofNat 10 (n / 4),
      be := BitVec.ofNat 16 (first + 16 * (if n = 4 then 0 else last)) },
    chunks := chunksOf 32 bytes, ldst := memStop (fmaLoc fma).1, job := 1 }

/-- Every write of stop 59 has been acknowledged. -/
def State.pairAcked (s : State) : Bool :=
  !((s.formQ 59).any (fun r => r.job == 1) || (s.queue 59).any (fun t => t.job == 1) || (s.ret 59).any (fun c => c.job == 1)
    || (match tget none s.arb.burst 59 with | some b => b.job == 1 | none => false))

def State.curTo (s : State) (n : Nat) : State := { s with pair := { s.pair with curSt := n } }

/-- FLC: 128 bytes of a slot; a local SAVE of the slot ends first (R519). DESIGN CHOICE: byte 3 is kept from block 0 and is
written once the last block of the slot has been acknowledged. -/
def State.applyFlc (s : State) (f : PairFrame) : Option State :=
  let slot := f.item % 4096
  let blk := nbits f.item 16 12
  let v := tget 0 s.pair.flcValid slot
  match s.pair.curSt with
  | 0 =>
    if s.fl.op = 1 ∧ s.slotNow = slot then none
    else
      let s1 := if blk = 0 then
          { s with pair := { s.pair with flcValid := tset 0 s.pair.flcValid slot (1 + nbits f.payload 24 8) } } else s
      some ((s1.pairWrite (slotFma slot (128 * blk)) (if blk = 0 then 7 else 15) 15 (bytesOf 128 f.payload)).curTo 1)
  | 1 =>
    if !s.pairAcked then none
    else if blk = 511 ∧ v ≠ 0 then
      let s1 : State := { s with pair := { s.pair with flcValid := tset 0 s.pair.flcValid slot 0 } }
      some ((s1.pairWrite (slotFma slot 0) 8 0 (bytesOf 4 ((v - 1) * 2 ^ 24))).curTo 2)
    else some (s.curTo 3)
  | _ => if s.pairAcked then some (s.curTo 3) else none

/-- Items that the fabric takes time over. -/
def PairFrame.slow (f : PairFrame) : Bool := f.type == 1 || f.type == 2 || f.type == 7
def PairFrame.items (f : PairFrame) : Nat := if f.type = 1 then min 6 f.count else if f.type = 2 then min 4 f.count else 1

/-- The next step of the frame in application; none while it waits. -/
def State.applyStep (s : State) (f : PairFrame) : Option State :=
  let done := fun (a : State) =>
    ({ a with pair := { a.pair with
      cur := none, curItem := 0, curSt := 0, rxSeq := (a.pair.rxSeq + 1) % 65536 } } : State).rcInc F.PAIR.MIR_RX_CNT 0
  if !f.slow then
    some (done (match f.type with
      | 3 => s.applyAcc f
      | 4 => s.applyQctx f
      | 5 => s.applyMtr f
      | 6 => s.applySlc f
      | 8 => s.applyCkpt f
      | _ => s.applyWake f))
  else if f.items ≤ s.pair.curItem then some (done s)
  else if s.pair.curSt = 3 then some { s with pair := { s.pair with curItem := s.pair.curItem + 1, curSt := 0 } }
  else if f.type = 7 then s.applyFlc f
  else if s.pair.curSt ≠ 0 then none
  else if f.type = 1 then s.applyXlt f
  else s.applyPb f

/-- PACK of a frame frees the copies before it (R506). -/
def State.packIn (s : State) (p : Nat) : State :=
  let keep := s.pair.ret.filter (fun f => 0 ≤ signedDiff 16 f.pseq p)
  ((s.setKept keep).markDown (s.pair.ret.length - keep.length)).pairPump

/-- RESTART in an HB frame (Table 19-4). -/
def State.restartIn (s : State) : State :=
  let m := s.pairMs
  if m = 1 ∨ m = 2 then
    let s1 := s.dropRet
    ({ s1 with pair := { s1.pair with txSeq := 0, rxSeq := 0, out := [], cur := none, curItem := 0, curSt := 0 } } : State).toDesync 1
  else if m = 4 then s.toDesync 1
  else s

/-- An HB frame: PACK, RESTART; in LAG the mirror is in step again once the link is UP (Table 19-4). `refused`: the partner
has refused a mirrored write, of which its frames say nothing. -/
def State.hbIn (s : State) (f : PairFrame) (refused : Bool) : State :=
  let s1 := if f.restart then s.restartIn else s.packIn f.pack
  let s2 := if s1.pairMs = 2 && s1.pairUp && !f.restart then (s1.setMs 1).pairReplay else s1
  if refused then s2.toDesync 2 else s2

/-- A frame is taken in PSEQ order: the expected one is applied, an earlier one is a duplicate (R506). -/
def State.frameTake (s : State) (f : PairFrame) (flag : Bool) : State :=
  if f.type = 10 then s.hbIn f flag
  else
    let s1 := s.packIn f.pack
    if f.pseq = s1.pair.rxSeq then
      let s2 := if flag then s1.clearShadows else s1
      { s2 with pair := { s2.pair with cur := some f, curItem := 0, curSt := 0 } }
    else if signedDiff 16 f.pseq s1.pair.rxSeq < 0 then s1.rcInc F.PAIR.DUP_CNT 0
    else s1

/-- Stop 59 goes on: the frame in application, then the frames of the FIFO in order. -/
def State.pairRun (s : State) : Nat → State
  | 0 => s
  | n + 1 =>
    match s.pair.cur with
    | some f =>
      match s.applyStep f with
      | some t => t.pairRun n
      | none => s
    | none =>
      match s.pair.rx with
      | [] => s
      | (f, flag) :: rest => (({ s with pair := { s.pair with rx := rest } } : State).frameTake f flag).pairRun n

def State.pairGo (s : State) : State := s.pairRun (40 * (s.pair.rx.length + 2))

/-- The FIFO towards stop 59 is full (R391). -/
def State.pairOverflow (s : State) : State :=
  let x := tget {} s.xb pairBridge
  let s1 : State := { s with xb := tset {} s.xb pairBridge { x with ovf := satAdd 32 x.ovf 1 } }
  s1.record .xb 8 0xA2 (packBits [(0, 6, pairBridge % 64), (6, 4, 8), (10, 5, 0)]) 0

/-- A frame of a type arrives (R504, R505, R519). Another TYPE under a right CRC is another command's frame. -/
def State.frameIn (s : State) (type : Nat) (raw : BitVec 1344) (flag : Bool) : State :=
  let f := frameOf raw.toNat
  if !s.fbit F.PAIR.PAIR_CTL.EN then s
  else if 64 ≤ s.pair.rx.length || !s.xbReady pairBridge then s.pairOverflow
  else if !pairCrcOk raw then s.rcInc F.PAIR.CRC_ERR_CNT 0
  else if f.type ≠ type then s
  else if s.fbit F.PAIR.TKO_STS.BUSY then s.tkoMeets
  else
    let s1 := s.fset F.PAIR.PAIR_STS.PEER 1
    let s2 : State := { s1 with pair := { s1.pair with rx := s1.pair.rx ++ [(f, flag)], heard := true } }
    (s2.xbOcc pairBridge s2.pair.rx.length).pairGo

def execPairFrameXlt (raw : BitVec 1344) (full : Bool) (s : State) : Res := .next (s.frameIn 1 raw full)
def execPairFramePb (raw : BitVec 1344) (full : Bool) (s : State) : Res := .next (s.frameIn 2 raw full)
def execPairFrameAcc (raw : BitVec 1344) (full : Bool) (s : State) : Res := .next (s.frameIn 3 raw full)
def execPairFrameQctx (raw : BitVec 1344) (s : State) : Res := .next (s.frameIn 4 raw false)
def execPairFrameMtr (raw : BitVec 1344) (s : State) : Res := .next (s.frameIn 5 raw false)
def execPairFrameSlc (raw : BitVec 1344) (s : State) : Res := .next (s.frameIn 6 raw false)
def execPairFrameFlc (raw : BitVec 1344) (s : State) : Res := .next (s.frameIn 7 raw false)
def execPairFrameCkpt (raw : BitVec 1344) (s : State) : Res := .next (s.frameIn 8 raw false)
def execPairFrameWake (raw : BitVec 1344) (s : State) : Res := .next (s.frameIn 9 raw false)
def execPairFrameHb (raw : BitVec 1344) (refused : Bool) (s : State) : Res := .next (s.frameIn 10 raw refused)

/-- PAIR_CREDIT_UPDATE (R559). -/
def execPairCreditUpdate (c : BitVec 16) (s : State) : Res :=
  .next ({ s with pair := { s.pair with cred := c.toNat } } : State).pairPump

/-- PAIR_MARK (R506): reads 1 until the frames formed before are acknowledged. -/
def State.pairMark (s : State) : State :=
  let n := s.pair.items.length + s.pair.ret.length
  ({ s with pair := { s.pair with mark := if n = 0 then none else some n } } : State).fput F.PAIR.MARK (n != 0)

def execPairMark (s : State) : Res := .next (s.touch .pair 0).pairMark

/-- PWAKE (R515): one WAKE frame, while the pair link is in use. -/
def State.pwake (s : State) (m : Nat) : State := if s.fbit F.PAIR.PAIR_CTL.EN then (s.addItems [.wake m]).pairPump else s

def execPwake (m : BitVec 8) (s : State) : Res := .next ((s.touch .pair 0).pwake m.toNat)

/-! ### Takeover (R512, R513) -/

/-- Start CREATEs of the shadow slices, at most 32 at once; one that is refused counts in FAILED. -/
def State.tkoFill (s : State) : Nat → State
  | 0 => s
  | n + 1 =>
    match s.pair.tko with
    | [] => s
    | x :: rest =>
      if 32 ≤ s.pair.tkoRun.length then s
      else
        let free := !s.fbit F.SLICE.MSTS.BUSY x
        let s1 := ({ s with pair := { s.pair with tko := rest } } : State).sliceCmd x 1
        if free && tget 0 s1.slc.create x != 0 then ({ s1 with pair := { s1.pair with tkoRun := s1.pair.tkoRun ++ [x] } } : State).tkoFill n
        else (s1.fset F.PAIR.TKO_STS.FAILED (s1.fget F.PAIR.TKO_STS.FAILED + 1)).tkoFill n

/-- Why a takeover is refused, 0 for none. -/
def State.tkoRefusal (s : State) : Nat :=
  if s.fget F.PAIR.PAIR_STS.PEER ≠ 2 then 1
  else if !s.fbit F.PAIR.PAIR_STS.PARTNER_FAIL && !s.fbit F.PAIR.TKO_CTL.FORCE then 2
  else if s.fbit F.PAIR.TKO_STS.BUSY then 3 else 0

/-- TKO_CTL.GO. -/
def State.tkoGo (s : State) : State :=
  let r := s.tkoRefusal
  if r ≠ 0 then s.fset F.PAIR.TKO_STS.RES r
  else
    let l := (s.pair.shadow.map (fun e => e.1)).filter (fun x => s.isShd x)
    let s1 := (((s.fset F.PAIR.TKO_STS.RES 0).fput F.PAIR.TKO_STS.BUSY true).fset F.PAIR.TKO_STS.FAILED 0).fset F.PAIR.TKO_STS.DONE 0
    ({ s1 with pair := { s1.pair with tko := l, tkoRun := [], tkoDone := 0 } } : State).tkoFill l.length

/-- TAKEOVER: a write of TKO_CTL with GO; FORCE is written where the page is unlocked, and a change of it while the page is
locked counts in PG_ERR_CNT (R12). -/
def State.tkoWrite (s : State) (w : Word) : State :=
  let s1 := if s.fbit (F.HDR.PG_LOCK.UNLOCKED .pair) then s.fput F.PAIR.TKO_CTL.FORCE (w.getLsbD 1)
    else if w.getLsbD 1 = s.fbit F.PAIR.TKO_CTL.FORCE then s else s.pgErr .pair 0 0x11C
  if w.getLsbD 0 then s1.tkoGo else s1

def execTakeover (w : Word) (s : State) : Res := .next ((s.touch .pair 0).tkoWrite w)

/-- HOME takes SHD in; SHD is empty, and its slices are no shadows any more. -/
def State.homeAbsorb (s0 : State) : State :=
  let s : State := { s0 with pair := { s0.pair with shadow := tdrop s0.isShd s0.pair.shadow } }
  let hb := s.fget F.PAIR.HOME.BASE
  let hn := s.fget F.PAIR.HOME.CNT
  let sb := s.fget F.PAIR.SHD.BASE
  let sn := s.fget F.PAIR.SHD.CNT
  let b := if hn = 0 then sb else if sn = 0 then hb else min hb sb
  ((s.fset F.PAIR.HOME.BASE b).fset F.PAIR.HOME.CNT (hn + sn)).fset F.PAIR.SHD.CNT 0

/-- CREATEs that have ended make room for the next; with the last one the takeover ends. -/
def State.tkoStep (s : State) : State :=
  if !s.fbit F.PAIR.TKO_STS.BUSY then s
  else
    let run := s.pair.tkoRun.filter (fun x => tget 0 s.slc.create x != 0)
    let s1 : State := { s with pair := { s.pair with
      tkoRun := run, tkoDone := s.pair.tkoDone + (s.pair.tkoRun.length - run.length) } }
    let s2 := s1.tkoFill s1.pair.tko.length
    if s2.pair.tko.isEmpty && s2.pair.tkoRun.isEmpty then
      ((s2.fset F.PAIR.TKO_STS.DONE s2.pair.tkoDone).fput F.PAIR.TKO_STS.BUSY false).homeAbsorb
    else s2

def execTakeoverDone (s : State) : Res := .next s.tkoStep

/-- PEER_LOST (R510): no valid frame for HB_LIM consecutive ticks. -/
def State.peerLost (s : State) : State :=
  if !s.fbit F.PAIR.PAIR_CTL.EN || s.fget F.PAIR.PAIR_STS.PEER == 2
      || decide (s.pair.silent < max 1 (s.fget F.PAIR.PAIR_CFG.HB_LIM)) then s
  else
    let s1 := ((s.fset F.PAIR.PAIR_STS.PEER 2).record .pair 0 0xE1 s.pairMs s.pair.rxSeq).intSet .pair 0 0
    let s2 := if s.pairMs = 1 then s1.setMs 2 else s1
    if s.fbit F.PAIR.PAIR_CTL.AUTO && s.fbit F.PAIR.PAIR_STS.PARTNER_FAIL then s2.tkoGo else s2

def execPeerLost (s : State) : Res := .next s.peerLost

def execPartnerFailChange (level : Bool) (s : State) : Res := .next (s.fput F.PAIR.PAIR_STS.PARTNER_FAIL level)

/-! ### The boundary of stop 59 -/

/-- PAIR_CKPT (R508): due every CKPT_PER ticks. -/
def State.pairCkpt (s : State) : State :=
  let per := s.fget F.PAIR.PAIR_CFG.CKPT_PER
  if per = 0 ∨ s.pair.ckptAt < per then s
  else
    let l := (s.activeSlices.filter (fun x => s.isHome x && s.sliceState x == 1)).flatMap (fun x => s.ckptItems x)
    (({ s with pair := { s.pair with ckptAt := 0 } } : State).mirror l).pairPump

def execPairCkpt (s : State) : Res := .next s.pairCkpt

/-- A meter parameter of a slice differs between the banks. -/
def State.mtrDiffers (s : State) (g : Nat) : Bool :=
  let y := g / 2048
  let m := g % 2048
  let p := meterPage y
  s.meterRates y m 0 != s.meterRates y m 1
  || s.fget F.STOP.METER_MODE.AWARE p 0 0 m != s.fget F.STOP.METER_MODE.AWARE p 0 1 m
  || s.fget F.STOP.METER_MODE.TC_YEL p 0 0 m != s.fget F.STOP.METER_MODE.TC_YEL p 0 1 m

/-- A swap makes new meter parameters or weights of a home slice active (Table 19-3). -/
def State.swapItems (s : State) : List MirItem :=
  (s.activeSlices.filter (fun x => s.isHome x && s.sliceState x != 0)).flatMap (fun x =>
    let wt := (List.range 60).any (fun k => s.fget F.ARB.SW_DATA.SLICE_WT k 0 0 x != s.fget F.ARB.SW_DATA.SLICE_WT k 0 1 x)
    let n := s.fget F.SLICE.ACC_M.MCNT x
    let b := s.fget F.SLICE.ACC_M.MBASE x
    ((List.range (ceilDiv n 2)).filter (fun i =>
      wt || s.mtrDiffers (b + 2 * i) || (2 * i + 1 < n && s.mtrDiffers (b + 2 * i + 1)))).map (fun i => .mtr x (2 * i)))

/-- What stop 59 does for the pair at a tick boundary: the silence count, the checkpoint, replays, the resync, the takeover,
and one HB frame. -/
def State.pairTick (s : State) (swapped : Bool) : State :=
  let on := s.fbit F.PAIR.PAIR_CTL.EN
  let s1 : State := { s with pair := { s.pair with
    silent := if !on || s.pair.heard then 0 else s.pair.silent + 1, heard := false, ckptAt := s.pair.ckptAt + 1 } }
  let s2 := ((if swapped then s1.mirror s1.swapItems else s1).peerLost).pairCkpt.pairGo
  let s3 := (if s2.replayDue then s2.pairReplay else s2).autoResync.fullStep.resyncDone.tkoStep
  s3.sendHb.pairPump

end Sys2Proof.Machine
end

