-- ==== Sys2Proof/Machine/Boundary.lean ====
section
/-! DEFINITION. The local tick boundary of a node: its count and bank, the duties of Table 2-3, and every step that the
chapters place at a boundary (02_tick_and_epochs R36, R37, R41–R46, R50). -/

namespace Sys2Proof.Machine

/-! ### What a stop holds of the old epoch (R50) -/

/-- A flit of the bank that stop `k` no longer uses. -/
def State.oldFlit (s : State) (k : Nat) (f : Flit) : Bool := f.opc != 0 && f.ep.toNat != s.bankAt k

/-- A flit on a lane of the stop: its injection register, its crossing FIFO, the released flits not yet re-presented, the
outgoing link registers of its station. -/
def State.oldOnLane (s : State) (k key : Nat) : Bool :=
  (match tget none s.spine.inj key with | some x => s.oldFlit k x.flit | none => false)
  || (tget [] s.spine.xfer key).any (s.oldFlit k) || (tget [] s.spine.maintQ key).any (s.oldFlit k)
  || (tget [] s.spine.linkQ key).any (fun x => s.oldFlit k (decodeWires x.wires).1)

/-- The report of stop `k`: its injection pipeline, station, crossing FIFOs and ejection pipeline; at stop 58 the pending
replication list. -/
def State.holdsOld (s : State) (k : Nat) : Bool :=
  (match tget none s.arb.burst k with | some b => b.flits.any (s.oldFlit k) | none => false)
  || (List.range 18).any (fun l => s.oldOnLane k (k * 18 + l))
  || (List.range 19).any (fun l => (tget [] s.spine.eject (k * 32 + l)).any (fun e => s.oldFlit k e.flit))
  || (k == 58 && s.eng.fan.any (fun x => x.flits.any (s.oldFlit k)))

/-! ### The duties of a stop (Table 2-3) -/

/-- Duty 5: the timer scan of every tag that is not IDLE. -/
def State.timerScan (s : State) (k : Nat) : State := (s.tagsOf k).foldl (fun a e => a.tagScan k e.1) s

/-- Duty 6: the acknowledgement timeout of every destination. -/
def State.ackScan (s : State) (k : Nat) : State := (List.range 60).foldl (fun a d => a.ackTimeout k d) s

/-- The requests for credit that have waited REQ_TO full ticks (R135). -/
def State.retryScan (s : State) (k : Nat) : State :=
  (s.resv.credit.filter (fun e => e.1 / 256 == k && e.2.out.isSome)).foldl (fun a e =>
    a.resRetry k (e.1 / 4 % 64) (e.1 % 4)) s

/-- Drydown flushes of the slices closed at a port stop (R357). -/
def State.flushScan (s : State) (k : Nat) : State :=
  (s.slc.closedAt.filter (fun e => e.1 / 4096 == k)).foldl (fun a e => a.drydownFlush k (e.1 % 4096)) s

/-- What has arrived by message and takes effect at the boundary: ISOLATE, link notices, slice updates (R463, R248, R348);
the node of a sleeping stop applies them to the island (R402). -/
def State.applyArrived (s : State) (n : Nat) : State :=
  let s1 := s.isoApply n
  if n < 60 then (s1.noticesApply n).sliceApplyAll n else s1

/-- A frame of CTL grants begins with the next injection slot (R190). -/
def State.newFrame (s : State) (k : Nat) : State :=
  { s with arb := { s.arb with tickAt := tset 0 s.arb.tickAt k (tget 0 s.arb.clk k) } }

/-- What only one kind of stop does at a boundary: port and spare port stops, memory stops (R280), data-mover stops (R305,
R326, R327), stop 59 (R506, R508, R510). -/
def State.roleDuty (s : State) (k : Nat) (swapped : Bool) : State :=
  let s1 := (s.portTick k).flushScan k
  let s2 := if isSpareStop k then s1.spareTick k else s1
  let s3 := if isMemStop k then s2.fillTimeout (sectorOf k) else s2
  let s4 := if isEngStop k then
      let e := sectorOf k
      (((s3.budgetRefill e).stubExpire e).engSettle e).engPump e
    else s3
  if k = 59 then s4.pairTick swapped else s4

/-- The duties of a stop that runs, in the order of Table 2-3 from duty 4 on, and the recolourings after them (R216). -/
def State.stopDuties (s : State) (k : Nat) (swapped : Bool) : State :=
  let s1 := ((((s.effTake k).newFrame k).closeDue k).reroute k).gateAdvance k
  let s2 := ((s1.timerScan k).ackScan k).retryScan k
  let s3 := (s2.roleDuty k swapped).isoReroute k
  ((s3.sendCensus k (s3.holdsOld k)).emptyReport k).redRecolour k

/-- The node of a stop that does not run (R45, R402): the census; a port stop's written mode and fields go to the island
and LCI_RST_N is released (R544). -/
def State.sleepDuties (s : State) (k : Nat) : State :=
  let s0 := s.effTake k
  let s1 := if isPortStop k && !s0.isolated k then (s0.noticesRepeat k).portModeChange k else s0
  let s2 : State := if isPortStop k then { s1 with boot := { s1.boot with lciRun := tset 0 s1.boot.lciRun k 1 } } else s1
  s2.sendCensus k false

/-! ### The duties of the page owners -/

/-- GLB at node 60: windows (R441), flacon commands (R370), isolation (R463), the sideband (R446), power of the spine and
the core (R400), causes and SERVICE (R461, R491), FAIL_OUT (R560). -/
def State.glbDuties (s : State) : State :=
  let s1 := (List.range 16).foldl (fun a j => a.windowClose j) s
  let s2 := ((s1.flStep.flOffDone).isoAgain).pwrSettle
  let s3 := [2, 3, 4].foldl (fun a c => a.causeCheck c) s2
  (s3.goTake.failOutDuty).sbSample

/-- The RING pages at node 61: test runs start and end (R111). -/
def State.ringDuties (s : State) : State :=
  (List.range 9).foldl (fun a r => ((a.windowRoll r).ringTestEnd r).ringTestStart r) s.ringCommit

/-- The power owner of a sector at node 7s + 4: the close and the wake timer (R405, Table 15-4). -/
def State.pwrDuties (s : State) (x : Nat) : State := (s.closeTimeout x).wakeTimer x

/-- CTL at node 63: heartbeats (R490) and the handover (R496). -/
def State.ctlDuties (s : State) (beats : BitVec 2) : State :=
  ((s.heartbeat 0 (beats.getLsbD 0)).heartbeat 1 (beats.getLsbD 1)).handover

/-- Duties of node `n` by what it is. -/
def State.nodeDuties (s : State) (n : Nat) (swapped : Bool) (beats : BitVec 2) : State :=
  if n < 60 then
    let s1 := if s.stopRuns n then s.stopDuties n swapped else s.sleepDuties n
    if isSpareStop n then s1.pwrDuties (sectorOf n) else s1
  else if n = 60 then s.glbDuties
  else if n = 61 then s.ringDuties
  else if n = 62 then s.sliceTick
  else s.ctlDuties beats

/-! ### The boundary -/

/-- The node has missed boundaries (R37): SLIP_CNT and TICK_SLIP. -/
def State.slipNote (s : State) (n c : Nat) : State :=
  let k := tget 0 s.tick.nodeSlip n
  if k = 0 then s
  else
    let s1 : State := { s with tick := { s.tick with nodeSlip := tset 0 s.tick.nodeSlip n 0 } }
    let p := nodePage n
    (s1.rcInc F.TICK.SLIP_CNT 0 k).record p.1 p.2 0x11 (min 65535 k) (c % 2 ^ 32)

/-- The flags of billing windows that this boundary sets, after duty 3 (R441): SLIP in the windows of the `slips` boundaries
missed, HOLD in that of a holdover tick. An event at a boundary belongs to the window that begins there (Table 16-12). -/
def State.windowFlags (s : State) (n c slips : Nat) (hold : Bool) : State :=
  let s1 := if slips = 0 then s else s.windowFlag 4 (wrapSub 48 c slips) (wrapSub 48 c 1)
  if n = 60 ∧ hold then s1.windowFlag 2 c c else s1

/-- A duty of the boundary before had not finished (R46). -/
def State.overrunNote (s : State) (n c : Nat) (unfinished : Option (Fin 8)) : State :=
  match unfinished with
  | some d => if n < 60 ∧ s.stopRuns n then (s.pgErrEvt .stop n).record .stop n 0x12 d (c % 2 ^ 32) else s
  | none => s

/-- A HANDOVER notice two boundaries past its target is over: CTL has the active core (R496). -/
def State.hoClear (s : State) (n : Nat) : State :=
  let v := tget 0 s.boot.hoNote n
  if v ≠ 0 ∧ atOrAfter 48 (s.nodeTick n) ((v - 1) % 2 ^ 48 + 2) then
    { s with boot := { s.boot with hoNote := tset 0 s.boot.hoNote n 0 } }
  else s

/-- Boundary b of a fabric reset that the node has been told of has come: its units are in reset (R482). -/
def State.nodeReset (s : State) (n : Nat) : Bool :=
  let v := tget 0 s.boot.rstNote n
  s.boot.inReset || (v != 0 && atOrAfter 48 (s.nodeTick n) (v - 1))

/-- Fences of node `n` apply (R108). -/
def State.fences (s : State) (n : Nat) : State := (List.range 9).foldl (fun a r => a.fenceApply n r) s

/-- The node takes the count and the bank of the mark it holds (R36, R41, R47). -/
def State.takeMark (s : State) (n : Nat) : State :=
  let m := tget 0 s.tick.nodeMark n - 1
  { s with tick := { s.tick with
      nodeMark := tset 0 s.tick.nodeMark n 0, nodeCount := tset 0 s.tick.nodeCount n (nbits m 0 48),
      nodeBank := tset 0 s.tick.nodeBank n (nbits m 57 1) } }

/-- What the node does at the boundary whose mark it has taken: `s` is the state before. -/
def State.atBoundary (s1 s : State) (n : Nat) (unfinished : Option (Fin 8)) (beats : BitVec 2) : State :=
  let m := tget 0 s.tick.nodeMark n - 1
  let c := nbits m 0 48
  let s2 := (s1.slipNote n c).overrunNote n c unfinished
  let s3 := if n = 60 then s2.fabricExit.fabricEnter else s2
  let s4 :=
    if s3.nodeReset n then s3
    else
      ((((s3.latchDuty n).ticksDuty n).fences n).applyArrived n |>.hoClear n).nodeDuties n (nbits m 57 1 != s.bankAt n) beats
  s4.windowFlags n c (tget 0 s.tick.nodeSlip n) (nbit m 59)

/-- LOCAL_TICK_BOUNDARY (R42): the node takes its mark (R36, R37), then performs its duties. A node without a mark has no
boundary. `unfinished` is a duty of R46 still under way; `beats` tells node 63 which cores have toggled their heartbeat. -/
def State.boundary (s : State) (n : Nat) (unfinished : Option (Fin 8)) (beats : BitVec 2) : State :=
  if tget 0 s.tick.nodeMark n = 0 then s else (s.takeMark n).atBoundary s n unfinished beats

def execLocalTickBoundary (n : Node) (unfinished : Option (Fin 8)) (beats : BitVec 2) (s : State) : Res :=
  .next (s.boundary n unfinished beats)

end Sys2Proof.Machine
end

