-- ==== Sys2Proof/Machine/RegRead.lean ====
section
/-! DEFINITION. Reads of the register window: the window map, the word of a register, registers that show live state,
holding copies, counters that a read clears (20_register_pages; R8–R14). -/

namespace Sys2Proof.Machine

/-! ### The window (Table 20-1) -/

/-- The page that contains a window offset. -/
def pageAt (a : Nat) : Option (Cls × Nat) :=
  let p := a / 4096
  if p = 0 then some (.glb, 0) else if p = 1 then some (.tick, 0)
  else if 0x10 ≤ p ∧ p ≤ 0x18 then some (.ring, p - 0x10)
  else if 0x100 ≤ p ∧ p < 0x1F0 then
    some ([Cls.stop, .arb, .gate, .pmu].getD (p % 4) .stop, (p - 0x100) / 4)
  else if 0x200 ≤ p ∧ p < 0x208 then some (.eng, p - 0x200)
  else if 0x210 ≤ p ∧ p < 0x218 then some (.mem, p - 0x210)
  else if p = 0x220 then some (.repl, 0) else if p = 0x230 then some (.pair, 0)
  else if 0x300 ≤ p ∧ p < 0x308 then some (.pwr, p - 0x300)
  else if 0x310 ≤ p ∧ p < 0x31A then some (.xb, p - 0x310)
  else if 0x320 ≤ p ∧ p < 0x322 then some (.fi, p - 0x320)
  else if p = 0x400 then some (.ctl, 0)
  else if 0x401 ≤ p ∧ p < 0x403 then some (.mbox, p - 0x401)
  else if 0x2000 ≤ p ∧ p < 0x3000 then some (.slice, p - 0x2000)
  else none

/-- The elements of a field that lie in the register at an offset. -/
def Fld.elems (f : Fld) (off : Nat) : List Nat :=
  if f.off ≤ off ∧ (off - f.off) % f.step = 0 ∧ (off - f.off) / f.step < f.n then
    (List.range f.m).map (fun i => (off - f.off) / f.step * f.m + i)
  else []

/-- The fields of a register with their elements. -/
def regFields (c : Cls) (off : Nat) : List (Fld × Nat) := (fieldsOf c).flatMap (fun f => (f.elems off).map (fun e => (f, e)))

/-- A fault injection unit exists (R474). -/
def fiPresent (pg u : Nat) : Bool := if pg = 0 then u < 1080 else u < 448 && isPortStop (u / 8)

/-- Where the fields of a register are kept: the page instance and the index that a select field names (R533); none where
the register does not exist in that page (R203, R268, R302, R474). -/
def State.fieldHome (s : State) (c : Cls) (i off : Nat) : Option (Nat × Nat) :=
  match c with
  | .stop =>
    if 0x488 ≤ off ∧ off ≤ 0x498 then
      if i < 56 then some (meterPage (sectorOf i), s.fget F.STOP.METER_SEL.IDX i) else none
    else if 0x600 ≤ off ∧ off ≤ 0x610 then if i < 56 then some (xcPage (sectorOf i), 0) else none
    else if (0x500 ≤ off ∧ off ≤ 0x5AC) ∨ (0x620 ≤ off ∧ off ≤ 0x658) then
      if isPortStop i then some (i, if 0x644 ≤ off ∧ off ≤ 0x654 then s.fget F.STOP.WIN_SEL.IDX i else 0) else none
    else some (i, 0)
  | .arb => some (i, if off = 0x108 then s.fget F.ARB.SW_IDX i else 0)
  | .gate =>
    let l := s.fget F.GATE.LIST_SEL.LIST i * 256
    some (i, if off = 0x118 then l + s.fget F.GATE.ENT_SEL.ENTRY i
      else if [0x108, 0x10C, 0x110, 0x11C, 0x120].contains off then l else 0)
  | .repl =>
    some (i, if 0x104 ≤ off ∧ off ≤ 0x114 then s.fget F.REPL.GRP_SEL.GROUP
      else if 0x124 ≤ off ∧ off ≤ 0x130 then s.fget F.REPL.BC_SEL.DOM else 0)
  | .glb =>
    some (i, if off = 0x184 then s.fget F.GLB.QMAP_SEL.QUEUE
      else if off = 0x1C4 ∨ off = 0x1C8 then s.fget F.GLB.PB_DSEL.DOM
      else if 0x324 ≤ off ∧ off ≤ 0x32C then s.fget F.GLB.WS_SEL.SCHED
      else if off = 0x344 then s.fget F.GLB.CS_SEL.SET else 0)
  | .eng => some (i, if off = 0x184 then s.fget F.ENG.SW_IDX i else 0)
  | .fi =>
    let u := s.fget F.FI.FI_SEL.UNIT i
    if off ≤ 0x100 then some (i, 0) else if fiPresent i u then some (i, u) else none
  | _ => some (i, 0)

/-- The bank that a read of a WE field takes (Table 0-4). -/
def State.readBank (s : State) (c : Cls) (i : Nat) : Nat :=
  let act := s.bankAt (ownerNode c i)
  if s.fbit (F.HDR.PG_CTL.EPOCH_SEL c) i then 1 - act else act

/-- The stored word of a register. -/
def State.storedWord (s : State) (c : Cls) (i off : Nat) : Nat :=
  match s.fieldHome c i off with
  | none => 0
  | some (h, sel) =>
    packBits ((regFields c off).map (fun x => (x.1.loAt x.2, x.1.width, s.fget x.1 h x.2 (s.readBank c i) sel)))

/-! ### Registers that show live state -/

/-- The sector that a page's owner belongs to; none for owners outside the sectors. -/
def sectorOfPage (c : Cls) (i : Nat) : Option Nat :=
  match c with
  | .stop | .arb | .gate | .pmu => if i < 56 then some (sectorOf i) else none
  | .eng | .mem | .pwr => some i
  | .xb => if i < 8 then some i else none
  | _ => none

/-- The owner's stop or sector is isolated (PG_STS.ISOLATED). -/
def State.pageIsolated (s : State) (c : Cls) (i : Nat) : Bool :=
  match c with
  | .stop | .arb | .gate | .pmu => s.isolated i
  | .eng => s.isolated (engStop i)
  | .mem => s.isolated (memStop i)
  | .pwr => s.unitIsolated 1 i
  | .xb => i < 8 && s.unitIsolated 1 i
  | _ => false

/-- PG_CAP (Table 20-3). -/
def pageCap (c : Cls) (i : Nat) : Nat :=
  let isle := [Cls.stop, .arb, .gate, .pmu, .eng, .mem, .pwr].contains c || (c == .xb && i < 8)
  packBits [(0, 1, b2n (bankedCls c)), (1, 1, b2n (lockableCls c)), (2, 1, b2n (c == .slice)), (3, 1, b2n isle),
    (4, 1, b2n (hasBlock c)), (8, 8, if hasBlock c then cbBase c / 256 else 0), (16, 8, intBits c)]

/-- PG_STS (Table 20-3). -/
def State.pageSts (s : State) (c : Cls) (i : Nat) : Nat :=
  let asleep := match sectorOfPage c i with | some x => 2 ≤ s.sectorState x | none => false
  packBits [(0, 1, s.fget (F.HDR.PG_STS.QUIET c) i), (1, 1, b2n asleep), (2, 1, b2n (s.pageIsolated c i)),
    (3, 1, s.fget (F.HDR.PG_LOCK.UNLOCKED c) i), (4, 1, s.fget F.GLB.EPOCH_STS.INACTIVE_OPEN),
    (5, 1, s.fget F.GLB.EPOCH_STS.ACTIVE)]

/-- Registers of the header whose word is not stored as such. -/
def State.liveHdr (s : State) (c : Cls) (i off : Nat) : Option Nat :=
  match off with
  | 0x000 => some (packBits [(0, 8, c.code), (8, 16, if c = .glb then s.boot.instId else i), (24, 8, 1)])
  | 0x004 => some (pageCap c i)
  | 0x00C => some (s.pageSts c i)
  | 0x010 => some (s.intSts c i)
  | _ => none

/-- Tags of a stop in a state, at most the field's largest value. -/
def State.tagCount (s : State) (k st : Nat) : Nat := min 8191 ((s.tagsOf k).filter (fun e => e.2.st == st)).length

/-- Word `i` of a wide value. -/
def word32 (v i : Nat) : Nat := nbits v (32 * i) 32

/-- Registers of a STOP page that show live state (Tables 5-5, 6-4, 10-8, 8-4). -/
def State.liveStop (s : State) (k off : Nat) : Option Nat :=
  match off with
  | 0x318 => some (packBits [(0, 11, s.poolFree k), (16, 11, s.npUsed k), (30, 1, s.fget F.STOP.POOL_STS.CLOSING k),
      (31, 1, b2n (s.poolEmpty k))])
  | 0x31C => some (s.rspFree k)
  | 0x320 | 0x324 | 0x328 | 0x32C =>
    let c := (off - 0x320) / 4
    some (packBits [(0, 11, s.used k c), (16, 6, (s.pendQ k c).length)])
  | 0x3A0 =>
    let ovf := ((s.ret k).filter (fun c => c.ovf)).length
    let sram := (s.ret k).length - ovf
    some (packBits [(0, 11, sram), (16, 15, ovf), (31, 1, b2n (1365 ≤ sram && 21845 ≤ ovf))])
  | 0x3A4 => some (packBits [(0, 13, s.tagCount k 1), (16, 13, s.tagCount k 2)])
  | 0x3A8 => some (packBits [(0, 13, s.tagCount k 3), (16, 13, s.tagCount k 4)])
  -- DESIGN CHOICE: BOUND and OWNER, which Table 8-4 does not call copied, show the binding table as it is.
  | 0x484 =>
    if 56 ≤ k then some 0 else
      let own := s.bindings (sectorOf k) (s.fget F.STOP.METER_SEL.IDX k)
      some (packBits [(0, 1, s.fget F.STOP.METER_STS.VALID k), (1, 1, s.fget F.STOP.METER_STS.OVF_G k),
        (2, 1, s.fget F.STOP.METER_STS.OVF_Y k), (3, 1, b2n !own.isEmpty), (16, 12, own.headD 0 % 4096)])
  | 0x4BC =>
    if 56 ≤ k then some 0 else
      let b := s.boundTo (sectorOf k) (s.fget F.STOP.BIND_SEL.RQ_IDX k)
      some (if b = 0 then 0 else packBits [(0, 11, b - 1), (15, 1, 1)])
  | 0x610 => if k < 56 then some (min 64 (s.fills (sectorOf k)).length) else some 0
  | _ => none

/-- Registers of the GLB page that show live state. -/
def State.liveGlb (s : State) (off : Nat) : Option Nat :=
  if off = 0x164 then some (packBits [(0, 9, s.ringsUsable), (16, 9, s.fget F.GLB.RING_USE.FENCED)])
  else if off = 0x330 then some ((s.windowAt (s.fget F.GLB.WS_SEL.SCHED) (s.nodeTick 60) - 1) % 2 ^ 32)
  else if 0x490 ≤ off ∧ off ≤ 0x4AC then some (word32 (s.cnt.erq.headD 0) ((off - 0x490) / 4))
  else if off = 0x4E4 then some (packBits [(0, 1, s.fget F.GLB.TEST_STS.UNLOCKED), (1, 11, s.armedCnt)])
  else none

/-- Registers of a slice page that show live state (Table 12-9); the counter view reads 0 while CNT_VIS is 0 (R354). -/
def State.liveSlice (s : State) (x off : Nat) : Option Nat :=
  if off = 0x100 then
    some (packBits [(0, 3, s.sliceState x), (8, 4, s.sliceGen x), (12, 1, s.fget F.SLICE.CTL.CNT_VIS x)])
  else if off = 0x108 then
    some (packBits [(0, 16, s.fget F.SLICE.ACC_Q.QBASE x), (16, 9, s.fget F.SLICE.ACC_Q.QCNT x)])
  else if 0x200 ≤ off ∧ off ≤ 0x3FF ∧ !s.fbit F.SLICE.CTL.CNT_VIS x then some 0
  else if off = 0x840 then
    let held := ((List.range 60).map (fun k => ((s.tagsOf k).filter (fun e => e.2.st == 2 && e.2.slice == x)).length)).foldl (· + ·) 0
    some (packBits [(0, 7, s.fget F.SLICE.DRY_STS.PENDING x), (7, 1, s.fget F.SLICE.DRY_STS.FLUSH_FULL x), (16, 16, min 65535 held)])
  else if off = 0x848 then some (min 16383 (spillMib (s.flushUse x)))
  else none

/-- The word of a register that shows live state. -/
def State.liveWord (s : State) (c : Cls) (i off : Nat) : Option Nat :=
  if off < 0x40 then s.liveHdr c i off
  else match c with
  | .glb => s.liveGlb off
  | .tick => if off = 0x108 then some (s.nodeTick 60 % 2 ^ 32) else if off = 0x10C then some (s.nodeTick 60 / 2 ^ 32) else none
  | .stop => s.liveStop i off
  | .mem =>
    if 0x214 ≤ off ∧ off ≤ 0x230 then
      match (s.silStg i)[s.fget F.MEM.SIL_ST_SEL.IDX i]? with
      | some e => some (word32 e.data ((off - 0x214) / 4))
      | none => some 0
    else none
  | .pmu => if off = 0x348 then some (min 511 (s.unsetCnt i)) else none
  | .xb => if off = 0x114 then some (min 63 (s.xbNotReady i)) else none
  | .fi =>
    if off = 0x124 then
      let u := s.fget F.FI.FI_SEL.UNIT i
      let held := if i = 0 then (s.fiUnit 0 u).held.isSome else (tget none s.port.held u).isSome
      some (if fiPresent i u then packBits [(0, 1, 1), (1, 1, s.fget F.FI.FI_CTL.ARM i 0 0 u), (2, 1, b2n held)] else 0)
    else none
  | .ctl => if off = 0x128 then some (packBits [(0, 10, (s.cfgPend 0).length), (16, 10, (s.cfgPend 1).length)]) else none
  | .slice => s.liveSlice i off
  | _ => none

/-- The current word of a register. -/
def State.wordAt (s : State) (c : Cls) (i off : Nat) : Nat := (s.liveWord c i off).getD (s.storedWord c i off)

/-! ### Holding copies (R11) -/

/-- The register at an offset is the lowest one of a value that hardware changes. -/
def lowReg (c : Cls) (off : Nat) : Bool :=
  let b := off - cbBase c
  (hasBlock c && cbBase c ≤ off && b ≤ 0xD8 && (b == 0x008 || (0x040 ≤ b && b % 8 == 0))) ||
  match c with
  | .tick => off == 0x108
  | .glb => [0x150, 0x30C, 0x3D8, 0x3E0, 0x3E8, 0x4C8].contains off || (0x350 ≤ off && off < 0x3D0 && off % 8 == 0)
  | .arb => off == 0x118 || off == 0x120
  | .stop => off == 0x4A4 || off == 0x4AC
  | .eng => off == 0x19C
  | .pwr => off == 0x12C
  | .pmu => off == 0x38C || off == 0x340 || off == 0x350 || (0x200 ≤ off && off < 0x340 && off % 8 == 0)
  | .slice => [0x250, 0x258, 0x260, 0x850].contains off || (0x208 ≤ off && off < 0x248 && off % 8 == 0)
  | _ => false

/-- Key of the holding copy of an upper register. -/
def holdKey (c : Cls) (i off : Nat) : Nat := pageNo c i * 1024 + off / 4

/-- Width of the upper bits: 16, but 28 for ISO_SET (R11; bits above belong to other fields). -/
def holdWidth (c : Cls) (off : Nat) : Nat := if c = .glb ∧ off = 0x4CC then 28 else 16

/-- What a read of a register returns: for an upper register its bits of the value come from the holding copy. -/
def State.readWord (s : State) (c : Cls) (i off : Nat) : Nat :=
  let v := s.wordAt c i off
  if 4 ≤ off ∧ lowReg c (off - 4) then
    let w := 2 ^ holdWidth c off
    v / w * w + tget 0 s.net.hold (holdKey c i off)
  else v

/-- A read of the lowest register latches the upper bits. -/
def State.latchHigh (s : State) (c : Cls) (i off : Nat) : State :=
  if lowReg c off then
    { s with net := { s.net with
      hold := tset 0 s.net.hold (holdKey c i (off + 4)) (s.wordAt c i (off + 4) % 2 ^ holdWidth c (off + 4)) } }
  else s

/-! ### The read -/

/-- A manager or firmware read clears the RC fields of the register (Table 0-4, R531). -/
def State.clearRc (s : State) (c : Cls) (i off : Nat) : State :=
  match s.fieldHome c i off with
  | none => s
  | some (h, sel) =>
    (regFields c off).foldl (fun a x => if x.1.acc = .rc then a.fset x.1 0 h x.2 0 sel else a) s

/-- What a read does beside returning the word: it latches upper bits (R11), WAIT_MAX latches WAIT_WHO (Table 7-5), and
it clears RC fields. -/
def State.readEffect (s : State) (c : Cls) (i off : Nat) (o : Origin) : State :=
  let s1 := s.latchHigh c i off
  let s2 := if c = .arb ∧ off = 0x140 then s1.fset F.ARB.WAIT_WHO (tget 0 s1.arb.maxWho i - 1) i else s1
  if o = .tenant then s2
  else
    let s3 := s2.clearRc c i off
    if c = .arb ∧ off = 0x140 then { s3 with arb := { s3.arb with maxWho := tset 0 s3.arb.maxWho i 0 } } else s3

/-- An aligned 32-bit read at a window offset (R10, R11, R12). -/
def State.regRead (s : State) (a : Nat) (o : Origin) : State × Nat :=
  match pageAt a with
  | none => (s, 0)
  | some (c, i) => (s.readEffect c i (a % 4096) o, s.readWord c i (a % 4096))

end Sys2Proof.Machine
end

