-- ==== Sys2Proof/Machine/RegWrite.lean ====
section
/-! DEFINITION. Writes of the register window: the header, WE registers, and every register whose write has a rule of
its own; the others follow their access types (20_register_pages; R8–R14). -/

namespace Sys2Proof.Machine

/-- A write that a rule may refuse: performed, or counted in PG_ERR_CNT (R530). -/
def State.ifOk (s : State) (ok : Bool) (c : Cls) (i off : Nat) (t : State) : State := if ok then t else s.pgErr c i off

/-- Write one field by its access type (Table 0-4); a locked RWK field that would change is counted (R13). -/
def State.fieldWrite (s : State) (off : Nat) (w : Word) (h sel : Nat) (x : Fld × Nat) : State :=
  let f := x.1
  let v := vbits w (f.loAt x.2) f.width
  let old := s.fget f h x.2 0 sel
  match f.acc with
  | .rw => s.fset f v h x.2 0 sel
  | .w1c => s.fset f (old - (old &&& v)) h x.2 0 sel
  | .w1s => s.fset f (old ||| v) h x.2 0 sel
  | .rwk => if s.fbit (F.HDR.PG_LOCK.UNLOCKED f.cls) h then s.fset f v h x.2 0 sel
            else if v = old then s else s.pgErr f.cls h off
  | _ => s

/-- A write of a register without a rule of its own (R10, R12). -/
def State.plainWrite (s : State) (c : Cls) (i off : Nat) (w : Word) : State :=
  match s.fieldHome c i off with
  | none => s
  | some (h, sel) => (regFields c off).foldl (fun a x => a.fieldWrite off w h sel x) s

/-! ### The header (Table 20-3) -/

/-- The page key of a lockable class (Table 20-2). -/
def pageKey (c : Cls) : Nat := 0xA5C30000 + c.code

/-- A write of PG_CTL: EN and EPOCH_SEL, and DRAIN_REQ when it is written as 1 (R527). -/
def State.pgCtl (s : State) (c : Cls) (i : Nat) (w : Word) : State :=
  let s1 := (s.fset (F.HDR.PG_CTL.EN c) (vbits w 0 1) i).fset (F.HDR.PG_CTL.EPOCH_SEL c) (vbits w 2 1) i
  if w.getLsbD 1 then
    let s2 := (s1.fput (F.HDR.PG_CTL.DRAIN_REQ c) true i).fput (F.HDR.PG_STS.QUIET c) false i
    { s2 with net := { s2.net with drain := tset 0 s2.net.drain (pageNo c i) (1 + s2.tick.weNext) } }
  else s1

/-- A write of PG_INT_SET sets implemented causes; GLB bit 2 is a level (R528). -/
def State.pgIntSet (s : State) (c : Cls) (i : Nat) (w : Word) : State :=
  let m := if c = .glb then 0x11 else intBits c
  s.fset (F.HDR.PG_INT_STS.INT c) (s.fget (F.HDR.PG_INT_STS.INT c) i ||| (vbits w 0 8 &&& m)) i

/-- A write of PG_ERR_FIRST.CLEAR empties CODE, INJ, INFO0 and INFO1 (Table 20-3). -/
def State.pgErrClear (s : State) (c : Cls) (i : Nat) (w : Word) : State :=
  if w.getLsbD 31 then
    (((s.fset (F.HDR.PG_ERR_FIRST.CODE c) 0 i).fset (F.HDR.PG_ERR_FIRST.INJ c) 0 i).fset (F.HDR.PG_ERR_INFO0.INFO0 c) 0 i).fset
      (F.HDR.PG_ERR_INFO1.INFO1 c) 0 i
  else s

/-- A write of PG_LOCK: the key unlocks, any other value locks; no effect where LOCKABLE is 0 (R13, R532). -/
def State.pgLock (s : State) (c : Cls) (i : Nat) (w : Word) : State :=
  if lockableCls c then s.fput (F.HDR.PG_LOCK.UNLOCKED c) (w.toNat == pageKey c) i else s

/-- A write in the common header. -/
def State.hdrWrite (s : State) (c : Cls) (i off : Nat) (w : Word) : State :=
  match off with
  | 0x008 => s.pgCtl c i w
  | 0x018 => s.pgIntSet c i w
  | 0x01C => s.pgErrClear c i w
  | 0x02C => s.pgLock c i w
  | _ => s.plainWrite c i off w

/-! ### WE registers (R533) -/

/-- A register holds WE fields. -/
def weReg (c : Cls) (off : Nat) : Bool := (regFields c off).any (fun x => x.1.acc = .we)

/-- RING_SVC may take a value: some bit set, and every ring added is OUT and READY (R103). -/
def State.ringSvcOk (s : State) (v act : Nat) : Bool :=
  v != 0 && (List.range 9).all (fun r =>
    !(nbit v r && !nbit (s.fget F.GLB.RING_SVC.SVC 0 0 act) r) || (s.ringState r == 3 && s.fbit F.RING.RING_STS.READY r))

/-- The meter parameters a write would leave in a bank are allowed (R214). -/
def State.meterWriteOk (s : State) (off h sel bank : Nat) (w : Word) : Bool :=
  let g := fun (f : Fld) => if f.off = off then vbits w 0 f.width else s.fget f h 0 bank sel
  ratesOk (g F.STOP.METER_CIR.CIR, g F.STOP.METER_PIR.PIR, g F.STOP.METER_CBS.CBS, g F.STOP.METER_PBS.PBS)

/-- The window a write would leave in a bank is aligned and large enough (R302). -/
def State.windowWriteOk (s : State) (off h sel bank : Nat) (w : Word) : Bool :=
  let g := fun (f : Fld) => (if f.off = off then vbits w f.lo f.width else s.fget f h 0 bank sel) * 2 ^ f.lo
  let base := g F.STOP.WIN_BASE_LO.BASE_LO + 2 ^ 32 * g F.STOP.WIN_BASE_HI.BASE_HI
  let xbase := g F.STOP.WIN_XBASE_LO.XBASE_LO + 2 ^ 32 * g F.STOP.WIN_XBASE_HI.XBASE_HI
  let size := g F.STOP.WIN_CTL.SIZE / 8
  (off != 0x654 || 12 ≤ size) && base % 2 ^ size == 0 && xbase % 2 ^ size == 0

/-- A WE write passes the range checks of its rule (R103, R214, R226, R230, R302, R303). -/
def State.weOk (s : State) (c : Cls) (i off h sel bank : Nat) (w : Word) : Bool :=
  match c with
  | .glb => off != 0x160 || s.ringSvcOk (vbits w 0 9) (1 - bank)
  | .stop =>
    if 0x200 ≤ off ∧ off ≤ 0x2EC then vbits w 0 6 ≤ 59
    else if 0x488 ≤ off ∧ off ≤ 0x494 then s.meterWriteOk off h sel bank w
    else if 0x644 ≤ off ∧ off ≤ 0x654 then s.windowWriteOk off h sel bank w
    else true
  | .gate =>
    if gateOff off then
      s.fget F.GATE.LIST_STS.PEND i 0 0 (sel / 256 * 256) == 0
      && (off != 0x108 || (1 ≤ vbits w 0 9 && vbits w 0 9 ≤ 256)) && (off != 0x118 || vbits w 0 16 != 0)
    else true
  | .mem => off != 0x11C || vbits w 0 2 != 3
  | _ => true

/-- Keys written while a BANK_SYNC is in progress (R535). -/
def State.syncNote (s : State) (ks : List Nat) : State := { s with tick := { s.tick with syncNew := s.tick.syncNew ++ ks } }

/-- A WE write: the WE fields of the inactive bank take the value; a gate list recomputes (R48, R221, R533). -/
def State.weWrite (s : State) (c : Cls) (i off : Nat) (w : Word) (o : Origin) : State :=
  match s.fieldHome c i off with
  | none => s
  | some (h, sel) =>
    let bank := 1 - s.bankAt (ownerNode c i)
    if !s.fbit F.GLB.EPOCH_STS.INACTIVE_OPEN || !s.weOk c i off h sel bank w then s.pgErr c i off
    else
      let wes := (regFields c off).filter (fun x => x.1.acc = .we)
      let s1 := wes.foldl (fun a x => a.fset x.1 (vbits w (x.1.loAt x.2) x.1.width) h x.2 bank sel) s
      let s1 := if s.fbit F.GLB.BANK_SYNC.BUSY then s1.syncNote (wes.map (fun x => x.1.key h x.2 bank sel)) else s1
      let s2 := if c = .gate ∧ gateOff off then s1.gateRecompute i (sel / 256) else s1
      s2.weIssue (pageNo c i) off o (if c = .gate then sel / 256 else 0)

/-! ### Registers with rules of their own, by page -/

/-- A write of QMAP_DATA is performed while the engine it names is FAILED or no engine holds the queue (R328); it goes to
both copies. -/
def State.qmapWrite (s : State) (w : Word) : State :=
  let q := s.fget F.GLB.QMAP_SEL.QUEUE
  s.ifOk (s.engState (s.qmap q) == 3 || !s.queueHeld q) .glb 0 0x184
    ((s.fset F.GLB.QMAP_DATA.ENGINE (vbits w 0 3) 0 0 0 q).setQmapCopy q (vbits w 0 3))

/-- A write of WS_CTL is performed while EN is 0 or when it sets EN to 0, with LEN in range (R441); a schedule that is
disabled has no open window. -/
def State.wsCtl (s : State) (w : Word) : State :=
  let j := s.fget F.GLB.WS_SEL.SCHED
  let n := vbits w 0 28
  s.ifOk ((!s.fbit F.GLB.WS_CTL.EN 0 0 0 j || !w.getLsbD 31) && n != 0 && n ≤ 134217728) .glb 0 0x324
    (({ s with cnt := { s.cnt with wsCur := tset {} s.cnt.wsCur j {} } } : State).plainWrite .glb 0 0x324 w)

/-- A write of CS_CFG is performed while no slice owns the set (R438); a set that becomes valid in the course of a window of
its schedule is FRESH in it (R441). -/
def State.csCfgWrite (s : State) (w : Word) : State :=
  let n := s.fget F.GLB.CS_SEL.SET
  if (s.setOwner n).isSome then s.pgErr .glb 0 0x344
  else
    let s1 := s.plainWrite .glb 0 0x344 w
    if s.fbit F.GLB.CS_CFG.V 0 0 0 n ∨ !w.getLsbD 18 then s1
    else
      let c := { tget {} s1.cnt.cset n with fresh := s1.windowAt (vbits w 14 4) (s1.nodeTick 60) }
      { s1 with cnt := { s1.cnt with cset := tset {} s1.cnt.cset n c } }

def State.glbWrite (s : State) (off : Nat) (w : Word) (o : Origin) : State :=
  let plain := s.plainWrite .glb 0 off w
  let ok := fun (b : Bool) => s.ifOk b .glb 0 off plain
  match off with
  | 0x104 => if w.getLsbD 0 then s.bankSync else s
  | 0x140 => s.epochCtlWrite o w
  | 0x184 => s.qmapWrite w
  | 0x1C4 => s.pbDbase w
  | 0x1C8 => s.pbDcnt w
  | 0x1E0 => if w.getLsbD 0 then s.pbUpdate else s
  | 0x200 => s.flCmd (vbits w 0 3)
  | 0x204 | 0x208 | 0x214 | 0x218 | 0x21C | 0x220 | 0x224 | 0x228 | 0x22C | 0x230 => ok (!s.fbit F.GLB.FL_STS.BUSY)
  | 0x234 => s.flOffWrite w
  | 0x238 => s.flDataWrite w
  | 0x280 => s.spinePwr w
  | 0x284 => s.corePwr w
  | 0x288 => ok (vbits w 1 5 ≤ 16)
  | 0x28C | 0x290 => ok (vbits w 0 16 != 0)
  | 0x300 => s.freezeWrite w
  | 0x324 => s.wsCtl w
  | 0x328 | 0x32C => ok (!s.fbit F.GLB.WS_CTL.EN 0 0 0 (s.fget F.GLB.WS_SEL.SCHED))
  | 0x340 => s.csSel w
  | 0x344 => s.csCfgWrite w
  | 0x488 => if w.getLsbD 0 then s.erqPop else s
  | 0x4C0 => s.isoCtl w
  | 0x4E0 => s.testKey w
  | 0x500 => if w.getLsbD 0 then s.goService else s
  | 0x508 => if vbits w 0 16 = 0xFAB0 ∧ w.getLsbD 16 then s.fabricResetAsk else s
  | _ => plain

def State.tickWrite (s : State) (off : Nat) (w : Word) : State :=
  match off with
  | 0x100 => (s.fset F.TICK.TICK_CTL.HOLD_EN (vbits w 1 1)).tickEnable (w.getLsbD 0)
  | 0x110 =>
    let n := vbits w 0 12
    s.ifOk (500 ≤ n && (n ≤ 550 || !(s.fbit F.GLB.SPINE_PWR.STATE || s.fbit F.GLB.SPINE_PWR.BUSY))) .tick 0 off
      (s.plainWrite .tick 0 off w)
  | _ => s.plainWrite .tick 0 off w

/-- RING_CTL, TEST_CTL (R115). -/
def State.ringWrite (s : State) (r off : Nat) (w : Word) : State :=
  match off with
  | 0x100 => s.ifOk (vbits w 0 3 ≤ 4) .ring r off ((s.fset F.RING.RING_CTL.FENCE_EN (vbits w 3 1) r).ringCmd r (vbits w 0 3))
  | 0x11C =>
    s.ifOk (1 ≤ vbits w 0 6 && vbits w 0 6 ≤ 30 && vbits w 8 8 != 0) .ring r off
      ((s.ringKeep r [2, 3]).plainWrite .ring r off w)
  | 0x108 => (s.ringKeep r [0]).plainWrite .ring r off w
  | 0x10C => (s.ringKeep r [1]).plainWrite .ring r off w
  | _ => s.plainWrite .ring r off w

/-- The pool limits a write would leave are allowed (R151). -/
def State.poolOk (s : State) (k off : Nat) (w : Word) : Bool :=
  let at' := fun (f : Fld) (c lo : Nat) => if f.offAt c = off then vbits w lo 11 else s.fget f k c
  let mins := (List.range 4).map (fun c => at' F.STOP.POOL_CLS.MIN c 0)
  let maxs := (List.range 4).map (fun c => at' F.STOP.POOL_CLS.MAX c 16)
  mins.foldl (· + ·) 0 ≤ 1536 && (List.range 4).all (fun c => mins.getD c 0 ≤ maxs.getD c 0 && maxs.getD c 0 ≤ 1536)
  && at' F.STOP.NP_MAX 0 0 ≤ 1536

/-- The spill quotas of a sector fit the channel's share in 4 KiB units, and no spill of the sector is in use (R291). -/
def State.spillQOk (s : State) (k l : Nat) (w : Word) : Bool :=
  let x := sectorOf k
  let q := fun (i : Nat) =>
    let p := 7 * x + i / 4
    if p = k ∧ i % 4 = l then vbits w 0 14 + vbits w 16 14
    else s.fget F.STOP.SPILL_Q.HOLD_Q p (i % 4) + s.fget F.STOP.SPILL_Q.FLUSH_Q p (i % 4)
  ((List.range 16).map q).foldl (· + ·) 0 * 256 ≤ s.fget F.MEM.MAP_SPILL.ROWS x * 7 / 8
  && (List.range 20).all (fun i => (s.spill (7 * x + i / 4) (i % 4)).isEmpty)

/-- A write of PORT_CFG that changes BIF needs STARTUP or TEST and every link DOWN (R232). -/
def State.portCfgOk (s : State) (k : Nat) (w : Word) : Bool :=
  vbits w 0 2 == s.portBif k
  || ((s.modeNow k == 0 || s.modeNow k == 2) && (List.range 4).all (fun l => s.linkState k l == 0))

/-- Largest and smallest completion timeout (R180, R336, R502). -/
def ctoOk (w : Word) : Bool := 32 ≤ w.toNat && w.toNat ≤ 16000000

def State.stopWrite (s : State) (k off : Nat) (w : Word) : State :=
  let plain := s.plainWrite .stop k off w
  let ok := fun (b : Bool) => s.ifOk b .stop k off plain
  if (s.fieldHome .stop k off).isNone then s
  else match off with
  | 0x300 => plain.resService k
  | 0x304 | 0x308 | 0x30C | 0x310 | 0x314 => ok (s.poolOk k off w)
  | 0x388 | 0x38C | 0x390 | 0x394 => ok (ctoOk w)
  | 0x398 | 0x39C => ok (w.toNat ≤ 16777215)
  | 0x400 =>
    let n := vbits w 0 7
    let b := vbits w 8 5
    s.ifOk (2 ≤ n && n ≤ 64 && 1 ≤ b && b ≤ 16) .stop k off (plain.fset F.ARB.NTH_POS 0 k)
  | 0x480 => s.meterSelWrite k w
  | 0x4B8 => ok (s.stopRuns k)
  | 0x4BC => s.bindWrite k w
  | 0x500 => ok (s.portCfgOk k w)
  | 0x504 => s.portModeWrite k w
  | 0x508 => s.ifOk (64 ≤ vbits w 0 8 && vbits w 0 8 < vbits w 8 8 && vbits w 8 8 ≤ 128) .stop k off (plain.xoffAll k)
  | 0x550 | 0x554 | 0x558 | 0x55C => ok (s.spillQOk k ((off - 0x550) / 4) w)
  | 0x570 => s.spareWrite k w
  | 0x620 | 0x624 | 0x628 | 0x62C => ok (s.linkState k ((off - 0x620) / 4) == 0 || s.modeNow k == 0)
  | _ => plain

/-- Counter-block registers (R425, R428): MODE 3 is refused, CNT_LO waits for CNT_HI. -/
def State.cbWrite (s : State) (c : Cls) (i off : Nat) (w : Word) : State :=
  let b := off - cbBase c
  if 0x010 ≤ b ∧ b < 0x030 then s.ifOk (vbits w 12 2 != 3) c i off (s.plainWrite c i off w)
  else if 0x040 ≤ b ∧ b < 0x080 then
    if b % 8 = 0 then s.cntLoWrite c i ((b - 0x40) / 8) w else s.cntHiWrite c i ((b - 0x40) / 8) w
  else s.plainWrite c i off w

def State.memWrite (s : State) (c off : Nat) (w : Word) : State :=
  match off with
  | 0x100 => s.chCtl c w (vbits w 0 2)
  | 0x10C => s.ifOk (vbits w 0 16 != 0) .mem c off (s.plainWrite .mem c off w)
  | 0x114 =>
    s.ifOk (s.fabState == 0) .mem c off
      ((s.plainWrite .mem c off w).fset F.MEM.POOL_UNITS (poolUnits (vbits w 0 20)) c)
  | 0x194 => if w.getLsbD 0 then s.xltUpdate c else s
  | 0x1A8 => if w.getLsbD 0 then s.directRead c else s
  | _ => s.plainWrite .mem c off w

def State.engWriteReg (s : State) (e off : Nat) (w : Word) : State :=
  let ok := fun (b : Bool) => s.ifOk b .eng e off (s.plainWrite .eng e off w)
  match off with
  | 0x100 => s.engCtl e (vbits w 0 3) (vbits w 8 8)
  | 0x108 => ok (1 ≤ vbits w 0 8 && vbits w 0 8 ≤ 200)
  | 0x10C => ok (64 ≤ vbits w 0 13 && vbits w 0 13 ≤ 4096)
  | 0x110 => ok (ctoOk w)
  | 0x118 => s.qcCmd e (vbits w 0 3)
  | 0x184 => ok (s.sliceState (s.fget F.ENG.SW_IDX e) == 0)
  | _ => s.plainWrite .eng e off w

def State.sliceWrite (s : State) (x off : Nat) (w : Word) : State :=
  let ok := fun (b : Bool) => s.ifOk b .slice x off (s.plainWrite .slice x off w)
  if 0x810 ≤ off ∧ off ≤ 0x82C then ok (s.sliceState x == 0)
  else match off with
  | 0x104 => s.doorbellWrite x (vbits w 0 16) (vbits w 16 8)
  | 0x130 =>
    let s1 := s.fset F.SLICE.EVT_CFG.EN (vbits w 0 1) x
    if w.getLsbD 1 then s1.evtRearm x else s1
  | 0x140 => s.mtrSel x (vbits w 0 14)
  | 0x200 => s.tcSel x w
  | 0x800 => s.sliceCmd x (vbits w 0 4)
  | 0x808 => ok (vbits w 8 8 != 0)
  | _ => s.plainWrite .slice x off w

/-- PWR registers: TARGET, changes of a threshold, direction or enable, which blank their comparators (R410), and I_EST
(Table 15-7). -/
def State.pwrWrite (s : State) (x off : Nat) (w : Word) : State :=
  let plain := s.plainWrite .pwr x off w
  let diff := (s.storedWord .pwr x off) ^^^ (plain.storedWord .pwr x off)
  let blank := fun (n first w : Nat) => (List.range n).foldl (fun (a : State) c =>
    if nbits diff (c * w) w = 0 then a else a.blankNow x (first + c)) plain
  match off with
  | 0x100 => s.psTarget x (vbits w 0 2) w
  | 0x10C => blank 32 8 1
  | 0x110 => (List.range 32).foldl (fun (a : State) c => if nbits diff (c / 8 * 8) 8 = 0 then a else a.blankNow x (8 + c)) plain
  | 0x118 => blank 2 0 8
  | 0x11C => blank 4 2 8
  | 0x138 => s.ifOk (s.pwrPhase x == 0) .pwr x off plain
  | _ => plain

/-- A unit is armed: its seen and fired counts start again (R476). -/
def State.fiArm (s : State) (pg u : Nat) : State := s.fiSet pg u { s.fiUnit pg u with seen := 0, fired := 0 }

/-- FI unit registers: refused while TEST is locked, while the unit is armed (but for disarming), or out of range
(R475, R479). -/
def State.fiWrite (s : State) (pg off : Nat) (w : Word) : State :=
  let u := s.fget F.FI.FI_SEL.UNIT pg
  let plain := s.plainWrite .fi pg off w
  let lim := if pg = 0 then 1383 else 33023
  let range := match off with
    | 0x114 => vbits w 0 16 ≤ lim && vbits w 16 16 ≤ lim
    | 0x118 => vbits w 0 8 != 0 && (pg != 0 || vbits w 0 8 ≤ 64)
    | _ => true
  let armed := s.fbit F.FI.FI_CTL.ARM pg 0 0 u
  if off < 0x104 ∨ (regFields .fi off).isEmpty then plain
  else if !s.fbit F.GLB.TEST_STS.UNLOCKED then s.pgErr .fi pg off
  else if !fiPresent pg u then s
  else if armed && !(off == 0x104 && !w.getLsbD 4) || !range then s.pgErr .fi pg off
  else if off = 0x104 ∧ w.getLsbD 4 then plain.fiArm pg u
  else plain

/-- CTL registers (Table 18-2, R502). -/
def State.ctlWrite (s : State) (off : Nat) (w : Word) : State :=
  match off with
  | 0x104 =>
    if vbits w 4 3 = 0 then s.pgErr .ctl 0 off
    else
      let s1 := (s.fset F.CTL.CORE_CTL.HB_EN (vbits w 2 1)).fset F.CTL.CORE_CTL.HB_LIM (vbits w 4 3)
      let s2 := if w.getLsbD 0 then s1.coreRst 0 else s1
      if w.getLsbD 1 then s2.coreRst 1 else s2
  | 0x108 => s.hoWrite w
  | 0x120 => s.ifOk (ctoOk w) .ctl 0 off (s.plainWrite .ctl 0 off w)
  | _ => s.plainWrite .ctl 0 off w

def State.mboxWrite (s : State) (m off : Nat) (w : Word) : State :=
  if off = 0x100 then s.mbCtl m w
  else if 0x800 ≤ off then s.ifOk (!s.fbit F.MBOX.MB_STS.OWNER m) .mbox m off (s.plainWrite .mbox m off w)
  else s.plainWrite .mbox m off w

/-- HOME and SHD after a write are not both non-empty and overlapping or apart (Table 19-7). -/
def State.homeOk (s : State) (off : Nat) (w : Word) : Bool :=
  let g := fun (b n : Fld) (r : Nat) => if r = off then (vbits w 0 12, vbits w 16 13) else (s.fget b, s.fget n)
  let h := g F.PAIR.HOME.BASE F.PAIR.HOME.CNT 0x108
  let d := g F.PAIR.SHD.BASE F.PAIR.SHD.CNT 0x10C
  !s.fbit F.PAIR.PAIR_CTL.MIRROR
  && (h.2 == 0 || d.2 == 0 || h.1 + h.2 == d.1 || d.1 + d.2 == h.1)

def State.pairWriteReg (s : State) (off : Nat) (w : Word) : State :=
  let plain := s.plainWrite .pair 0 off w
  if 0x140 ≤ off ∧ off ≤ 0x33C then s.ifOk (!s.fbit F.PAIR.PAIR_CTL.MIRROR) .pair 0 off plain
  else match off with
  | 0x100 => s.pairCtl w
  | 0x108 | 0x10C => s.ifOk (s.homeOk off w) .pair 0 off plain
  | 0x118 => if w.getLsbD 0 then s.pairMark else s
  | 0x11C => s.tkoWrite w
  | 0x124 => if w.getLsbD 0 then s.rsyncGo else s
  | 0x128 => s.pwake (vbits w 0 8)
  | _ => plain

/-- A write of a register that is neither in the header nor banked. -/
def State.ownWriteReg (s : State) (c : Cls) (i off : Nat) (w : Word) (o : Origin) : State :=
  if hasBlock c ∧ cbBase c ≤ off ∧ off < cbBase c + 0x100 then s.cbWrite c i off w
  else match c with
  | .glb => s.glbWrite off w o
  | .tick => s.tickWrite off w
  | .ring => s.ringWrite i off w
  | .stop => s.stopWrite i off w
  | .arb => if off = 0x110 then s.rqSelWrite i w else s.plainWrite .arb i off w
  | .gate =>
    if off = 0x100 then
      s.ifOk (vbits w 0 8 ≤ 200 && 250 ≤ vbits w 16 11 && vbits w 16 11 ≤ 1100) .gate i off (s.plainWrite .gate i off w)
    else s.plainWrite .gate i off w
  | .mem => s.memWrite i off w
  | .eng => s.engWriteReg i off w
  | .slice => s.sliceWrite i off w
  | .pwr => s.pwrWrite i off w
  | .xb => if off = 0x100 then s.xbSel i w else s.plainWrite .xb i off w
  | .fi => s.fiWrite i off w
  | .ctl => s.ctlWrite off w
  | .mbox => s.mboxWrite i off w
  | .pair => s.pairWriteReg off w
  | .pmu | .repl => s.plainWrite c i off w

/-- A write to a page. -/
def State.pageWrite (s : State) (c : Cls) (i off : Nat) (w : Word) (o : Origin) : State :=
  let s1 := if off = 0x008 then s else s.touch c i
  if off < 0x040 then s1.hdrWrite c i off w
  else if weReg c off then s1.weWrite c i off w o
  else s1.ownWriteReg c i off w o

/-- An aligned 32-bit write at a window offset. -/
def State.regWrite (s : State) (a : Nat) (w : Word) (o : Origin) : State :=
  match pageAt a with
  | none => s
  | some (c, i) => s.pageWrite c i (a % 4096) w o

/-- The write, and whether it was performed: a write that its page counts in PG_ERR_CNT was not (R530, Table 5-8). -/
def State.regWriteSts (s : State) (a : Nat) (w : Word) (o : Origin) : State × Bool :=
  match pageAt a with
  | none => (s, true)
  | some (c, i) =>
    let cnt := F.HDR.PG_ERR_CNT.CNT c
    let old := s.fget cnt i
    let s1 := (s.fset cnt 0 i).pageWrite c i (a % 4096) w o
    let n := s1.fget cnt i
    (s1.fset cnt (satAdd cnt.width old n) i, n == 0)

end Sys2Proof.Machine
end

