-- ==== Sys2Proof/Machine/RegBus.lean ====
section
/-! DEFINITION. Register accesses on their way: the management port, REG_ messages, tenant checks, drain reports and the
interrupt group (05_reservation R132, 12_slices_and_drydown R351, 20_register_pages R523–R532, 21_block_boundary). -/

namespace Sys2Proof.Machine

def originCode : Origin → Nat
  | .mgmt => 0 | .firmware => 1 | .tenant => 2
def originOf (n : Nat) : Origin := if n = 1 then .firmware else if n = 2 then .tenant else .mgmt

/-! ### REG_ messages (Table 5-8) -/

/-- REG_RD or REG_WR_A for a window offset. -/
def regMsg (sub dst src : Nat) (o : Origin) (tag a : Nat) : Msg :=
  mkCtrl sub dst src [(42, 2, originCode o), (39, 3, tag), (15, 24, a / 4)]

/-- REG_WR_D. -/
def regDataMsg (dst src tag : Nat) (w : Word) : Msg := mkCtrl 2 dst src [(39, 3, tag), (7, 32, w.toNat)]

/-- REG_RSP from owner `n`; STATUS 1 when the access was not performed. -/
def State.regRsp (s : State) (n dst tag : Nat) (ok : Bool) (data : Nat) : State :=
  s.send (mkCtrl 3 dst n [(42, 2, b2n (!ok)), (39, 3, tag), (7, 32, data)])

def msgTag (m : Msg) : Nat := vbits m 39 3
/-- The window offset that a message carries. -/
def msgOff (m : Msg) : Nat := 4 * vbits m 15 24

/-- Owner `n` holds the page of an offset. -/
def ownsOff (n a : Nat) : Bool :=
  match pageAt a with
  | some (c, i) => ownerNode c i == n
  | none => false

/-- REG_RD: the owner reads and answers; an offset outside its pages reads 0 (R10). -/
def execRegRd (n : Node) (m : Msg) (s : State) : Res :=
  let s1 := s.take n m
  if !msgOk m then .next (s1.msgBad n m)
  else if ownsOff n (msgOff m) then
    let r := s1.regRead (msgOff m) (originOf (vbits m 42 2))
    .next (r.1.regRsp n (msgSrc m) (msgTag m) true r.2)
  else .next (s1.regRsp n (msgSrc m) (msgTag m) true 0)

def Half.sameAs (h : Half) (n : Nat) (m : Msg) (isAddr : Bool) : Bool :=
  h.owner == n && h.sender == msgSrc m && h.tag == msgTag m && h.isAddr == isAddr

def State.setHalves (s : State) (l : List Half) : State := { s with net := { s.net with halves := l } }

/-- The owner performs a write whose halves have both arrived. -/
def State.performWrite (s : State) (n : Nat) (a d : Msg) : State :=
  if ownsOff n (msgOff a) then
    let r := s.regWriteSts (msgOff a) (BitVec.ofNat 32 (vbits d 7 32)) (originOf (vbits a 42 2))
    r.1.regRsp n (msgSrc a) (msgTag a) r.2 0
  else s.regRsp n (msgSrc a) (msgTag a) true 0

/-- One half of a write arrives: it waits for the other, or both are taken (R132). -/
def State.halfIn (s : State) (n : Nat) (m : Msg) (isAddr : Bool) : State :=
  match s.net.halves.find? (fun h => h.sameAs n m (!isAddr)) with
  | some h =>
    let s1 := s.setHalves (eraseFirst (fun g => g.sameAs n m (!isAddr)) s.net.halves)
    let other := BitVec.ofNat 64 h.body
    if isAddr then s1.performWrite n m other else s1.performWrite n other m
  | none => s.setHalves ((s.net.halves.filter (fun h => !h.sameAs n m isAddr)) ++ [⟨n, msgSrc m, msgTag m, isAddr, m.toNat, s.cycle⟩])

def execRegWrA (n : Node) (m : Msg) (s : State) : Res :=
  let s1 := s.take n m
  if !msgOk m then .next (s1.msgBad n m) else .next (s1.halfIn n m true)

def execRegWrD (n : Node) (m : Msg) (s : State) : Res :=
  let s1 := s.take n m
  if !msgOk m then .next (s1.msgBad n m) else .next (s1.halfIn n m false)

/-- A half alone at owner `n` for 256 cycles of the maintenance ring's clock (R132). -/
def State.halfOld (s : State) (n : Nat) (h : Half) : Bool := h.owner == n && h.since + 256 ≤ s.cycle

/-- REG_WR_HALF_TIMEOUT: the oldest half that has been alone at owner `n` for 256 cycles is discarded and answered with
STATUS 1 (R132). -/
def execRegWrHalfTimeout (n : Node) (s : State) : Res :=
  match s.net.halves.find? (s.halfOld n) with
  | none => .next s
  | some h => .next ((s.setHalves (eraseFirst (s.halfOld n) s.net.halves)).regRsp n h.sender h.tag false 0)

/-- The port that asked is given its response. -/
def State.respond (s : State) (n tag data : Nat) (err : Bool) : State :=
  { s with net := { s.net with rsp := tset none s.net.rsp n (some ⟨tag, data, err⟩) } }

/-- The response to an access that was not performed for a reason other than R9: the spec does not say whether it is an
error response, so MR_ERR is a free value. -/
def State.respondRefused (s : State) (n tag data : Nat) : State :=
  let r := s.fresh
  r.2.respond n tag data (r.1 % 2 == 1)

/-- REG_RSP: the sender's access with that tag completes. -/
def execRegRsp (n : Node) (m : Msg) (s : State) : Res :=
  let s1 := s.take n m
  if !msgOk m then .next (s1.msgBad n m)
  else
    let mine := fun (x : AccOut) => x.sender == n && x.tag == msgTag m
    let s2 : State := { s1 with net := { s1.net with accOut := eraseFirst mine s1.net.accOut } }
    .next (if vbits m 42 2 = 0 then s2.respond n (msgTag m) (vbits m 7 32) false
           else s2.respondRefused n (msgTag m) (vbits m 7 32))

/-! ### The management port (R9, R351, R525, R549) -/

/-- A tenant access is permitted: its own slice's page, a read of 0x000–0x02B or any access of the tenant area (R351). -/
def tenantOk (a x : Nat) (wr : Bool) : Bool :=
  match pageAt a with
  | some (.slice, i) => i == x && ((!wr && a % 4096 ≤ 0x02B) || (0x100 ≤ a % 4096 && a % 4096 ≤ 0x7FF))
  | _ => false

/-- Node 60 forwards an access to the owner of its page as REG_ messages. -/
def State.forward (s : State) (c : Cls) (i a : Nat) (wr : Bool) (w : Word) (o : Origin) (tag : Nat) : State :=
  let n := ownerNode c i
  let s1 : State := { s with net := { s.net with accOut := s.net.accOut ++ [⟨60, tag, o, a, wr⟩] } }
  if wr then (s1.send (regMsg 1 n 60 o tag a)).send (regDataMsg n 60 tag w) else s1.send (regMsg 0 n 60 o tag a)

/-- MGMT_REQUEST: taken while fewer than 8 accesses are outstanding and the MGMT bridge is READY. A tenant access that R351
does not permit is answered here; then a narrow or unaligned one (R9); an offset outside every page reads 0 (R523). -/
def execMgmtRequest (wr : Bool) (a : WinOff) (be : BitVec 4) (w : Word) (tenant : Bool) (x : SliceNo) (tag : Fin 8)
    (s : State) : Res :=
  let off := a.toNat
  if 8 ≤ (s.net.accOut.filter (fun y => y.sender == 60)).length || !s.xbReady mgmtBridge then .next s
  else if tenant && !tenantOk off x wr then
    .next ((s.send (mkCtrl 0xD 62 60 [(32, 12, x), (8, 24, off / 4), (7, 1, b2n wr)])).respondRefused 60 tag 0)
  else if be ≠ 0xF ∨ off % 4 ≠ 0 then
    let p := (pageAt off).getD (.glb, 0)
    .next ((s.pgErr p.1 p.2 (off % 4096)).respond 60 tag 0 true)
  else
    match pageAt off with
    | some (c, i) => .next (s.forward c i off wr w (if tenant then .tenant else .mgmt) tag)
    | none => .next (s.respond 60 tag 0 false)

/-- TENANT_ERR at the slice page owner (R351): counted and recorded in the page of the tenant's own slice. -/
def execTenantErr (m : Msg) (s : State) : Res :=
  let s1 := s.take 62 m
  if !msgOk m then .next (s1.msgBad 62 m)
  else
    let x := vbits m 32 12
    let a := 4 * vbits m 8 24
    let wr := vbits m 7 1
    let tgt := match pageAt a with | some (.slice, i) => i | _ => 0xFFF
    .next ((s1.pgErr .slice x (a % 4096)).record .slice x 0x83 (packBits [(0, 1, wr), (2, 24, a / 4)]) tgt)

/-! ### Accesses at the page (R11, R12, R529, R532, R533) -/

def execRegisterWrite (off : WinOff) (w : Word) (o : Origin) (s : State) : Res := .next (s.regWrite (off.toNat / 4 * 4) w o)
def execWeWrite (off : WinOff) (w : Word) (o : Origin) (s : State) : Res := .next (s.regWrite (off.toNat / 4 * 4) w o)
def execRcRead (off : WinOff) (o : Origin) (s : State) : Res := .next (s.regRead (off.toNat / 4 * 4) o).1
def execLowRegisterRead (off : WinOff) (o : Origin) (s : State) : Res := .next (s.regRead (off.toNat / 4 * 4) o).1

/-- WE_ACK (R389, R533): the oldest outstanding write to the register can be used in every domain. A gate list's write is
acknowledged when its recomputation ends (GATE_RECOMPUTE_DONE). -/
def execWeAck (off : WinOff) (s : State) : Res :=
  let a := off.toNat / 4 * 4
  match pageAt a with
  | some (c, i) => .next (if c = .gate ∧ gateOff (a % 4096) then s else s.weAck (pageNo c i) (a % 4096))
  | none => .next s

/-- A write at a header offset of the page that contains `off`. -/
def State.headerWrite (s : State) (off : WinOff) (reg : Nat) (w : Word) (o : Origin) : State :=
  s.regWrite (off.toNat / 4096 * 4096 + reg) w o

def execPgLockWrite (off : WinOff) (w : Word) (o : Origin) (s : State) : Res := .next (s.headerWrite off 0x02C w o)
def execPgErrClear (off : WinOff) (o : Origin) (s : State) : Res := .next (s.headerWrite off 0x01C 0x80000000 o)
def execPgIntSet (off : WinOff) (w : Word) (o : Origin) (s : State) : Res := .next (s.headerWrite off 0x018 w o)
def execDrainReq (off : WinOff) (w : Word) (o : Origin) (s : State) : Res := .next (s.headerWrite off 0x008 (w ||| 2) o)

/-! ### The drain report (R527) -/

/-- A command field of the page reads as in progress. -/
def State.cmdBusy (s : State) (c : Cls) (i : Nat) : Bool :=
  match c with
  | .glb => [F.GLB.EPOCH_CTL.REQ, F.GLB.FREEZE.ARM, F.GLB.SNAP.REQ, F.GLB.BANK_SYNC.BUSY, F.GLB.PB_STS.BUSY, F.GLB.FL_STS.BUSY,
      F.GLB.ISO_STS.BUSY, F.GLB.SPINE_PWR.BUSY, F.GLB.CORE_PWR.BUSY].any (fun f => s.fbit f)
  | .stop => s.fbit F.STOP.SPARE_CTL.GO i
  | .mem => s.fbit F.MEM.XLT_STS.BUSY i
  | .slice => s.fbit F.SLICE.MSTS.BUSY i
  | .ctl => s.fbit F.CTL.HO_CTL.GO
  | .mbox => s.fbit F.MBOX.MB_STS.OWNER i
  | .pair => s.fbit F.PAIR.MARK || s.fbit F.PAIR.TKO_STS.BUSY
  | _ => false

/-- QUIET is set once the writes accepted before the request have taken effect and no command is in progress. -/
def State.drainQuiet (s : State) (c : Cls) (i : Nat) : State :=
  let d := tget 0 s.net.drain (pageNo c i)
  let late := s.tick.weOut.any (fun w => w.page == pageNo c i && w.id + 1 < d)
  if !s.fbit (F.HDR.PG_CTL.DRAIN_REQ c) i || late || s.cmdBusy c i then s
  else
    let s1 := (s.fput (F.HDR.PG_CTL.DRAIN_REQ c) false i).fput (F.HDR.PG_STS.QUIET c) true i
    { s1 with net := { s1.net with drain := tset 0 s1.net.drain (pageNo c i) 0 } }

def execDrainQuiet (off : WinOff) (s : State) : Res :=
  match pageAt off.toNat with
  | some (c, i) => .next (s.drainQuiet c i)
  | none => .next s

/-! ### The interrupt group (R528, R552) -/

/-- The level last presented of a page's request. -/
def State.irqShown (s : State) (c : Cls) (i : Nat) : Bool := tget 0 s.irq.shown (c.code * 65536 + i) == 1

/-- A page whose request has changed presents its latest level, with CLASS and INSTANCE. -/
def State.irqPage (s : State) (c : Cls) (i : Nat) : State :=
  let lvl := s.irqReq c i
  if lvl == s.irqShown c i then s
  else
    { s with irq := { s.irq with
      shown := tset 0 s.irq.shown (c.code * 65536 + i) (b2n lvl),
      last := some ⟨0, c.code, if c = .glb then s.boot.instId else i, lvl⟩ } }

/-- The oldest pending SLICE_IRQ is presented. -/
def State.irqSlice (s : State) : State :=
  match s.irq.slices with
  | [] => s
  | x :: rest => { s with irq := { s.irq with slices := rest, last := some ⟨1, 0, x, true⟩ } }

/-- IRQ_ANY: a page request is asserted or a SLICE event is pending. -/
def State.irqAny (s : State) : Bool :=
  !s.irq.slices.isEmpty || allPages.any (fun p => (List.range p.2).any (fun i => s.irqReq p.1 i))

/-- IRQ_PRESENT: of the page that contains `page`, or, with none, of a slice. -/
def execIrqPresent (page : Option WinOff) (s : State) : Res :=
  match page with
  | none => .next s.irqSlice
  | some a =>
    match pageAt a.toNat with
    | some (c, i) => .next (s.irqPage c i)
    | none => .next s

/-! ### Messages without a listed SUB (R131) -/

/-- CTRL_SUB_UNLISTED: discarded and counted as a failed CHECK. -/
def execCtrlSubUnlisted (n : Node) (m : Msg) (s : State) : Res := .next ((s.take n m).msgBad n m)

end Sys2Proof.Machine
end

