-- ==== Sys2Proof/Machine/Dispatch.lean ====
section
/-! DEFINITION. One arm per command. -/

namespace Sys2Proof.Machine

def exec (i : Instr) (s : State) : Host.Outcome State Fault Refusal :=
  match i with
  | .coldReset => Sys2Proof.Machine.execColdReset s
  | .coldResetRelease keyHash instId => Sys2Proof.Machine.execColdResetRelease keyHash instId s
  | .fabricResetRequest o => Sys2Proof.Machine.execFabricResetRequest o s
  | .fabricResetEnter => Sys2Proof.Machine.execFabricResetEnter s
  | .fabricResetExit => Sys2Proof.Machine.execFabricResetExit s
  | .referenceTickEdge => Sys2Proof.Machine.execReferenceTickEdge s
  | .tickCalStart => Sys2Proof.Machine.execTickCalStart s
  | .tickCalDone => Sys2Proof.Machine.execTickCalDone s
  | .tickStopWrite => Sys2Proof.Machine.execTickStopWrite s
  | .tickMark n d m => Sys2Proof.Machine.execTickMark n d m s
  | .localTickBoundary n unfinished beats => Sys2Proof.Machine.execLocalTickBoundary n unfinished beats s
  | .tickSlip n => Sys2Proof.Machine.execTickSlip n s
  | .tickrefLoss => Sys2Proof.Machine.execTickrefLoss s
  | .holdoverTick => Sys2Proof.Machine.execHoldoverTick s
  | .tickrefReturn => Sys2Proof.Machine.execTickrefReturn s
  | .epochReq o w => Sys2Proof.Machine.execEpochReq o w s
  | .epochCancel => Sys2Proof.Machine.execEpochCancel s
  | .weWrite off w o => Sys2Proof.Machine.execWeWrite off w o s
  | .weAck off => Sys2Proof.Machine.execWeAck off s
  | .census n m => Sys2Proof.Machine.execCensus n m s
  | .oldEpochDrained => Sys2Proof.Machine.execOldEpochDrained s
  | .bankSync => Sys2Proof.Machine.execBankSync s
  | .bankSyncDone m => Sys2Proof.Machine.execBankSyncDone m s
  | .stationSlot k r d noise => Sys2Proof.Machine.execStationSlot k r d noise s
  | .slotRelease k r d => Sys2Proof.Machine.execSlotRelease k r d s
  | .slotMiss k r d => Sys2Proof.Machine.execSlotMiss k r d s
  | .fiHeldRelease k r d => Sys2Proof.Machine.execFiHeldRelease k r d s
  | .flitLanding k lane => Sys2Proof.Machine.execFlitLanding k lane s
  | .ackFlit k lane => Sys2Proof.Machine.execAckFlit k lane s
  | .ackDelayExpire k src => Sys2Proof.Machine.execAckDelayExpire k src s
  | .ackTimeout k d => Sys2Proof.Machine.execAckTimeout k d s
  | .overflowReadback k => Sys2Proof.Machine.execOverflowReadback k s
  | .arbiterDecision k => Sys2Proof.Machine.execArbiterDecision k s
  | .grantRecheck k => Sys2Proof.Machine.execGrantRecheck k s
  | .bridgeCreditReturn k r d => Sys2Proof.Machine.execBridgeCreditReturn k r d s
  | .slotSettle k => Sys2Proof.Machine.execSlotSettle k s
  | .egressSend k l => Sys2Proof.Machine.execEgressSend k l s
  | .credit n m => Sys2Proof.Machine.execCredit n m s
  | .resReq n m => Sys2Proof.Machine.execResReq n m s
  | .resGrantDecision d => Sys2Proof.Machine.execResGrantDecision d s
  | .resGnt n m => Sys2Proof.Machine.execResGnt n m s
  | .resReqRetry k d c => Sys2Proof.Machine.execResReqRetry k d c s
  | .floorRecall n m => Sys2Proof.Machine.execFloorRecall n m s
  | .surrender n m => Sys2Proof.Machine.execSurrender n m s
  | .floorReissue n m => Sys2Proof.Machine.execFloorReissue n m s
  | .floorSyncReq n m => Sys2Proof.Machine.execFloorSyncReq n m s
  | .regRd n m => Sys2Proof.Machine.execRegRd n m s
  | .regWrA n m => Sys2Proof.Machine.execRegWrA n m s
  | .regWrD n m => Sys2Proof.Machine.execRegWrD n m s
  | .regWrHalfTimeout n => Sys2Proof.Machine.execRegWrHalfTimeout n s
  | .regRsp n m => Sys2Proof.Machine.execRegRsp n m s
  | .mgmtRequest wr a be w tenant x tag => Sys2Proof.Machine.execMgmtRequest wr a be w tenant x tag s
  | .tenantErr m => Sys2Proof.Machine.execTenantErr m s
  | .registerWrite off w o => Sys2Proof.Machine.execRegisterWrite off w o s
  | .rcRead off o => Sys2Proof.Machine.execRcRead off o s
  | .lowRegisterRead off o => Sys2Proof.Machine.execLowRegisterRead off o s
  | .pgLockWrite off w o => Sys2Proof.Machine.execPgLockWrite off w o s
  | .pgErrClear off o => Sys2Proof.Machine.execPgErrClear off o s
  | .pgIntSet off w o => Sys2Proof.Machine.execPgIntSet off w o s
  | .drainReq off w o => Sys2Proof.Machine.execDrainReq off w o s
  | .drainQuiet off => Sys2Proof.Machine.execDrainQuiet off s
  | .irqPresent page => Sys2Proof.Machine.execIrqPresent page s
  | .ringCal r => Sys2Proof.Machine.execRingCal r s
  | .ringTest r => Sys2Proof.Machine.execRingTest r s
  | .ringFail r => Sys2Proof.Machine.execRingFail r s
  | .ringClear r => Sys2Proof.Machine.execRingClear r s
  | .ringCalDone r cyc0 cyc1 m0 m1 w0 w1 => Sys2Proof.Machine.execRingCalDone r cyc0 cyc1 m0 m1 w0 w1 s
  | .ringTestStart r => Sys2Proof.Machine.execRingTestStart r s
  | .ringTestEnd r => Sys2Proof.Machine.execRingTestEnd r s
  | .ringThreshold r => Sys2Proof.Machine.execRingThreshold r s
  | .fence n m => Sys2Proof.Machine.execFence n m s
  | .fenceApply n r => Sys2Proof.Machine.execFenceApply n r s
  | .transactionFormed k => Sys2Proof.Machine.execTransactionFormed k s
  | .meterColour k rq => Sys2Proof.Machine.execMeterColour k rq s
  | .redRecolour k => Sys2Proof.Machine.execRedRecolour k s
  | .bindWrite k w => Sys2Proof.Machine.execBindWrite k w s
  | .gateAdvance k => Sys2Proof.Machine.execGateAdvance k s
  | .gateRecomputeDone k => Sys2Proof.Machine.execGateRecomputeDone k s
  | .tlpReceived k l t => Sys2Proof.Machine.execTlpReceived k l t s
  | .ingressCheck k l p => Sys2Proof.Machine.execIngressCheck k l p s
  | .xltFillDone x => Sys2Proof.Machine.execXltFillDone x s
  | .xltFillTimeout x => Sys2Proof.Machine.execXltFillTimeout x s
  | .bindFillDone x => Sys2Proof.Machine.execBindFillDone x s
  | .txCreditUpdate k l p n => Sys2Proof.Machine.execTxCreditUpdate k l p n s
  | .stallChange k l level => Sys2Proof.Machine.execStallChange k l level s
  | .pause k l => Sys2Proof.Machine.execPause k l s
  | .resume k l => Sys2Proof.Machine.execResume k l s
  | .down k l => Sys2Proof.Machine.execDown k l s
  | .returnKept k l => Sys2Proof.Machine.execReturnKept k l s
  | .returnFresh k l => Sys2Proof.Machine.execReturnFresh k l s
  | .portModeWrite k w => Sys2Proof.Machine.execPortModeWrite k w s
  | .portModeChange k => Sys2Proof.Machine.execPortModeChange k s
  | .linkNotice n m => Sys2Proof.Machine.execLinkNotice n m s
  | .linkNoticeApply n => Sys2Proof.Machine.execLinkNoticeApply n s
  | .spillAge k l => Sys2Proof.Machine.execSpillAge k l s
  | .spillReadback k l => Sys2Proof.Machine.execSpillReadback k l s
  | .linkWatch k l => Sys2Proof.Machine.execLinkWatch k l s
  | .lockTimeout k l => Sys2Proof.Machine.execLockTimeout k l s
  | .atomEmuReadDone k l => Sys2Proof.Machine.execAtomEmuReadDone k l s
  | .spareClaimRepair k sock forced => Sys2Proof.Machine.execSpareClaimRepair k sock forced s
  | .spareClaimTest k => Sys2Proof.Machine.execSpareClaimTest k s
  | .spareGo k sock forced => Sys2Proof.Machine.execSpareGo k sock forced s
  | .spareReturn k forced => Sys2Proof.Machine.execSpareReturn k forced s
  | .cplLanding k => Sys2Proof.Machine.execCplLanding k s
  | .tagDeadlinePassed k t => Sys2Proof.Machine.execTagDeadlinePassed k t s
  | .tagExpire k t => Sys2Proof.Machine.execTagExpire k t s
  | .quarantineEnd k t => Sys2Proof.Machine.execQuarantineEnd k t s
  | .completerRecordExpire k => Sys2Proof.Machine.execCompleterRecordExpire k s
  | .xltUpdate c => Sys2Proof.Machine.execXltUpdate c s
  | .xltInv n m => Sys2Proof.Machine.execXltInv n m s
  | .invAck n m => Sys2Proof.Machine.execInvAck n m s
  | .pbUpdate => Sys2Proof.Machine.execPbUpdate s
  | .pbInv n m => Sys2Proof.Machine.execPbInv n m s
  | .pbDcntWrite w => Sys2Proof.Machine.execPbDcntWrite w s
  | .memRequest c => Sys2Proof.Machine.execMemRequest c s
  | .memResponse c t d ue => Sys2Proof.Machine.execMemResponse c t d ue s
  | .parityDelta c => Sys2Proof.Machine.execParityDelta c s
  | .rowRead c => Sys2Proof.Machine.execRowRead c s
  | .rowRelease c => Sys2Proof.Machine.execRowRelease c s
  | .reconstructDone c => Sys2Proof.Machine.execReconstructDone c s
  | .chFail c => Sys2Proof.Machine.execChFail c s
  | .chCmdFail c w => Sys2Proof.Machine.execChCmdFail c w s
  | .chCmdRebuild c w => Sys2Proof.Machine.execChCmdRebuild c w s
  | .chCmdClear c w => Sys2Proof.Machine.execChCmdClear c w s
  | .rebuildTick c => Sys2Proof.Machine.execRebuildTick c s
  | .ctrlReadyChange c level => Sys2Proof.Machine.execCtrlReadyChange c level s
  | .directRead c => Sys2Proof.Machine.execDirectRead c s
  | .directReadDone c => Sys2Proof.Machine.execDirectReadDone c s
  | .doorbellWrite x tail qoff => Sys2Proof.Machine.execDoorbellWrite x tail qoff s
  | .doorbell n m => Sys2Proof.Machine.execDoorbell n m s
  | .descFetchDone e => Sys2Proof.Machine.execDescFetchDone e s
  | .descStart e => Sys2Proof.Machine.execDescStart e s
  | .chunkReadDone e => Sys2Proof.Machine.execChunkReadDone e s
  | .descRetire e => Sys2Proof.Machine.execDescRetire e s
  | .completionEvent e => Sys2Proof.Machine.execCompletionEvent e s
  | .evtRearm x => Sys2Proof.Machine.execEvtRearm x s
  | .qcRead e => Sys2Proof.Machine.execQcRead e s
  | .qcWrite e => Sys2Proof.Machine.execQcWrite e s
  | .qcEnable e => Sys2Proof.Machine.execQcEnable e s
  | .qcDisable e => Sys2Proof.Machine.execQcDisable e s
  | .qcRestart e => Sys2Proof.Machine.execQcRestart e s
  | .engLeave e dest => Sys2Proof.Machine.execEngLeave e dest s
  | .engJoin e dest => Sys2Proof.Machine.execEngJoin e dest s
  | .engClear e dest => Sys2Proof.Machine.execEngClear e dest s
  | .engMoveq e dest => Sys2Proof.Machine.execEngMoveq e dest s
  | .contextSend e => Sys2Proof.Machine.execContextSend e s
  | .contextLand e => Sys2Proof.Machine.execContextLand e s
  | .qmapUpd n m => Sys2Proof.Machine.execQmapUpd n m s
  | .stubExpire e => Sys2Proof.Machine.execStubExpire e s
  | .engCtxUe e q => Sys2Proof.Machine.execEngCtxUe e q s
  | .push e => Sys2Proof.Machine.execPush e s
  | .replCopy => Sys2Proof.Machine.execReplCopy s
  | .sliceCreate x => Sys2Proof.Machine.execSliceCreate x s
  | .sliceDrydown x => Sys2Proof.Machine.execSliceDrydown x s
  | .sliceOpen x => Sys2Proof.Machine.execSliceOpen x s
  | .sliceReset x => Sys2Proof.Machine.execSliceReset x s
  | .sliceRemove x => Sys2Proof.Machine.execSliceRemove x s
  | .sliceFreeze x => Sys2Proof.Machine.execSliceFreeze x s
  | .sliceThaw x => Sys2Proof.Machine.execSliceThaw x s
  | .sliceForce x => Sys2Proof.Machine.execSliceForce x s
  | .sliceUpd n m => Sys2Proof.Machine.execSliceUpd n m s
  | .sliceUpdApply k => Sys2Proof.Machine.execSliceUpdApply k s
  | .unitRng n m => Sys2Proof.Machine.execUnitRng n m s
  | .dryReached x => Sys2Proof.Machine.execDryReached x s
  | .cleared x => Sys2Proof.Machine.execCleared x s
  | .drydownFlush k x => Sys2Proof.Machine.execDrydownFlush k x s
  | .mtrSelWrite x g => Sys2Proof.Machine.execMtrSelWrite x g s
  | .flSave => Sys2Proof.Machine.execFlSave s
  | .flLoad => Sys2Proof.Machine.execFlLoad s
  | .flRebind => Sys2Proof.Machine.execFlRebind s
  | .flCopy => Sys2Proof.Machine.execFlCopy s
  | .flDrop => Sys2Proof.Machine.execFlDrop s
  | .flOffWrite w => Sys2Proof.Machine.execFlOffWrite w s
  | .flDataWrite w => Sys2Proof.Machine.execFlDataWrite w s
  | .bridgeResync g b => Sys2Proof.Machine.execBridgeResync g b s
  | .clockSwitch => Sys2Proof.Machine.execClockSwitch s
  | .xbSelWrite b w => Sys2Proof.Machine.execXbSelWrite b w s
  | .psTargetRun x w => Sys2Proof.Machine.execPsTargetRun x w s
  | .psTargetTrim x w => Sys2Proof.Machine.execPsTargetTrim x w s
  | .psTargetDoze x w => Sys2Proof.Machine.execPsTargetDoze x w s
  | .psTargetOff x w => Sys2Proof.Machine.execPsTargetOff x w s
  | .pwrCmdClose n m => Sys2Proof.Machine.execPwrCmdClose n m s
  | .pwrCmdReopen n m => Sys2Proof.Machine.execPwrCmdReopen n m s
  | .pwrCmdEmpty n m => Sys2Proof.Machine.execPwrCmdEmpty n m s
  | .sectorEmpty x => Sys2Proof.Machine.execSectorEmpty x s
  | .closeTimeout x => Sys2Proof.Machine.execCloseTimeout x s
  | .wakeDemand x => Sys2Proof.Machine.execWakeDemand x s
  | .wakeSigdet x ch => Sys2Proof.Machine.execWakeSigdet x ch s
  | .wakeSupply x c => Sys2Proof.Machine.execWakeSupply x c s
  | .wakeTherm x c => Sys2Proof.Machine.execWakeTherm x c s
  | .wakeTimer x => Sys2Proof.Machine.execWakeTimer x s
  | .wakePair x => Sys2Proof.Machine.execWakePair x s
  | .governorInterval => Sys2Proof.Machine.execGovernorInterval s
  | .svokAsserted x => Sys2Proof.Machine.execSvokAsserted x s
  | .svokTimeout x => Sys2Proof.Machine.execSvokTimeout x s
  | .svokLost x => Sys2Proof.Machine.execSvokLost x s
  | .transitionDone x => Sys2Proof.Machine.execTransitionDone x s
  | .spinePwrWrite w => Sys2Proof.Machine.execSpinePwrWrite w s
  | .corePwrWrite w => Sys2Proof.Machine.execCorePwrWrite w s
  | .lsgSet n m => Sys2Proof.Machine.execLsgSet n m s
  | .snapReq => Sys2Proof.Machine.execSnapReq s
  | .freezeArm => Sys2Proof.Machine.execFreezeArm s
  | .freezeRelease => Sys2Proof.Machine.execFreezeRelease s
  | .cntHiWrite c inst e w => Sys2Proof.Machine.execCntHiWrite c inst e w s
  | .rqSelWrite k w => Sys2Proof.Machine.execRqSelWrite k w s
  | .meterSelWrite k w => Sys2Proof.Machine.execMeterSelWrite k w s
  | .csSelWrite w => Sys2Proof.Machine.execCsSelWrite w s
  | .tcSelWrite x w => Sys2Proof.Machine.execTcSelWrite x w s
  | .windowClose j => Sys2Proof.Machine.execWindowClose j s
  | .sbSelect sel => Sys2Proof.Machine.execSbSelect sel s
  | .silFrag n m => Sys2Proof.Machine.execSilFrag n m s
  | .silFragTimeout r e => Sys2Proof.Machine.execSilFragTimeout r e s
  | .silLineWrite x => Sys2Proof.Machine.execSilLineWrite x s
  | .silLineAck x => Sys2Proof.Machine.execSilLineAck x s
  | .erqFrag m => Sys2Proof.Machine.execErqFrag m s
  | .erqFragTimeout r rnum => Sys2Proof.Machine.execErqFragTimeout r rnum s
  | .erqPop => Sys2Proof.Machine.execErqPop s
  | .isolate kind id => Sys2Proof.Machine.execIsolate kind id s
  | .rejoin kind id => Sys2Proof.Machine.execRejoin kind id s
  | .isolateMsg n m => Sys2Proof.Machine.execIsolateMsg n m s
  | .isolateApply n => Sys2Proof.Machine.execIsolateApply n s
  | .isolationComplete => Sys2Proof.Machine.execIsolationComplete s
  | .maintSeg n d => Sys2Proof.Machine.execMaintSeg n d s
  | .stopUe k which idx => Sys2Proof.Machine.execStopUe k which idx s
  | .testKeyWrite w => Sys2Proof.Machine.execTestKeyWrite w s
  | .fiLciDelayExpire k l d => Sys2Proof.Machine.execFiLciDelayExpire k l d s
  | .mbPost m w => Sys2Proof.Machine.execMbPost m w s
  | .mbRestart m w => Sys2Proof.Machine.execMbRestart m w s
  | .mbCopyDone m => Sys2Proof.Machine.execMbCopyDone m s
  | .imageVerifyDone c => Sys2Proof.Machine.execImageVerifyDone c s
  | .coreResetExit c ok => Sys2Proof.Machine.execCoreResetExit c ok s
  | .coreRst c => Sys2Proof.Machine.execCoreRst c s
  | .coreFail c => Sys2Proof.Machine.execCoreFail c s
  | .handoverReq w => Sys2Proof.Machine.execHandoverReq w s
  | .handover => Sys2Proof.Machine.execHandover s
  | .oldCoreSettled c => Sys2Proof.Machine.execOldCoreSettled c s
  | .memepCfg c => Sys2Proof.Machine.execMemepCfg c s
  | .memInitDone => Sys2Proof.Machine.execMemInitDone s
  | .goService => Sys2Proof.Machine.execGoService s
  | .recoveryCause c => Sys2Proof.Machine.execRecoveryCause c s
  | .pairFrameXlt raw full => Sys2Proof.Machine.execPairFrameXlt raw full s
  | .pairFramePb raw full => Sys2Proof.Machine.execPairFramePb raw full s
  | .pairFrameAcc raw full => Sys2Proof.Machine.execPairFrameAcc raw full s
  | .pairFrameQctx raw => Sys2Proof.Machine.execPairFrameQctx raw s
  | .pairFrameMtr raw => Sys2Proof.Machine.execPairFrameMtr raw s
  | .pairFrameSlc raw => Sys2Proof.Machine.execPairFrameSlc raw s
  | .pairFrameFlc raw => Sys2Proof.Machine.execPairFrameFlc raw s
  | .pairFrameCkpt raw => Sys2Proof.Machine.execPairFrameCkpt raw s
  | .pairFrameWake raw => Sys2Proof.Machine.execPairFrameWake raw s
  | .pairFrameHb raw refused => Sys2Proof.Machine.execPairFrameHb raw refused s
  | .pairReplay => Sys2Proof.Machine.execPairReplay s
  | .pairCkpt => Sys2Proof.Machine.execPairCkpt s
  | .peerLost => Sys2Proof.Machine.execPeerLost s
  | .plUpChange up => Sys2Proof.Machine.execPlUpChange up s
  | .partnerFailChange level => Sys2Proof.Machine.execPartnerFailChange level s
  | .mirrorWrite w => Sys2Proof.Machine.execMirrorWrite w s
  | .rsyncGo => Sys2Proof.Machine.execRsyncGo s
  | .resyncDone => Sys2Proof.Machine.execResyncDone s
  | .takeover w => Sys2Proof.Machine.execTakeover w s
  | .takeoverDone => Sys2Proof.Machine.execTakeoverDone s
  | .pwake m => Sys2Proof.Machine.execPwake m s
  | .pairMark => Sys2Proof.Machine.execPairMark s
  | .lciEvCodeUndefined k l => Sys2Proof.Machine.execLciEvCodeUndefined k l s
  | .handoverMessage n m => Sys2Proof.Machine.execHandoverMessage n m s
  | .resetMessage n m => Sys2Proof.Machine.execResetMessage n m s
  | .bankSyncStartMsg n m => Sys2Proof.Machine.execBankSyncStartMsg n m s
  | .ctrlSubUnlisted n m => Sys2Proof.Machine.execCtrlSubUnlisted n m s
  | .standbyStateCopyDone c => Sys2Proof.Machine.execStandbyStateCopyDone c s
  | .pairCreditUpdate c => Sys2Proof.Machine.execPairCreditUpdate c s

end Sys2Proof.Machine
end

