-- ==== Sys2Proof/WellFormed.lean ====
section
/-! DEFINITION. Well-formed commands: a message command carries a message that its row may take, a command of a link
names a port stop, a register command names a whole register, a pair-frame command carries a frame of its type. -/

namespace Sys2Proof

open Sys2Proof.Machine

/-- A message with a wrong CHECK may hold anything; one with a right CHECK has TYPE `t` (Table 5-7). -/
def typeIs (t : Nat) (m : Msg) : Bool := !msgOk m || msgType m == t

/-- A CTRL message of SUB `sub` (Table 5-8), or one with a wrong CHECK. -/
def subIs (sub : Nat) (m : Msg) : Bool := !msgOk m || (msgType m == 0 && vbits m 44 4 == sub)

/-- The OP of a FLOOR message (Table 5-6). -/
def opIs (op : Nat) (m : Msg) : Bool := !msgOk m || vbits m 46 2 == op

/-- The OP of a PWR_CMD message. -/
def cmdIs (op : Nat) (m : Msg) : Bool := !msgOk m || vbits m 42 2 == op

/-- Bit 43 of a BANK_SYNC message: 0 start, 1 done. -/
def doneIs (b : Nat) (m : Msg) : Bool := !msgOk m || vbits m 43 1 == b

/-- A CTRL message of a SUB that Table 5-8 does not list. -/
def unlisted (m : Msg) : Bool := !msgOk m || (msgType m == 0 && 14 ≤ vbits m 44 4)

/-- The message names node `n` (R131). -/
def addressed (n : Nat) (m : Msg) : Bool := !msgOk m || msgDst m == n

/-- The message is a broadcast (R131). -/
def toAll (m : Msg) : Bool := !msgOk m || msgDst m == 63

/-- A tick mark (Table 2-1), or a mark with a wrong CHECK. -/
def markIs (m : Msg) : Bool := !markOk m || msgType m == 1

/-- Instances of a class that have a counter block (Table 16-1). -/
def blocksOf (c : Cls) : Nat :=
  match c with
  | .pmu => 60 | .ring => 9 | .eng => 8 | .pwr => 8
  | .glb | .tick | .stop | .arb | .gate | .mem | .repl | .pair | .xb | .fi | .ctl | .mbox | .slice => 0

/-- TYPE of a pair frame is its first byte (Table 19-1). -/
def frameIs (t : Nat) (raw : BitVec 1344) : Bool := raw.toNat % 256 == t

/-- A command that its row may carry. -/
def Instr.wf (i : Instr) : Bool :=
  match i with
  | .tickMark _ _ m => markIs m
  | .weWrite off _ _ => off.toNat % 4 == 0
  | .weAck off => off.toNat % 4 == 0
  | .census n m => addressed n m && subIs 7 m
  | .bankSyncDone m => addressed 60 m && subIs 12 m && doneIs 1 m
  | .credit n m => addressed n m && typeIs 4 m
  | .resReq n m => addressed n m && typeIs 2 m
  | .resGnt n m => addressed n m && typeIs 3 m
  | .floorRecall _ m => toAll m && typeIs 5 m && opIs 0 m
  | .surrender n m => addressed n m && typeIs 6 m
  | .floorReissue _ m => toAll m && typeIs 5 m && opIs 1 m
  | .floorSyncReq n m => addressed n m && typeIs 5 m && opIs 2 m
  | .regRd n m => addressed n m && subIs 0 m
  | .regWrA n m => addressed n m && subIs 1 m
  | .regWrD n m => addressed n m && subIs 2 m
  | .regRsp n m => addressed n m && subIs 3 m
  | .tenantErr m => addressed 62 m && subIs 13 m
  | .registerWrite off _ _ => off.toNat % 4 == 0
  | .rcRead off _ => off.toNat % 4 == 0
  | .lowRegisterRead off _ => off.toNat % 4 == 0
  | .pgLockWrite off _ _ => off.toNat % 4 == 0
  | .pgErrClear off _ => off.toNat % 4 == 0
  | .pgIntSet off _ _ => off.toNat % 4 == 0
  | .drainReq off _ _ => off.toNat % 4 == 0
  | .drainQuiet off => off.toNat % 4 == 0
  | .fence _ m => toAll m && subIs 4 m
  | .tlpReceived k _ _ => isPortStop k
  | .ingressCheck k _ _ => isPortStop k
  | .txCreditUpdate k _ _ _ => isPortStop k
  | .stallChange k _ _ => isPortStop k
  | .pause k _ => isPortStop k
  | .resume k _ => isPortStop k
  | .down k _ => isPortStop k
  | .returnKept k _ => isPortStop k
  | .returnFresh k _ => isPortStop k
  | .portModeChange k => isPortStop k
  | .linkNotice _ m => toAll m && typeIs 7 m
  | .spillAge k _ => isPortStop k
  | .spillReadback k _ => isPortStop k
  | .linkWatch k _ => isPortStop k
  | .lockTimeout k _ => isPortStop k
  | .atomEmuReadDone k _ => isPortStop k
  | .xltInv _ m => toAll m && typeIs 8 m
  | .invAck n m => addressed n m && subIs 9 m
  | .pbInv _ m => toAll m && typeIs 12 m
  | .doorbell n m => addressed n m && typeIs 9 m
  | .qmapUpd _ m => toAll m && typeIs 10 m
  | .sliceUpd _ m => toAll m && typeIs 11 m
  | .unitRng n m => addressed n m && subIs 10 m
  | .pwrCmdClose n m => addressed n m && subIs 6 m && cmdIs 0 m
  | .pwrCmdReopen n m => addressed n m && subIs 6 m && cmdIs 1 m
  | .pwrCmdEmpty n m => addressed n m && subIs 6 m && cmdIs 2 m
  | .lsgSet n m => addressed n m && subIs 11 m
  | .cntHiWrite c inst _ _ => inst.val < blocksOf c
  | .silFrag n m => addressed n m && typeIs 13 m
  | .erqFrag m => addressed 60 m && typeIs 14 m
  | .isolateMsg _ m => toAll m && typeIs 15 m
  | .fiLciDelayExpire k _ _ => isPortStop k
  | .pairFrameXlt raw _ => frameIs 1 raw
  | .pairFramePb raw _ => frameIs 2 raw
  | .pairFrameAcc raw _ => frameIs 3 raw
  | .pairFrameQctx raw => frameIs 4 raw
  | .pairFrameMtr raw => frameIs 5 raw
  | .pairFrameSlc raw => frameIs 6 raw
  | .pairFrameFlc raw => frameIs 7 raw
  | .pairFrameCkpt raw => frameIs 8 raw
  | .pairFrameWake raw => frameIs 9 raw
  | .pairFrameHb raw _ => frameIs 10 raw
  | .lciEvCodeUndefined k _ => isPortStop k
  | .handoverMessage _ m => toAll m && subIs 5 m
  | .resetMessage _ m => toAll m && subIs 8 m
  | .bankSyncStartMsg _ m => toAll m && subIs 12 m && doneIs 0 m
  | .ctrlSubUnlisted _ m => unlisted m
  | .coldReset | .coldResetRelease .. | .fabricResetRequest .. | .fabricResetEnter | .fabricResetExit
  | .referenceTickEdge | .tickCalStart | .tickCalDone | .tickStopWrite | .localTickBoundary .. | .tickSlip ..
  | .tickrefLoss | .holdoverTick | .tickrefReturn | .epochReq .. | .epochCancel | .oldEpochDrained | .bankSync
  | .stationSlot .. | .slotRelease .. | .slotMiss .. | .fiHeldRelease .. | .flitLanding .. | .ackFlit ..
  | .ackDelayExpire .. | .ackTimeout .. | .overflowReadback .. | .arbiterDecision .. | .grantRecheck ..
  | .bridgeCreditReturn .. | .slotSettle .. | .egressSend .. | .resGrantDecision .. | .resReqRetry ..
  | .regWrHalfTimeout .. | .mgmtRequest .. | .irqPresent .. | .ringCal .. | .ringTest .. | .ringFail ..
  | .ringClear .. | .ringCalDone .. | .ringTestStart .. | .ringTestEnd .. | .ringThreshold .. | .fenceApply ..
  | .transactionFormed .. | .meterColour .. | .redRecolour .. | .bindWrite .. | .gateAdvance ..
  | .gateRecomputeDone .. | .xltFillDone .. | .xltFillTimeout .. | .bindFillDone .. | .portModeWrite ..
  | .linkNoticeApply .. | .spareClaimRepair .. | .spareClaimTest .. | .spareGo .. | .spareReturn .. | .cplLanding ..
  | .tagDeadlinePassed .. | .tagExpire .. | .quarantineEnd .. | .completerRecordExpire .. | .xltUpdate .. | .pbUpdate
  | .pbDcntWrite .. | .memRequest .. | .memResponse .. | .parityDelta .. | .rowRead .. | .rowRelease ..
  | .reconstructDone .. | .chFail .. | .chCmdFail .. | .chCmdRebuild .. | .chCmdClear .. | .rebuildTick ..
  | .ctrlReadyChange .. | .directRead .. | .directReadDone .. | .doorbellWrite .. | .descFetchDone .. | .descStart ..
  | .chunkReadDone .. | .descRetire .. | .completionEvent .. | .evtRearm .. | .qcRead .. | .qcWrite .. | .qcEnable ..
  | .qcDisable .. | .qcRestart .. | .engLeave .. | .engJoin .. | .engClear .. | .engMoveq .. | .contextSend ..
  | .contextLand .. | .stubExpire .. | .engCtxUe .. | .push .. | .replCopy | .sliceCreate .. | .sliceDrydown ..
  | .sliceOpen .. | .sliceReset .. | .sliceRemove .. | .sliceFreeze .. | .sliceThaw .. | .sliceForce ..
  | .sliceUpdApply .. | .dryReached .. | .cleared .. | .drydownFlush .. | .mtrSelWrite .. | .flSave | .flLoad
  | .flRebind | .flCopy | .flDrop | .flOffWrite .. | .flDataWrite .. | .bridgeResync .. | .clockSwitch
  | .xbSelWrite .. | .psTargetRun .. | .psTargetTrim .. | .psTargetDoze .. | .psTargetOff .. | .sectorEmpty ..
  | .closeTimeout .. | .wakeDemand .. | .wakeSigdet .. | .wakeSupply .. | .wakeTherm .. | .wakeTimer ..
  | .wakePair .. | .governorInterval | .svokAsserted .. | .svokTimeout .. | .svokLost .. | .transitionDone ..
  | .spinePwrWrite .. | .corePwrWrite .. | .snapReq | .freezeArm | .freezeRelease | .rqSelWrite ..
  | .meterSelWrite .. | .csSelWrite .. | .tcSelWrite .. | .windowClose .. | .sbSelect .. | .silFragTimeout ..
  | .silLineWrite .. | .silLineAck .. | .erqFragTimeout .. | .erqPop | .isolate .. | .rejoin .. | .isolateApply ..
  | .isolationComplete | .maintSeg .. | .stopUe .. | .testKeyWrite .. | .mbPost .. | .mbRestart .. | .mbCopyDone ..
  | .imageVerifyDone .. | .coreResetExit .. | .coreRst .. | .coreFail .. | .handoverReq .. | .handover
  | .oldCoreSettled .. | .memepCfg .. | .memInitDone | .goService | .recoveryCause .. | .pairReplay | .pairCkpt
  | .peerLost | .plUpChange .. | .partnerFailChange .. | .mirrorWrite .. | .rsyncGo | .resyncDone | .takeover ..
  | .takeoverDone | .pwake .. | .pairMark | .standbyStateCopyDone .. | .pairCreditUpdate .. => true

end Sys2Proof
end

