-- ==== Sys2Proof/Safety.lean ====
section
/-! DEFINITION. What counts as a safe outcome and a safe state of the block, in the terms the claims use. -/

namespace Sys2Proof.Machine

/-- The outcome is a next state: neither a fault nor a refusal. -/
def Goes (o : Host.Outcome State Fault Refusal) : Prop := ∃ t, o = .next t

/-- The register file is in canonical form: keys strictly rising and no entry equal to its reset value, so that equal
contents of the registers are equal data. -/
def State.RegsOk (s : State) : Prop := twf 0 s.regs = true

/-- Every command that waits is well-formed. -/
def State.QueueOk (s : State) : Prop := ∀ c ∈ s.pending, c.wf = true

/-- The state without the registers, the counts and the messages: what the units of the block hold. -/
def State.units (s : State) : State := { s with regs := [], cnt := {}, net := {} }

/-- From `s` to `t` the count in a register field of page instance `i` is one higher, and stays at its largest value. -/
def State.Raised (s t : State) (f : Fld) (i : Nat) : Prop := t.fget f i = satAdd f.width (s.fget f i) 1 % 2 ^ f.width

end Sys2Proof.Machine
end

