-- ==== Sys2Proof/Frames.lean ====
section
/-! DEFINITION. The frame of every command: the register fields and the components of the units that it may change. -/

namespace Sys2Proof.Machine

/-- A register field that a command may change, with all its elements: of one page, or of every page of its class. -/
structure Hit where
  fld : Fld
  inst : Option Nat := none
  deriving DecidableEq, Repr

/-- The hit is a field that is kept at the place of element `e` of field `f` of page `i` of its class. -/
def Hit.covers (h : Hit) (f : Fld) (i e : Nat) : Bool :=
  h.fld.cls == f.cls && (match h.inst with | some j => j % 4096 == i % 4096 | none => true)
    && (List.range h.fld.count).any (fun x => h.fld.offAt x / 4 == f.offAt e / 4 && h.fld.loAt x == f.loAt e)

/-- Fields of one page, or of every page of their class. -/
def on (i : Option Nat) (l : List Fld) : List Hit := l.map (fun f => { fld := f, inst := i })

/-- What counting an event may change in the counter block of a page (R425 to R428, R437). -/
def counted (c : Cls) (i : Option Nat) : List Hit :=
  on i ((if hasBlock c then [F.CB.CB_OVF.OVF c, F.CB.CNT_HI c, F.CB.CNT_LO c] else []) ++ [F.HDR.PG_INT_STS.INT c]
    ++ (if c = .pmu then [F.PMU.SMP_LOST_CNT] else []) ++ (if c = .eng then [F.ENG.SMP_LOST_CNT] else []))

/-- What an error record may change in the header of a page (R468, R528). -/
def recorded (c : Cls) (i : Option Nat) : List Hit :=
  on i [F.HDR.PG_ERR_FIRST.CODE c, F.HDR.PG_ERR_FIRST.INJ c, F.HDR.PG_ERR_INFO0.INFO0 c, F.HDR.PG_ERR_INFO1.INFO1 c,
    F.HDR.PG_INT_STS.INT c]

/-- What an access that is not performed changes (R530). -/
def refused (c : Cls) (i : Option Nat) : List Hit :=
  on i [F.HDR.PG_ERR_CNT.CNT c, F.HDR.PG_ERR_CNT.LAST_OFF c, F.HDR.PG_ERR_CNT.NON_ACCESS c]

/-- What a message that fails its check may change at node `n` (R129, R131). -/
def messageHits (n : Nat) : List Hit :=
  counted .pmu (some n) ++ recorded .stop (some n) ++ on (some n) [F.STOP.MSG_ERR_CNT]
    ++ on (some 0) [F.HDR.PG_ERR_CNT.CNT .glb, F.HDR.PG_ERR_CNT.NON_ACCESS .glb]

/-- What the latch and TICKS change in the counter blocks of a node (R424, R429). -/
def latchHits (n : Nat) : List Hit :=
  (blocksAt n).flatMap (fun b => on (some b.2) [F.CB.SH_LO b.1, F.CB.SH_HI b.1, F.CB.SH_CYC_LO.SH_CYC b.1, F.CB.SH_CYC_HI.SH_CYC b.1,
    F.CB.SH_TICKS_LO.SH_TICKS b.1, F.CB.SH_TICKS_HI.SH_TICKS b.1, F.CB.SH_TICK_LO.SH_LO b.1, F.CB.SH_TICK_HI.SH_HI b.1,
    F.CB.SH_TICK_HI.HELD b.1, F.CB.TICKS_LO.TICKS b.1, F.CB.TICKS_HI.TICKS b.1, F.CB.CB_OVF.OVF_TICKS b.1])

/-- Every field of every page. -/
def everyField : List Hit := allPages.flatMap (fun p => on none (fieldsOf p.1))

/-- The fields of a register. -/
def regHits (c : Cls) (off : Nat) : List Hit := on none ((regFields c off).map (fun x => x.1))

/-- What a read at a window offset may change: RC fields of the register, and WAIT_WHO (R531, Table 7-5). -/
def readHits (a : Nat) : List Hit :=
  match pageAt a with
  | none => []
  | some (c, _) => (regHits c (a % 4096)).filter (fun h => h.fld.acc = .rc) ++ (if c = .arb then on none [F.ARB.WAIT_WHO] else [])

/-- What the end of a drain request changes (R527). -/
def quietHits (a : Nat) : List Hit :=
  match pageAt a with
  | none => []
  | some (c, i) => on (some i) [F.HDR.PG_CTL.DRAIN_REQ c, F.HDR.PG_STS.QUIET c]

/-- What a write at a window offset may change. A write in a header, of a WE register, in a counter block, or of a register
without a command of its own in a PMU, REPL, ARB, GATE or XB page changes fields of that register and what its rule names;
a write of another register may be a command. -/
def writeHits (a : Nat) : List Hit :=
  match pageAt a with
  | none => []
  | some (c, i) =>
    let off := a % 4096
    let own := refused c none ++ on (some i) [F.HDR.PG_STS.QUIET c] ++ regHits c off
    if off < 0x040 then
      own ++ recorded c (some i)
        ++ on (some i) [F.HDR.PG_CTL.EN c, F.HDR.PG_CTL.EPOCH_SEL c, F.HDR.PG_CTL.DRAIN_REQ c, F.HDR.PG_LOCK.UNLOCKED c]
    else if weReg c off then own ++ on (some 0) [F.GLB.WE_STS.OUT] ++ (if c = .gate then on (some i) [F.GATE.LIST_STS.READY] else [])
    else if hasBlock c && decide (cbBase c ≤ off) && decide (off < cbBase c + 0x100) then
      own ++ on (some i) [F.CB.CNT_LO c, F.CB.CNT_HI c]
    else if c = .pmu ∨ c = .repl ∨ c = .gate ∨ (c = .arb ∧ off ≠ 0x110) ∨ (c = .xb ∧ off ≠ 0x100) then own
    else everyField

/-- What these commands may change: FLIT_LANDING, CPL_LANDING. -/
def hitsFlitLanding (k : Nat) : List Hit := counted .pmu (some 58) ++ counted .eng (some (sectorOf k)) ++ recorded .mem
  (some (sectorOf k)) ++ counted .pmu (some k) ++ recorded .stop (some k) ++ on (some 0) [F.REPL.FAN_STS.PENDING] ++ on
  (some 58) [F.STOP.CLS_USE.USED, F.STOP.DROP_CNT, F.STOP.POIS_RX_CNT, F.STOP.POOL_STS.NP_USED, F.STOP.SYNTH_CPL_CNT] ++
  on none [F.SLICE.STALE_CNT] ++ on (some (sectorOf k)) [F.ENG.ENG_STS.RESIDENT, F.ENG.ENG_STS.STATE, F.MEM.DR_DATA.DATA,
  F.MEM.DR_STS.STATUS, F.MEM.DR_STS.VALID, F.MEM.POIS_CNT, F.MEM.RECON_CNT, F.MEM.ROW_WAIT_CNT] ++ on (some k)
  [F.STOP.ACK_STALE_CNT, F.STOP.CLS_USE.USED, F.STOP.DROP_CNT, F.STOP.DUP_CNT, F.STOP.E2E_ERR_CNT, F.STOP.LATE_CPL_CNT,
  F.STOP.NEAR_MISS_CNT, F.STOP.POIS_RX_CNT, F.STOP.POOL_STS.NP_USED, F.STOP.RES_REQ_CNT, F.STOP.RSP_OVR_CNT,
  F.STOP.SEQ_RANGE_CNT, F.STOP.STALE_CPL_CNT, F.STOP.SYNTH_CPL_CNT, F.STOP.UNEXP_CPL_CNT]

/-- What these commands may change: PAUSE, RESUME, DOWN, RETURN_KEPT, RETURN_FRESH. -/
def hitsPause (k : Nat) : List Hit := counted .pmu (some k) ++ recorded .stop (some k) ++ on (some k)
  [F.STOP.CLS_USE.USED, F.STOP.DROP_CNT, F.STOP.LCI_PROTO_CNT, F.STOP.LINK_DOWN_CNT, F.STOP.LINK_STS.HOLDING,
  F.STOP.LINK_STS.LAST_RET, F.STOP.LINK_STS.LOCKED, F.STOP.LINK_STS.NN, F.STOP.LINK_STS.STATE, F.STOP.PAUSE_CNT,
  F.STOP.POOL_STS.NP_USED, F.STOP.SPILL_FLIT_CNT, F.STOP.SPILL_FULL_CNT, F.STOP.SPILL_USE.FLUSH_USED,
  F.STOP.SPILL_USE.HOLD_USED, F.STOP.SYNTH_CPL_CNT]

/-- What these commands may change: SPARE_CLAIM_REPAIR, SPARE_CLAIM_TEST, SPARE_GO, SPARE_RETURN. -/
def hitsSpareClaimRepair (k : Nat) : List Hit := refused .stop (some k) ++ on (some k) [F.HDR.PG_STS.QUIET .stop,
  F.STOP.SPARE_CTL.CLAIM, F.STOP.SPARE_CTL.CLAIM_RES, F.STOP.SPARE_CTL.FORCED, F.STOP.SPARE_CTL.GO,
  F.STOP.SPARE_CTL.PHASE, F.STOP.SPARE_CTL.SOCKET]

/-- What these commands may change: MEM_REQUEST, PARITY_DELTA, ROW_READ, ROW_RELEASE. -/
def hitsMemRequest (c : Nat) : List Hit := recorded .mem none ++ on none [F.HDR.PG_ERR_CNT.CNT .slice,
  F.HDR.PG_ERR_CNT.NON_ACCESS .slice, F.MEM.DR_DATA.DATA, F.MEM.DR_STS.STATUS, F.MEM.DR_STS.VALID, F.MEM.POIS_CNT,
  F.MEM.RECON_CNT, F.MEM.ROW_WAIT_CNT] ++ on (some (memStop c)) [F.CB.CB_OVF.OVF .pmu, F.CB.CNT_HI .pmu, F.CB.CNT_LO .pmu,
  F.HDR.PG_INT_STS.INT .pmu, F.STOP.CLS_USE.USED, F.STOP.DROP_CNT, F.STOP.POIS_RX_CNT, F.STOP.POOL_STS.NP_USED,
  F.STOP.SYNTH_CPL_CNT]

/-- What these commands may change: MEM_RESPONSE, RECONSTRUCT_DONE, REBUILD_TICK. -/
def hitsMemResponse (c : Nat) : List Hit := recorded .mem (some c) ++ on (some c) [F.MEM.CH_STS.STATE, F.MEM.DR_DATA.DATA,
  F.MEM.DR_STS.STATUS, F.MEM.DR_STS.VALID, F.MEM.POIS_CNT, F.MEM.REBUILD_PTR.PTR, F.MEM.RECON_CNT, F.MEM.ROW_WAIT_CNT]

/-- What these commands may change: CH_CMD_FAIL, CH_CMD_REBUILD, CH_CMD_CLEAR. -/
def hitsChCmdFail (c : Nat) : List Hit := recorded .mem (some c) ++ refused .mem (some c) ++ on (some c)
  [F.HDR.PG_STS.QUIET .mem, F.MEM.CH_CTL.RATE, F.MEM.CH_STS.CMD_RES, F.MEM.CH_STS.STATE, F.MEM.DR_DATA.DATA,
  F.MEM.DR_STS.STATUS, F.MEM.DR_STS.VALID, F.MEM.POIS_CNT, F.MEM.REBUILD_PTR.PTR, F.MEM.RECON_CNT, F.MEM.ROW_WAIT_CNT]

/-- What these commands may change: DESC_FETCH_DONE, CHUNK_READ_DONE. -/
def hitsDescFetchDone (e : Nat) : List Hit := counted .pmu (some (xcPage e)) ++ counted .eng (some e) ++ counted .pwr
  (some e) ++ on (some (xcPage e)) [F.STOP.XC_HIT_CNT, F.STOP.XC_MISS_CNT] ++ on (some e) [F.ENG.ENG_STS.EXEC]

/-- What these commands may change: QC_READ, QC_WRITE, QC_ENABLE, QC_DISABLE, QC_RESTART. -/
def hitsQcRead (e : Nat) : List Hit := counted .pmu (some (xcPage e)) ++ counted .eng (some e) ++ refused .eng (some e) ++
  counted .pwr (some e) ++ on (some (xcPage e)) [F.STOP.XC_HIT_CNT, F.STOP.XC_MISS_CNT] ++ on (some e)
  [F.ENG.ENG_STS.EXEC, F.ENG.ENG_STS.RESIDENT, F.ENG.QC_CMD.QC_RES, F.ENG.QC_DATA.DATA, F.HDR.PG_STS.QUIET .eng]

/-- What these commands may change: ENG_LEAVE, ENG_JOIN, ENG_CLEAR, ENG_MOVEQ. -/
def hitsEngLeave (e : Nat) : List Hit := counted .eng (some e) ++ on (some e) [F.ENG.ENG_CTL.DEST, F.ENG.ENG_STS.CMD_RES,
  F.ENG.ENG_STS.RESIDENT, F.ENG.ENG_STS.STATE, F.HDR.PG_STS.QUIET .eng]

/-- What these commands may change: SLICE_CREATE, SLICE_DRYDOWN, SLICE_OPEN, SLICE_RESET, SLICE_REMOVE, SLICE_FREEZE,
SLICE_THAW, SLICE_FORCE. -/
def hitsSliceCreate (x : Nat) : List Hit := refused .slice (some x) ++ on (some 0) [F.GLB.FREEZE_STS.OWNER] ++ on none
  [F.ENG.SW_DATA.WEIGHT, F.SLICE.DRY_STS.PENDING, F.SLICE.MSTS.TRACKED, F.SLICE.MSTS.TRACKER] ++ on (some x)
  [F.HDR.PG_STS.QUIET .slice, F.SLICE.DRY_STS.FLUSH_FULL, F.SLICE.DRY_TICKS, F.SLICE.EVT_CFG.ARMED, F.SLICE.EVT_CFG.EN,
  F.SLICE.EVT_PEND.PEND, F.SLICE.FRZ_TICK_HI.LATCHED, F.SLICE.MSTS.BUSY, F.SLICE.MSTS.RES, F.SLICE.MSTS.SGEN,
  F.SLICE.MSTS.STATE]

/-- What these commands may change: FL_SAVE, FL_LOAD, FL_REBIND, FL_COPY, FL_DROP. -/
def hitsFlSave : List Hit := on (some 0) [F.GLB.FL_CMD.OP, F.GLB.FL_STS.BUSY, F.GLB.FL_STS.DONE, F.GLB.FL_STS.RES,
  F.HDR.PG_STS.QUIET .glb] ++ on none [F.SLICE.MSTS.BUSY]

/-- What these commands may change: PS_TARGET_RUN, PS_TARGET_TRIM, PS_TARGET_DOZE, PS_TARGET_OFF. -/
def hitsPsTargetRun (x : Nat) : List Hit := counted .pwr (some x) ++ on (some x) [F.HDR.PG_STS.QUIET .pwr,
  F.PWR.LW_REC.CANCEL, F.PWR.LW_REC.CHAN, F.PWR.LW_REC.CODE, F.PWR.LW_REC.FROM, F.PWR.LW_REC.THR, F.PWR.LW_REC.VALID,
  F.PWR.LW_TICK_HI.TICK_HI, F.PWR.LW_TICK_LO.TICK_LO, F.PWR.PS_CTL.CLOSE_TO, F.PWR.PS_CTL.TARGET, F.PWR.PS_CTL.WAKE_TO,
  F.PWR.PS_STS.PHASE, F.PWR.PS_STS.RES, F.PWR.PS_STS.STEP, F.PWR.TR_STS.LSG_WAIT, F.PWR.WAKE_CNT, F.PWR.WAKE_EN.TIMER]

/-- What these commands may change: PWR_CMD_CLOSE, PWR_CMD_REOPEN, PWR_CMD_EMPTY. -/
def hitsPwrCmdClose (n : Nat) : List Hit := messageHits n ++ on (some (sectorOf n)) [F.PWR.PS_STS.PHASE,
  F.PWR.PS_STS.STEP, F.PWR.TR_STS.LSG_WAIT] ++ on (some n) [F.STOP.POOL_STS.CLOSING]

/-- What these commands may change: WAKE_DEMAND, WAKE_SIGDET, WAKE_SUPPLY, WAKE_THERM, WAKE_TIMER, WAKE_PAIR. -/
def hitsWakeDemand (x : Nat) : List Hit := counted .pwr (some x) ++ on (some x) [F.PWR.LW_REC.CANCEL, F.PWR.LW_REC.CHAN,
  F.PWR.LW_REC.CODE, F.PWR.LW_REC.FROM, F.PWR.LW_REC.THR, F.PWR.LW_REC.VALID, F.PWR.LW_TICK_HI.TICK_HI,
  F.PWR.LW_TICK_LO.TICK_LO, F.PWR.PS_STS.PHASE, F.PWR.PS_STS.RES, F.PWR.PS_STS.STEP, F.PWR.TR_STS.LSG_WAIT,
  F.PWR.WAKE_CNT, F.PWR.WAKE_EN.TIMER]

/-- What these commands may change: SVOK_TIMEOUT, SVOK_LOST. -/
def hitsSvokTimeout (x : Nat) : List Hit := counted .pwr (some x) ++ recorded .pwr (some x) ++ on (some 0)
  [F.GLB.ISO_STS.BUSY] ++ on none [F.STOP.CLS_USE.USED, F.STOP.LINK_STS.HOLDING, F.STOP.LINK_STS.LOCKED,
  F.STOP.LINK_STS.NN, F.STOP.LINK_STS.STATE, F.STOP.POOL_STS.NP_USED] ++ on (some x) [F.PWR.PS_STS.PHASE,
  F.PWR.PS_STS.STATE, F.PWR.PS_STS.STEP, F.PWR.PWR_FAULT_CNT]

/-- What these commands may change: MB_POST, MB_RESTART. -/
def hitsMbPost (m : Nat) : List Hit := on (some 0) [F.CTL.CORE_STS.STATE_A, F.CTL.CORE_STS.STATE_B, F.CTL.SVN_A,
  F.CTL.SVN_B, F.MBOX.MB_CTL.CORE] ++ on none [F.MBOX.MB_STS.OWNER] ++ on (some m) [F.HDR.PG_STS.QUIET .mbox,
  F.MBOX.MB_CTL.CORE, F.MBOX.MB_CTL.LAST, F.MBOX.MB_CTL.LEN, F.MBOX.MB_STS.POSTS, F.MBOX.MB_STS.RES]

/-- What these commands may change: PAIR_FRAME_XLT, PAIR_FRAME_PB, PAIR_FRAME_ACC, PAIR_FRAME_QCTX, PAIR_FRAME_MTR,
PAIR_FRAME_SLC, PAIR_FRAME_FLC, PAIR_FRAME_CKPT, PAIR_FRAME_WAKE, PAIR_FRAME_HB. -/
def hitsPairFrameXlt : List Hit := recorded .pair (some 0) ++ recorded .xb (some 8) ++ recorded .mem none ++ counted .pwr
  none ++ on (some 0) [F.GLB.PB_STS.ACKS, F.GLB.PB_STS.BUSY, F.GLB.PB_STS.DONE, F.GLB.PB_STS.RES, F.PAIR.CRC_ERR_CNT,
  F.PAIR.DUP_CNT, F.PAIR.MARK, F.PAIR.MIR_PEND.PEND, F.PAIR.MIR_RX_CNT, F.PAIR.MIR_TX_CNT, F.PAIR.NOMAP_CNT,
  F.PAIR.PAIR_STS.MSTATE, F.PAIR.PAIR_STS.PEER, F.PAIR.REFUSE_CNT, F.PAIR.REPLAY_CNT] ++ on none [F.MEM.DR_DATA.DATA,
  F.MEM.DR_STS.STATUS, F.MEM.DR_STS.VALID, F.MEM.POIS_CNT, F.MEM.RECON_CNT, F.MEM.ROW_WAIT_CNT, F.MEM.XLT_STS.ACKS,
  F.MEM.XLT_STS.BUSY, F.MEM.XLT_STS.DONE, F.MEM.XLT_STS.RES, F.PWR.LW_REC.CANCEL, F.PWR.LW_REC.CHAN, F.PWR.LW_REC.CODE,
  F.PWR.LW_REC.FROM, F.PWR.LW_REC.THR, F.PWR.LW_REC.VALID, F.PWR.LW_TICK_HI.TICK_HI, F.PWR.LW_TICK_LO.TICK_LO,
  F.PWR.PS_STS.PHASE, F.PWR.PS_STS.RES, F.PWR.PS_STS.STEP, F.PWR.TR_STS.LSG_WAIT, F.PWR.WAKE_CNT, F.PWR.WAKE_EN.TIMER,
  F.SLICE.ACC_C.CBASE, F.SLICE.ACC_C.CCNT, F.SLICE.ACC_DOM.DOM, F.SLICE.ACC_EW.ENG_WT, F.SLICE.ACC_FLUSH.FLUSH_MIB,
  F.SLICE.ACC_M.MBASE, F.SLICE.ACC_M.MCNT, F.SLICE.ACC_Q.QBASE, F.SLICE.ACC_Q.QCNT, F.SLICE.ACC_UCNT.UNIT_CNT,
  F.SLICE.ACC_UFIRST.UNIT_FIRST, F.SLICE.CTL.CNT_VIS, F.SLICE.CTL.FLUSH_AGE, F.STOP.METER_CBS.CBS, F.STOP.METER_CIR.CIR,
  F.STOP.METER_MODE.AWARE, F.STOP.METER_MODE.TC_YEL, F.STOP.METER_PBS.PBS, F.STOP.METER_PIR.PIR]

/-- What these commands may change: RSYNC_GO, PWAKE. -/
def hitsRsyncGo : List Hit := recorded .pair (some 0) ++ on (some 0) [F.HDR.PG_STS.QUIET .pair, F.PAIR.MARK,
  F.PAIR.MIR_PEND.PEND, F.PAIR.MIR_TX_CNT, F.PAIR.PAIR_STS.MSTATE]

/-- The register fields that a command may change. -/
def regWrites (c : Instr) : List Hit :=
  match c with
  | .coldReset => everyField
  | .coldResetRelease .. => []
  | .fabricResetRequest .. => on (some 0) [F.CTL.HO_CTL.GO, F.CTL.HO_STS.PENDING, F.HDR.PG_STS.QUIET .glb]
  | .fabricResetEnter => on (some 0) [F.CTL.CORE_STS.STATE_A, F.CTL.CORE_STS.STATE_B, F.CTL.SVN_A, F.CTL.SVN_B,
      F.GLB.RST_CNT] ++ everyField.filter (fun h => !h.fld.st)
  | .fabricResetExit => on (some 0) [F.GLB.FAB_STS.STATE, F.HDR.PG_INT_STS.INT .glb]
  | .referenceTickEdge => on (some 0) [F.GLB.EPOCH_CTL.REQ, F.GLB.EPOCH_LAST_HI.LAST_HI, F.GLB.EPOCH_LAST_LO.LAST_LO,
      F.GLB.EPOCH_STS.ACTIVE, F.GLB.EPOCH_STS.DRAINED, F.GLB.EPOCH_STS.EPOCH_NUM, F.GLB.EPOCH_STS.INACTIVE_OPEN,
      F.GLB.EPOCH_STS.PENDING, F.GLB.FREEZE.ARM, F.GLB.FREEZE_STS.OWNER, F.GLB.SNAP.REQ, F.TICK.TICK_STS.HOLDOVER,
      F.TICK.TICK_STS.RUNNING] ++ on none [F.RING.RING_STS.STATE]
  | .tickCalStart => on (some 0) [F.HDR.PG_STS.QUIET .tick, F.TICK.TICK_CTL.EN, F.TICK.TICK_STS.CAL_DONE,
      F.TICK.TICK_STS.HOLDOVER, F.TICK.TICK_STS.RUNNING]
  | .tickCalDone => on (some 0) [F.TICK.TICK_STS.CAL_DONE]
  | .tickStopWrite => on (some 0) [F.HDR.PG_STS.QUIET .tick, F.TICK.TICK_CTL.EN, F.TICK.TICK_STS.CAL_DONE,
      F.TICK.TICK_STS.HOLDOVER, F.TICK.TICK_STS.RUNNING]
  | .tickMark .. => on (some 0) [F.HDR.PG_INT_STS.INT .tick, F.TICK.MARK_ERR]
  | .localTickBoundary n _ _ => recorded .ctl (some 0) ++ recorded .glb (some 0) ++ recorded .pair (some 0) ++ counted
      .eng none ++ recorded .eng none ++ recorded .mem none ++ counted .pmu none ++ counted .pwr none ++ refused .slice
      none ++ recorded .stop none ++ on (some ((nodePage n).2)) [F.HDR.PG_ERR_FIRST.CODE (nodePage ↑n).fst,
      F.HDR.PG_ERR_FIRST.INJ (nodePage ↑n).fst, F.HDR.PG_ERR_INFO0.INFO0 (nodePage ↑n).fst, F.HDR.PG_ERR_INFO1.INFO1
      (nodePage ↑n).fst, F.HDR.PG_INT_STS.INT (nodePage ↑n).fst] ++ on (some 0) [F.CTL.CORE_STS.ACTIVE,
      F.CTL.CORE_STS.STATE_A, F.CTL.CORE_STS.STATE_B, F.CTL.HO_CTL.GO, F.CTL.HO_STS.HO_CNT, F.CTL.HO_STS.PENDING,
      F.CTL.SVN_A, F.CTL.SVN_B, F.GLB.CORE_PWR.BUSY, F.GLB.CORE_PWR.STATE, F.GLB.CS_CFG.ANY, F.GLB.CS_CFG.CLS,
      F.GLB.CS_CFG.LINK, F.GLB.CS_CFG.RX, F.GLB.CS_CFG.SCHED, F.GLB.CS_CFG.TX, F.GLB.CS_CFG.V, F.GLB.FAB_STS.CAUSE,
      F.GLB.FAB_STS.RECOVERY_CNT, F.GLB.FAB_STS.REFUSE, F.GLB.FAB_STS.STATE, F.GLB.FL_CMD.OP, F.GLB.FL_DATA.DATA,
      F.GLB.FL_OFF.VALID, F.GLB.FL_STS.BUSY, F.GLB.FL_STS.DONE, F.GLB.FL_STS.RES, F.GLB.FL_UNIT.UNIT,
      F.GLB.FREEZE_STS.OWNER, F.GLB.ISO_SET_HI.SET_HI, F.GLB.ISO_SET_LO.SET_LO, F.GLB.PB_STS.ACKS, F.GLB.PB_STS.BUSY,
      F.GLB.PB_STS.DONE, F.GLB.PB_STS.RES, F.GLB.RING_USE.FENCED, F.GLB.RST_CNT, F.GLB.SPINE_PWR.BUSY,
      F.GLB.SPINE_PWR.STATE, F.HDR.PG_INT_STS.INT .tick, F.PAIR.DUP_CNT, F.PAIR.HOME.BASE, F.PAIR.HOME.CNT, F.PAIR.MARK,
      F.PAIR.MIR_PEND.PEND, F.PAIR.MIR_RX_CNT, F.PAIR.MIR_TX_CNT, F.PAIR.NOMAP_CNT, F.PAIR.PAIR_STS.MSTATE,
      F.PAIR.PAIR_STS.PEER, F.PAIR.REFUSE_CNT, F.PAIR.REPLAY_CNT, F.PAIR.SHD.CNT, F.PAIR.TKO_STS.BUSY,
      F.PAIR.TKO_STS.DONE, F.PAIR.TKO_STS.FAILED, F.PAIR.TKO_STS.RES, F.TICK.SLIP_CNT, coreFld 0, coreFld 1] ++ on none
      [F.ARB.SW_DATA.SLICE_WT, F.ENG.ENG_STS.EXEC, F.ENG.ENG_STS.RESIDENT, F.ENG.ENG_STS.STATE, F.ENG.SW_DATA.WEIGHT,
      F.GLB.FREEZE_STS.HELD, F.GLB.LATCH_HI.KIND, F.GLB.LATCH_HI.LATCH_HI, F.GLB.LATCH_LO, F.MEM.DR_DATA.DATA,
      F.MEM.DR_STS.STATUS, F.MEM.DR_STS.VALID, F.MEM.POIS_CNT, F.MEM.RECON_CNT, F.MEM.ROW_WAIT_CNT, F.MEM.XLT_STS.ACKS,
      F.MEM.XLT_STS.BUSY, F.MEM.XLT_STS.DONE, F.MEM.XLT_STS.RES, F.PWR.LW_REC.CANCEL, F.PWR.LW_REC.CHAN,
      F.PWR.LW_REC.CODE, F.PWR.LW_REC.FROM, F.PWR.LW_REC.THR, F.PWR.LW_REC.VALID, F.PWR.LW_TICK_HI.TICK_HI,
      F.PWR.LW_TICK_LO.TICK_LO, F.PWR.PS_STS.PHASE, F.PWR.PS_STS.RES, F.PWR.PS_STS.STATE, F.PWR.PS_STS.STEP,
      F.PWR.TR_STS.LSG_WAIT, F.PWR.WAKE_CNT, F.PWR.WAKE_EN.TIMER, F.RING.RING_STS.READY, F.RING.RING_STS.STATE,
      F.SLICE.ACC_C.CBASE, F.SLICE.ACC_C.CCNT, F.SLICE.ACC_DOM.DOM, F.SLICE.ACC_EW.ENG_WT, F.SLICE.ACC_FLUSH.FLUSH_MIB,
      F.SLICE.ACC_M.MBASE, F.SLICE.ACC_M.MCNT, F.SLICE.ACC_Q.QBASE, F.SLICE.ACC_Q.QCNT, F.SLICE.ACC_UCNT.UNIT_CNT,
      F.SLICE.ACC_UFIRST.UNIT_FIRST, F.SLICE.CTL.CNT_VIS, F.SLICE.CTL.FLUSH_AGE, F.SLICE.DRY_STS.FLUSH_FULL,
      F.SLICE.DRY_STS.PENDING, F.SLICE.DRY_TICKS, F.SLICE.EVT_CFG.ARMED, F.SLICE.EVT_CFG.EN, F.SLICE.EVT_PEND.PEND,
      F.SLICE.FRZ_TICK_HI.FRZ_HI, F.SLICE.FRZ_TICK_HI.LATCHED, F.SLICE.FRZ_TICK_LO.FRZ_LO, F.SLICE.MSTS.BUSY,
      F.SLICE.MSTS.RES, F.SLICE.MSTS.SGEN, F.SLICE.MSTS.STATE, F.SLICE.MSTS.TRACKED, F.SLICE.MSTS.TRACKER,
      F.STOP.CLS_USE.USED, F.STOP.DROP_CNT, F.STOP.LCI_PROTO_CNT, F.STOP.LINK_DOWN_CNT, F.STOP.LINK_STS.HOLDING,
      F.STOP.LINK_STS.LAST_RET, F.STOP.LINK_STS.LOCKED, F.STOP.LINK_STS.NN, F.STOP.LINK_STS.STATE, F.STOP.LINK_STS.XOFF,
      F.STOP.METER_CBS.CBS, F.STOP.METER_CIR.CIR, F.STOP.METER_MODE.AWARE, F.STOP.METER_MODE.TC_YEL, F.STOP.METER_PBS.PBS,
      F.STOP.METER_PIR.PIR, F.STOP.PAUSE_CNT, F.STOP.POOL_STS.NP_USED, F.STOP.SOCKET_STS.SERVED_BY_SPARE,
      F.STOP.SPILL_FLIT_CNT, F.STOP.SPILL_FULL_CNT, F.STOP.SPILL_USE.FLUSH_USED, F.STOP.SPILL_USE.HOLD_USED,
      F.STOP.SYNTH_CPL_CNT] ++ on (some (sectorOf n)) [F.HDR.PG_ERR_FIRST.CODE .pwr, F.HDR.PG_ERR_FIRST.INJ .pwr,
      F.HDR.PG_ERR_INFO0.INFO0 .pwr, F.HDR.PG_ERR_INFO1.INFO1 .pwr, F.MEM.CH_STS.STATE, F.MEM.FILL_RETRY_CNT] ++ on (some
      (xcPage (sectorOf n))) [F.STOP.XC_HIT_CNT, F.STOP.XC_MISS_CNT] ++ on (some n) [F.GATE.LIST_CYC.CYC,
      F.GATE.LIST_STS.BANK, F.GATE.LIST_STS.PEND, F.GATE.LIST_STS.POS, F.GATE.LIST_STS.SWAP_CNT, F.HDR.PG_ERR_CNT.CNT
      .stop, F.HDR.PG_ERR_CNT.NON_ACCESS .stop, F.PMU.SH_SLOTS_HI.SH_SLOTS, F.PMU.SH_SLOTS_LO.SH_SLOTS,
      F.PMU.SH_SLOT_HI.SH_COUNT, F.PMU.SH_SLOT_LO.SH_COUNT, F.PMU.SH_UNSET, F.STOP.ACK_TO_CNT, F.STOP.ING_REJ_CNT,
      F.STOP.ISO_FREE_CNT, F.STOP.ISO_RM_CNT, F.STOP.LOCK_TO_CNT, F.STOP.ORDER_BREAK_CNT, F.STOP.POIS_RX_CNT,
      F.STOP.POOL_STS.CLOSING, F.STOP.PORT_MODE.MODE_NOW, F.STOP.RED_HOLD_CNT, F.STOP.RES_REQ_CNT, F.STOP.RES_RETRY_CNT,
      F.STOP.SPARE_CTL.CLAIM, F.STOP.SPARE_CTL.CLAIM_RES, F.STOP.SPARE_CTL.FORCED, F.STOP.SPARE_CTL.GO,
      F.STOP.SPARE_CTL.PHASE, F.STOP.SPARE_CTL.SOCKET, F.STOP.WATCH_CNT] ++ latchHits n ++ (if n = 60 then
      everyField.filter (fun h => !h.fld.st) else [])
  | .tickSlip .. => []
  | .tickrefLoss => on (some 0) [F.GLB.FAB_STS.CAUSE, F.GLB.FAB_STS.RECOVERY_CNT, F.GLB.FAB_STS.STATE,
      F.HDR.PG_INT_STS.INT .glb, F.HDR.PG_INT_STS.INT .tick, F.TICK.TICK_STS.HOLDOVER, F.TICK.TICK_STS.REF_OK,
      F.TICK.TICK_STS.RUNNING]
  | .holdoverTick => on (some 0) [F.GLB.EPOCH_CTL.REQ, F.GLB.EPOCH_LAST_HI.LAST_HI, F.GLB.EPOCH_LAST_LO.LAST_LO,
      F.GLB.EPOCH_STS.ACTIVE, F.GLB.EPOCH_STS.DRAINED, F.GLB.EPOCH_STS.EPOCH_NUM, F.GLB.EPOCH_STS.INACTIVE_OPEN,
      F.GLB.EPOCH_STS.PENDING, F.GLB.FREEZE.ARM, F.GLB.FREEZE_STS.OWNER, F.GLB.SNAP.REQ, F.HDR.PG_INT_STS.INT .tick,
      F.TICK.HOLD_CNT, F.TICK.TICK_STS.RUNNING] ++ on none [F.RING.RING_STS.STATE]
  | .tickrefReturn => on (some 0) [F.TICK.TICK_STS.REF_OK]
  | .epochReq .. => on (some 0) [F.GLB.EPOCH_CTL.AT_EN, F.GLB.EPOCH_CTL.REQ, F.GLB.EPOCH_STS.PENDING,
      F.GLB.EPOCH_STS.REFUSE, F.HDR.PG_STS.QUIET .glb]
  | .epochCancel => on (some 0) [F.GLB.EPOCH_CTL.REQ, F.GLB.EPOCH_STS.PENDING, F.HDR.PG_STS.QUIET .glb]
  | .weWrite off _ _ => writeHits (off.toNat / 4 * 4)
  | .weAck .. => on (some 0) [F.GLB.WE_STS.OUT]
  | .census n _ => messageHits n ++ on (some 0) [F.GLB.EPOCH_STS.DRAINED, F.GLB.EPOCH_STS.INACTIVE_OPEN,
      F.GLB.RING_USE.FENCED] ++ on none [F.RING.RING_STS.READY, F.RING.RING_STS.STATE, F.SLICE.DRY_STS.PENDING]
  | .oldEpochDrained => on (some 0) [F.GLB.EPOCH_STS.DRAINED, F.GLB.EPOCH_STS.INACTIVE_OPEN, F.GLB.RING_USE.FENCED] ++ on
      none [F.RING.RING_STS.READY, F.RING.RING_STS.STATE]
  | .bankSync => on (some 0) [F.GLB.BANK_SYNC.BUSY, F.GLB.BANK_SYNC.REFUSED, F.GLB.BANK_SYNC.SKIPPED, F.HDR.PG_STS.QUIET
      .glb]
  | .bankSyncDone .. => messageHits 60 ++ on (some 0) [F.GLB.BANK_SYNC.BUSY]
  | .stationSlot k r d _ => recorded .xb (some (stopBridge (k) 1 / 64)) ++ counted .pmu (some k) ++ recorded .stop (some
      k) ++ counted .ring (some r) ++ on (some 0) [F.FI.FI_CTL.ARM, F.FI.FI_ELIG, F.FI.FI_FIRED, F.FI.FI_HELD_LOST] ++ on
      (some k) [F.STOP.ISO_RM_CNT, F.STOP.SLOT_WAIT.MAX, F.STOP.STN_CE_CNT, F.STOP.STN_GUARD_CNT, F.STOP.STN_UE_CNT] ++ on
      (some r) [F.RING.CE_CNT, F.RING.GUARD_CNT, F.RING.TEST_BERR, F.RING.UE_CNT, if ↑d = 0 then F.RING.ECHO_CYC.CYC0 else
      F.RING.ECHO_CYC.CYC1]
  | .slotRelease k r _ => counted .pmu (some k) ++ counted .ring (some r) ++ on (some k) [F.STOP.SLOT_MISS_CNT] ++ on
      (some r) [F.RING.TEST_SKIP]
  | .slotMiss k _ _ => recorded .mem (some (sectorOf k)) ++ counted .pmu (some k) ++ on (some (sectorOf k))
      [F.MEM.DR_DATA.DATA, F.MEM.DR_STS.STATUS, F.MEM.DR_STS.VALID, F.MEM.POIS_CNT, F.MEM.RECON_CNT, F.MEM.ROW_WAIT_CNT]
      ++ on (some k) [F.PMU.SLOT_HI.COUNT_HI, F.PMU.SLOT_LO.COUNT_LO, F.PMU.SLOT_OVF.OVF]
  | .fiHeldRelease .. => on (some 0) [F.FI.FI_HELD_LOST]
  | .flitLanding k _ => hitsFlitLanding k
  | .ackFlit k _ => counted .pmu (some 58) ++ counted .eng (some (sectorOf k)) ++ recorded .mem (some (sectorOf k)) ++
      counted .pmu (some k) ++ recorded .stop (some k) ++ on (some 0) [F.REPL.FAN_STS.PENDING] ++ on (some 58)
      [F.STOP.CLS_USE.USED, F.STOP.DROP_CNT, F.STOP.POIS_RX_CNT, F.STOP.POOL_STS.NP_USED, F.STOP.SYNTH_CPL_CNT] ++ on
      (some (sectorOf k)) [F.ENG.ENG_STS.RESIDENT, F.ENG.ENG_STS.STATE, F.MEM.DR_DATA.DATA, F.MEM.DR_STS.STATUS,
      F.MEM.DR_STS.VALID, F.MEM.POIS_CNT, F.MEM.RECON_CNT, F.MEM.ROW_WAIT_CNT] ++ on (some k) [F.STOP.ACK_STALE_CNT,
      F.STOP.E2E_ERR_CNT, F.STOP.RES_REQ_CNT]
  | .ackDelayExpire .. => []
  | .ackTimeout k _ => recorded .mem (some (sectorOf k)) ++ counted .pmu (some k) ++ on (some (sectorOf k))
      [F.MEM.DR_DATA.DATA, F.MEM.DR_STS.STATUS, F.MEM.DR_STS.VALID, F.MEM.POIS_CNT, F.MEM.RECON_CNT, F.MEM.ROW_WAIT_CNT]
      ++ on (some k) [F.STOP.ACK_TO_CNT]
  | .overflowReadback k => counted .pmu (some k) ++ recorded .stop (some k) ++ on (some k) [F.STOP.SRAM_UE_CNT]
  | .arbiterDecision k => recorded .mem (some (sectorOf k)) ++ counted .pmu (some k) ++ on (some 0)
      [F.GLB.LSG_STS.LIMITING] ++ on (some (sectorOf k)) [F.MEM.DR_DATA.DATA, F.MEM.DR_STS.STATUS, F.MEM.DR_STS.VALID,
      F.MEM.POIS_CNT, F.MEM.RECON_CNT, F.MEM.ROW_WAIT_CNT] ++ on (some k) [F.GATE.NOFIT_CNT, F.GATE.OVR_CNT,
      F.GATE.OVR_MAX, F.HDR.PG_INT_STS.INT .gate, F.PMU.SLOTS_HI.SLOTS, F.PMU.SLOTS_LO.SLOTS, F.PMU.SLOT_HI.COUNT_HI,
      F.PMU.SLOT_LO.COUNT_LO, F.PMU.SLOT_OVF.OVF, F.PMU.SLOT_OVF.OVF_SLOTS, F.PMU.SMP_REC.RQ_IDX, F.PMU.SMP_STS.KIND,
      F.PMU.SMP_STS.SKID, F.PMU.SMP_STS.VALID, F.PMU.SMP_TICK_HI.SMP_TICK, F.PMU.SMP_TICK_LO.SMP_TICK, F.STOP.MAP_FIX_CNT,
      F.STOP.RET_FULL_CNT, F.STOP.ROUTE_HOLD_CNT]
  | .grantRecheck k => recorded .mem (some (sectorOf k)) ++ counted .pmu (some k) ++ on (some (sectorOf k))
      [F.MEM.DR_DATA.DATA, F.MEM.DR_STS.STATUS, F.MEM.DR_STS.VALID, F.MEM.POIS_CNT, F.MEM.RECON_CNT, F.MEM.ROW_WAIT_CNT]
      ++ on (some k) [F.ARB.ACK_SLOT_CNT, F.ARB.NTH_GNT_CNT, F.ARB.NTH_POS, F.ARB.WAIT_MAX, F.ARB.WITHDRAW_CNT,
      F.ARB.YELLOW_GNT_CNT, F.GATE.OVR_CNT, F.GATE.OVR_MAX, F.HDR.PG_INT_STS.INT .arb, F.HDR.PG_INT_STS.INT .gate,
      F.PMU.SLOTS_HI.SLOTS, F.PMU.SLOTS_LO.SLOTS, F.PMU.SLOT_HI.COUNT_HI, F.PMU.SLOT_LO.COUNT_LO, F.PMU.SLOT_OVF.OVF,
      F.PMU.SLOT_OVF.OVF_SLOTS, F.STOP.REPLAY_CNT, F.STOP.RES_REQ_CNT]
  | .bridgeCreditReturn .. => []
  | .slotSettle k => counted .pmu (some k) ++ on (some k) [F.PMU.SLOT_HI.COUNT_HI, F.PMU.SLOT_LO.COUNT_LO,
      F.PMU.SLOT_OVF.OVF]
  | .egressSend k _ => recorded .mem none ++ recorded .eng (some (sectorOf k)) ++ counted .pwr (some (sectorOf k)) ++
      recorded .stop (some k) ++ on (some 0) [F.REPL.FAN_STS.PENDING] ++ on (some 1) [F.FI.FI_CTL.ARM, F.FI.FI_ELIG,
      F.FI.FI_FIRED] ++ on (some (56 + (k - 56))) [F.CB.CB_OVF.OVF .pmu, F.CB.CNT_HI .pmu, F.CB.CNT_LO .pmu,
      F.HDR.PG_INT_STS.INT .pmu, F.STOP.CLS_USE.USED, F.STOP.DROP_CNT, F.STOP.POIS_RX_CNT, F.STOP.POOL_STS.NP_USED,
      F.STOP.SYNTH_CPL_CNT] ++ on (some 58) [F.CB.CB_OVF.OVF .pmu, F.CB.CNT_HI .pmu, F.CB.CNT_LO .pmu,
      F.HDR.PG_INT_STS.INT .pmu, F.STOP.CLS_USE.USED, F.STOP.DROP_CNT, F.STOP.POIS_RX_CNT, F.STOP.POOL_STS.NP_USED,
      F.STOP.SYNTH_CPL_CNT] ++ on none [F.HDR.PG_ERR_CNT.CNT .slice, F.HDR.PG_ERR_CNT.NON_ACCESS .slice,
      F.MEM.DR_DATA.DATA, F.MEM.DR_STS.STATUS, F.MEM.DR_STS.VALID, F.MEM.POIS_CNT, F.MEM.RECON_CNT, F.MEM.ROW_WAIT_CNT] ++
      on (some (engStop (sectorOf k))) [F.CB.CB_OVF.OVF .pmu, F.CB.CNT_HI .pmu, F.CB.CNT_LO .pmu, F.HDR.PG_INT_STS.INT
      .pmu, F.STOP.CLS_USE.USED, F.STOP.DROP_CNT, F.STOP.POIS_RX_CNT, F.STOP.POOL_STS.NP_USED, F.STOP.SYNTH_CPL_CNT] ++ on
      (some (memStop (sectorOf k))) [F.CB.CB_OVF.OVF .pmu, F.CB.CNT_HI .pmu, F.CB.CNT_LO .pmu, F.HDR.PG_INT_STS.INT .pmu,
      F.STOP.CLS_USE.USED, F.STOP.DROP_CNT, F.STOP.POIS_RX_CNT, F.STOP.POOL_STS.NP_USED, F.STOP.SYNTH_CPL_CNT] ++ on (some
      (sectorOf k)) [F.CB.CB_OVF.OVF .eng, F.CB.CNT_HI .eng, F.CB.CNT_LO .eng, F.ENG.DESC_REJ_CNT, F.ENG.ENG_STS.EXEC,
      F.ENG.ENG_STS.RESIDENT] ++ on (some (xcPage (sectorOf k))) [F.CB.CB_OVF.OVF .pmu, F.CB.CNT_HI .pmu, F.CB.CNT_LO
      .pmu, F.HDR.PG_INT_STS.INT .pmu, F.STOP.XC_HIT_CNT, F.STOP.XC_MISS_CNT] ++ on (some k) [F.CB.CB_OVF.OVF .pmu,
      F.CB.CNT_HI .pmu, F.CB.CNT_LO .pmu, F.HDR.PG_INT_STS.INT .pmu, F.STOP.ATOM_EMU_CNT, F.STOP.CLS_USE.USED,
      F.STOP.DROP_CNT, F.STOP.ING_REJ_CNT, F.STOP.LINK_STS.HOLDING, F.STOP.LINK_STS.LOCKED, F.STOP.LOCK_DEFER_CNT,
      F.STOP.POIS_RX_CNT, F.STOP.POOL_STS.NP_USED, F.STOP.SPILL_FLIT_CNT, F.STOP.SPILL_FULL_CNT,
      F.STOP.SPILL_USE.FLUSH_USED, F.STOP.SPILL_USE.HOLD_USED, F.STOP.SYNTH_CPL_CNT]
  | .credit n _ => messageHits n ++ on (some n) [F.STOP.RES_REQ_CNT]
  | .resReq n _ => messageHits n
  | .resGrantDecision d => counted .pmu (some d) ++ on (some d) [F.STOP.CLS_USE.USED, F.STOP.POOL_STS.NP_USED,
      F.STOP.RES_GNT_CNT]
  | .resGnt n _ => messageHits n ++ on (some n) [F.STOP.RES_REQ_CNT, F.STOP.RES_WAIT_MAX]
  | .resReqRetry k _ _ => counted .pmu (some k) ++ on (some k) [F.STOP.RES_REQ_CNT, F.STOP.RES_RETRY_CNT]
  | .floorRecall n _ => messageHits n ++ on (some n) [F.STOP.RES_REQ_CNT]
  | .surrender n _ => messageHits n ++ on (some n) [F.STOP.CLS_USE.USED, F.STOP.POOL_STS.NP_USED]
  | .floorReissue n _ => messageHits n ++ on (some n) [F.STOP.RES_REQ_CNT]
  | .floorSyncReq n _ => messageHits n
  | .regRd n m => readHits (msgOff m) ++ messageHits n
  | .regWrA .. => everyField
  | .regWrD .. => everyField
  | .regWrHalfTimeout .. => []
  | .regRsp n _ => messageHits n
  | .mgmtRequest _ a _ _ _ _ _ => refused ((pageAt a.toNat).getD (.glb, 0)).1 (some ((pageAt a.toNat).getD (.glb, 0)).2)
  | .tenantErr m => messageHits 62 ++ recorded .slice (some (vbits m 32 12)) ++ refused .slice (some (vbits m 32 12))
  | .registerWrite off _ _ => writeHits (off.toNat / 4 * 4)
  | .rcRead off _ => readHits (off.toNat / 4 * 4)
  | .lowRegisterRead off _ => readHits (off.toNat / 4 * 4)
  | .pgLockWrite off _ _ => writeHits (off.toNat / 4096 * 4096 + 0x02C)
  | .pgErrClear off _ => writeHits (off.toNat / 4096 * 4096 + 0x01C)
  | .pgIntSet off _ _ => writeHits (off.toNat / 4096 * 4096 + 0x018)
  | .drainReq off _ _ => writeHits (off.toNat / 4096 * 4096 + 0x008)
  | .drainQuiet off => quietHits off.toNat
  | .irqPresent .. => []
  | .ringCal r => on (some r) [F.HDR.PG_STS.QUIET .ring, F.RING.RING_STS.CMD_RES, F.RING.RING_STS.READY,
      F.RING.RING_STS.STATE]
  | .ringTest r => on (some r) [F.HDR.PG_STS.QUIET .ring, F.RING.RING_STS.CMD_RES, F.RING.RING_STS.STATE]
  | .ringFail r => on (some r) [F.HDR.PG_INT_STS.INT .ring, F.HDR.PG_STS.QUIET .ring, F.RING.RING_STS.CMD_RES,
      F.RING.RING_STS.READY, F.RING.RING_STS.STATE, F.RING.RING_STS.SUSPECT]
  | .ringClear r => on (some r) [F.HDR.PG_STS.QUIET .ring, F.RING.RING_STS.CMD_RES, F.RING.RING_STS.READY,
      F.RING.RING_STS.STATE, F.RING.RING_STS.SUSPECT]
  | .ringCalDone r _ _ _ _ _ _ => on (some r) [F.RING.CAL_STS.MARGIN0, F.RING.CAL_STS.MARGIN1, F.RING.CAL_STS.WORST0,
      F.RING.CAL_STS.WORST1, F.RING.ECHO_CYC.CYC0, F.RING.ECHO_CYC.CYC1, F.RING.RING_STS.READY, F.RING.RING_STS.STATE]
  | .ringTestStart .. => []
  | .ringTestEnd r => on (some r) [F.RING.RING_STS.READY, F.RING.RING_STS.STATE]
  | .ringThreshold r => on (some r) [F.HDR.PG_INT_STS.INT .ring, F.RING.RING_STS.SUSPECT]
  | .fence n _ => messageHits n
  | .fenceApply .. => on (some 0) [F.GLB.RING_USE.FENCED]
  | .transactionFormed k => counted .pmu (some k) ++ on (some k) [F.STOP.CLS_USE.USED, F.STOP.LINK_STS.XOFF,
      F.STOP.POOL_STS.NP_USED, F.STOP.RES_REQ_CNT, F.STOP.ROUTE_HOLD_CNT, F.STOP.RSP_WAIT_CNT]
  | .meterColour k _ => counted .pwr (some (sectorOf k)) ++ counted .pmu (some k) ++ on (some k) [F.STOP.RED_HOLD_CNT]
  | .redRecolour k => counted .pwr (some (sectorOf k)) ++ counted .pmu (some k) ++ on (some k) [F.STOP.RED_HOLD_CNT]
  | .bindWrite k _ => refused .stop (some k) ++ on (some k) [F.HDR.PG_STS.QUIET .stop]
  | .gateAdvance k => on (some k) [F.GATE.LIST_CYC.CYC, F.GATE.LIST_STS.BANK, F.GATE.LIST_STS.PEND, F.GATE.LIST_STS.POS,
      F.GATE.LIST_STS.SWAP_CNT]
  | .gateRecomputeDone k => on (some 0) [F.GLB.WE_STS.OUT] ++ on (some k) [F.GATE.LIST_CYC.CYC, F.GATE.LIST_STS.POS,
      F.GATE.LIST_STS.READY]
  | .tlpReceived k _ _ => counted .pmu (some k) ++ recorded .stop (some k) ++ on (some 1) [F.FI.FI_CTL.ARM, F.FI.FI_ELIG,
      F.FI.FI_FIRED] ++ on (some k) [F.STOP.DROP_CNT, F.STOP.ING_REJ_CNT, F.STOP.LCI_OVR_CNT, F.STOP.LCI_PROTO_CNT,
      F.STOP.LINK_STS.XOFF, F.STOP.SYNTH_CPL_CNT]
  | .ingressCheck k _ _ => counted .pwr (some (sectorOf k)) ++ counted .pmu (some (xcPage (sectorOf k))) ++ counted .pmu
      (some k) ++ recorded .stop (some k) ++ on (some (xcPage (sectorOf k))) [F.STOP.XC_HIT_CNT, F.STOP.XC_MISS_CNT] ++ on
      (some k) [F.STOP.DROP_CNT, F.STOP.ING_REJ_CNT, F.STOP.LINK_STS.LOCKED, F.STOP.LINK_STS.XOFF, F.STOP.POST_REJ_CNT,
      F.STOP.SYNTH_CPL_CNT, F.STOP.WIN_MISS_CNT]
  | .xltFillDone x => counted .pmu (some (xcPage x)) ++ recorded .mem (some x) ++ on (some (xcPage x))
      [F.STOP.XC_STALE_CNT]
  | .xltFillTimeout x => on (some x) [F.HDR.PG_INT_STS.INT .mem, F.MEM.FILL_RETRY_CNT]
  | .bindFillDone x => counted .pmu (some (xcPage x)) ++ recorded .mem (some x) ++ on (some (xcPage x))
      [F.STOP.XC_STALE_CNT]
  | .txCreditUpdate .. => []
  | .stallChange .. => []
  | .pause k _ => hitsPause k
  | .resume k _ => hitsPause k
  | .down k _ => hitsPause k
  | .returnKept k _ => hitsPause k
  | .returnFresh k _ => hitsPause k
  | .portModeWrite k _ => refused .stop (some k) ++ on (some k) [F.HDR.PG_STS.QUIET .stop, F.STOP.PORT_MODE.MODE]
  | .portModeChange k => counted .pmu (some k) ++ recorded .stop (some k) ++ on (some k) [F.STOP.CLS_USE.USED,
      F.STOP.DROP_CNT, F.STOP.LINK_STS.HOLDING, F.STOP.LINK_STS.LOCKED, F.STOP.LINK_STS.NN, F.STOP.POOL_STS.NP_USED,
      F.STOP.PORT_MODE.MODE_NOW, F.STOP.SPILL_FLIT_CNT, F.STOP.SPILL_FULL_CNT, F.STOP.SPILL_USE.FLUSH_USED,
      F.STOP.SPILL_USE.HOLD_USED, F.STOP.SYNTH_CPL_CNT]
  | .linkNotice n _ => messageHits n
  | .linkNoticeApply n => counted .pmu (some n) ++ recorded .stop (some n) ++ on (some n) [F.STOP.DROP_CNT,
      F.STOP.ING_REJ_CNT, F.STOP.LINK_STS.XOFF, F.STOP.SYNTH_CPL_CNT]
  | .spillAge k _ => counted .pmu (some k) ++ recorded .stop (some k) ++ on (some k) [F.STOP.LINK_STS.HOLDING,
      F.STOP.SPILL_FLIT_CNT, F.STOP.SPILL_FULL_CNT, F.STOP.SPILL_USE.FLUSH_USED, F.STOP.SPILL_USE.HOLD_USED]
  | .spillReadback k _ => recorded .mem (some (sectorOf k)) ++ on (some (sectorOf k)) [F.MEM.POIS_CNT] ++ on (some k)
      [F.STOP.SPILL_USE.FLUSH_USED, F.STOP.SPILL_USE.HOLD_USED]
  | .linkWatch k _ => counted .pmu (some k) ++ recorded .stop (some k) ++ on (some k) [F.STOP.WATCH_CNT]
  | .lockTimeout k _ => counted .pmu (some k) ++ recorded .stop (some k) ++ on (some k) [F.STOP.LINK_STS.LOCKED,
      F.STOP.LOCK_TO_CNT]
  | .atomEmuReadDone k _ => on (some k) [F.STOP.LINK_STS.LOCKED]
  | .spareClaimRepair k _ _ => hitsSpareClaimRepair k
  | .spareClaimTest k => hitsSpareClaimRepair k
  | .spareGo k _ _ => hitsSpareClaimRepair k
  | .spareReturn k _ => hitsSpareClaimRepair k
  | .cplLanding k => hitsFlitLanding k
  | .tagDeadlinePassed .. => []
  | .tagExpire k _ => counted .pmu (some k) ++ recorded .stop (some k) ++ on (some k) [F.STOP.DROP_CNT,
      F.STOP.SYNTH_CPL_CNT]
  | .quarantineEnd .. => []
  | .completerRecordExpire .. => []
  | .xltUpdate c => recorded .mem (some c) ++ refused .mem (some c) ++ on (some c) [F.HDR.PG_STS.QUIET .mem,
      F.MEM.DR_DATA.DATA, F.MEM.DR_STS.STATUS, F.MEM.DR_STS.VALID, F.MEM.POIS_CNT, F.MEM.RECON_CNT, F.MEM.ROW_WAIT_CNT,
      F.MEM.XLT_STS.ACKS, F.MEM.XLT_STS.BUSY, F.MEM.XLT_STS.DONE, F.MEM.XLT_STS.RES]
  | .xltInv n _ => messageHits n
  | .invAck n _ => messageHits n ++ on (some 0) [F.GLB.PB_STS.ACKS, F.GLB.PB_STS.BUSY, F.GLB.PB_STS.DONE] ++ on (some
      (sectorOf n)) [F.MEM.XLT_STS.ACKS, F.MEM.XLT_STS.BUSY, F.MEM.XLT_STS.DONE]
  | .pbUpdate => refused .glb (some 0) ++ recorded .mem none ++ on (some 0) [F.GLB.PB_STS.ACKS, F.GLB.PB_STS.BUSY,
      F.GLB.PB_STS.DONE, F.GLB.PB_STS.RES, F.HDR.PG_STS.QUIET .glb] ++ on none [F.MEM.DR_DATA.DATA, F.MEM.DR_STS.STATUS,
      F.MEM.DR_STS.VALID, F.MEM.POIS_CNT, F.MEM.RECON_CNT, F.MEM.ROW_WAIT_CNT]
  | .pbInv n _ => messageHits n
  | .pbDcntWrite .. => refused .glb (some 0) ++ on (some 0) [F.GLB.PB_DCNT.CNT, F.HDR.PG_STS.QUIET .glb]
  | .memRequest c => hitsMemRequest c
  | .memResponse c _ _ _ => hitsMemResponse c
  | .parityDelta c => hitsMemRequest c
  | .rowRead c => hitsMemRequest c
  | .rowRelease c => hitsMemRequest c
  | .reconstructDone c => hitsMemResponse c
  | .chFail c => recorded .mem (some c) ++ on (some c) [F.MEM.CH_STS.STATE, F.MEM.DR_DATA.DATA, F.MEM.DR_STS.STATUS,
      F.MEM.DR_STS.VALID, F.MEM.POIS_CNT, F.MEM.RECON_CNT, F.MEM.ROW_WAIT_CNT]
  | .chCmdFail c _ => hitsChCmdFail c
  | .chCmdRebuild c _ => hitsChCmdFail c
  | .chCmdClear c _ => hitsChCmdFail c
  | .rebuildTick c => hitsMemResponse c
  | .ctrlReadyChange c _ => on (some c) [F.MEM.CH_STS.CTRL_READY]
  | .directRead c => recorded .mem (some c) ++ on (some c) [F.HDR.PG_STS.QUIET .mem, F.MEM.DR_DATA.DATA,
      F.MEM.DR_STS.STATUS, F.MEM.DR_STS.VALID, F.MEM.POIS_CNT, F.MEM.RECON_CNT, F.MEM.ROW_WAIT_CNT]
  | .directReadDone c => recorded .mem (some c) ++ on (some c) [F.MEM.DR_DATA.DATA, F.MEM.DR_STS.STATUS,
      F.MEM.DR_STS.VALID, F.MEM.POIS_CNT, F.MEM.RECON_CNT]
  | .doorbellWrite x _ _ => recorded .slice (some x) ++ refused .slice (some x) ++ on (some x) [F.HDR.PG_STS.QUIET .slice,
      F.SLICE.DOORBELL.QOFF, F.SLICE.DOORBELL.TAIL]
  | .doorbell n _ => messageHits n ++ counted .pmu (some (xcPage (n / 7))) ++ counted .eng (some (n / 7)) ++ recorded .eng
      (some (n / 7)) ++ counted .pwr (some (n / 7)) ++ on (some (xcPage (n / 7))) [F.STOP.XC_HIT_CNT, F.STOP.XC_MISS_CNT]
      ++ on (some (n / 7)) [F.ENG.DB_OLD_CNT, F.ENG.DB_STALE_CNT, F.ENG.DB_STRAY_CNT, F.ENG.ENG_STS.EXEC]
  | .descFetchDone e => hitsDescFetchDone e
  | .descStart e => counted .pmu (some (xcPage e)) ++ counted .eng (some e) ++ recorded .eng (some e) ++ counted .pwr
      (some e) ++ on (some (xcPage e)) [F.STOP.XC_HIT_CNT, F.STOP.XC_MISS_CNT] ++ on (some e) [F.ENG.BAD_DESC_CNT,
      F.ENG.ENG_STS.EXEC]
  | .chunkReadDone e => hitsDescFetchDone e
  | .descRetire e => counted .pmu (some (xcPage e)) ++ counted .eng (some e) ++ counted .pwr (some e) ++ on (some (xcPage
      e)) [F.STOP.XC_HIT_CNT, F.STOP.XC_MISS_CNT] ++ on (some e) [F.ENG.DESC_DONE_CNT, F.ENG.DESC_ERR_CNT,
      F.ENG.ENG_STS.EXEC, F.ENG.SMP_REC.INDEX, F.ENG.SMP_REC.QUEUE, F.ENG.SMP_STS.CTR, F.ENG.SMP_STS.SKID,
      F.ENG.SMP_STS.VALID, F.ENG.SMP_TICK_HI.TICK_HI, F.ENG.SMP_TICK_LO.TICK_LO]
  | .completionEvent .. => on none [F.SLICE.EVT_CFG.ARMED, F.SLICE.EVT_PEND.PEND]
  | .evtRearm x => on (some x) [F.HDR.PG_STS.QUIET .slice, F.SLICE.EVT_CFG.ARMED]
  | .qcRead e => hitsQcRead e
  | .qcWrite e => hitsQcRead e
  | .qcEnable e => hitsQcRead e
  | .qcDisable e => hitsQcRead e
  | .qcRestart e => hitsQcRead e
  | .engLeave e _ => hitsEngLeave e
  | .engJoin e _ => hitsEngLeave e
  | .engClear e _ => hitsEngLeave e
  | .engMoveq e _ => hitsEngLeave e
  | .contextSend e => counted .eng (some e) ++ on (some e) [F.ENG.ENG_STS.RESIDENT, F.ENG.ENG_STS.STATE]
  | .contextLand e => counted .pmu (some (engStop e)) ++ counted .pmu (some (xcPage e)) ++ counted .eng (some e) ++
      recorded .eng (some e) ++ counted .pwr (some e) ++ on (some (engStop e)) [F.STOP.CLS_USE.USED, F.STOP.DROP_CNT,
      F.STOP.POIS_RX_CNT, F.STOP.POOL_STS.NP_USED, F.STOP.SYNTH_CPL_CNT] ++ on (some (xcPage e)) [F.STOP.XC_HIT_CNT,
      F.STOP.XC_MISS_CNT] ++ on (some e) [F.ENG.DESC_REJ_CNT, F.ENG.ENG_STS.EXEC, F.ENG.ENG_STS.RESIDENT]
  | .qmapUpd n _ => messageHits n ++ on (some 0) [F.GLB.QMAP_DATA.ENGINE]
  | .stubExpire .. => []
  | .engCtxUe e _ => counted .eng (some e) ++ recorded .eng (some e) ++ on (some e) [F.ENG.ENG_STS.EXEC,
      F.ENG.ENG_STS.RESIDENT, F.ENG.ENG_STS.STATE]
  | .push e => counted .pmu (some (engStop e)) ++ counted .pmu (some (xcPage e)) ++ counted .eng (some e) ++ recorded .eng
      (some e) ++ counted .pwr (some e) ++ on (some (engStop e)) [F.STOP.CLS_USE.USED, F.STOP.DROP_CNT,
      F.STOP.POIS_RX_CNT, F.STOP.POOL_STS.NP_USED, F.STOP.SYNTH_CPL_CNT] ++ on (some (xcPage e)) [F.STOP.XC_HIT_CNT,
      F.STOP.XC_MISS_CNT] ++ on (some e) [F.ENG.DESC_REJ_CNT, F.ENG.ENG_STS.EXEC]
  | .replCopy => counted .pmu (some 58) ++ on (some 0) [F.REPL.COPY_CNT, F.REPL.FAN_STS.PENDING, F.REPL.SKIP_CNT] ++ on
      (some 58) [F.STOP.CLS_USE.USED, F.STOP.DROP_CNT, F.STOP.POIS_RX_CNT, F.STOP.POOL_STS.NP_USED, F.STOP.RES_REQ_CNT,
      F.STOP.ROUTE_HOLD_CNT, F.STOP.SYNTH_CPL_CNT]
  | .sliceCreate x => hitsSliceCreate x
  | .sliceDrydown x => hitsSliceCreate x
  | .sliceOpen x => hitsSliceCreate x
  | .sliceReset x => hitsSliceCreate x
  | .sliceRemove x => hitsSliceCreate x
  | .sliceFreeze x => hitsSliceCreate x
  | .sliceThaw x => hitsSliceCreate x
  | .sliceForce x => hitsSliceCreate x
  | .sliceUpd n _ => messageHits n
  | .sliceUpdApply k => counted .eng (some (sectorOf k)) ++ counted .pwr (some (sectorOf k)) ++ counted .pmu (some (xcPage
      (sectorOf k))) ++ counted .pmu (some k) ++ recorded .stop (some k) ++ on none [F.ENG.ENG_STS.EXEC] ++ on (some
      (xcPage (sectorOf k))) [F.STOP.XC_HIT_CNT, F.STOP.XC_MISS_CNT] ++ on (some k) [F.STOP.DROP_CNT, F.STOP.ING_REJ_CNT,
      F.STOP.LINK_STS.LOCKED, F.STOP.LINK_STS.XOFF, F.STOP.SYNTH_CPL_CNT]
  | .unitRng n _ => messageHits n
  | .dryReached x => on none [F.SLICE.DRY_STS.PENDING, F.SLICE.MSTS.TRACKED, F.SLICE.MSTS.TRACKER] ++ on (some x)
      [F.SLICE.MSTS.STATE]
  | .cleared x => on (some 0) [F.GLB.CS_CFG.V] ++ on none [F.ENG.SW_DATA.WEIGHT, F.SLICE.DRY_STS.PENDING,
      F.SLICE.MSTS.TRACKED, F.SLICE.MSTS.TRACKER] ++ on (some x) [F.SLICE.MSTS.STATE]
  | .drydownFlush k x => counted .pmu (some k) ++ on (some k) [F.STOP.SPILL_FLIT_CNT, F.STOP.SPILL_USE.FLUSH_USED,
      F.STOP.SPILL_USE.HOLD_USED] ++ on (some x) [F.SLICE.DRY_STS.FLUSH_FULL]
  | .mtrSelWrite x _ => on (some x) [F.HDR.PG_STS.QUIET .slice, F.SLICE.MTR_SEL.METER, F.SLICE.MTR_STS.GATE_WAIT,
      F.SLICE.MTR_STS.OWN, F.SLICE.MTR_STS.RED, F.SLICE.MTR_STS.VALID, F.SLICE.MTR_TC.TC, F.SLICE.MTR_TP.TP]
  | .flSave => hitsFlSave
  | .flLoad => hitsFlSave
  | .flRebind => hitsFlSave
  | .flCopy => hitsFlSave
  | .flDrop => hitsFlSave
  | .flOffWrite .. => refused .glb (some 0) ++ on (some 0) [F.GLB.FL_OFF.OFF, F.GLB.FL_OFF.VALID, F.HDR.PG_STS.QUIET .glb]
  | .flDataWrite .. => refused .glb (some 0) ++ on (some 0) [F.GLB.FL_DATA.DATA, F.GLB.FL_OFF.OFF, F.GLB.FL_OFF.VALID,
      F.HDR.PG_STS.QUIET .glb]
  | .bridgeResync g _ => recorded .xb (some g)
  | .clockSwitch => []
  | .xbSelWrite b _ => on (some b) [F.HDR.PG_STS.QUIET .xb, F.XB.DROP_CNT, F.XB.OVF_CNT, F.XB.RESYNC_CNT, F.XB.XB_SEL.IDX,
      F.XB.XB_STS.KIND, F.XB.XB_STS.LAT_Q, F.XB.XB_STS.OCC_MAX, F.XB.XB_STS.PRESENT, F.XB.XB_STS.READY_A,
      F.XB.XB_STS.READY_B, F.XB.XB_STS.VALID]
  | .psTargetRun x _ => hitsPsTargetRun x
  | .psTargetTrim x _ => hitsPsTargetRun x
  | .psTargetDoze x _ => hitsPsTargetRun x
  | .psTargetOff x _ => hitsPsTargetRun x
  | .pwrCmdClose n _ => hitsPwrCmdClose n
  | .pwrCmdReopen n _ => hitsPwrCmdClose n
  | .pwrCmdEmpty n _ => hitsPwrCmdClose n
  | .sectorEmpty x => on (some x) [F.PWR.PS_STS.PHASE, F.PWR.PS_STS.STEP, F.PWR.TR_STS.LSG_WAIT]
  | .closeTimeout x => recorded .pwr (some x) ++ on (some x) [F.PWR.PS_STS.PHASE, F.PWR.PS_STS.RES, F.PWR.PS_STS.STEP,
      F.PWR.TR_STS.LSG_WAIT]
  | .wakeDemand x => hitsWakeDemand x
  | .wakeSigdet x _ => hitsWakeDemand x
  | .wakeSupply x _ => hitsWakeDemand x
  | .wakeTherm x _ => hitsWakeDemand x
  | .wakeTimer x => hitsWakeDemand x
  | .wakePair x => hitsWakeDemand x
  | .governorInterval => recorded .glb (some 0) ++ on (some 0) [F.GLB.LSG_CAP_CNT, F.GLB.LSG_EXCEED_CNT,
      F.GLB.LSG_STS.EST, F.GLB.LSG_STS.LIMITING] ++ on none [F.PWR.PS_STS.STEP, F.PWR.TR_STS.LSG_WAIT]
  | .svokAsserted .. => []
  | .svokTimeout x => hitsSvokTimeout x
  | .svokLost x => hitsSvokTimeout x
  | .transitionDone x => counted .pwr (some x) ++ on none [F.GATE.LIST_CYC.CYC, F.GATE.LIST_STS.BANK,
      F.GATE.LIST_STS.PEND, F.GATE.LIST_STS.POS, F.GATE.LIST_STS.SWAP_CNT, F.STOP.CLS_USE.USED, F.STOP.LINK_STS.HOLDING,
      F.STOP.LINK_STS.LOCKED, F.STOP.LINK_STS.STATE, F.STOP.POOL_STS.NP_USED] ++ on (some x) [F.PWR.LW_REC.CANCEL,
      F.PWR.LW_REC.CHAN, F.PWR.LW_REC.CODE, F.PWR.LW_REC.FROM, F.PWR.LW_REC.THR, F.PWR.LW_REC.VALID,
      F.PWR.LW_TICK_HI.TICK_HI, F.PWR.LW_TICK_LO.TICK_LO, F.PWR.PS_STS.PHASE, F.PWR.PS_STS.RES, F.PWR.PS_STS.STATE,
      F.PWR.PS_STS.STEP, F.PWR.TR_STS.LSG_WAIT, F.PWR.TR_STS.TR_US, F.PWR.WAKE_CNT, F.PWR.WAKE_EN.TIMER]
  | .spinePwrWrite .. => on (some 0) [F.GLB.SPINE_PWR.BUSY, F.GLB.SPINE_PWR.REFUSED, F.GLB.SPINE_PWR.TARGET,
      F.HDR.PG_STS.QUIET .glb]
  | .corePwrWrite .. => on (some 0) [F.GLB.CORE_PWR.BUSY, F.GLB.CORE_PWR.TARGET, F.HDR.PG_STS.QUIET .glb]
  | .lsgSet n _ => messageHits n
  | .snapReq => on (some 0) [F.GLB.SNAP.REQ, F.HDR.PG_STS.QUIET .glb]
  | .freezeArm => refused .glb (some 0) ++ on (some 0) [F.GLB.FREEZE.ARM, F.GLB.FREEZE_STS.OWNER, F.HDR.PG_STS.QUIET .glb]
  | .freezeRelease => on (some 0) [F.HDR.PG_STS.QUIET .glb]
  | .cntHiWrite c inst _ _ => on (some inst) [F.CB.CNT_HI c, F.CB.CNT_LO c, F.HDR.PG_STS.QUIET c]
  | .rqSelWrite k _ => refused .arb (some k) ++ on (some k) [F.ARB.RQ_GRANTS_HI.GRANTS_HI, F.ARB.RQ_GRANTS_LO.GRANTS_LO,
      F.ARB.RQ_LONGEST.LONGEST, F.ARB.RQ_SEL.RQ_IDX, F.ARB.RQ_STS.OVF_GRANTS, F.ARB.RQ_STS.OVF_WAIT, F.ARB.RQ_STS.VALID,
      F.ARB.RQ_STS.WAITING, F.ARB.RQ_WAIT_HI.WAIT_HI, F.ARB.RQ_WAIT_LO.WAIT_LO, F.HDR.PG_STS.QUIET .arb]
  | .meterSelWrite k _ => refused .stop (some k) ++ on (some k) [F.HDR.PG_STS.QUIET .stop, F.STOP.METER_GREEN_HI.GREEN_HI,
      F.STOP.METER_GREEN_LO.GREEN_LO, F.STOP.METER_RED.RED_CNT, F.STOP.METER_SEL.IDX, F.STOP.METER_STS.OVF_G,
      F.STOP.METER_STS.OVF_Y, F.STOP.METER_STS.VALID, F.STOP.METER_TOK_C.TC, F.STOP.METER_TOK_P.TP,
      F.STOP.METER_YELLOW_HI.YELLOW_HI, F.STOP.METER_YELLOW_LO.YELLOW_LO]
  | .csSelWrite .. => on (some 0) [F.GLB.CS_CNT_HI.CNT, F.GLB.CS_CNT_LO.CNT, F.GLB.CS_OVF.OVF,
      F.GLB.CS_REC_CLOSE_HI.CLOSE, F.GLB.CS_REC_CLOSE_LO.CLOSE, F.GLB.CS_REC_FLAGS.FLAGS, F.GLB.CS_REC_FLAGS.MISSED,
      F.GLB.CS_REC_K.K, F.GLB.CS_REC_RX_HI.RX, F.GLB.CS_REC_RX_LO.RX, F.GLB.CS_REC_TX_HI.TX, F.GLB.CS_REC_TX_LO.TX,
      F.GLB.CS_SEL.SET, F.GLB.CS_SH_HI.SH, F.GLB.CS_SH_LO.SH, F.GLB.CS_STS.OWNED, F.GLB.CS_STS.OWNER, F.GLB.CS_STS.VALID,
      F.HDR.PG_STS.QUIET .glb]
  | .tcSelWrite x _ => on (some x) [F.HDR.PG_STS.QUIET .slice, F.SLICE.TC_CNT_HI.CNT, F.SLICE.TC_CNT_LO.CNT,
      F.SLICE.TC_OVF.OVF, F.SLICE.TC_REC_CLOSE_HI.CLOSE, F.SLICE.TC_REC_CLOSE_LO.CLOSE, F.SLICE.TC_REC_FLAGS.FLAGS,
      F.SLICE.TC_REC_K.K, F.SLICE.TC_REC_RX_HI.RX, F.SLICE.TC_REC_RX_LO.RX, F.SLICE.TC_REC_TX_HI.TX,
      F.SLICE.TC_REC_TX_LO.TX, F.SLICE.TC_SEL.OFF, F.SLICE.TC_STS.OWN, F.SLICE.TC_STS.VALID]
  | .windowClose .. => []
  | .sbSelect .. => []
  | .silFrag n _ => messageHits n ++ on (some (sectorOf n)) [F.MEM.SIL_DONE.DONE, F.MEM.SIL_LOST.LOST,
      F.MEM.SIL_STG.STAGED, F.MEM.SIL_WPTR.WPTR]
  | .silFragTimeout r _ => on (some (sectorOf (writerStop r))) [F.MEM.SIL_LOST.LOST]
  | .silLineWrite x => on (some x) [F.MEM.SIL_DONE.DONE, F.MEM.SIL_STG.STAGED]
  | .silLineAck x => on (some x) [F.MEM.SIL_DONE.DONE, F.MEM.SIL_STG.STAGED, F.MEM.SIL_WPTR.WPTR]
  | .erqFrag .. => messageHits 60 ++ recorded .glb (some 0) ++ on (some 0) [F.GLB.ERQ_LOST, F.GLB.ERQ_STS.COUNT]
  | .erqFragTimeout .. => recorded .glb (some 0) ++ on (some 0) [F.GLB.ERQ_LOST]
  | .erqPop => on (some 0) [F.GLB.ERQ_STS.COUNT, F.HDR.PG_STS.QUIET .glb]
  | .isolate .. => on (some 0) [F.GLB.ISO_STS.BUSY, F.GLB.ISO_STS.RES, F.HDR.PG_STS.QUIET .glb] ++ on none
      [F.STOP.LINK_STS.NN]
  | .rejoin .. => on (some 0) [F.GLB.ISO_SET_HI.SET_HI, F.GLB.ISO_SET_LO.SET_LO, F.GLB.ISO_STS.RES, F.HDR.PG_STS.QUIET
      .glb] ++ on none [F.STOP.POOL_STS.CLOSING]
  | .isolateMsg n _ => messageHits n
  | .isolateApply n => counted .eng none ++ recorded .eng none ++ recorded .mem (some (sectorOf n)) ++ recorded .stop
      (some n) ++ on (some 0) [F.GLB.ISO_SET_HI.SET_HI, F.GLB.ISO_SET_LO.SET_LO] ++ on none [F.ENG.ENG_STS.EXEC,
      F.ENG.ENG_STS.RESIDENT, F.ENG.ENG_STS.STATE, F.PWR.PS_STS.PHASE, F.PWR.PS_STS.STATE, F.PWR.PS_STS.STEP,
      F.STOP.CLS_USE.USED, F.STOP.LINK_STS.HOLDING, F.STOP.LINK_STS.LOCKED, F.STOP.LINK_STS.STATE,
      F.STOP.POOL_STS.NP_USED] ++ on (some (sectorOf n)) [F.MEM.CH_STS.STATE, F.MEM.DR_DATA.DATA, F.MEM.DR_STS.STATUS,
      F.MEM.DR_STS.VALID, F.MEM.POIS_CNT, F.MEM.RECON_CNT, F.MEM.ROW_WAIT_CNT] ++ on (some n) [F.CB.CB_OVF.OVF .pmu,
      F.CB.CNT_HI .pmu, F.CB.CNT_LO .pmu, F.HDR.PG_INT_STS.INT .pmu, F.STOP.DROP_CNT, F.STOP.ISO_FREE_CNT,
      F.STOP.ISO_RM_CNT, F.STOP.ORDER_BREAK_CNT, F.STOP.POIS_RX_CNT, F.STOP.SYNTH_CPL_CNT]
  | .isolationComplete => recorded .glb (some 0) ++ on (some 0) [F.GLB.ISO_STS.BUSY] ++ on none [F.STOP.LINK_STS.NN]
  | .maintSeg .. => recorded .glb (some 0) ++ on (some 0) [F.GLB.FAB_STS.CAUSE, F.GLB.FAB_STS.RECOVERY_CNT,
      F.GLB.FAB_STS.STATE]
  | .stopUe k _ _ => counted .pmu (some k) ++ recorded .stop (some k) ++ on (some k) [F.STOP.SRAM_UE_CNT]
  | .testKeyWrite .. => on (some 0) [F.GLB.TEST_STS.UNLOCKED, F.HDR.PG_STS.QUIET .glb] ++ on none [F.FI.FI_CTL.ARM]
  | .fiLciDelayExpire k _ _ => counted .pmu (some k) ++ recorded .stop (some k) ++ on (some k) [F.STOP.DROP_CNT,
      F.STOP.ING_REJ_CNT, F.STOP.LCI_OVR_CNT, F.STOP.LINK_STS.XOFF, F.STOP.SYNTH_CPL_CNT]
  | .mbPost m _ => hitsMbPost m
  | .mbRestart m _ => hitsMbPost m
  | .mbCopyDone .. => on none [F.MBOX.MB_STS.OWNER]
  | .imageVerifyDone c => recorded .ctl (some 0) ++ on (some 0) [F.CTL.CORE_STS.ACTIVE, coreFld ↑c, if ↑c = 0 then
      F.CTL.CORE_STS.LDR_RES_A else F.CTL.CORE_STS.LDR_RES_B, svnFld ↑c]
  | .coreResetExit c _ => recorded .ctl (some 0) ++ on (some 0) [coreFld ↑c]
  | .coreRst c => on (some 0) [F.CTL.HO_STS.RES, F.HDR.PG_STS.QUIET .ctl, coreFld ↑c, svnFld ↑c] ++ on none
      [F.MBOX.MB_STS.OWNER]
  | .coreFail c => recorded .ctl (some 0) ++ on (some 0) [F.CTL.HO_CTL.GO, F.CTL.HO_STS.PENDING, coreFld ↑c]
  | .handoverReq .. => on (some 0) [F.CTL.HO_CTL.AT_EN, F.CTL.HO_CTL.GO, F.CTL.HO_STS.PENDING, F.CTL.HO_STS.RES,
      F.HDR.PG_STS.QUIET .ctl]
  | .handover => on (some 0) [F.CTL.CORE_STS.ACTIVE, F.CTL.CORE_STS.STATE_A, F.CTL.CORE_STS.STATE_B, F.CTL.HO_CTL.GO,
      F.CTL.HO_STS.HO_CNT, F.CTL.HO_STS.PENDING]
  | .oldCoreSettled c => on (some 0) [coreFld ↑c]
  | .memepCfg .. => []
  | .memInitDone => on (some 0) [F.GLB.FAB_STS.MEM_INIT]
  | .goService => on (some 0) [F.GLB.FAB_STS.REFUSE, F.HDR.PG_STS.QUIET .glb]
  | .recoveryCause .. => on (some 0) [F.GLB.FAB_STS.CAUSE, F.GLB.FAB_STS.RECOVERY_CNT, F.GLB.FAB_STS.STATE,
      F.HDR.PG_INT_STS.INT .glb]
  | .pairFrameXlt .. => hitsPairFrameXlt
  | .pairFramePb .. => hitsPairFrameXlt
  | .pairFrameAcc .. => hitsPairFrameXlt
  | .pairFrameQctx .. => hitsPairFrameXlt
  | .pairFrameMtr .. => hitsPairFrameXlt
  | .pairFrameSlc .. => hitsPairFrameXlt
  | .pairFrameFlc .. => hitsPairFrameXlt
  | .pairFrameCkpt .. => hitsPairFrameXlt
  | .pairFrameWake .. => hitsPairFrameXlt
  | .pairFrameHb .. => hitsPairFrameXlt
  | .pairReplay => recorded .pair (some 0) ++ on (some 0) [F.PAIR.MARK, F.PAIR.MIR_PEND.PEND, F.PAIR.MIR_TX_CNT,
      F.PAIR.PAIR_STS.MSTATE, F.PAIR.REPLAY_CNT]
  | .pairCkpt => recorded .pair (some 0) ++ on (some 0) [F.PAIR.MARK, F.PAIR.MIR_PEND.PEND, F.PAIR.MIR_TX_CNT,
      F.PAIR.PAIR_STS.MSTATE]
  | .peerLost => recorded .pair (some 0) ++ refused .slice none ++ on (some 0) [F.GLB.FREEZE_STS.OWNER,
      F.PAIR.PAIR_STS.MSTATE, F.PAIR.PAIR_STS.PEER, F.PAIR.TKO_STS.BUSY, F.PAIR.TKO_STS.DONE, F.PAIR.TKO_STS.FAILED,
      F.PAIR.TKO_STS.RES] ++ on none [F.ENG.SW_DATA.WEIGHT, F.SLICE.DRY_STS.FLUSH_FULL, F.SLICE.DRY_STS.PENDING,
      F.SLICE.DRY_TICKS, F.SLICE.EVT_CFG.ARMED, F.SLICE.EVT_CFG.EN, F.SLICE.EVT_PEND.PEND, F.SLICE.FRZ_TICK_HI.LATCHED,
      F.SLICE.MSTS.BUSY, F.SLICE.MSTS.RES, F.SLICE.MSTS.SGEN, F.SLICE.MSTS.STATE, F.SLICE.MSTS.TRACKED,
      F.SLICE.MSTS.TRACKER]
  | .plUpChange .. => recorded .pair (some 0) ++ on (some 0) [F.PAIR.MARK, F.PAIR.MIR_PEND.PEND, F.PAIR.MIR_TX_CNT,
      F.PAIR.PAIR_STS.LINK, F.PAIR.PAIR_STS.MSTATE]
  | .partnerFailChange .. => on (some 0) [F.PAIR.PAIR_STS.PARTNER_FAIL]
  | .mirrorWrite .. => recorded .pair (some 0) ++ refused .pair (some 0) ++ on (some 0) [F.HDR.PG_STS.QUIET .pair,
      F.PAIR.MARK, F.PAIR.MIR_PEND.PEND, F.PAIR.MIR_TX_CNT, F.PAIR.PAIR_CTL.AUTO, F.PAIR.PAIR_CTL.AUTO_RESYNC,
      F.PAIR.PAIR_CTL.EN, F.PAIR.PAIR_CTL.MIRROR, F.PAIR.PAIR_CTL.PRIMARY, F.PAIR.PAIR_STS.LINK, F.PAIR.PAIR_STS.MSTATE]
  | .rsyncGo => hitsRsyncGo
  | .resyncDone => on (some 0) [F.PAIR.PAIR_STS.MSTATE]
  | .takeover .. => refused .pair (some 0) ++ refused .slice none ++ on (some 0) [F.GLB.FREEZE_STS.OWNER,
      F.HDR.PG_STS.QUIET .pair, F.PAIR.TKO_CTL.FORCE, F.PAIR.TKO_STS.BUSY, F.PAIR.TKO_STS.DONE, F.PAIR.TKO_STS.FAILED,
      F.PAIR.TKO_STS.RES] ++ on none [F.ENG.SW_DATA.WEIGHT, F.SLICE.DRY_STS.FLUSH_FULL, F.SLICE.DRY_STS.PENDING,
      F.SLICE.DRY_TICKS, F.SLICE.EVT_CFG.ARMED, F.SLICE.EVT_CFG.EN, F.SLICE.EVT_PEND.PEND, F.SLICE.FRZ_TICK_HI.LATCHED,
      F.SLICE.MSTS.BUSY, F.SLICE.MSTS.RES, F.SLICE.MSTS.SGEN, F.SLICE.MSTS.STATE, F.SLICE.MSTS.TRACKED,
      F.SLICE.MSTS.TRACKER]
  | .takeoverDone => refused .slice none ++ on (some 0) [F.GLB.FREEZE_STS.OWNER, F.PAIR.HOME.BASE, F.PAIR.HOME.CNT,
      F.PAIR.SHD.CNT, F.PAIR.TKO_STS.BUSY, F.PAIR.TKO_STS.DONE, F.PAIR.TKO_STS.FAILED] ++ on none [F.ENG.SW_DATA.WEIGHT,
      F.SLICE.DRY_STS.FLUSH_FULL, F.SLICE.DRY_STS.PENDING, F.SLICE.DRY_TICKS, F.SLICE.EVT_CFG.ARMED, F.SLICE.EVT_CFG.EN,
      F.SLICE.EVT_PEND.PEND, F.SLICE.FRZ_TICK_HI.LATCHED, F.SLICE.MSTS.BUSY, F.SLICE.MSTS.RES, F.SLICE.MSTS.SGEN,
      F.SLICE.MSTS.STATE, F.SLICE.MSTS.TRACKED, F.SLICE.MSTS.TRACKER]
  | .pwake .. => hitsRsyncGo
  | .pairMark => on (some 0) [F.HDR.PG_STS.QUIET .pair, F.PAIR.MARK]
  | .lciEvCodeUndefined k _ => counted .pmu (some k) ++ on (some k) [F.STOP.LCI_PROTO_CNT]
  | .handoverMessage n _ => messageHits n
  | .resetMessage n _ => messageHits n
  | .bankSyncStartMsg n _ => messageHits n ++ on (some 0) [F.GLB.BANK_SYNC.SKIPPED] ++ everyField.filter (fun h =>
      h.fld.acc = .we)
  | .ctrlSubUnlisted n _ => messageHits n
  | .standbyStateCopyDone c => on (some 0) [F.CTL.CORE_STS.ACTIVE, coreFld ↑c]
  | .pairCreditUpdate .. => recorded .pair (some 0) ++ on (some 0) [F.PAIR.MARK, F.PAIR.MIR_PEND.PEND, F.PAIR.MIR_TX_CNT,
      F.PAIR.PAIR_STS.MSTATE]

/-- Every register field that the list does not name reads as before. -/
def keepsBut (l : List Hit) (s t : State) : Prop :=
  ∀ (f : Fld) (i e b k : Nat), f ∈ fieldsOf f.cls → e < f.count → (∀ h ∈ l, h.covers f i e = false) →
    t.fget f i e b k = s.fget f i e b k

/-- Every register field that the command does not name reads as before. -/
def regsKept (c : Instr) (s t : State) : Prop := keepsBut (regWrites c) s t

/-- What a clock cycle without a command may change (R424, R425). -/
def clockHits : List Hit :=
  [Cls.ring, .eng, .pwr, .pmu].flatMap (fun c =>
    counted c none ++ on none [F.CB.CYC_LO.CYC c, F.CB.CYC_HI.CYC c, F.CB.CB_OVF.OVF_CYC c])

/-- The parts of the command table for which frames are stated: the spine with resets, ticks and epochs; ports, translation
and memory; register access, engines, slices and counters; power, isolation, boot and the pair. -/
inductive Area where
  | spine | port | engine | manager
  deriving DecidableEq, Repr

/-- The area of a command. -/
def areaOf (c : Instr) : Area :=
  match c with
  | .coldReset | .coldResetRelease .. | .fabricResetRequest .. | .fabricResetEnter | .fabricResetExit | .referenceTickEdge
  | .tickCalStart | .tickCalDone | .tickStopWrite | .tickMark .. | .localTickBoundary .. | .tickSlip .. | .tickrefLoss |
  .holdoverTick | .tickrefReturn | .epochReq .. | .epochCancel | .weWrite .. | .weAck .. | .census .. | .oldEpochDrained |
  .bankSync | .bankSyncDone .. | .stationSlot .. | .slotRelease .. | .slotMiss .. | .fiHeldRelease .. | .flitLanding .. |
  .ackFlit .. | .ackDelayExpire .. | .ackTimeout .. | .overflowReadback .. | .arbiterDecision .. | .grantRecheck .. |
  .bridgeCreditReturn .. | .slotSettle .. | .egressSend .. | .credit .. | .resReq .. | .resGrantDecision .. | .resGnt .. |
  .resReqRetry .. | .floorRecall .. | .surrender .. | .floorReissue .. | .floorSyncReq .. | .ringCal .. | .ringTest .. |
  .ringFail .. | .ringClear .. | .ringCalDone .. | .ringTestStart .. | .ringTestEnd .. | .ringThreshold .. | .fence .. |
  .fenceApply .. | .transactionFormed .. | .meterColour .. | .redRecolour .. | .bindWrite .. | .gateAdvance .. |
  .gateRecomputeDone .. => .spine
  | .tlpReceived .. | .ingressCheck .. | .xltFillDone .. | .xltFillTimeout .. | .bindFillDone .. | .txCreditUpdate .. |
  .stallChange .. | .pause .. | .resume .. | .down .. | .returnKept .. | .returnFresh .. | .portModeWrite .. |
  .portModeChange .. | .linkNotice .. | .linkNoticeApply .. | .spillAge .. | .spillReadback .. | .linkWatch .. |
  .lockTimeout .. | .atomEmuReadDone .. | .spareClaimRepair .. | .spareClaimTest .. | .spareGo .. | .spareReturn .. |
  .cplLanding .. | .tagDeadlinePassed .. | .tagExpire .. | .quarantineEnd .. | .completerRecordExpire .. | .xltUpdate .. |
  .xltInv .. | .invAck .. | .pbUpdate | .pbInv .. | .pbDcntWrite .. | .memRequest .. | .memResponse .. | .parityDelta .. |
  .rowRead .. | .rowRelease .. | .reconstructDone .. | .chFail .. | .chCmdFail .. | .chCmdRebuild .. | .chCmdClear .. |
  .rebuildTick .. | .ctrlReadyChange .. | .directRead .. | .directReadDone .. | .doorbellWrite .. | .doorbell .. => .port
  | .regRd .. | .regWrA .. | .regWrD .. | .regWrHalfTimeout .. | .regRsp .. | .mgmtRequest .. | .tenantErr .. |
  .registerWrite .. | .rcRead .. | .lowRegisterRead .. | .pgLockWrite .. | .pgErrClear .. | .pgIntSet .. | .drainReq .. |
  .drainQuiet .. | .irqPresent .. | .descFetchDone .. | .descStart .. | .chunkReadDone .. | .descRetire .. |
  .completionEvent .. | .evtRearm .. | .qcRead .. | .qcWrite .. | .qcEnable .. | .qcDisable .. | .qcRestart .. |
  .engLeave .. | .engJoin .. | .engClear .. | .engMoveq .. | .contextSend .. | .contextLand .. | .qmapUpd .. |
  .stubExpire .. | .engCtxUe .. | .push .. | .replCopy | .sliceCreate .. | .sliceDrydown .. | .sliceOpen .. |
  .sliceReset .. | .sliceRemove .. | .sliceFreeze .. | .sliceThaw .. | .sliceForce .. | .sliceUpd .. | .sliceUpdApply .. |
  .unitRng .. | .dryReached .. | .cleared .. | .drydownFlush .. | .mtrSelWrite .. | .flSave | .flLoad | .flRebind |
  .flCopy | .flDrop | .flOffWrite .. | .flDataWrite .. | .bridgeResync .. | .clockSwitch | .xbSelWrite .. | .snapReq |
  .freezeArm | .freezeRelease | .cntHiWrite .. | .rqSelWrite .. | .meterSelWrite .. | .csSelWrite .. | .tcSelWrite .. |
  .windowClose .. | .sbSelect .. | .silFrag .. | .silFragTimeout .. | .silLineWrite .. | .silLineAck .. | .erqFrag .. |
  .erqFragTimeout .. | .erqPop => .engine
  | .psTargetRun .. | .psTargetTrim .. | .psTargetDoze .. | .psTargetOff .. | .pwrCmdClose .. | .pwrCmdReopen .. |
  .pwrCmdEmpty .. | .sectorEmpty .. | .closeTimeout .. | .wakeDemand .. | .wakeSigdet .. | .wakeSupply .. | .wakeTherm ..
  | .wakeTimer .. | .wakePair .. | .governorInterval | .svokAsserted .. | .svokTimeout .. | .svokLost .. |
  .transitionDone .. | .spinePwrWrite .. | .corePwrWrite .. | .lsgSet .. | .isolate .. | .rejoin .. | .isolateMsg .. |
  .isolateApply .. | .isolationComplete | .maintSeg .. | .stopUe .. | .testKeyWrite .. | .fiLciDelayExpire .. | .mbPost ..
  | .mbRestart .. | .mbCopyDone .. | .imageVerifyDone .. | .coreResetExit .. | .coreRst .. | .coreFail .. |
  .handoverReq .. | .handover | .oldCoreSettled .. | .memepCfg .. | .memInitDone | .goService | .recoveryCause .. |
  .pairFrameXlt .. | .pairFramePb .. | .pairFrameAcc .. | .pairFrameQctx .. | .pairFrameMtr .. | .pairFrameSlc .. |
  .pairFrameFlc .. | .pairFrameCkpt .. | .pairFrameWake .. | .pairFrameHb .. | .pairReplay | .pairCkpt | .peerLost |
  .plUpChange .. | .partnerFailChange .. | .mirrorWrite .. | .rsyncGo | .resyncDone | .takeover .. | .takeoverDone |
  .pwake .. | .pairMark | .lciEvCodeUndefined .. | .handoverMessage .. | .resetMessage .. | .bankSyncStartMsg .. |
  .ctrlSubUnlisted .. | .standbyStateCopyDone .. | .pairCreditUpdate .. => .manager

/-- The node and the message of a command by which a message with a CHECK arrives (R129, R130). -/
def messageOf (c : Instr) : Option (Nat × Msg) :=
  match c with
  | .census n m => some (n, m)
  | .bankSyncDone m => some (60, m)
  | .credit n m => some (n, m)
  | .resReq n m => some (n, m)
  | .resGnt n m => some (n, m)
  | .floorRecall n m => some (n, m)
  | .surrender n m => some (n, m)
  | .floorReissue n m => some (n, m)
  | .floorSyncReq n m => some (n, m)
  | .regRd n m => some (n, m)
  | .regWrA n m => some (n, m)
  | .regWrD n m => some (n, m)
  | .regRsp n m => some (n, m)
  | .tenantErr m => some (62, m)
  | .fence n m => some (n, m)
  | .linkNotice n m => some (n, m)
  | .xltInv n m => some (n, m)
  | .invAck n m => some (n, m)
  | .pbInv n m => some (n, m)
  | .doorbell n m => some (n, m)
  | .qmapUpd n m => some (n, m)
  | .sliceUpd n m => some (n, m)
  | .unitRng n m => some (n, m)
  | .pwrCmdClose n m => some (n, m)
  | .pwrCmdReopen n m => some (n, m)
  | .pwrCmdEmpty n m => some (n, m)
  | .lsgSet n m => some (n, m)
  | .silFrag n m => some (n, m)
  | .erqFrag m => some (60, m)
  | .isolateMsg n m => some (n, m)
  | .handoverMessage n m => some (n, m)
  | .resetMessage n m => some (n, m)
  | .bankSyncStartMsg n m => some (n, m)
  | .coldReset | .coldResetRelease .. | .fabricResetRequest .. | .fabricResetEnter | .fabricResetExit | .referenceTickEdge
  | .tickCalStart | .tickCalDone | .tickStopWrite | .tickMark .. | .localTickBoundary .. | .tickSlip .. | .tickrefLoss |
  .holdoverTick | .tickrefReturn | .epochReq .. | .epochCancel | .weWrite .. | .weAck .. | .oldEpochDrained | .bankSync |
  .stationSlot .. | .slotRelease .. | .slotMiss .. | .fiHeldRelease .. | .flitLanding .. | .ackFlit .. |
  .ackDelayExpire .. | .ackTimeout .. | .overflowReadback .. | .arbiterDecision .. | .grantRecheck .. |
  .bridgeCreditReturn .. | .slotSettle .. | .egressSend .. | .resGrantDecision .. | .resReqRetry .. | .regWrHalfTimeout ..
  | .mgmtRequest .. | .registerWrite .. | .rcRead .. | .lowRegisterRead .. | .pgLockWrite .. | .pgErrClear .. |
  .pgIntSet .. | .drainReq .. | .drainQuiet .. | .irqPresent .. | .ringCal .. | .ringTest .. | .ringFail .. |
  .ringClear .. | .ringCalDone .. | .ringTestStart .. | .ringTestEnd .. | .ringThreshold .. | .fenceApply .. |
  .transactionFormed .. | .meterColour .. | .redRecolour .. | .bindWrite .. | .gateAdvance .. | .gateRecomputeDone .. |
  .tlpReceived .. | .ingressCheck .. | .xltFillDone .. | .xltFillTimeout .. | .bindFillDone .. | .txCreditUpdate .. |
  .stallChange .. | .pause .. | .resume .. | .down .. | .returnKept .. | .returnFresh .. | .portModeWrite .. |
  .portModeChange .. | .linkNoticeApply .. | .spillAge .. | .spillReadback .. | .linkWatch .. | .lockTimeout .. |
  .atomEmuReadDone .. | .spareClaimRepair .. | .spareClaimTest .. | .spareGo .. | .spareReturn .. | .cplLanding .. |
  .tagDeadlinePassed .. | .tagExpire .. | .quarantineEnd .. | .completerRecordExpire .. | .xltUpdate .. | .pbUpdate |
  .pbDcntWrite .. | .memRequest .. | .memResponse .. | .parityDelta .. | .rowRead .. | .rowRelease .. |
  .reconstructDone .. | .chFail .. | .chCmdFail .. | .chCmdRebuild .. | .chCmdClear .. | .rebuildTick .. |
  .ctrlReadyChange .. | .directRead .. | .directReadDone .. | .doorbellWrite .. | .descFetchDone .. | .descStart .. |
  .chunkReadDone .. | .descRetire .. | .completionEvent .. | .evtRearm .. | .qcRead .. | .qcWrite .. | .qcEnable .. |
  .qcDisable .. | .qcRestart .. | .engLeave .. | .engJoin .. | .engClear .. | .engMoveq .. | .contextSend .. |
  .contextLand .. | .stubExpire .. | .engCtxUe .. | .push .. | .replCopy | .sliceCreate .. | .sliceDrydown .. |
  .sliceOpen .. | .sliceReset .. | .sliceRemove .. | .sliceFreeze .. | .sliceThaw .. | .sliceForce .. | .sliceUpdApply ..
  | .dryReached .. | .cleared .. | .drydownFlush .. | .mtrSelWrite .. | .flSave | .flLoad | .flRebind | .flCopy | .flDrop
  | .flOffWrite .. | .flDataWrite .. | .bridgeResync .. | .clockSwitch | .xbSelWrite .. | .psTargetRun .. |
  .psTargetTrim .. | .psTargetDoze .. | .psTargetOff .. | .sectorEmpty .. | .closeTimeout .. | .wakeDemand .. |
  .wakeSigdet .. | .wakeSupply .. | .wakeTherm .. | .wakeTimer .. | .wakePair .. | .governorInterval | .svokAsserted .. |
  .svokTimeout .. | .svokLost .. | .transitionDone .. | .spinePwrWrite .. | .corePwrWrite .. | .snapReq | .freezeArm |
  .freezeRelease | .cntHiWrite .. | .rqSelWrite .. | .meterSelWrite .. | .csSelWrite .. | .tcSelWrite .. | .windowClose ..
  | .sbSelect .. | .silFragTimeout .. | .silLineWrite .. | .silLineAck .. | .erqFragTimeout .. | .erqPop | .isolate .. |
  .rejoin .. | .isolateApply .. | .isolationComplete | .maintSeg .. | .stopUe .. | .testKeyWrite .. | .fiLciDelayExpire ..
  | .mbPost .. | .mbRestart .. | .mbCopyDone .. | .imageVerifyDone .. | .coreResetExit .. | .coreRst .. | .coreFail .. |
  .handoverReq .. | .handover | .oldCoreSettled .. | .memepCfg .. | .memInitDone | .goService | .recoveryCause .. |
  .pairFrameXlt .. | .pairFramePb .. | .pairFrameAcc .. | .pairFrameQctx .. | .pairFrameMtr .. | .pairFrameSlc .. |
  .pairFrameFlc .. | .pairFrameCkpt .. | .pairFrameWake .. | .pairFrameHb .. | .pairReplay | .pairCkpt | .peerLost |
  .plUpChange .. | .partnerFailChange .. | .mirrorWrite .. | .rsyncGo | .resyncDone | .takeover .. | .takeoverDone |
  .pwake .. | .pairMark | .lciEvCodeUndefined .. | .ctrlSubUnlisted .. | .standbyStateCopyDone .. | .pairCreditUpdate ..
  => none


/-- `s` with the registers, the messages in flight and what event counting and the sillage hold as in `t`. -/
def State.told (s t : State) : State :=
  { s with
    regs := t.regs, net := { s.net with flight := t.net.flight },
    cnt := { s.cnt with
      smpArm := t.cnt.smpArm, smpEng := t.cnt.smpEng, silEnum := t.cnt.silEnum, silLast := t.cnt.silLast,
      silSupp := t.cnt.silSupp } }

/-- `s` with what a command may change as in `t`: a command that goes from `s` to `t` leaves `t` equal to this. -/
def unitFrame (c : Instr) (s t : State) : State :=
  match c with
  | .coldReset =>
    { t with pending := s.pending, freeNext := s.freeNext, cycle := s.cycle }
  | .coldResetRelease .. =>
    { s with
      boot := { s.boot with keyHash := t.boot.keyHash, instId := t.boot.instId } }
  | .fabricResetRequest .. =>
    { s with
      regs := t.regs,
      net := { s.net with flight := t.net.flight },
      boot := { s.boot with rstAt := t.boot.rstAt, hoAt := t.boot.hoAt, hoNote := t.boot.hoNote } }
  | .fabricResetEnter =>
    { t with
      pending := s.pending,
      freeNext := s.freeNext,
      tick := { t.tick with
        count := s.tick.count, calBusy := s.tick.calBusy, stopped := s.tick.stopped, nodeCount := s.tick.nodeCount,
        nodeMark := s.tick.nodeMark, nodeSlip := s.tick.nodeSlip, nodeDelay := s.tick.nodeDelay, weNext := s.tick.weNext,
        censusTick := s.tick.censusTick, syncSeen := s.tick.syncSeen, syncNew := s.tick.syncNew },
      net := { t.net with
        halves := s.net.halves, accOut := s.net.accOut, rsp := s.net.rsp, hold := s.net.hold, drain := s.net.drain,
        dead := s.net.dead },
      cnt := { t.cnt with
        silPart := s.cnt.silPart, silOver := s.cnt.silOver, sb := s.cnt.sb, sbSel := s.cnt.sbSel, erqNum := s.cnt.erqNum,
        silLast := s.cnt.silLast, silSupp := s.cnt.silSupp, silEnum := s.cnt.silEnum },
      pwr := { t.pwr with interval := s.pwr.interval, est := s.pwr.est },
      boot := { t.boot with keyHash := s.boot.keyHash, instId := s.boot.instId, rstAt := s.boot.rstAt },
      mem := { t.mem with nextId := s.mem.nextId },
      eng := { t.eng with nextId := s.eng.nextId },
      iso := { t.iso with known := s.iso.known, nn := s.iso.nn, applied := s.iso.applied },
      irq := { t.irq with shown := s.irq.shown },
      pair := { t.pair with up := s.pair.up },
      cycle := s.cycle }
  | .fabricResetExit =>
    { s with
      regs := t.regs,
      net := { s.net with flight := t.net.flight },
      cnt := { s.cnt with silLast := t.cnt.silLast, silSupp := t.cnt.silSupp, silEnum := t.cnt.silEnum },
      boot := { s.boot with rstAt := t.boot.rstAt, rstNote := t.boot.rstNote, inReset := t.boot.inReset } }
  | .referenceTickEdge =>
    { s with
      regs := t.regs,
      tick := { s.tick with count := t.tick.count, stopped := t.tick.stopped },
      net := { s.net with flight := t.net.flight },
      cnt := { s.cnt with
        freezeQ := t.cnt.freezeQ, latchAt := t.cnt.latchAt, latchKind := t.cnt.latchKind, latchSlice := t.cnt.latchSlice,
        silLast := t.cnt.silLast, silSupp := t.cnt.silSupp, silEnum := t.cnt.silEnum },
      boot := { s.boot with goPend := t.boot.goPend } }
  | .tickCalStart | .tickStopWrite =>
    { s with
      regs := t.regs,
      tick := { s.tick with calBusy := t.tick.calBusy, stopped := t.tick.stopped } }
  | .tickCalDone =>
    { s with
      regs := t.regs,
      tick := { s.tick with calBusy := t.tick.calBusy, nodeDelay := t.tick.nodeDelay } }
  | .tickMark .. =>
    { s with
      regs := t.regs,
      tick := { s.tick with nodeMark := t.tick.nodeMark },
      net := { s.net with flight := t.net.flight },
      cnt := { s.cnt with smpEng := t.cnt.smpEng, smpArm := t.cnt.smpArm } }
  | .localTickBoundary .. =>
    { t with
      pending := s.pending,
      tick := { t.tick with
        count := s.tick.count, calBusy := s.tick.calBusy, stopped := s.tick.stopped, nodeDelay := s.tick.nodeDelay,
        weNext := s.tick.weNext, censusTick := s.tick.censusTick, syncSeen := s.tick.syncSeen,
        syncNew := s.tick.syncNew },
      net := { t.net with
        halves := s.net.halves, accOut := s.net.accOut, rsp := s.net.rsp, hold := s.net.hold, drain := s.net.drain,
        dead := s.net.dead },
      cnt := { t.cnt with silPart := s.cnt.silPart, silOver := s.cnt.silOver, sbSel := s.cnt.sbSel },
      pwr := { t.pwr with interval := s.pwr.interval, est := s.pwr.est },
      boot := { t.boot with keyHash := s.boot.keyHash, instId := s.boot.instId },
      iso := { t.iso with nn := s.iso.nn },
      irq := { t.irq with shown := s.irq.shown },
      pair := { t.pair with up := s.pair.up },
      cycle := s.cycle }
  | .tickSlip .. =>
    { s with
      tick := { s.tick with nodeSlip := t.tick.nodeSlip } }
  | .tickrefLoss =>
    { s with
      regs := t.regs,
      tick := { s.tick with stopped := t.tick.stopped },
      net := { s.net with flight := t.net.flight },
      cnt := { s.cnt with silLast := t.cnt.silLast, silSupp := t.cnt.silSupp, silEnum := t.cnt.silEnum },
      boot := { s.boot with causeSeen := t.boot.causeSeen, modeNext := t.boot.modeNext } }
  | .holdoverTick =>
    { s with
      regs := t.regs,
      tick := { s.tick with count := t.tick.count },
      net := { s.net with flight := t.net.flight },
      cnt := { s.cnt with
        freezeQ := t.cnt.freezeQ, latchAt := t.cnt.latchAt, latchKind := t.cnt.latchKind, latchSlice := t.cnt.latchSlice,
        silLast := t.cnt.silLast, silSupp := t.cnt.silSupp, silEnum := t.cnt.silEnum },
      boot := { s.boot with goPend := t.boot.goPend } }
  | .tickrefReturn | .ctrlReadyChange .. | .mtrSelWrite .. | .spinePwrWrite .. | .corePwrWrite .. | .snapReq |
  .cntHiWrite .. | .tcSelWrite .. | .testKeyWrite .. | .memInitDone | .partnerFailChange .. =>
    { s with
      regs := t.regs }
  | .epochReq .. | .epochCancel =>
    { s with
      regs := t.regs,
      tick := { s.tick with swapWait := t.tick.swapWait } }
  | .weWrite .. | .registerWrite .. | .pgLockWrite .. | .pgErrClear .. | .pgIntSet .. | .drainReq .. =>
    { s.told t with
      freeNext := t.freeNext,
      tick := { s.tick with
        calBusy := t.tick.calBusy, stopped := t.tick.stopped, weNext := t.tick.weNext, weOut := t.tick.weOut,
        swapWait := t.tick.swapWait, syncSeen := t.tick.syncSeen, syncNew := t.tick.syncNew },
      net := { (s.told t).net with drain := t.net.drain },
      cnt := { (s.told t).cnt with
        cpart := t.cnt.cpart, cset := t.cnt.cset, wsCur := t.cnt.wsCur, erq := t.cnt.erq, freezeQ := t.cnt.freezeQ,
        relAt := t.cnt.relAt, loHold := t.cnt.loHold },
      spine := { s.spine with
        maintSeq := t.spine.maintSeq, maintGap := t.spine.maintGap, echoed := t.spine.echoed, echoAge := t.spine.echoAge,
        eff := t.spine.eff, test := t.spine.test, fi := t.spine.fi },
      resv := { s.resv with credit := t.resv.credit },
      ord := { s.ord with formQ := t.ord.formQ, rdDone := t.ord.rdDone },
      arb := { s.arb with
        queue := t.arb.queue, grants := t.arb.grants, waits := t.arb.waits, longest := t.arb.longest, ovf := t.arb.ovf },
      mtr := { s.mtr with mtr := t.mtr.mtr, bind := t.mtr.bind },
      pwr := { s.pwr with
        closeAt := t.pwr.closeAt, tgt := t.pwr.tgt, empty := t.pwr.empty, latch := t.pwr.latch, pendTgt := t.pwr.pendTgt,
        svokLow := t.pwr.svokLow, phaseAt := t.pwr.phaseAt, trStart := t.pwr.trStart, blank := t.pwr.blank },
      boot := { s.boot with
        rstAt := t.boot.rstAt, img := t.boot.img, acc := t.boot.acc, held := t.boot.held, posts := t.boot.posts,
        copying := t.boot.copying, settling := t.boot.settling, hoAt := t.boot.hoAt, goPend := t.boot.goPend,
        modeNext := t.boot.modeNext, spareBack := t.boot.spareBack, claimNext := t.boot.claimNext },
      port := { s.port with notice := t.port.notice },
      mem := { s.mem with
        jobs := t.mem.jobs, nextId := t.mem.nextId, holds := t.mem.holds, upd := t.mem.upd, updKey := t.mem.updKey,
        updVal := t.mem.updVal, updMir := t.mem.updMir, pbUpd := t.mem.pbUpd, pbKey := t.mem.pbKey, pbVal := t.mem.pbVal,
        pbMir := t.mem.pbMir, fills := t.mem.fills, eLook := t.mem.eLook, cache := t.mem.cache, bcache := t.mem.bcache,
        useClk := t.mem.useClk },
      eng := { s.eng with
        ctx := t.eng.ctx, away := t.eng.away, noHome := t.eng.noHome, moveTo := t.eng.moveTo, moving := t.eng.moving,
        abort := t.eng.abort, avail := t.eng.avail, fetch := t.eng.fetch, exec := t.eng.exec, wait := t.eng.wait,
        nextId := t.eng.nextId, budget := t.eng.budget, vt := t.eng.vt, act := t.eng.act, events := t.eng.events,
        qmapS := t.eng.qmapS },
      slc := { s.slc with
        nn := t.slc.nn, again := t.slc.again, trk := t.slc.trk, clean := t.slc.clean, since := t.slc.since,
        waiting := t.slc.waiting, create := t.slc.create, force := t.slc.force },
      xb := t.xb,
      iso := { s.iso with
        known := t.iso.known, nn := t.iso.nn, again := t.iso.again, unit := t.iso.unit, bound := t.iso.bound,
        drops := t.iso.drops, done := t.iso.done, freed := t.iso.freed, tags := t.iso.tags, breaks := t.iso.breaks,
        rows := t.iso.rows },
      irq := { s.irq with slices := t.irq.slices },
      fl := { s.fl with
        op := t.fl.op, step := t.fl.step, core := t.fl.core, got := t.fl.got, lost := t.fl.lost, offNum := t.fl.offNum,
        read := t.fl.read },
      pair := { s.pair with
        items := t.pair.items, txSeq := t.pair.txSeq, ret := t.pair.ret, out := t.pair.out, lastTx := t.pair.lastTx,
        used := t.pair.used, full := t.pair.full, fullOut := t.pair.fullOut, fullLast := t.pair.fullLast,
        tko := t.pair.tko, tkoRun := t.pair.tkoRun, tkoDone := t.pair.tkoDone, mark := t.pair.mark } }
  | .weAck .. | .gateRecomputeDone .. =>
    { s with
      regs := t.regs,
      tick := { s.tick with weOut := t.tick.weOut, swapWait := t.tick.swapWait } }
  | .census .. =>
    { s.told t with
      tick := { s.tick with censusTick := t.tick.censusTick, censusSeen := t.tick.censusSeen },
      spine := { s.spine with fence := t.spine.fence, fenced := t.spine.fenced },
      slc := { s.slc with clean := t.slc.clean, censusTick := t.slc.censusTick, censusSeen := t.slc.censusSeen } }
  | .oldEpochDrained =>
    { s with
      regs := t.regs,
      net := { s.net with flight := t.net.flight },
      cnt := { s.cnt with silLast := t.cnt.silLast, silSupp := t.cnt.silSupp, silEnum := t.cnt.silEnum },
      spine := { s.spine with fence := t.spine.fence, fenced := t.spine.fenced } }
  | .bankSync =>
    { s with
      regs := t.regs,
      tick := { s.tick with syncSeen := t.tick.syncSeen, syncNew := t.tick.syncNew },
      net := { s.net with flight := t.net.flight } }
  | .bankSyncDone .. =>
    { s.told t with
      tick := { s.tick with syncSeen := t.tick.syncSeen, syncNew := t.tick.syncNew } }
  | .stationSlot .. =>
    { s.told t with
      spine := { s.spine with
        linkQ := t.spine.linkQ, lastOut := t.spine.lastOut, inj := t.spine.inj, maintQ := t.spine.maintQ,
        eject := t.spine.eject, missRun := t.spine.missRun, maintSeq := t.spine.maintSeq, maintGap := t.spine.maintGap,
        echoed := t.spine.echoed, echoAge := t.spine.echoAge, win := t.spine.win, test := t.spine.test,
        fi := t.spine.fi },
      pwr := { s.pwr with ballPos := t.pwr.ballPos },
      xb := t.xb }
  | .slotRelease .. =>
    { s with
      regs := t.regs,
      cnt := { s.cnt with smpEng := t.cnt.smpEng, smpArm := t.cnt.smpArm },
      spine := { s.spine with inj := t.spine.inj, missed := t.spine.missed, test := t.spine.test } }
  | .slotMiss .. =>
    { s.told t with
      spine := { s.spine with missed := t.spine.missed, missRun := t.spine.missRun },
      ord := { s.ord with ret := t.ord.ret, acks := t.ord.acks, formQ := t.ord.formQ, rdDone := t.ord.rdDone },
      arb := { s.arb with unset := t.arb.unset },
      mem := { s.mem with
        jobs := t.mem.jobs, nextId := t.mem.nextId, holds := t.mem.holds, upd := t.mem.upd, pbUpd := t.mem.pbUpd } }
  | .fiHeldRelease .. =>
    { s with
      regs := t.regs,
      spine := { s.spine with linkQ := t.spine.linkQ, lastOut := t.spine.lastOut, fi := t.spine.fi },
      pwr := { s.pwr with ballPos := t.pwr.ballPos } }
  | .flitLanding .. | .cplLanding .. =>
    { s.told t with
      cnt := { (s.told t).cnt with cpart := t.cnt.cpart },
      spine := { s.spine with eject := t.spine.eject },
      resv := { s.resv with credit := t.resv.credit, charge := t.resv.charge, recalls := t.resv.recalls },
      ord := { s.ord with
        ret := t.ord.ret, low := t.ord.low, seen := t.ord.seen, wait := t.ord.wait, acks := t.ord.acks, egr := t.ord.egr,
        stamp := t.ord.stamp, tags := t.ord.tags, formQ := t.ord.formQ, rdUse := t.ord.rdUse, rdData := t.ord.rdData,
        pois := t.ord.pois, rdDone := t.ord.rdDone },
      arb := { s.arb with queue := t.arb.queue },
      mem := { s.mem with jobs := t.mem.jobs, holds := t.mem.holds, upd := t.mem.upd, pbUpd := t.mem.pbUpd },
      eng := { s.eng with
        ctx := t.eng.ctx, away := t.eng.away, noHome := t.eng.noHome, moving := t.eng.moving, abort := t.eng.abort,
        fetch := t.eng.fetch, fan := t.eng.fan } }
  | .ackFlit .. =>
    { s.told t with
      cnt := { (s.told t).cnt with cpart := t.cnt.cpart },
      spine := { s.spine with eject := t.spine.eject },
      resv := { s.resv with credit := t.resv.credit, charge := t.resv.charge, recalls := t.resv.recalls },
      ord := { s.ord with
        ret := t.ord.ret, egr := t.ord.egr, stamp := t.ord.stamp, tags := t.ord.tags, formQ := t.ord.formQ,
        rdUse := t.ord.rdUse, rdData := t.ord.rdData, pois := t.ord.pois, rdDone := t.ord.rdDone },
      arb := { s.arb with queue := t.arb.queue },
      mem := { s.mem with jobs := t.mem.jobs, holds := t.mem.holds, upd := t.mem.upd, pbUpd := t.mem.pbUpd },
      eng := { s.eng with
        ctx := t.eng.ctx, away := t.eng.away, noHome := t.eng.noHome, moving := t.eng.moving, abort := t.eng.abort,
        fetch := t.eng.fetch, fan := t.eng.fan } }
  | .ackDelayExpire .. =>
    { s with
      ord := { s.ord with acks := t.ord.acks, ackQ := t.ord.ackQ } }
  | .ackTimeout .. =>
    { s.told t with
      ord := { s.ord with ret := t.ord.ret, formQ := t.ord.formQ, rdDone := t.ord.rdDone },
      mem := { s.mem with
        jobs := t.mem.jobs, nextId := t.mem.nextId, holds := t.mem.holds, upd := t.mem.upd, pbUpd := t.mem.pbUpd } }
  | .overflowReadback .. =>
    { s.told t with
      ord := { s.ord with ret := t.ord.ret, rdDone := t.ord.rdDone } }
  | .arbiterDecision .. =>
    { s.told t with
      spine := { s.spine with xfer := t.spine.xfer, eject := t.spine.eject },
      ord := { s.ord with
        ret := t.ord.ret, nextSeq := t.ord.nextSeq, acks := t.ord.acks, ackQ := t.ord.ackQ, formQ := t.ord.formQ,
        rdDone := t.ord.rdDone },
      arb := { s.arb with
        queue := t.arb.queue, burst := t.arb.burst, clsAct := t.arb.clsAct, waitCnt := t.arb.waitCnt,
        credit := t.arb.credit, vclass := t.arb.vclass, vreq := t.arb.vreq, active := t.arb.active,
        waitFrom := t.arb.waitFrom, waits := t.arb.waits, ovf := t.arb.ovf, ctlUsed := t.arb.ctlUsed,
        lastCls := t.arb.lastCls, unset := t.arb.unset, clk := t.arb.clk, decided := t.arb.decided },
      mtr := { s.mtr with beyond := t.mtr.beyond, gate := t.mtr.gate },
      pwr := { s.pwr with hist := t.pwr.hist, demand := t.pwr.demand, used := t.pwr.used, slots := t.pwr.slots },
      mem := { s.mem with
        jobs := t.mem.jobs, nextId := t.mem.nextId, holds := t.mem.holds, upd := t.mem.upd, pbUpd := t.mem.pbUpd },
      xb := t.xb }
  | .grantRecheck .. =>
    { s.told t with
      spine := { s.spine with xfer := t.spine.xfer, eject := t.spine.eject },
      resv := { s.resv with credit := t.resv.credit },
      ord := { s.ord with
        ret := t.ord.ret, acks := t.ord.acks, ackQ := t.ord.ackQ, formQ := t.ord.formQ, rdDone := t.ord.rdDone },
      arb := { s.arb with
        queue := t.arb.queue, burst := t.arb.burst, clsAct := t.arb.clsAct, waitCnt := t.arb.waitCnt,
        credit := t.arb.credit, vclass := t.arb.vclass, vreq := t.arb.vreq, active := t.arb.active,
        waitFrom := t.arb.waitFrom, grants := t.arb.grants, waits := t.arb.waits, longest := t.arb.longest,
        ovf := t.arb.ovf, ctlUsed := t.arb.ctlUsed, maxWho := t.arb.maxWho, unset := t.arb.unset, clk := t.arb.clk,
        decided := t.arb.decided },
      mtr := { s.mtr with beyond := t.mtr.beyond, gate := t.mtr.gate },
      pwr := { s.pwr with hist := t.pwr.hist, used := t.pwr.used, slots := t.pwr.slots },
      mem := { s.mem with
        jobs := t.mem.jobs, nextId := t.mem.nextId, holds := t.mem.holds, upd := t.mem.upd, pbUpd := t.mem.pbUpd },
      xb := t.xb }
  | .bridgeCreditReturn .. =>
    { s with
      spine := { s.spine with inj := t.spine.inj, xfer := t.spine.xfer },
      arb := { s.arb with credit := t.arb.credit } }
  | .slotSettle .. =>
    { s with
      regs := t.regs,
      cnt := { s.cnt with smpEng := t.cnt.smpEng, smpArm := t.cnt.smpArm },
      arb := { s.arb with unset := t.arb.unset } }
  | .egressSend .. =>
    { s.told t with
      freeNext := t.freeNext,
      cnt := { (s.told t).cnt with cpart := t.cnt.cpart, erqNum := t.cnt.erqNum },
      spine := { s.spine with fi := t.spine.fi },
      resv := { s.resv with charge := t.resv.charge },
      ord := { s.ord with
        egr := t.ord.egr, stamp := t.ord.stamp, tags := t.ord.tags, recs := t.ord.recs, outTag := t.ord.outTag,
        hist := t.ord.hist, formQ := t.ord.formQ, rdUse := t.ord.rdUse, rdData := t.ord.rdData, pois := t.ord.pois,
        rdDone := t.ord.rdDone },
      boot := { s.boot with cfg := t.boot.cfg },
      port := { s.port with
        used := t.port.used, tx := t.port.tx, asm := t.port.asm, lock := t.port.lock, defer := t.port.defer,
        emu := t.port.emu, mode := t.port.mode, spill := t.port.spill, spillPtr := t.port.spillPtr, full := t.port.full,
        stuck := t.port.stuck, told := t.port.told, held := t.port.held, ingAt := t.port.ingAt,
        ingSupp := t.port.ingSupp },
      mem := { s.mem with
        jobs := t.mem.jobs, nextId := t.mem.nextId, holds := t.mem.holds, folded := t.mem.folded, upd := t.mem.upd,
        pbUpd := t.mem.pbUpd, fills := t.mem.fills, eLook := t.mem.eLook, cache := t.mem.cache, bcache := t.mem.bcache,
        useClk := t.mem.useClk },
      eng := { s.eng with
        ctx := t.eng.ctx, away := t.eng.away, stub := t.eng.stub, abort := t.eng.abort, avail := t.eng.avail,
        fetch := t.eng.fetch, exec := t.eng.exec, wait := t.eng.wait, nextId := t.eng.nextId, budget := t.eng.budget,
        vt := t.eng.vt, act := t.eng.act, events := t.eng.events, fan := t.eng.fan } }
  | .credit .. =>
    { s.told t with
      resv := { s.resv with credit := t.resv.credit, unsync := t.resv.unsync },
      arb := { s.arb with queue := t.arb.queue } }
  | .resReq .. =>
    { s.told t with
      resv := { s.resv with charge := t.resv.charge, pendQ := t.resv.pendQ } }
  | .resGrantDecision .. =>
    { s with
      regs := t.regs,
      net := { s.net with flight := t.net.flight },
      cnt := { s.cnt with smpEng := t.cnt.smpEng, smpArm := t.cnt.smpArm },
      resv := { s.resv with charge := t.resv.charge, pendQ := t.resv.pendQ, rr := t.resv.rr } }
  | .resGnt .. =>
    { s.told t with
      resv := { s.resv with credit := t.resv.credit },
      arb := { s.arb with queue := t.arb.queue } }
  | .resReqRetry .. =>
    { s with
      regs := t.regs,
      net := { s.net with flight := t.net.flight },
      cnt := { s.cnt with smpEng := t.cnt.smpEng, smpArm := t.cnt.smpArm },
      resv := { s.resv with credit := t.resv.credit } }
  | .floorRecall .. =>
    { s.told t with
      resv := { s.resv with credit := t.resv.credit, closed := t.resv.closed, recalls := t.resv.recalls },
      arb := { s.arb with queue := t.arb.queue } }
  | .surrender .. =>
    { s.told t with
      resv := { s.resv with charge := t.resv.charge, surr := t.resv.surr } }
  | .floorReissue .. =>
    { s.told t with
      resv := { s.resv with
        credit := t.resv.credit, closed := t.resv.closed, recalls := t.resv.recalls, unsync := t.resv.unsync },
      ord := { s.ord with nextSeq := t.ord.nextSeq, low := t.ord.low, seen := t.ord.seen },
      arb := { s.arb with queue := t.arb.queue } }
  | .floorSyncReq .. | .tenantErr .. | .stopUe .. | .bankSyncStartMsg .. | .ctrlSubUnlisted .. => s.told t
  | .regRd .. =>
    { s.told t with
      net := { (s.told t).net with hold := t.net.hold },
      arb := { s.arb with maxWho := t.arb.maxWho } }
  | .regWrA .. | .regWrD .. =>
    { s.told t with
      freeNext := t.freeNext,
      tick := { s.tick with
        calBusy := t.tick.calBusy, stopped := t.tick.stopped, weNext := t.tick.weNext, weOut := t.tick.weOut,
        swapWait := t.tick.swapWait, syncSeen := t.tick.syncSeen, syncNew := t.tick.syncNew },
      net := { (s.told t).net with halves := t.net.halves, drain := t.net.drain },
      cnt := { (s.told t).cnt with
        cpart := t.cnt.cpart, cset := t.cnt.cset, wsCur := t.cnt.wsCur, erq := t.cnt.erq, freezeQ := t.cnt.freezeQ,
        relAt := t.cnt.relAt, loHold := t.cnt.loHold },
      spine := { s.spine with
        maintSeq := t.spine.maintSeq, maintGap := t.spine.maintGap, echoed := t.spine.echoed, echoAge := t.spine.echoAge,
        eff := t.spine.eff, test := t.spine.test, fi := t.spine.fi },
      resv := { s.resv with credit := t.resv.credit },
      ord := { s.ord with formQ := t.ord.formQ, rdDone := t.ord.rdDone },
      arb := { s.arb with
        queue := t.arb.queue, grants := t.arb.grants, waits := t.arb.waits, longest := t.arb.longest, ovf := t.arb.ovf },
      mtr := { s.mtr with mtr := t.mtr.mtr, bind := t.mtr.bind },
      pwr := { s.pwr with
        closeAt := t.pwr.closeAt, tgt := t.pwr.tgt, empty := t.pwr.empty, latch := t.pwr.latch, pendTgt := t.pwr.pendTgt,
        svokLow := t.pwr.svokLow, phaseAt := t.pwr.phaseAt, trStart := t.pwr.trStart, blank := t.pwr.blank },
      boot := { s.boot with
        rstAt := t.boot.rstAt, img := t.boot.img, acc := t.boot.acc, held := t.boot.held, posts := t.boot.posts,
        copying := t.boot.copying, settling := t.boot.settling, hoAt := t.boot.hoAt, goPend := t.boot.goPend,
        modeNext := t.boot.modeNext, spareBack := t.boot.spareBack, claimNext := t.boot.claimNext },
      port := { s.port with notice := t.port.notice },
      mem := { s.mem with
        jobs := t.mem.jobs, nextId := t.mem.nextId, holds := t.mem.holds, upd := t.mem.upd, updKey := t.mem.updKey,
        updVal := t.mem.updVal, updMir := t.mem.updMir, pbUpd := t.mem.pbUpd, pbKey := t.mem.pbKey, pbVal := t.mem.pbVal,
        pbMir := t.mem.pbMir, fills := t.mem.fills, eLook := t.mem.eLook, cache := t.mem.cache, bcache := t.mem.bcache,
        useClk := t.mem.useClk },
      eng := { s.eng with
        ctx := t.eng.ctx, away := t.eng.away, noHome := t.eng.noHome, moveTo := t.eng.moveTo, moving := t.eng.moving,
        abort := t.eng.abort, avail := t.eng.avail, fetch := t.eng.fetch, exec := t.eng.exec, wait := t.eng.wait,
        nextId := t.eng.nextId, budget := t.eng.budget, vt := t.eng.vt, act := t.eng.act, events := t.eng.events,
        qmapS := t.eng.qmapS },
      slc := { s.slc with
        nn := t.slc.nn, again := t.slc.again, trk := t.slc.trk, clean := t.slc.clean, since := t.slc.since,
        waiting := t.slc.waiting, create := t.slc.create, force := t.slc.force },
      xb := t.xb,
      iso := { s.iso with
        known := t.iso.known, nn := t.iso.nn, again := t.iso.again, unit := t.iso.unit, bound := t.iso.bound,
        drops := t.iso.drops, done := t.iso.done, freed := t.iso.freed, tags := t.iso.tags, breaks := t.iso.breaks,
        rows := t.iso.rows },
      irq := { s.irq with slices := t.irq.slices },
      fl := { s.fl with
        op := t.fl.op, step := t.fl.step, core := t.fl.core, got := t.fl.got, lost := t.fl.lost, offNum := t.fl.offNum,
        read := t.fl.read },
      pair := { s.pair with
        items := t.pair.items, txSeq := t.pair.txSeq, ret := t.pair.ret, out := t.pair.out, lastTx := t.pair.lastTx,
        used := t.pair.used, full := t.pair.full, fullOut := t.pair.fullOut, fullLast := t.pair.fullLast,
        tko := t.pair.tko, tkoRun := t.pair.tkoRun, tkoDone := t.pair.tkoDone, mark := t.pair.mark } }
  | .regWrHalfTimeout .. =>
    { s with
      net := { s.net with flight := t.net.flight, halves := t.net.halves } }
  | .regRsp .. =>
    { s.told t with
      freeNext := t.freeNext,
      net := { (s.told t).net with accOut := t.net.accOut, rsp := t.net.rsp } }
  | .mgmtRequest .. =>
    { s with
      regs := t.regs,
      freeNext := t.freeNext,
      net := { s.net with flight := t.net.flight, accOut := t.net.accOut, rsp := t.net.rsp } }
  | .rcRead .. | .lowRegisterRead .. =>
    { s with
      regs := t.regs,
      net := { s.net with hold := t.net.hold },
      arb := { s.arb with maxWho := t.arb.maxWho } }
  | .drainQuiet .. =>
    { s with
      regs := t.regs,
      net := { s.net with drain := t.net.drain } }
  | .irqPresent .. =>
    { s with
      irq := t.irq }
  | .ringCal .. =>
    { s with
      regs := t.regs,
      net := { s.net with flight := t.net.flight },
      cnt := { s.cnt with silLast := t.cnt.silLast, silSupp := t.cnt.silSupp, silEnum := t.cnt.silEnum },
      spine := { s.spine with
        maintSeq := t.spine.maintSeq, maintGap := t.spine.maintGap, echoed := t.spine.echoed, echoAge := t.spine.echoAge }
        }
  | .ringTest .. | .ringTestEnd .. =>
    { s with
      regs := t.regs,
      net := { s.net with flight := t.net.flight },
      cnt := { s.cnt with silLast := t.cnt.silLast, silSupp := t.cnt.silSupp, silEnum := t.cnt.silEnum },
      spine := { s.spine with test := t.spine.test } }
  | .ringFail .. | .ringClear .. | .ringCalDone .. | .doorbellWrite .. | .coreResetExit .. =>
    { s with
      regs := t.regs,
      net := { s.net with flight := t.net.flight },
      cnt := { s.cnt with silLast := t.cnt.silLast, silSupp := t.cnt.silSupp, silEnum := t.cnt.silEnum } }
  | .ringTestStart .. =>
    { s with
      spine := { s.spine with
        maintSeq := t.spine.maintSeq, maintGap := t.spine.maintGap, echoed := t.spine.echoed, echoAge := t.spine.echoAge,
        test := t.spine.test } }
  | .ringThreshold .. =>
    { s with
      regs := t.regs,
      net := { s.net with flight := t.net.flight },
      spine := { s.spine with win := t.spine.win } }
  | .fence .. =>
    { s.told t with
      spine := { s.spine with fence := t.spine.fence } }
  | .fenceApply .. =>
    { s with
      regs := t.regs,
      spine := { s.spine with fence := t.spine.fence, fenced := t.spine.fenced } }
  | .transactionFormed .. =>
    { s with
      regs := t.regs,
      net := { s.net with flight := t.net.flight },
      cnt := { s.cnt with cpart := t.cnt.cpart, smpEng := t.cnt.smpEng, smpArm := t.cnt.smpArm },
      resv := { s.resv with credit := t.resv.credit, charge := t.resv.charge },
      ord := { s.ord with tags := t.ord.tags, formQ := t.ord.formQ, rdNext := t.ord.rdNext, rdUse := t.ord.rdUse },
      arb := { s.arb with queue := t.arb.queue } }
  | .meterColour .. | .redRecolour .. =>
    { s with
      regs := t.regs,
      cnt := { s.cnt with smpEng := t.cnt.smpEng, smpArm := t.cnt.smpArm },
      arb := { s.arb with queue := t.arb.queue },
      mtr := { s.mtr with mtr := t.mtr.mtr } }
  | .bindWrite .. =>
    { s with
      regs := t.regs,
      arb := { s.arb with queue := t.arb.queue },
      mtr := { s.mtr with mtr := t.mtr.mtr, bind := t.mtr.bind } }
  | .gateAdvance .. =>
    { s with
      regs := t.regs,
      mtr := { s.mtr with gate := t.mtr.gate } }
  | .tlpReceived .. =>
    { s.told t with
      cnt := { (s.told t).cnt with cpart := t.cnt.cpart, erqNum := t.cnt.erqNum },
      spine := { s.spine with fi := t.spine.fi },
      ord := { s.ord with egr := t.ord.egr, stamp := t.ord.stamp },
      port := { s.port with rx := t.port.rx, held := t.port.held, ingAt := t.port.ingAt, ingSupp := t.port.ingSupp } }
  | .ingressCheck .. =>
    { s.told t with
      cnt := { (s.told t).cnt with cpart := t.cnt.cpart, erqNum := t.cnt.erqNum },
      ord := { s.ord with
        egr := t.ord.egr, stamp := t.ord.stamp, recs := t.ord.recs, formQ := t.ord.formQ, rejAt := t.ord.rejAt,
        rejSupp := t.ord.rejSupp },
      port := { s.port with
        rx := t.port.rx, lock := t.port.lock, defer := t.port.defer, emu := t.port.emu, ingAt := t.port.ingAt,
        ingSupp := t.port.ingSupp, lockFn := t.port.lockFn },
      mem := { s.mem with
        nextId := t.mem.nextId, fills := t.mem.fills, cache := t.mem.cache, bcache := t.mem.bcache,
        useClk := t.mem.useClk } }
  | .xltFillDone .. | .bindFillDone .. =>
    { s.told t with
      freeNext := t.freeNext,
      ord := { s.ord with formQ := t.ord.formQ, rdDone := t.ord.rdDone },
      port := { s.port with rx := t.port.rx },
      mem := { s.mem with
        nextId := t.mem.nextId, fills := t.mem.fills, eLook := t.mem.eLook, cache := t.mem.cache, bcache := t.mem.bcache,
        useClk := t.mem.useClk } }
  | .xltFillTimeout .. =>
    { s with
      regs := t.regs,
      cnt := { s.cnt with smpEng := t.cnt.smpEng, smpArm := t.cnt.smpArm },
      ord := { s.ord with formQ := t.ord.formQ },
      mem := { s.mem with nextId := t.mem.nextId, fills := t.mem.fills } }
  | .txCreditUpdate .. =>
    { s with
      port := { s.port with cred := t.port.cred } }
  | .stallChange .. =>
    { s with
      port := { s.port with stall := t.port.stall } }
  | .pause .. | .resume .. | .down .. | .returnKept .. | .returnFresh .. =>
    { s.told t with
      freeNext := t.freeNext,
      cnt := { (s.told t).cnt with cpart := t.cnt.cpart, erqNum := t.cnt.erqNum },
      resv := { s.resv with charge := t.resv.charge },
      ord := { s.ord with
        egr := t.ord.egr, stamp := t.ord.stamp, tags := t.ord.tags, recs := t.ord.recs, formQ := t.ord.formQ,
        rdUse := t.ord.rdUse, rdData := t.ord.rdData, rdDone := t.ord.rdDone },
      port := { s.port with
        asm := t.port.asm, lock := t.port.lock, defer := t.port.defer, emu := t.port.emu, mode := t.port.mode,
        spill := t.port.spill, spillPtr := t.port.spillPtr, full := t.port.full, notice := t.port.notice,
        paused := t.port.paused, stuck := t.port.stuck, told := t.port.told } }
  | .portModeWrite .. =>
    { s with
      regs := t.regs,
      boot := { s.boot with modeNext := t.boot.modeNext } }
  | .portModeChange .. =>
    { s.told t with
      cnt := { (s.told t).cnt with cpart := t.cnt.cpart },
      resv := { s.resv with charge := t.resv.charge },
      ord := { s.ord with
        egr := t.ord.egr, stamp := t.ord.stamp, tags := t.ord.tags, recs := t.ord.recs, formQ := t.ord.formQ,
        rdUse := t.ord.rdUse, rdData := t.ord.rdData, rdDone := t.ord.rdDone },
      boot := { s.boot with modeNext := t.boot.modeNext },
      port := { s.port with
        asm := t.port.asm, lock := t.port.lock, defer := t.port.defer, emu := t.port.emu, mode := t.port.mode,
        spill := t.port.spill, spillPtr := t.port.spillPtr, full := t.port.full, notice := t.port.notice } }
  | .linkNotice .. =>
    { s.told t with
      port := { s.port with arrived := t.port.arrived } }
  | .linkNoticeApply .. =>
    { s.told t with
      cnt := { (s.told t).cnt with cpart := t.cnt.cpart, erqNum := t.cnt.erqNum },
      ord := { s.ord with
        egr := t.ord.egr, stamp := t.ord.stamp, tags := t.ord.tags, formQ := t.ord.formQ, rdUse := t.ord.rdUse,
        rdData := t.ord.rdData, rdDone := t.ord.rdDone, tgt := t.ord.tgt },
      port := { s.port with
        applied := t.port.applied, arrived := t.port.arrived, ingAt := t.port.ingAt, ingSupp := t.port.ingSupp } }
  | .spillAge .. =>
    { s.told t with
      ord := { s.ord with egr := t.ord.egr, formQ := t.ord.formQ },
      port := { s.port with mode := t.port.mode, spill := t.port.spill, spillPtr := t.port.spillPtr, full := t.port.full } }
  | .spillReadback .. =>
    { s.told t with
      ord := { s.ord with formQ := t.ord.formQ, rdDone := t.ord.rdDone },
      port := { s.port with spill := t.port.spill } }
  | .linkWatch .. =>
    { s.told t with
      port := { s.port with told := t.port.told } }
  | .lockTimeout .. =>
    { s.told t with
      ord := { s.ord with egr := t.ord.egr, stamp := t.ord.stamp },
      port := { s.port with lock := t.port.lock, defer := t.port.defer } }
  | .atomEmuReadDone .. =>
    { s with
      regs := t.regs,
      ord := { s.ord with egr := t.ord.egr, formQ := t.ord.formQ },
      port := { s.port with lock := t.port.lock, defer := t.port.defer, emu := t.port.emu } }
  | .spareClaimRepair .. | .spareClaimTest .. | .spareGo .. | .spareReturn .. =>
    { s with
      regs := t.regs,
      boot := { s.boot with spareBack := t.boot.spareBack, claimNext := t.boot.claimNext } }
  | .tagDeadlinePassed .. | .quarantineEnd .. =>
    { s with
      ord := { s.ord with tags := t.ord.tags } }
  | .tagExpire .. =>
    { s.told t with
      cnt := { (s.told t).cnt with cpart := t.cnt.cpart },
      ord := { s.ord with
        egr := t.ord.egr, stamp := t.ord.stamp, tags := t.ord.tags, rdUse := t.ord.rdUse, rdData := t.ord.rdData,
        rdDone := t.ord.rdDone } }
  | .completerRecordExpire .. =>
    { s with
      ord := { s.ord with recs := t.ord.recs } }
  | .xltUpdate .. =>
    { s.told t with
      ord := { s.ord with formQ := t.ord.formQ, rdDone := t.ord.rdDone },
      mem := { s.mem with
        jobs := t.mem.jobs, nextId := t.mem.nextId, holds := t.mem.holds, upd := t.mem.upd, updKey := t.mem.updKey,
        updVal := t.mem.updVal, updMir := t.mem.updMir, pbUpd := t.mem.pbUpd } }
  | .xltInv .. =>
    { s.told t with
      mem := { s.mem with
        fills := t.mem.fills, cache := t.mem.cache, bcache := t.mem.bcache, dozeInv := t.mem.dozeInv,
        dozePb := t.mem.dozePb } }
  | .invAck .. =>
    { s.told t with
      mem := { s.mem with upd := t.mem.upd, pbUpd := t.mem.pbUpd },
      pair := { s.pair with items := t.pair.items, curSt := t.pair.curSt } }
  | .pbUpdate =>
    { s.told t with
      ord := { s.ord with formQ := t.ord.formQ, rdDone := t.ord.rdDone },
      mem := { s.mem with
        jobs := t.mem.jobs, nextId := t.mem.nextId, holds := t.mem.holds, upd := t.mem.upd, pbUpd := t.mem.pbUpd,
        pbKey := t.mem.pbKey, pbVal := t.mem.pbVal, pbMir := t.mem.pbMir } }
  | .pbInv .. =>
    { s.told t with
      mem := { s.mem with
        pbBase := t.mem.pbBase, pbCnt := t.mem.pbCnt, fills := t.mem.fills, cache := t.mem.cache, bcache := t.mem.bcache,
        dozeInv := t.mem.dozeInv, dozePb := t.mem.dozePb } }
  | .pbDcntWrite .. =>
    { s with
      regs := t.regs,
      net := { s.net with flight := t.net.flight } }
  | .memRequest .. | .parityDelta .. | .rowRead .. | .rowRelease .. =>
    { s.told t with
      cnt := { (s.told t).cnt with cpart := t.cnt.cpart },
      resv := { s.resv with charge := t.resv.charge },
      ord := { s.ord with
        egr := t.ord.egr, stamp := t.ord.stamp, tags := t.ord.tags, formQ := t.ord.formQ, rdUse := t.ord.rdUse,
        rdData := t.ord.rdData, pois := t.ord.pois, rdDone := t.ord.rdDone },
      mem := { s.mem with
        jobs := t.mem.jobs, nextId := t.mem.nextId, holds := t.mem.holds, folded := t.mem.folded, upd := t.mem.upd,
        pbUpd := t.mem.pbUpd } }
  | .memResponse .. =>
    { s.told t with
      ord := { s.ord with formQ := t.ord.formQ, rdDone := t.ord.rdDone },
      mem := { s.mem with
        jobs := t.mem.jobs, holds := t.mem.holds, ueFrom := t.mem.ueFrom, ueCnt := t.mem.ueCnt, upd := t.mem.upd,
        pbUpd := t.mem.pbUpd } }
  | .reconstructDone .. =>
    { s.told t with
      ord := { s.ord with formQ := t.ord.formQ, rdDone := t.ord.rdDone },
      mem := { s.mem with
        jobs := t.mem.jobs, holds := t.mem.holds, folded := t.mem.folded, upd := t.mem.upd, pbUpd := t.mem.pbUpd } }
  | .chFail .. | .chCmdFail .. | .chCmdRebuild .. | .chCmdClear .. | .directReadDone .. =>
    { s.told t with
      ord := { s.ord with formQ := t.ord.formQ, rdDone := t.ord.rdDone },
      mem := { s.mem with jobs := t.mem.jobs, holds := t.mem.holds, upd := t.mem.upd, pbUpd := t.mem.pbUpd } }
  | .rebuildTick .. | .directRead .. =>
    { s.told t with
      ord := { s.ord with formQ := t.ord.formQ, rdDone := t.ord.rdDone },
      mem := { s.mem with
        jobs := t.mem.jobs, nextId := t.mem.nextId, holds := t.mem.holds, upd := t.mem.upd, pbUpd := t.mem.pbUpd } }
  | .doorbell .. =>
    { s.told t with
      freeNext := t.freeNext,
      ord := { s.ord with formQ := t.ord.formQ },
      mem := { s.mem with
        nextId := t.mem.nextId, fills := t.mem.fills, eLook := t.mem.eLook, cache := t.mem.cache, bcache := t.mem.bcache,
        useClk := t.mem.useClk },
      eng := { s.eng with
        ctx := t.eng.ctx, avail := t.eng.avail, fetch := t.eng.fetch, exec := t.eng.exec, wait := t.eng.wait,
        nextId := t.eng.nextId, budget := t.eng.budget, vt := t.eng.vt, act := t.eng.act, events := t.eng.events } }
  | .descFetchDone .. | .chunkReadDone .. =>
    { s with
      regs := t.regs,
      freeNext := t.freeNext,
      cnt := { s.cnt with smpEng := t.cnt.smpEng, smpArm := t.cnt.smpArm },
      ord := { s.ord with formQ := t.ord.formQ, rdDone := t.ord.rdDone },
      mem := { s.mem with
        nextId := t.mem.nextId, fills := t.mem.fills, eLook := t.mem.eLook, cache := t.mem.cache, bcache := t.mem.bcache,
        useClk := t.mem.useClk },
      eng := { s.eng with
        ctx := t.eng.ctx, avail := t.eng.avail, fetch := t.eng.fetch, exec := t.eng.exec, wait := t.eng.wait,
        nextId := t.eng.nextId, budget := t.eng.budget, vt := t.eng.vt, act := t.eng.act, events := t.eng.events } }
  | .descStart .. =>
    { s.told t with
      freeNext := t.freeNext,
      ord := { s.ord with formQ := t.ord.formQ },
      mem := { s.mem with
        nextId := t.mem.nextId, fills := t.mem.fills, eLook := t.mem.eLook, cache := t.mem.cache, bcache := t.mem.bcache,
        useClk := t.mem.useClk },
      eng := { s.eng with
        ctx := t.eng.ctx, avail := t.eng.avail, fetch := t.eng.fetch, exec := t.eng.exec, wait := t.eng.wait,
        nextId := t.eng.nextId, budget := t.eng.budget, vt := t.eng.vt, act := t.eng.act, rr := t.eng.rr,
        events := t.eng.events } }
  | .descRetire .. =>
    { s with
      regs := t.regs,
      freeNext := t.freeNext,
      cnt := { s.cnt with smpEng := t.cnt.smpEng, smpArm := t.cnt.smpArm },
      ord := { s.ord with formQ := t.ord.formQ },
      mem := { s.mem with
        nextId := t.mem.nextId, fills := t.mem.fills, eLook := t.mem.eLook, cache := t.mem.cache, bcache := t.mem.bcache,
        useClk := t.mem.useClk },
      eng := { s.eng with
        ctx := t.eng.ctx, avail := t.eng.avail, fetch := t.eng.fetch, exec := t.eng.exec, wait := t.eng.wait,
        nextId := t.eng.nextId, budget := t.eng.budget, vt := t.eng.vt, act := t.eng.act, events := t.eng.events },
      fl := { s.fl with done := t.fl.done, skip := t.fl.skip, err := t.fl.err } }
  | .completionEvent .. =>
    { s with
      regs := t.regs,
      ord := { s.ord with rdDone := t.ord.rdDone },
      eng := { s.eng with events := t.eng.events },
      irq := { s.irq with slices := t.irq.slices } }
  | .evtRearm .. =>
    { s with
      regs := t.regs,
      irq := { s.irq with slices := t.irq.slices } }
  | .qcRead .. | .qcWrite .. | .qcEnable .. | .qcDisable .. | .qcRestart .. =>
    { s with
      regs := t.regs,
      freeNext := t.freeNext,
      cnt := { s.cnt with smpEng := t.cnt.smpEng, smpArm := t.cnt.smpArm },
      ord := { s.ord with formQ := t.ord.formQ },
      mem := { s.mem with
        nextId := t.mem.nextId, fills := t.mem.fills, eLook := t.mem.eLook, cache := t.mem.cache, bcache := t.mem.bcache,
        useClk := t.mem.useClk },
      eng := { s.eng with
        ctx := t.eng.ctx, away := t.eng.away, avail := t.eng.avail, fetch := t.eng.fetch, exec := t.eng.exec,
        wait := t.eng.wait, nextId := t.eng.nextId, budget := t.eng.budget, vt := t.eng.vt, act := t.eng.act,
        events := t.eng.events } }
  | .engLeave .. | .engJoin .. | .engClear .. | .engMoveq .. =>
    { s with
      regs := t.regs,
      cnt := { s.cnt with smpEng := t.cnt.smpEng, smpArm := t.cnt.smpArm },
      eng := { s.eng with
        ctx := t.eng.ctx, away := t.eng.away, noHome := t.eng.noHome, moveTo := t.eng.moveTo, moving := t.eng.moving,
        abort := t.eng.abort, fetch := t.eng.fetch } }
  | .contextSend .. =>
    { s with
      regs := t.regs,
      cnt := { s.cnt with smpEng := t.cnt.smpEng, smpArm := t.cnt.smpArm },
      ord := { s.ord with formQ := t.ord.formQ },
      eng := { s.eng with
        ctx := t.eng.ctx, away := t.eng.away, noHome := t.eng.noHome, stub := t.eng.stub, moveTo := t.eng.moveTo,
        moving := t.eng.moving, abort := t.eng.abort, avail := t.eng.avail, fetch := t.eng.fetch, nextId := t.eng.nextId }
        }
  | .contextLand .. =>
    { s.told t with
      freeNext := t.freeNext,
      cnt := { (s.told t).cnt with cpart := t.cnt.cpart },
      resv := { s.resv with charge := t.resv.charge },
      ord := { s.ord with
        egr := t.ord.egr, stamp := t.ord.stamp, tags := t.ord.tags, formQ := t.ord.formQ, rdUse := t.ord.rdUse,
        rdData := t.ord.rdData, pois := t.ord.pois, rdDone := t.ord.rdDone },
      mem := { s.mem with
        nextId := t.mem.nextId, fills := t.mem.fills, eLook := t.mem.eLook, cache := t.mem.cache, bcache := t.mem.bcache,
        useClk := t.mem.useClk },
      eng := { s.eng with
        ctx := t.eng.ctx, away := t.eng.away, stub := t.eng.stub, abort := t.eng.abort, avail := t.eng.avail,
        fetch := t.eng.fetch, exec := t.eng.exec, wait := t.eng.wait, nextId := t.eng.nextId, budget := t.eng.budget,
        vt := t.eng.vt, act := t.eng.act, events := t.eng.events } }
  | .qmapUpd .. =>
    { s.told t with
      eng := { s.eng with stub := t.eng.stub, qmapS := t.eng.qmapS } }
  | .stubExpire .. =>
    { s with
      eng := { s.eng with stub := t.eng.stub } }
  | .engCtxUe .. =>
    { s.told t with
      eng := { s.eng with
        ctx := t.eng.ctx, away := t.eng.away, noHome := t.eng.noHome, moveTo := t.eng.moveTo, abort := t.eng.abort,
        avail := t.eng.avail, fetch := t.eng.fetch, exec := t.eng.exec, wait := t.eng.wait, events := t.eng.events } }
  | .push .. =>
    { s.told t with
      freeNext := t.freeNext,
      cnt := { (s.told t).cnt with cpart := t.cnt.cpart },
      resv := { s.resv with charge := t.resv.charge },
      ord := { s.ord with
        egr := t.ord.egr, stamp := t.ord.stamp, tags := t.ord.tags, formQ := t.ord.formQ, rdUse := t.ord.rdUse,
        rdData := t.ord.rdData, pois := t.ord.pois, rdDone := t.ord.rdDone },
      mem := { s.mem with
        nextId := t.mem.nextId, fills := t.mem.fills, eLook := t.mem.eLook, cache := t.mem.cache, bcache := t.mem.bcache,
        useClk := t.mem.useClk },
      eng := { s.eng with
        ctx := t.eng.ctx, avail := t.eng.avail, fetch := t.eng.fetch, exec := t.eng.exec, wait := t.eng.wait,
        nextId := t.eng.nextId, budget := t.eng.budget, vt := t.eng.vt, act := t.eng.act, events := t.eng.events } }
  | .replCopy =>
    { s with
      regs := t.regs,
      net := { s.net with flight := t.net.flight },
      cnt := { s.cnt with cpart := t.cnt.cpart, smpEng := t.cnt.smpEng, smpArm := t.cnt.smpArm },
      resv := { s.resv with credit := t.resv.credit, charge := t.resv.charge },
      ord := { s.ord with
        egr := t.ord.egr, stamp := t.ord.stamp, tags := t.ord.tags, rdNext := t.ord.rdNext, rdUse := t.ord.rdUse,
        rdData := t.ord.rdData, pois := t.ord.pois, rdDone := t.ord.rdDone },
      arb := { s.arb with queue := t.arb.queue },
      eng := { s.eng with fan := t.eng.fan } }
  | .sliceCreate .. | .sliceDrydown .. | .sliceOpen .. | .sliceReset .. | .sliceRemove .. | .sliceFreeze .. |
  .sliceThaw .. | .sliceForce .. =>
    { s with
      regs := t.regs,
      net := { s.net with flight := t.net.flight },
      cnt := { s.cnt with
        freezeQ := t.cnt.freezeQ, silLast := t.cnt.silLast, silSupp := t.cnt.silSupp, silEnum := t.cnt.silEnum },
      mtr := { s.mtr with mtr := t.mtr.mtr },
      slc := { s.slc with
        nn := t.slc.nn, again := t.slc.again, trk := t.slc.trk, clean := t.slc.clean, since := t.slc.since,
        waiting := t.slc.waiting, create := t.slc.create, force := t.slc.force },
      fl := { s.fl with lost := t.fl.lost, read := t.fl.read } }
  | .sliceUpd .. =>
    { s.told t with
      slc := { s.slc with arrived := t.slc.arrived } }
  | .sliceUpdApply .. =>
    { s.told t with
      freeNext := t.freeNext,
      cnt := { (s.told t).cnt with cpart := t.cnt.cpart, erqNum := t.cnt.erqNum },
      ord := { s.ord with
        egr := t.ord.egr, stamp := t.ord.stamp, tags := t.ord.tags, formQ := t.ord.formQ, rdUse := t.ord.rdUse,
        rdData := t.ord.rdData, rdDone := t.ord.rdDone, gen := t.ord.gen, adm := t.ord.adm },
      port := { s.port with lock := t.port.lock, defer := t.port.defer, ingAt := t.port.ingAt, ingSupp := t.port.ingSupp },
      mem := { s.mem with
        nextId := t.mem.nextId, fills := t.mem.fills, eLook := t.mem.eLook, cache := t.mem.cache, bcache := t.mem.bcache,
        useClk := t.mem.useClk },
      eng := { s.eng with
        ctx := t.eng.ctx, abort := t.eng.abort, avail := t.eng.avail, fetch := t.eng.fetch, exec := t.eng.exec,
        wait := t.eng.wait, nextId := t.eng.nextId, budget := t.eng.budget, vt := t.eng.vt, act := t.eng.act,
        events := t.eng.events },
      slc := { s.slc with arrived := t.slc.arrived, applied := t.slc.applied, closedAt := t.slc.closedAt } }
  | .unitRng .. =>
    { s.told t with
      mem := { s.mem with units := t.mem.units, unitsPart := t.mem.unitsPart } }
  | .dryReached .. =>
    { s with
      regs := t.regs,
      net := { s.net with flight := t.net.flight },
      cnt := { s.cnt with silLast := t.cnt.silLast, silSupp := t.cnt.silSupp, silEnum := t.cnt.silEnum },
      slc := { s.slc with trk := t.slc.trk, clean := t.slc.clean, since := t.slc.since, waiting := t.slc.waiting } }
  | .cleared .. =>
    { s with
      regs := t.regs,
      net := { s.net with flight := t.net.flight },
      cnt := { s.cnt with
        cpart := t.cnt.cpart, cset := t.cnt.cset, silLast := t.cnt.silLast, silSupp := t.cnt.silSupp,
        silEnum := t.cnt.silEnum },
      mtr := { s.mtr with bind := t.mtr.bind },
      eng := { s.eng with ctx := t.eng.ctx, avail := t.eng.avail },
      slc := { s.slc with
        trk := t.slc.trk, clean := t.slc.clean, since := t.slc.since, waiting := t.slc.waiting, moved := t.slc.moved },
      pair := { s.pair with items := t.pair.items } }
  | .drydownFlush .. =>
    { s with
      regs := t.regs,
      cnt := { s.cnt with smpEng := t.cnt.smpEng, smpArm := t.cnt.smpArm },
      ord := { s.ord with egr := t.ord.egr, formQ := t.ord.formQ },
      port := { s.port with spill := t.port.spill, spillPtr := t.port.spillPtr } }
  | .flSave | .flLoad | .flRebind | .flCopy | .flDrop =>
    { s with
      regs := t.regs,
      ord := { s.ord with formQ := t.ord.formQ },
      fl := { s.fl with op := t.fl.op, step := t.fl.step, core := t.fl.core, got := t.fl.got, lost := t.fl.lost } }
  | .flOffWrite .. | .flDataWrite .. =>
    { s with
      regs := t.regs,
      ord := { s.ord with formQ := t.ord.formQ },
      fl := { s.fl with core := t.fl.core, offNum := t.fl.offNum } }
  | .bridgeResync .. =>
    { s with
      regs := t.regs,
      net := { s.net with flight := t.net.flight },
      cnt := { s.cnt with silLast := t.cnt.silLast, silSupp := t.cnt.silSupp, silEnum := t.cnt.silEnum },
      spine := { s.spine with xfer := t.spine.xfer, eject := t.spine.eject },
      arb := { s.arb with credit := t.arb.credit },
      xb := t.xb,
      pair := { s.pair with out := t.pair.out, rx := t.pair.rx } }
  | .clockSwitch => s
  | .xbSelWrite .. =>
    { s with
      regs := t.regs,
      freeNext := t.freeNext,
      xb := t.xb }
  | .psTargetRun .. | .psTargetTrim .. | .psTargetDoze .. | .psTargetOff .. =>
    { s with
      regs := t.regs,
      net := { s.net with flight := t.net.flight },
      cnt := { s.cnt with smpEng := t.cnt.smpEng, smpArm := t.cnt.smpArm },
      pwr := { s.pwr with
        closeAt := t.pwr.closeAt, tgt := t.pwr.tgt, empty := t.pwr.empty, latch := t.pwr.latch, pendTgt := t.pwr.pendTgt,
        svokLow := t.pwr.svokLow, phaseAt := t.pwr.phaseAt, trStart := t.pwr.trStart } }
  | .pwrCmdClose .. | .pwrCmdReopen .. | .pwrCmdEmpty .. =>
    { s.told t with
      pwr := { s.pwr with
        closeReq := t.pwr.closeReq, closeAt := t.pwr.closeAt, tgt := t.pwr.tgt, empty := t.pwr.empty,
        phaseAt := t.pwr.phaseAt, trStart := t.pwr.trStart } }
  | .sectorEmpty .. =>
    { s with
      regs := t.regs,
      pwr := { s.pwr with
        closeAt := t.pwr.closeAt, tgt := t.pwr.tgt, empty := t.pwr.empty, phaseAt := t.pwr.phaseAt,
        trStart := t.pwr.trStart } }
  | .closeTimeout .. =>
    { s with
      regs := t.regs,
      net := { s.net with flight := t.net.flight },
      cnt := { s.cnt with silLast := t.cnt.silLast, silSupp := t.cnt.silSupp, silEnum := t.cnt.silEnum },
      pwr := { s.pwr with
        closeAt := t.pwr.closeAt, tgt := t.pwr.tgt, empty := t.pwr.empty, pendTgt := t.pwr.pendTgt,
        svokLow := t.pwr.svokLow, phaseAt := t.pwr.phaseAt, trStart := t.pwr.trStart } }
  | .wakeDemand .. | .wakeSigdet .. | .wakeSupply .. | .wakeTherm .. | .wakeTimer .. | .wakePair .. =>
    { s with
      regs := t.regs,
      net := { s.net with flight := t.net.flight },
      cnt := { s.cnt with smpEng := t.cnt.smpEng, smpArm := t.cnt.smpArm },
      pwr := { s.pwr with
        closeAt := t.pwr.closeAt, tgt := t.pwr.tgt, empty := t.pwr.empty, latch := t.pwr.latch, pendTgt := t.pwr.pendTgt,
        svokLow := t.pwr.svokLow, phaseAt := t.pwr.phaseAt, trStart := t.pwr.trStart } }
  | .governorInterval =>
    { s.told t with
      pwr := { s.pwr with
        demand := t.pwr.demand, used := t.pwr.used, slots := t.pwr.slots, phaseAt := t.pwr.phaseAt,
        interval := t.pwr.interval, gcap := t.pwr.gcap, gball := t.pwr.gball, rrCap := t.pwr.rrCap,
        rrBall := t.pwr.rrBall, est := t.pwr.est, why := t.pwr.why } }
  | .svokAsserted .. =>
    { s with
      pwr := { s.pwr with svokLow := t.pwr.svokLow } }
  | .svokTimeout .. | .svokLost .. =>
    { s.told t with
      resv := { s.resv with credit := t.resv.credit, charge := t.resv.charge, rr := t.resv.rr },
      ord := { s.ord with
        ret := t.ord.ret, nextSeq := t.ord.nextSeq, low := t.ord.low, seen := t.ord.seen, wait := t.ord.wait,
        acks := t.ord.acks, ackQ := t.ord.ackQ, egr := t.ord.egr, stamp := t.ord.stamp, tags := t.ord.tags,
        recs := t.ord.recs, outTag := t.ord.outTag, hist := t.ord.hist, formQ := t.ord.formQ, rdUse := t.ord.rdUse,
        rdData := t.ord.rdData, pois := t.ord.pois, rdDone := t.ord.rdDone, rejAt := t.ord.rejAt,
        rejSupp := t.ord.rejSupp },
      arb := { s.arb with
        queue := t.arb.queue, burst := t.arb.burst, clsAct := t.arb.clsAct, waitCnt := t.arb.waitCnt,
        credit := t.arb.credit, vclass := t.arb.vclass, vreq := t.arb.vreq, active := t.arb.active,
        waitFrom := t.arb.waitFrom, grants := t.arb.grants, waits := t.arb.waits, longest := t.arb.longest,
        ovf := t.arb.ovf, ctlUsed := t.arb.ctlUsed, unset := t.arb.unset, decided := t.arb.decided },
      mtr := { s.mtr with beyond := t.mtr.beyond, gate := t.mtr.gate },
      pwr := { s.pwr with
        closeAt := t.pwr.closeAt, empty := t.pwr.empty, latch := t.pwr.latch, pendTgt := t.pwr.pendTgt,
        svokLow := t.pwr.svokLow, why := t.pwr.why },
      port := { s.port with
        rx := t.port.rx, tx := t.port.tx, asm := t.port.asm, lock := t.port.lock, defer := t.port.defer,
        emu := t.port.emu, mode := t.port.mode, spill := t.port.spill, spillPtr := t.port.spillPtr, full := t.port.full,
        notice := t.port.notice, paused := t.port.paused, stuck := t.port.stuck, told := t.port.told, held := t.port.held,
        ingAt := t.port.ingAt, ingSupp := t.port.ingSupp, lockFn := t.port.lockFn },
      mem := { s.mem with cache := t.mem.cache, bcache := t.mem.bcache, dozeInv := t.mem.dozeInv, dozePb := t.mem.dozePb },
      xb := t.xb,
      iso := { s.iso with
        nn := t.iso.nn, again := t.iso.again, queue := t.iso.queue, unit := t.iso.unit, bound := t.iso.bound,
        drops := t.iso.drops, done := t.iso.done, freed := t.iso.freed, tags := t.iso.tags, breaks := t.iso.breaks,
        rows := t.iso.rows } }
  | .transitionDone .. =>
    { s.told t with
      resv := { s.resv with credit := t.resv.credit, charge := t.resv.charge, rr := t.resv.rr, unsync := t.resv.unsync },
      ord := { s.ord with
        ret := t.ord.ret, nextSeq := t.ord.nextSeq, low := t.ord.low, seen := t.ord.seen, wait := t.ord.wait,
        acks := t.ord.acks, ackQ := t.ord.ackQ, egr := t.ord.egr, stamp := t.ord.stamp, tags := t.ord.tags,
        recs := t.ord.recs, outTag := t.ord.outTag, hist := t.ord.hist, formQ := t.ord.formQ, rdUse := t.ord.rdUse,
        rdData := t.ord.rdData, pois := t.ord.pois, rdDone := t.ord.rdDone, rejAt := t.ord.rejAt,
        rejSupp := t.ord.rejSupp },
      arb := { s.arb with
        queue := t.arb.queue, burst := t.arb.burst, clsAct := t.arb.clsAct, waitCnt := t.arb.waitCnt,
        credit := t.arb.credit, vclass := t.arb.vclass, vreq := t.arb.vreq, active := t.arb.active,
        waitFrom := t.arb.waitFrom, grants := t.arb.grants, waits := t.arb.waits, longest := t.arb.longest,
        ovf := t.arb.ovf, ctlUsed := t.arb.ctlUsed, unset := t.arb.unset, decided := t.arb.decided },
      mtr := { s.mtr with mtr := t.mtr.mtr, beyond := t.mtr.beyond, gate := t.mtr.gate },
      pwr := { s.pwr with
        closeAt := t.pwr.closeAt, tgt := t.pwr.tgt, empty := t.pwr.empty, latch := t.pwr.latch, pendTgt := t.pwr.pendTgt,
        svokLow := t.pwr.svokLow, phaseAt := t.pwr.phaseAt, trStart := t.pwr.trStart },
      port := { s.port with
        rx := t.port.rx, tx := t.port.tx, asm := t.port.asm, lock := t.port.lock, defer := t.port.defer,
        emu := t.port.emu, mode := t.port.mode, spill := t.port.spill, spillPtr := t.port.spillPtr, full := t.port.full,
        paused := t.port.paused, stuck := t.port.stuck, told := t.port.told, held := t.port.held, ingAt := t.port.ingAt,
        ingSupp := t.port.ingSupp, lockFn := t.port.lockFn },
      mem := { s.mem with cache := t.mem.cache, bcache := t.mem.bcache, dozeInv := t.mem.dozeInv, dozePb := t.mem.dozePb },
      xb := t.xb }
  | .lsgSet .. =>
    { s.told t with
      pwr := { s.pwr with cap := t.pwr.cap, ball := t.pwr.ball } }
  | .freezeArm =>
    { s with
      regs := t.regs,
      cnt := { s.cnt with freezeQ := t.cnt.freezeQ } }
  | .freezeRelease =>
    { s with
      regs := t.regs,
      cnt := { s.cnt with relAt := t.cnt.relAt } }
  | .rqSelWrite .. =>
    { s with
      regs := t.regs,
      arb := { s.arb with grants := t.arb.grants, waits := t.arb.waits, longest := t.arb.longest, ovf := t.arb.ovf } }
  | .meterSelWrite .. =>
    { s with
      regs := t.regs,
      mtr := { s.mtr with mtr := t.mtr.mtr } }
  | .csSelWrite .. =>
    { s with
      regs := t.regs,
      cnt := { s.cnt with cpart := t.cnt.cpart, cset := t.cnt.cset } }
  | .windowClose .. =>
    { s with
      cnt := { s.cnt with cset := t.cnt.cset, wsCur := t.cnt.wsCur, wsLast := t.cnt.wsLast } }
  | .sbSelect .. =>
    { s with
      cnt := { s.cnt with sbSel := t.cnt.sbSel } }
  | .silFrag .. =>
    { s.told t with
      cnt := { (s.told t).cnt with silPart := t.cnt.silPart, silStg := t.cnt.silStg, silOver := t.cnt.silOver } }
  | .silFragTimeout .. =>
    { s with
      regs := t.regs,
      cnt := { s.cnt with silPart := t.cnt.silPart } }
  | .silLineWrite .. =>
    { s with
      regs := t.regs,
      cnt := { s.cnt with silStg := t.cnt.silStg },
      ord := { s.ord with formQ := t.ord.formQ } }
  | .silLineAck .. =>
    { s with
      regs := t.regs,
      cnt := { s.cnt with silStg := t.cnt.silStg, silOver := t.cnt.silOver } }
  | .erqFrag .. =>
    { s.told t with
      cnt := { (s.told t).cnt with erqPart := t.cnt.erqPart, erq := t.cnt.erq } }
  | .erqFragTimeout .. =>
    { s.told t with
      cnt := { (s.told t).cnt with erqPart := t.cnt.erqPart } }
  | .erqPop =>
    { s with
      regs := t.regs,
      cnt := { s.cnt with erq := t.cnt.erq } }
  | .isolate .. =>
    { s with
      regs := t.regs,
      net := { s.net with flight := t.net.flight },
      port := { s.port with notice := t.port.notice },
      iso := { s.iso with
        nn := t.iso.nn, again := t.iso.again, unit := t.iso.unit, bound := t.iso.bound, drops := t.iso.drops,
        done := t.iso.done, freed := t.iso.freed, tags := t.iso.tags, breaks := t.iso.breaks, rows := t.iso.rows } }
  | .rejoin .. =>
    { s with
      regs := t.regs,
      net := { s.net with flight := t.net.flight },
      iso := { s.iso with known := t.iso.known } }
  | .isolateMsg .. =>
    { s.told t with
      iso := { s.iso with arrived := t.iso.arrived } }
  | .isolateApply .. =>
    { s.told t with
      cnt := { (s.told t).cnt with cpart := t.cnt.cpart },
      spine := { s.spine with inj := t.spine.inj, eject := t.spine.eject, missed := t.spine.missed },
      resv := { s.resv with
        credit := t.resv.credit, charge := t.resv.charge, pendQ := t.resv.pendQ, rr := t.resv.rr, closed := t.resv.closed,
        recalls := t.resv.recalls },
      ord := { s.ord with
        ret := t.ord.ret, nextSeq := t.ord.nextSeq, low := t.ord.low, seen := t.ord.seen, wait := t.ord.wait,
        acks := t.ord.acks, ackQ := t.ord.ackQ, egr := t.ord.egr, stamp := t.ord.stamp, tags := t.ord.tags,
        recs := t.ord.recs, outTag := t.ord.outTag, hist := t.ord.hist, formQ := t.ord.formQ, rdUse := t.ord.rdUse,
        rdData := t.ord.rdData, pois := t.ord.pois, rdDone := t.ord.rdDone, rejAt := t.ord.rejAt,
        rejSupp := t.ord.rejSupp },
      arb := { s.arb with
        queue := t.arb.queue, burst := t.arb.burst, clsAct := t.arb.clsAct, waitCnt := t.arb.waitCnt,
        credit := t.arb.credit, vclass := t.arb.vclass, vreq := t.arb.vreq, active := t.arb.active,
        waitFrom := t.arb.waitFrom, grants := t.arb.grants, waits := t.arb.waits, longest := t.arb.longest,
        ovf := t.arb.ovf, ctlUsed := t.arb.ctlUsed, unset := t.arb.unset, decided := t.arb.decided },
      mtr := { s.mtr with beyond := t.mtr.beyond, gate := t.mtr.gate },
      pwr := { s.pwr with
        closeAt := t.pwr.closeAt, empty := t.pwr.empty, latch := t.pwr.latch, pendTgt := t.pwr.pendTgt,
        why := t.pwr.why },
      port := { s.port with
        rx := t.port.rx, tx := t.port.tx, asm := t.port.asm, lock := t.port.lock, defer := t.port.defer,
        emu := t.port.emu, mode := t.port.mode, spill := t.port.spill, spillPtr := t.port.spillPtr, full := t.port.full,
        paused := t.port.paused, stuck := t.port.stuck, told := t.port.told, held := t.port.held, ingAt := t.port.ingAt,
        ingSupp := t.port.ingSupp, lockFn := t.port.lockFn },
      mem := { s.mem with
        jobs := t.mem.jobs, holds := t.mem.holds, upd := t.mem.upd, pbUpd := t.mem.pbUpd, cache := t.mem.cache,
        bcache := t.mem.bcache, dozeInv := t.mem.dozeInv, dozePb := t.mem.dozePb },
      eng := { s.eng with
        ctx := t.eng.ctx, away := t.eng.away, noHome := t.eng.noHome, moveTo := t.eng.moveTo, abort := t.eng.abort,
        avail := t.eng.avail, fetch := t.eng.fetch, exec := t.eng.exec, wait := t.eng.wait, events := t.eng.events },
      xb := t.xb,
      iso := { s.iso with
        known := t.iso.known, arrived := t.iso.arrived, applied := t.iso.applied, done := t.iso.done,
        freed := t.iso.freed, tags := t.iso.tags, breaks := t.iso.breaks, rows := t.iso.rows } }
  | .isolationComplete =>
    { s with
      regs := t.regs,
      net := { s.net with flight := t.net.flight },
      cnt := { s.cnt with
        erqNum := t.cnt.erqNum, silLast := t.cnt.silLast, silSupp := t.cnt.silSupp, silEnum := t.cnt.silEnum },
      port := { s.port with notice := t.port.notice },
      iso := { s.iso with
        nn := t.iso.nn, again := t.iso.again, queue := t.iso.queue, unit := t.iso.unit, bound := t.iso.bound,
        drops := t.iso.drops, done := t.iso.done, freed := t.iso.freed, tags := t.iso.tags, breaks := t.iso.breaks,
        rows := t.iso.rows } }
  | .maintSeg .. =>
    { s with
      regs := t.regs,
      net := { s.net with flight := t.net.flight, dead := t.net.dead },
      cnt := { s.cnt with silLast := t.cnt.silLast, silSupp := t.cnt.silSupp, silEnum := t.cnt.silEnum },
      boot := { s.boot with causeSeen := t.boot.causeSeen, modeNext := t.boot.modeNext } }
  | .fiLciDelayExpire .. =>
    { s.told t with
      cnt := { (s.told t).cnt with cpart := t.cnt.cpart, erqNum := t.cnt.erqNum },
      ord := { s.ord with egr := t.ord.egr, stamp := t.ord.stamp },
      port := { s.port with
        rx := t.port.rx, tx := t.port.tx, stuck := t.port.stuck, told := t.port.told, held := t.port.held,
        ingAt := t.port.ingAt, ingSupp := t.port.ingSupp } }
  | .mbPost .. | .mbRestart .. =>
    { s with
      regs := t.regs,
      boot := { s.boot with img := t.boot.img, acc := t.boot.acc, held := t.boot.held, posts := t.boot.posts } }
  | .mbCopyDone .. =>
    { s with
      regs := t.regs,
      boot := { s.boot with img := t.boot.img, posts := t.boot.posts } }
  | .imageVerifyDone .. =>
    { s with
      regs := t.regs,
      net := { s.net with flight := t.net.flight },
      cnt := { s.cnt with silLast := t.cnt.silLast, silSupp := t.cnt.silSupp, silEnum := t.cnt.silEnum },
      ord := { s.ord with formQ := t.ord.formQ },
      boot := { s.boot with img := t.boot.img, acc := t.boot.acc, held := t.boot.held, copying := t.boot.copying },
      fl := { s.fl with
        step := t.fl.step, core := t.fl.core, got := t.fl.got, pushed := t.fl.pushed, done := t.fl.done,
        skip := t.fl.skip, err := t.fl.err } }
  | .coreRst .. =>
    { s with
      regs := t.regs,
      boot := { s.boot with
        img := t.boot.img, acc := t.boot.acc, held := t.boot.held, posts := t.boot.posts, copying := t.boot.copying,
        settling := t.boot.settling } }
  | .coreFail .. =>
    { s with
      regs := t.regs,
      net := { s.net with flight := t.net.flight },
      cnt := { s.cnt with silLast := t.cnt.silLast, silSupp := t.cnt.silSupp, silEnum := t.cnt.silEnum },
      boot := { s.boot with settling := t.boot.settling, hbMiss := t.boot.hbMiss, hoAt := t.boot.hoAt } }
  | .handoverReq .. =>
    { s with
      regs := t.regs,
      net := { s.net with flight := t.net.flight },
      boot := { s.boot with hoAt := t.boot.hoAt } }
  | .handover =>
    { s with
      regs := t.regs,
      net := { s.net with flight := t.net.flight },
      cnt := { s.cnt with silLast := t.cnt.silLast, silSupp := t.cnt.silSupp, silEnum := t.cnt.silEnum },
      ord := { s.ord with formQ := t.ord.formQ },
      boot := { s.boot with settling := t.boot.settling, hoAt := t.boot.hoAt },
      fl := { s.fl with
        step := t.fl.step, core := t.fl.core, got := t.fl.got, pushed := t.fl.pushed, done := t.fl.done,
        skip := t.fl.skip, err := t.fl.err } }
  | .oldCoreSettled .. =>
    { s with
      regs := t.regs,
      boot := { s.boot with settling := t.boot.settling } }
  | .memepCfg .. =>
    { s with
      ord := { s.ord with formQ := t.ord.formQ },
      boot := { s.boot with cfg := t.boot.cfg } }
  | .goService =>
    { s with
      regs := t.regs,
      boot := { s.boot with goPend := t.boot.goPend } }
  | .recoveryCause .. =>
    { s with
      regs := t.regs,
      net := { s.net with flight := t.net.flight },
      cnt := { s.cnt with silLast := t.cnt.silLast, silSupp := t.cnt.silSupp, silEnum := t.cnt.silEnum },
      boot := { s.boot with causeSeen := t.boot.causeSeen, modeNext := t.boot.modeNext } }
  | .pairFrameXlt .. | .pairFramePb .. | .pairFrameAcc .. | .pairFrameQctx .. | .pairFrameMtr .. | .pairFrameSlc .. |
  .pairFrameFlc .. | .pairFrameCkpt .. | .pairFrameWake .. | .pairFrameHb .. =>
    { s.told t with
      ord := { s.ord with formQ := t.ord.formQ, rdDone := t.ord.rdDone },
      arb := { s.arb with queue := t.arb.queue },
      mtr := { s.mtr with mtr := t.mtr.mtr, bind := t.mtr.bind },
      pwr := { s.pwr with
        closeAt := t.pwr.closeAt, tgt := t.pwr.tgt, latch := t.pwr.latch, svokLow := t.pwr.svokLow,
        phaseAt := t.pwr.phaseAt, trStart := t.pwr.trStart },
      mem := { s.mem with
        jobs := t.mem.jobs, nextId := t.mem.nextId, holds := t.mem.holds, upd := t.mem.upd, updKey := t.mem.updKey,
        updVal := t.mem.updVal, updMir := t.mem.updMir, pbUpd := t.mem.pbUpd, pbKey := t.mem.pbKey, pbVal := t.mem.pbVal,
        pbMir := t.mem.pbMir },
      eng := { s.eng with ctx := t.eng.ctx },
      xb := t.xb,
      pair := { s.pair with
        items := t.pair.items, txSeq := t.pair.txSeq, rxSeq := t.pair.rxSeq, ret := t.pair.ret, out := t.pair.out,
        lastTx := t.pair.lastTx, used := t.pair.used, rx := t.pair.rx, cur := t.pair.cur, curItem := t.pair.curItem,
        curSt := t.pair.curSt, flcValid := t.pair.flcValid, heard := t.pair.heard, full := t.pair.full,
        fullOut := t.pair.fullOut, mark := t.pair.mark, shadow := t.pair.shadow } }
  | .pairReplay | .pwake .. =>
    { s.told t with
      xb := t.xb,
      pair := { s.pair with
        items := t.pair.items, txSeq := t.pair.txSeq, ret := t.pair.ret, out := t.pair.out, lastTx := t.pair.lastTx,
        used := t.pair.used, full := t.pair.full, fullOut := t.pair.fullOut, mark := t.pair.mark } }
  | .pairCkpt =>
    { s.told t with
      xb := t.xb,
      pair := { s.pair with
        items := t.pair.items, txSeq := t.pair.txSeq, ret := t.pair.ret, out := t.pair.out, lastTx := t.pair.lastTx,
        used := t.pair.used, full := t.pair.full, fullOut := t.pair.fullOut, mark := t.pair.mark,
        ckptAt := t.pair.ckptAt } }
  | .peerLost | .takeover .. =>
    { s with
      regs := t.regs,
      net := { s.net with flight := t.net.flight },
      cnt := { s.cnt with
        freezeQ := t.cnt.freezeQ, silLast := t.cnt.silLast, silSupp := t.cnt.silSupp, silEnum := t.cnt.silEnum },
      mtr := { s.mtr with mtr := t.mtr.mtr },
      slc := { s.slc with
        nn := t.slc.nn, again := t.slc.again, trk := t.slc.trk, clean := t.slc.clean, since := t.slc.since,
        waiting := t.slc.waiting, create := t.slc.create, force := t.slc.force },
      fl := { s.fl with lost := t.fl.lost, read := t.fl.read },
      pair := { s.pair with tko := t.pair.tko, tkoRun := t.pair.tkoRun, tkoDone := t.pair.tkoDone } }
  | .plUpChange .. =>
    { s.told t with
      ord := { s.ord with formQ := t.ord.formQ, rdDone := t.ord.rdDone },
      xb := t.xb,
      pair := { s.pair with
        items := t.pair.items, txSeq := t.pair.txSeq, ret := t.pair.ret, out := t.pair.out, lastTx := t.pair.lastTx,
        used := t.pair.used, up := t.pair.up, full := t.pair.full, fullOut := t.pair.fullOut, fullLast := t.pair.fullLast,
        mark := t.pair.mark } }
  | .mirrorWrite .. | .rsyncGo =>
    { s.told t with
      ord := { s.ord with formQ := t.ord.formQ, rdDone := t.ord.rdDone },
      xb := t.xb,
      pair := { s.pair with
        items := t.pair.items, txSeq := t.pair.txSeq, ret := t.pair.ret, out := t.pair.out, lastTx := t.pair.lastTx,
        used := t.pair.used, full := t.pair.full, fullOut := t.pair.fullOut, fullLast := t.pair.fullLast,
        mark := t.pair.mark } }
  | .resyncDone =>
    { s with
      regs := t.regs,
      pair := { s.pair with full := t.pair.full } }
  | .takeoverDone =>
    { s with
      regs := t.regs,
      net := { s.net with flight := t.net.flight },
      cnt := { s.cnt with
        freezeQ := t.cnt.freezeQ, silLast := t.cnt.silLast, silSupp := t.cnt.silSupp, silEnum := t.cnt.silEnum },
      mtr := { s.mtr with mtr := t.mtr.mtr },
      slc := { s.slc with
        nn := t.slc.nn, again := t.slc.again, trk := t.slc.trk, clean := t.slc.clean, since := t.slc.since,
        waiting := t.slc.waiting, create := t.slc.create, force := t.slc.force },
      fl := { s.fl with lost := t.fl.lost, read := t.fl.read },
      pair := { s.pair with
        tko := t.pair.tko, tkoRun := t.pair.tkoRun, tkoDone := t.pair.tkoDone, shadow := t.pair.shadow } }
  | .pairMark =>
    { s with
      regs := t.regs,
      pair := { s.pair with mark := t.pair.mark } }
  | .lciEvCodeUndefined .. =>
    { s with
      regs := t.regs,
      cnt := { s.cnt with smpEng := t.cnt.smpEng, smpArm := t.cnt.smpArm } }
  | .handoverMessage .. =>
    { s.told t with
      boot := { s.boot with hoNote := t.boot.hoNote } }
  | .resetMessage .. =>
    { s.told t with
      boot := { s.boot with rstNote := t.boot.rstNote } }
  | .standbyStateCopyDone .. =>
    { s with
      regs := t.regs,
      ord := { s.ord with formQ := t.ord.formQ },
      boot := { s.boot with copying := t.boot.copying },
      fl := { s.fl with
        step := t.fl.step, core := t.fl.core, got := t.fl.got, pushed := t.fl.pushed, done := t.fl.done,
        skip := t.fl.skip, err := t.fl.err } }
  | .pairCreditUpdate .. =>
    { s.told t with
      xb := t.xb,
      pair := { s.pair with
        items := t.pair.items, txSeq := t.pair.txSeq, ret := t.pair.ret, out := t.pair.out, lastTx := t.pair.lastTx,
        cred := t.pair.cred, used := t.pair.used, full := t.pair.full, fullOut := t.pair.fullOut, mark := t.pair.mark } }

end Sys2Proof.Machine
end

