-- ==== Sys2Proof/Certificates/Slice0/Obligations.lean ====
section
/-! DEFINITION. The statements for the provers: what the commands of the block do, from every state, by the rules of the
spec; that every command completes; the invariant that every step keeps; and what each command leaves unchanged. -/

open Sys2Proof Sys2Proof.Machine

/-- A step takes the command at the front of the queue and runs it on the state with the queue's rest. -/
def Obligations.StepRunsTheFrontCommand : Prop :=
  ∀ (c : Instr) (rest : List Instr) (s : State),
    step { s with pending := c :: rest } = exec c { s with pending := rest }

/-- With an empty queue a step is one clock cycle: the cycle number rises by 1, CYC of every ring counts it, the messages on
the maintenance ring move on (none is made, and none goes to a node that it was not for), and nothing else but the counter
blocks and what the event counters hold changes. The model's own choice (log entry 4). -/
def Obligations.EmptyQueueStepIsOneCycle : Prop :=
  ∀ (s : State), s.pending = [] →
    ∃ t, step s = .next t ∧ t.cycle = s.cycle + 1 ∧ keepsBut clockHits s t
      ∧ (∀ f ∈ t.net.flight, ∃ g ∈ s.net.flight, g.msg = f.msg ∧ f.left &&& ~~~ g.left = 0)
      ∧ (∀ f ∈ s.net.flight, f.left ≠ 0 → f.up = .wait → f.down = .wait → f.all = false → f.msg.toNat ≠ 0 →
          f.sender = msgDst f.msg → maskOf (msgDst f.msg) = f.left → ∃ g ∈ t.net.flight, g.msg = f.msg ∧ g.left = f.left)
      ∧ (∀ r : RingNo, t.wide (F.CB.CYC_LO.CYC .ring) (F.CB.CYC_HI.CYC .ring) r
          = (s.wide (F.CB.CYC_LO.CYC .ring) (F.CB.CYC_HI.CYC .ring) r + 1) % 2 ^ 48)
      ∧ { t with regs := s.regs, cnt := s.cnt, net := { t.net with flight := s.net.flight }, cycle := s.cycle } = s

/-- Every command completes in every state and leaves the queue of waiting commands alone. -/
def Obligations.EveryCommandCompletesAndLeavesTheQueue : Prop :=
  ∀ (c : Instr) (s : State), ∃ t, exec c s = .next t ∧ t.pending = s.pending

/-- A maintenance message whose CHECK fails is discarded at its node with none of its effect: the copy for the node is
gone, a stop counts MSG_ERR_CNT, and nodes 60 to 63 count in GLB.PG_ERR_CNT (R129). -/
def Obligations.MessagesWithABadCheckAreDropped : Prop :=
  ∀ (c : Instr) (n : Nat) (m : Msg) (s : State), messageOf c = some (n, m) → msgOk m = false →
    ∃ t, exec c s = .next t ∧ t.units = s.units
      ∧ (if n < 60 then s.Raised t F.STOP.MSG_ERR_CNT n
         else s.Raised t (F.HDR.PG_ERR_CNT.CNT .glb) 0 ∧ t.fget (F.HDR.PG_ERR_CNT.NON_ACCESS .glb) = 1)
      ∧ keepsBut (messageHits n) s t

/-- A queue of any length is worked off: as many steps as commands wait leave an empty queue. -/
def Obligations.QueueIsWorkedOff : Prop :=
  ∀ (s : State), ∃ t, Sys2Proof.core.run s.pending.length s = .next t ∧ t.pending = []

/-- Every step keeps the register file canonical and the waiting commands well-formed. -/
def Obligations.EveryStepKeepsTheInvariant : Prop :=
  ∀ (s t : State), s.RegsOk ∧ s.QueueOk → step s = .next t → t.RegsOk ∧ t.QueueOk

/-- The invariant holds after reset, with an empty queue and no register off its reset value. -/
def Obligations.ResetHasTheInvariant : Prop :=
  State.reset.RegsOk ∧ State.reset.QueueOk ∧ State.reset.pending = [] ∧ State.reset.regs = []

/-- Only a local boundary and cold reset change the tick count that a node holds. -/
def Obligations.OnlyBoundariesChangeNodeCounts : Prop :=
  ∀ (c : Instr) (s t : State) (n : Nat), exec c s = .next t →
    c ≠ .coldReset → (∀ u b, c ≠ .localTickBoundary ⟨n % 64, Nat.mod_lt _ (by decide)⟩ u b) → n < 64 → t.nodeTick n = s.nodeTick n

/-- Reset values of register fields, by page and register (Tables 2-2, 2-6, 4-6, 4-7, 4-8, 5-5, 11-13, 20-3). -/
def Obligations.RegisterFieldsAtReset : Prop :=
  State.reset.fget F.TICK.HOLD_DIV = 1000 ∧ State.reset.fget F.TICK.TICK_CTL.HOLD_EN = 1
  ∧ State.reset.fget F.GLB.EPOCH_STS.INACTIVE_OPEN = 1 ∧ State.reset.fget F.GLB.EPOCH_STS.DRAINED = 1
  ∧ State.reset.fget F.GLB.EPOCH_STS.ACTIVE = 0 ∧ State.reset.fget F.GLB.RING_SVC.SVC = 0x1FF
  ∧ (∀ k : Fin 60, ∀ e : Fin 64, State.reset.fget F.STOP.RING_MAP.ENTRY k e = e % 9)
  ∧ (∀ k d : Fin 60, State.reset.fget F.STOP.ROUTE.PHYS k d = d)
  ∧ (∀ k : Fin 60, State.reset.fget F.STOP.POOL_CLS.MIN k 0 = 64 ∧ State.reset.fget F.STOP.POOL_CLS.MIN k 1 = 256
      ∧ State.reset.fget F.STOP.POOL_CLS.MAX k 1 = 1536 ∧ State.reset.fget F.STOP.POOL_CLS.MAX k 3 = 512)
  ∧ (∀ r : Fin 9, State.reset.fget F.RING.FAIL_WIN r = 2000 ∧ State.reset.fget F.RING.FAIL_UE r = 16)
  ∧ (∀ c : Cls, ∀ i : Fin 4096, State.reset.fget (F.HDR.PG_CTL.EN c) i = 1 ∧ State.reset.fget (F.HDR.PG_INT_EN.INT_EN c) i = 0)

/-- The resets: cold reset gives every register field its reset value, and the fields that show a block input that
input's level; its release samples KEYHASH and INST_ID; a fabric
reset is asked for boundary b, entered at b (units of the fabric state cleared, RST_CNT counted) and left at b + 2 in
STARTUP; a RESET message is noted by its node. A core leaves RESET by its self-check and whether it holds an image, a
CORE_RST write resets a core that is not ACTIVE and is refused for the active one, and a core that has missed HB_LIM
heartbeats becomes FAILED. -/
def Obligations.ResetsAndCoresTakeTheirStates : Prop :=
  (∀ (s : State), ∃ t, exec .coldReset s = .next t ∧ t.ord = {} ∧ t.slc = State.reset.slc
    ∧ (∀ (f : Fld) (i e b k : Nat), (∀ c : Fin 8, f.key i e b k ≠ F.MEM.CH_STS.CTRL_READY.key c 0 0 0) →
        f.key i e b k ≠ F.PAIR.PAIR_STS.PARTNER_FAIL.key 0 0 0 0 → t.fget f i e b k = f.resetAt e k)
    ∧ (∀ c : Fin 8, t.fbit F.MEM.CH_STS.CTRL_READY c = s.fbit F.MEM.CH_STS.CTRL_READY c)
    ∧ t.fbit F.PAIR.PAIR_STS.PARTNER_FAIL = s.fbit F.PAIR.PAIR_STS.PARTNER_FAIL)
  ∧ (∀ (h : BitVec 384) (i : BitVec 16) (s : State),
    exec (.coldResetRelease h i) s = .next { s with boot := { s.boot with keyHash := h.toNat, instId := i.toNat } })
  ∧ (∀ (o : Origin) (s : State), s.boot.rstAt = 0 → ∃ t, exec (.fabricResetRequest o) s = .next t
    ∧ t.boot.rstAt = 1 + wrapAdd 48 (s.nodeTick 60) 1
    ∧ t.net.flight = s.net.flight ++ [msgToAll (mkCtrl 8 63 60 [(28, 16, wrapAdd 48 (s.nodeTick 60) 1)])])
  ∧ (∀ (s : State), s.boot.rstAt ≠ 0 → s.boot.inReset = false → atOrAfter 48 (s.nodeTick 60) (s.boot.rstAt - 1) = true →
    ∃ t, exec .fabricResetEnter s = .next t ∧ t.boot.inReset = true ∧ t.ord = {} ∧ t.arb = {} ∧ t.slc = {} ∧ t.port = {}
      ∧ t.fget F.GLB.RST_CNT = (s.fget F.GLB.RST_CNT + 1) % 2 ^ 32)
  ∧ (∀ (s : State), s.boot.inReset = true → atOrAfter 48 (s.nodeTick 60) (wrapAdd 48 (s.boot.rstAt - 1) 2) = true →
    ∃ t, exec .fabricResetExit s = .next t ∧ t.boot.inReset = false ∧ t.boot.rstAt = 0 ∧ t.fabState = 0)
  ∧ (∀ (n : Node) (m : Msg) (s : State), msgOk m = true → exec (.resetMessage n m) s = .next
    { s.take n m with boot := { s.boot with rstNote := tset 0 s.boot.rstNote n (1 + s.boundaryOf n (vbits m 28 16)) } })
  ∧ (∀ (c : Fin 2) (s : State), s.boot.inReset = false → s.coreState c = 0 →
    (∃ t, exec (.coreResetExit c false) s = .next t ∧ t.coreState c = 5)
    ∧ ∃ t, exec (.coreResetExit c true) s = .next t ∧ t.coreState c = if tget 0 s.boot.held c = 0 then 1 else 2)
  ∧ (∀ (c : Fin 2) (s : State), s.coreState c ≠ 4 →
    ∃ t, exec (.coreRst c) s = .next t ∧ t.coreState c = 0 ∧ tget 0 t.boot.acc c = 0
      ∧ t.boot.posts = s.boot.posts.filter (fun p => p.core != c.val))
  ∧ (∀ (c : Fin 2) (s : State), s.coreState c = 4 →
    exec (.coreRst c) s = .next ((s.touch .ctl 0).fset F.CTL.HO_STS.RES 3))
  ∧ (∀ (c : Fin 2) (s : State), s.coreState c = 3 ∨ s.coreState c = 4 → s.fget F.CTL.CORE_CTL.HB_LIM ≤ tget 0 s.boot.hbMiss c →
    ∃ t, exec (.coreFail c) s = .next t ∧ t.coreState c = 5)

/-- The boot mailbox and the loader: a post that no check refuses joins the posts of its core and its page becomes the
loader's; RESTART discards what was accepted; a copied post leaves and its words stand in the image; the end of the check
gives its result, and starts the core or sends it back to WAIT_IMAGE; a core whose copy of the state is done is STANDBY,
or ACTIVE when no core is. -/
def Obligations.MailboxAndLoaderCommandsTakeEffect : Prop :=
  (∀ (m : Fin 2) (w : Word) (s : State) (len : Nat), w.getLsbD 3 = false → s.coreState (vbits w 2 1) = 1 →
    len = (if vbits w 16 10 = 0 then 512 else vbits w 16 10) → 4 * s.fget F.MBOX.MB_OFF.OFF m = tget 0 s.boot.acc (vbits w 2 1) →
    tget 0 s.boot.acc (vbits w 2 1) + 4 * len ≤ 1048576 →
    ∃ t, exec (.mbPost m w) s = .next t ∧ t.fget F.MBOX.MB_STS.RES m = 0 ∧ t.fget F.MBOX.MB_STS.OWNER m = 1
      ∧ t.boot.posts = s.boot.posts ++ [⟨m, vbits w 2 1, tget 0 s.boot.acc (vbits w 2 1), len, w.getLsbD 1⟩]
      ∧ tget 0 t.boot.acc (vbits w 2 1) = tget 0 s.boot.acc (vbits w 2 1) + 4 * len
      ∧ (w.getLsbD 1 = true → t.coreState (vbits w 2 1) = 2))
  ∧ (∀ (m : Fin 2) (w : Word) (s : State), w.getLsbD 0 = false → s.coreState (vbits w 2 1) = 1 →
    ∃ t, exec (.mbRestart m w) s = .next t ∧ tget 0 t.boot.acc (vbits w 2 1) = 0
      ∧ t.boot.posts = s.boot.posts.filter (fun p => p.core != vbits w 2 1))
  ∧ (∀ (m : Fin 2) (s : State) (p : MbPost) (rest : List MbPost), s.boot.posts = p :: rest → p.page = m →
    ∃ t, exec (.mbCopyDone m) s = .next t ∧ t.boot.posts = s.boot.posts.filter (fun q => q != p)
      ∧ ∀ i, i < p.len → tget 0 t.boot.img (p.core * 262144 + p.off / 4 + i) = s.fget F.MBOX.MB_DATA.DATA m i)
  ∧ (∀ (c : Fin 2) (s : State), s.coreState c = 2 → tget 0 s.boot.copying c = 0 →
    s.boot.posts.any (fun p => p.core == c.val) = false →
    ∃ t, exec (.imageVerifyDone c) s = .next t
      ∧ t.fget (if c.val = 0 then F.CTL.CORE_STS.LDR_RES_A else F.CTL.CORE_STS.LDR_RES_B) = s.imgCheck c
      ∧ (if s.imgCheck c ≠ 0 then t.coreState c = 1
         else if s.anyActive then tget 0 t.boot.copying c = 1
         else t.coreState c = 4 ∧ t.fget F.CTL.CORE_STS.ACTIVE = c))
  ∧ (∀ (c : Fin 2) (s : State), tget 0 s.boot.copying c = 1 →
    ∃ t, exec (.standbyStateCopyDone c) s = .next t ∧ tget 0 t.boot.copying c = 0
      ∧ t.coreState c = if s.anyActive then 3 else 4)

/-- The tick generator: an edge of the reference raises the count, sends the mark in both directions and performs a swap
that is due; calibration starts with EN and ends with CAL_DONE; EN = 0 stops the tick and holds the count; a lost
reference leads to holdover, or stops the generator and causes RECOVERY; holdover ticks count on; a valid reference is
noted. -/
def Obligations.TickGeneratorCommandsTakeEffect : Prop :=
  (∀ (s : State) (c : Nat), s.fbit F.TICK.TICK_CTL.EN = true → s.fbit F.TICK.TICK_STS.CAL_DONE = true →
    s.fbit F.TICK.TICK_STS.HOLDOVER = false → s.tick.stopped = false → c = wrapAdd 48 s.tick.count 1 →
    ∃ t, exec .referenceTickEdge s = .next t ∧ t.tick.count = c ∧ t.fget F.TICK.TICK_STS.RUNNING = 1
      ∧ (if s.swapDue c then
          t.fget F.GLB.EPOCH_STS.ACTIVE = 1 - s.fget F.GLB.EPOCH_STS.ACTIVE ∧ t.fget F.GLB.EPOCH_STS.PENDING = 0
          ∧ t.fget F.GLB.EPOCH_STS.DRAINED = 0 ∧ t.fget F.GLB.EPOCH_STS.INACTIVE_OPEN = 0
          ∧ t.fget F.GLB.EPOCH_STS.EPOCH_NUM = (s.fget F.GLB.EPOCH_STS.EPOCH_NUM + 1) % 2 ^ 16
          ∧ t.wide F.GLB.EPOCH_LAST_LO.LAST_LO F.GLB.EPOCH_LAST_HI.LAST_HI = c
        else
          t.fget F.GLB.EPOCH_STS.ACTIVE = s.fget F.GLB.EPOCH_STS.ACTIVE
          ∧ ∃ m, m = mkMark false false (s.fget F.GLB.EPOCH_STS.ACTIVE == 1)
              (s.fbit F.GLB.SNAP.REQ || (s.fget F.GLB.SNAP.PER != 0 && c % s.fget F.GLB.SNAP.PER == 0)) (!s.cnt.freezeQ.isEmpty) c
            ∧ t.net.flight = s.net.flight ++ [msgToAllBy m 0, msgToAllBy m 1]))
  ∧ (∀ (s : State), s.fbit F.TICK.TICK_CTL.EN = true → s.fbit F.TICK.TICK_STS.CAL_DONE = true →
    s.fbit F.TICK.TICK_STS.REF_OK = true → s.fbit F.TICK.TICK_STS.HOLDOVER = true ∨ s.tick.stopped = true →
    ∃ t, exec .referenceTickEdge s = .next t ∧ t.tick.count = wrapAdd 48 s.tick.count 1 ∧ t.fget F.TICK.TICK_STS.RUNNING = 1
      ∧ (if s.fbit F.TICK.TICK_STS.HOLDOVER then t.fget F.TICK.TICK_STS.HOLDOVER = 0 else t.tick.stopped = false))
  ∧ (∀ (s : State), s.fbit F.TICK.TICK_CTL.EN = false → ∃ t, exec .tickCalStart s = .next t
    ∧ t.tick.calBusy = true ∧ t.fget F.TICK.TICK_CTL.EN = 1 ∧ t.fget F.TICK.TICK_STS.CAL_DONE = 0)
  ∧ (∀ (s : State), s.tick.calBusy = true → ∃ t, exec .tickCalDone s = .next t
    ∧ t.tick.calBusy = false ∧ t.fget F.TICK.TICK_STS.CAL_DONE = 1
    ∧ ∀ i, i < 128 → tget 0 t.tick.nodeDelay i = Config.nodeDelay i)
  ∧ (∀ (s : State), ∃ t, exec .tickStopWrite s = .next t
    ∧ t.fget F.TICK.TICK_CTL.EN = 0 ∧ t.fget F.TICK.TICK_STS.RUNNING = 0 ∧ t.fget F.TICK.TICK_STS.HOLDOVER = 0
    ∧ t.tick.count = s.tick.count)
  ∧ (∀ (s : State), s.fbit F.TICK.TICK_CTL.EN = true → s.fbit F.TICK.TICK_STS.CAL_DONE = true →
    s.fbit F.TICK.TICK_STS.HOLDOVER = false → s.tick.stopped = false →
    ∃ t, exec .tickrefLoss s = .next t ∧ t.fget F.TICK.TICK_STS.REF_OK = 0
      ∧ (if s.fbit F.TICK.TICK_CTL.HOLD_EN then t.fget F.TICK.TICK_STS.HOLDOVER = 1
         else t.tick.stopped = true ∧ t.fget F.TICK.TICK_STS.RUNNING = 0 ∧ t.fget F.GLB.FAB_STS.CAUSE = 1
           ∧ (s.fabState = 1 → t.fabState = 2)))
  ∧ (∀ (s : State), s.fbit F.TICK.TICK_CTL.EN = true → s.fbit F.TICK.TICK_STS.HOLDOVER = true → ∃ t, exec .holdoverTick s = .next t
    ∧ nbit (t.fget (F.HDR.PG_INT_STS.INT .tick)) 0 = true ∧ t.tick.count = wrapAdd 48 s.tick.count 1
    ∧ t.fget F.TICK.HOLD_CNT = satAdd 32 (s.fget F.TICK.HOLD_CNT) 1 % 2 ^ 32)
  ∧ (∀ (s : State), s.fbit F.TICK.TICK_CTL.EN = false → exec .holdoverTick s = .next s)
  ∧ (∀ (s : State), exec .tickrefReturn s = .next (s.fput F.TICK.TICK_STS.REF_OK true))

/-- The tick at a node (R36): a mark with a correct CHECK is taken, from a direction in use, when none is held and its
count is new, and is discarded otherwise; a copy with a wrong CHECK is counted; a missed boundary is counted; at the
boundary the node takes the mark's count and holds the mark no more. -/
def Obligations.MarksMakeNodeBoundaries : Prop :=
  (∀ (n : Node) (d : Dir) (m : Msg) (s : State), markOk m = true → tget 0 s.tick.nodeDelay (n * 2 + d) ≤ 120 →
    tget 0 s.tick.nodeMark n = 0 → vbits m 0 48 ≠ s.nodeTick n →
    exec (.tickMark n d m) s = .next { s.take n m with tick := { s.tick with
      nodeMark := tset 0 s.tick.nodeMark n (m.toNat + 1) } })
  ∧ (∀ (n : Node) (d : Dir) (m : Msg) (s : State), markOk m = false → ∃ t, exec (.tickMark n d m) s = .next t
    ∧ t.tick = s.tick ∧ t.fget F.TICK.MARK_ERR = satAdd 32 (s.fget F.TICK.MARK_ERR) 1 % 2 ^ 32)
  ∧ (∀ (n : Node) (s : State), tget 0 s.tick.nodeMark n = 0 → exec (.tickSlip n) s = .next { s with tick := { s.tick with
      nodeSlip := tset 0 s.tick.nodeSlip n (tget 0 s.tick.nodeSlip n + 1) } })
  ∧ (∀ (n : Node) (u : Option (Fin 8)) (b : BitVec 2) (s : State), tget 0 s.tick.nodeMark n ≠ 0 →
    ∃ t, exec (.localTickBoundary n u b) s = .next t
      ∧ t.nodeTick n = nbits (tget 0 s.tick.nodeMark n - 1) 0 48 ∧ tget 0 t.tick.nodeMark n = 0)
  ∧ (∀ (n : Node) (d : Dir) (m : Msg) (s : State), markOk m = true → 120 < tget 0 s.tick.nodeDelay (n * 2 + d)
      ∨ tget 0 s.tick.nodeMark n ≠ 0 ∨ vbits m 0 48 = s.nodeTick n → exec (.tickMark n d m) s = .next (s.take n m))

/-- Epoch requests (Table 2-5): refused with code 3 while the tick does not run, 2 while a swap is PENDING, 1 before the
old epoch has drained, else PENDING; CANCEL withdraws a PENDING swap; once every stop has reported no old flit for a
boundary a full tick after the swap, DRAINED and INACTIVE_OPEN are set and LEAVING rings leave. BANK_SYNC: accepted while
the inactive bank is open, and refused otherwise; each owner makes its inactive bank equal to its active one, but for gate
lists that are PEND and for what was written since, and reports; with the last report BUSY clears. -/
def Obligations.EpochsAndBanksAreSwapped : Prop :=
  (∀ (o : Origin) (w : Word) (s : State), w.getLsbD 1 = false → ∃ t, exec (.epochReq o w) s = .next t
    ∧ t.fget F.GLB.EPOCH_CTL.AT_EN = b2n (w.getLsbD 2)
    ∧ (if s.fbit F.TICK.TICK_STS.RUNNING = false then
        t.fget F.GLB.EPOCH_STS.REFUSE = 3 ∧ t.fget F.GLB.EPOCH_STS.PENDING = s.fget F.GLB.EPOCH_STS.PENDING
      else if s.fbit F.GLB.EPOCH_STS.PENDING then
        t.fget F.GLB.EPOCH_STS.REFUSE = 2 ∧ t.fget F.GLB.EPOCH_STS.PENDING = s.fget F.GLB.EPOCH_STS.PENDING
      else if s.fbit F.GLB.EPOCH_STS.DRAINED = false then
        t.fget F.GLB.EPOCH_STS.REFUSE = 1 ∧ t.fget F.GLB.EPOCH_STS.PENDING = s.fget F.GLB.EPOCH_STS.PENDING
      else t.fget F.GLB.EPOCH_STS.REFUSE = 0 ∧ t.fget F.GLB.EPOCH_STS.PENDING = 1 ∧ t.fget F.GLB.EPOCH_CTL.REQ = 1
        ∧ t.tick.swapWait = (s.tick.weOut.filter (fun x => x.path == o)).map (fun x => x.id)))
  ∧ (∀ (s : State), s.fbit F.GLB.EPOCH_STS.PENDING = true → ∃ t, exec .epochCancel s = .next t
    ∧ t.fget F.GLB.EPOCH_STS.PENDING = 0 ∧ t.fget F.GLB.EPOCH_CTL.REQ = 0 ∧ t.tick.swapWait = [])
  ∧ (∀ (s : State), s.fbit F.GLB.EPOCH_STS.DRAINED = false → s.censusClean = true →
    ∃ t, exec .oldEpochDrained s = .next t
      ∧ t.fget F.GLB.EPOCH_STS.DRAINED = 1 ∧ t.fget F.GLB.EPOCH_STS.INACTIVE_OPEN = 1
      ∧ ∀ r : Fin 9, s.ringState r = 2 → t.ringState r = if s.fbit F.RING.RING_STS.SUSPECT r then 6 else 3)
  ∧ (∀ (s : State), s.fbit F.GLB.EPOCH_STS.INACTIVE_OPEN = true → ∃ u : State, exec .bankSync s = .next (u.bcast (mkCtrl 0xC 63 60 []))
    ∧ u.net = s.net ∧ u.tick.syncSeen = 0 ∧ u.tick.syncNew = [] ∧ u.fget F.GLB.BANK_SYNC.BUSY = 1 ∧ u.fget F.GLB.BANK_SYNC.SKIPPED = 0
    ∧ u.fget F.GLB.BANK_SYNC.REFUSED = 0)
  ∧ (∀ (s : State), s.fbit F.GLB.EPOCH_STS.INACTIVE_OPEN = false →
    exec .bankSync s = .next ((s.touch .glb 0).fput F.GLB.BANK_SYNC.REFUSED true))
  ∧ (∀ (n : Node) (m : Msg) (s : State) (act : Nat), msgOk m = true → n.val ≤ 60 → act = s.fget F.GLB.EPOCH_STS.ACTIVE → act < 2 →
    ∃ u : State, exec (.bankSyncStartMsg n m) s = .next (u.send (mkCtrl 0xC 60 n [(43, 1, 1)]))
      ∧ u.net = (s.take n m).net
      ∧ ∀ (f : Fld) (i e k : Nat), f.acc = .we → f.offAt e < 4096 → f.loAt e < 32 → pageOwner (pageNo f.cls i) = n →
          s.pendGateKey (f.key i e act k) = false → u.fget f i e (1 - act) k =
            if s.tick.syncNew.contains (f.key i e (1 - act) k) then s.fget f i e (1 - act) k else s.fget f i e act k)
  ∧ (∀ (m : Msg) (s : State) (seen : BitVec 64), msgOk m = true → seen = s.tick.syncSeen ||| maskOf (msgSrc m) →
    ∃ t, exec (.bankSyncDone m) s = .next t ∧ t.tick.syncSeen = seen
      ∧ t.fget F.GLB.BANK_SYNC.BUSY = if seen.toNat % 2 ^ 61 = 2 ^ 61 - 1 then 0 else s.fget F.GLB.BANK_SYNC.BUSY)

/-- Commands of a ring page, where Table 4-2 lets them act: CAL and TEST take an OUT ring to CAL and TEST, FAIL marks an
IN_SVC or LEAVING ring SUSPECT and takes an OUT, CAL or TEST ring to FAILED, CLEAR takes a FAILED ring to OUT. Where Table
4-2 refuses a ring command, only CMD_RES and QUIET change: code 1 in the wrong state or without a running tick, code 2 for
a ring that is about to be added. -/
def Obligations.RingCommandsActOrAreRefused : Prop :=
  (∀ (r : RingNo) (s : State), s.ringState r = 3 → s.ringAdding r = false → ∃ t, exec (.ringCal r) s = .next t
    ∧ t.ringState r = 4 ∧ t.fget F.RING.RING_STS.CMD_RES r = 0 ∧ t.fget F.RING.RING_STS.READY r = 0)
  ∧ (∀ (r : RingNo) (s : State), s.ringState r = 3 → s.ringAdding r = false → s.fbit F.TICK.TICK_STS.RUNNING = true →
    ∃ t, exec (.ringTest r) s = .next t ∧ t.ringState r = 5 ∧ t.fget F.RING.RING_STS.CMD_RES r = 0
      ∧ (tget {} t.spine.test r).waiting = true)
  ∧ (∀ (r : RingNo) (s : State), s.ringState r = 1 ∨ s.ringState r = 2 → ∃ t, exec (.ringFail r) s = .next t
    ∧ t.fget F.RING.RING_STS.SUSPECT r = 1 ∧ t.fget F.RING.RING_STS.CMD_RES r = 0 ∧ t.ringState r = s.ringState r)
  ∧ (∀ (r : RingNo) (s : State), s.ringState r = 3 ∨ s.ringState r = 4 ∨ s.ringState r = 5 → ∃ t, exec (.ringFail r) s = .next t
    ∧ t.ringState r = 6 ∧ t.fget F.RING.RING_STS.READY r = 0 ∧ t.fget F.RING.RING_STS.CMD_RES r = 0)
  ∧ (∀ (r : RingNo) (s : State), s.ringState r = 6 → ∃ t, exec (.ringClear r) s = .next t
    ∧ t.ringState r = 3 ∧ t.fget F.RING.RING_STS.READY r = 0 ∧ t.fget F.RING.RING_STS.SUSPECT r = 0
    ∧ t.fget F.RING.RING_STS.CMD_RES r = 0)
  ∧ (∀ (r : RingNo) (s : State), s.ringState r ≠ 3 →
    exec (.ringCal r) s = .next ((s.touch .ring r).fset F.RING.RING_STS.CMD_RES 1 r)
    ∧ exec (.ringTest r) s = .next ((s.touch .ring r).fset F.RING.RING_STS.CMD_RES 1 r))
  ∧ (∀ (r : RingNo) (s : State), s.ringState r = 3 → s.ringAdding r = true →
    exec (.ringCal r) s = .next ((s.touch .ring r).fset F.RING.RING_STS.CMD_RES 2 r)
    ∧ exec (.ringTest r) s = .next ((s.touch .ring r).fset F.RING.RING_STS.CMD_RES 2 r))
  ∧ (∀ (r : RingNo) (s : State), s.ringState r = 3 → s.ringAdding r = false → s.fbit F.TICK.TICK_STS.RUNNING = false →
    exec (.ringTest r) s = .next ((s.touch .ring r).fset F.RING.RING_STS.CMD_RES 1 r))
  ∧ (∀ (r : RingNo) (s : State), s.ringState r = 0 ∨ s.ringState r = 6 →
    exec (.ringFail r) s = .next ((s.touch .ring r).fset F.RING.RING_STS.CMD_RES 1 r))
  ∧ (∀ (r : RingNo) (s : State), s.ringState r ≠ 6 →
    exec (.ringClear r) s = .next ((s.touch .ring r).fset F.RING.RING_STS.CMD_RES 1 r))

/-- What happens to a ring: calibration ends, a test run starts and ends, the removal threshold is reached, a fence notice
is taken and applied. -/
def Obligations.RingEventsMoveTheRing : Prop :=
  (∀ (r : RingNo) (c0 c1 : BitVec 8) (m0 m1 : BitVec 6) (w0 w1 : Stop) (s : State) (ok : Bool), s.ringState r = 0 ∨ s.ringState r = 4 →
    ok = (c0 == 60 && c1 == 60 && decide (s.fget F.RING.CAL_CTL.MIN_MARGIN r ≤ m0.toNat) && decide (s.fget F.RING.CAL_CTL.MIN_MARGIN r ≤ m1.toNat)) →
    ∃ t, exec (.ringCalDone r c0 c1 m0 m1 w0 w1) s = .next t ∧ t.fget F.RING.ECHO_CYC.CYC0 r = c0.toNat
      ∧ t.fget F.RING.ECHO_CYC.CYC1 r = c1.toNat ∧ t.fget F.RING.CAL_STS.MARGIN0 r = m0.toNat ∧ t.fget F.RING.CAL_STS.MARGIN1 r = m1.toNat
      ∧ t.fget F.RING.CAL_STS.WORST0 r = w0 ∧ t.fget F.RING.CAL_STS.WORST1 r = w1
      ∧ t.ringState r = if ok = false then 6 else if s.ringState r = 4 then 3
          else if nbit (s.fget F.GLB.RING_SVC.SVC 0 0 (s.fget F.GLB.EPOCH_STS.ACTIVE)) r then 1 else 3)
  ∧ (∀ (r : RingNo) (s : State), s.ringState r = 5 → (tget {} s.spine.test r).waiting = true → ∃ t, exec (.ringTestStart r) s = .next t
    ∧ tget {} t.spine.test r = { running := true, start := s.nodeTick 61, len := max 1 (s.fget F.RING.TEST_LEN r) }
    ∧ ∀ k d : Nat, d < 2 → tget 0 t.spine.maintSeq (laneKey k r d) = 0)
  ∧ (∀ (r : RingNo) (s : State), s.ringState r = 5 → (tget {} s.spine.test r).running = true →
    tickPast (s.nodeTick 61) (tget {} s.spine.test r).start (tget {} s.spine.test r).len = true →
    ∃ t, exec (.ringTestEnd r) s = .next t ∧ tget {} t.spine.test r = {}
      ∧ (if (tget {} s.spine.test r).err then t.ringState r = 6 ∧ t.fget F.RING.RING_STS.READY r = 0
         else t.ringState r = 3 ∧ t.fget F.RING.RING_STS.READY r = 1))
  ∧ (∀ (r : RingNo) (s : State), s.thresholdReached r = true → s.ringState r = 1 ∨ s.ringState r = 2 →
    ∃ t, exec (.ringThreshold r) s = .next t ∧ t.fget F.RING.RING_STS.SUSPECT r = 1 ∧ (tget {} t.spine.win r).fired = true
      ∧ (s.ringState r = 1 → s.fbit F.RING.RING_CTL.FENCE_EN r = true →
        t.net.flight = s.net.flight ++ [msgToAll (mkCtrl 4 63 61 [(40, 4, r), (24, 16, s.nodeTick 61 + 2)])]))
  ∧ (∀ (n : Node) (m : Msg) (s : State), msgOk m = true → exec (.fence n m) s = .next { s.take n m with
      spine := { s.spine with fence := tset 0 s.spine.fence (n * 16 + vbits m 40 4) (1 + s.boundaryOf n (vbits m 24 16)) } })
  ∧ (∀ (n : Node) (r : RingNo) (s : State), tget 0 s.spine.fence (n * 16 + r) ≠ 0 →
    atOrAfter 48 (s.nodeTick n) (tget 0 s.spine.fence (n * 16 + r) - 1) = true →
    ∃ t, exec (.fenceApply n r) s = .next t ∧ tget 0 t.spine.fenced (n * 16 + r) = 1 ∧ tget 0 t.spine.fence (n * 16 + r) = 0
      ∧ (n.val < 60 → t.ringUsable n r = false))

/-- A slot at a station, whose link key is that of the station upstream: the arriving slot leaves the link; in an empty
slot the flit held in the injection register is placed; a flit for the station that nothing keeps out enters its ejection
lane. A flit that has waited 10 cycles leaves its injection register unplaced, and its miss indication starts, or a test
flit is counted in TEST_SKIP (R92); the miss indication reaches the stop, which marks the retained copy for
re-presentation, or gives back the numbers of an ACK flit (R93); a slot whose flit has been placed is settled (R435); a
held flit of a fault injection unit is placed or lost (R477). -/
def Obligations.StationsMoveFlitsAndReturnMisses : Prop :=
  (∀ (k : Stop) (r : RingNo) (d : Dir) (noise : BitVec 1384) (s : State), ∃ t, exec (.stationSlot k r d noise) s = .next t
    ∧ tget [] t.spine.linkQ (laneKey (upstream k d) r d) = (tget [] s.spine.linkQ (laneKey (upstream k d) r d)).tail)
  ∧ (∀ (k : Stop) (r : RingNo) (d : Dir) (x : InjReg) (s : State), tget [] s.spine.linkQ (laneKey (upstream k d) r d) = [] →
    tget none s.spine.inj (laneKey k r d) = some x → x.wait < 10 → s.isolated k = false →
    ∃ t, exec (.stationSlot k r d 0) s = .next t ∧ tget none t.spine.inj (laneKey k r d) = none)
  ∧ (∀ (k : Stop) (r : RingNo) (d : Dir) (a : Slot) (l : List Slot) (f : Flit) (s : State),
    tget [] s.spine.linkQ (laneKey (upstream k d) r d) = a :: l → decodeWires a.wires = (f, 0, 0) → f.opc ≠ 0 → f.opc ≠ opMAINT →
    guardOf k r d f = 0 → s.addressed k r f = true → s.isolated k = false → s.knowsGone k f.src.toNat = false →
    s.ejectFull k (r * 2 + d) = false →
    ∃ t, exec (.stationSlot k r d 0) s = .next t
      ∧ tget [] t.spine.eject (k * 32 + (r * 2 + d)) = tget [] s.spine.eject (k * 32 + (r * 2 + d)) ++ [{ flit := f, inj := a.inj }])
  ∧ (∀ (k : Stop) (r : RingNo) (d : Dir) (x : InjReg) (s : State), tget none s.spine.inj (laneKey k r d) = some x → 10 ≤ x.wait →
    x.flit.opc ≠ opMAINT → ∃ t, exec (.slotRelease k r d) s = .next t ∧ tget none t.spine.inj (laneKey k r d) = none
      ∧ tget [] t.spine.missed (laneKey k r d) = tget [] s.spine.missed (laneKey k r d) ++ [x.flit]
      ∧ t.fget F.STOP.SLOT_MISS_CNT k = satAdd 32 (s.fget F.STOP.SLOT_MISS_CNT k) 1 % 2 ^ 32)
  ∧ (∀ (k : Stop) (r : RingNo) (d : Dir) (f : Flit) (l : List Flit) (s : State), tget [] s.spine.missed (laneKey k r d) = f :: l →
    f.opc ≠ opACK → ∃ t, exec (.slotMiss k r d) s = .next t ∧ tget [] t.spine.missed (laneKey k r d) = l
      ∧ ∀ c ∈ t.ret k, c.flit.dst = f.dst → c.flit.seq = f.seq → c.due = if c.ovf then 4 else 2)
  ∧ (∀ (k : Stop) (r : RingNo) (d : Dir) (x : InjReg) (s : State), tget none s.spine.inj (laneKey k r d) = some x → 10 ≤ x.wait →
    x.flit.opc = opMAINT → ∃ t, exec (.slotRelease k r d) s = .next t ∧ tget none t.spine.inj (laneKey k r d) = none
      ∧ t.spine.missed = s.spine.missed ∧ s.Raised t F.RING.TEST_SKIP r)
  ∧ (∀ (k : Stop) (r : RingNo) (d : Dir) (f : Flit) (l : List Flit) (s : State), tget [] s.spine.missed (laneKey k r d) = f :: l →
    f.opc = opACK → ∃ t, exec (.slotMiss k r d) s = .next t ∧ tget [] t.spine.missed (laneKey k r d) = l
      ∧ tget [] t.ord.acks (pairKey k f.dst.toNat) = ackNumbers f ++ tget [] s.ord.acks (pairKey k f.dst.toNat)
      ∧ t.ord.ret = s.ord.ret)
  ∧ (∀ (k : Stop) (u : SlotRec) (l : List SlotRec) (s : State), tget [] s.arb.unset k = u :: l →
    tget none s.spine.inj u.lane = none → tget [] s.spine.xfer u.lane = [] → tget [] s.spine.missed u.lane = [] →
    ∃ t, exec (.slotSettle k) s = .next t ∧ tget [] t.arb.unset k = l)
  ∧ (∀ (k : Stop) (r : RingNo) (d : Dir) (h : Slot) (s : State), (s.fiUnit 0 (fiRingUnit k r d)).held = some h →
    s.fiReady 0 (fiRingUnit k r d) = true → ∃ t, exec (.fiHeldRelease k r d) s = .next t
      ∧ (t.fiUnit 0 (fiRingUnit k r d)).held = none)
  ∧ (∀ (k : Stop) (r : RingNo) (d : Dir) (noise : BitVec 1384) (x : InjReg) (s : State),
    tget none s.spine.inj (laneKey k r d) = some x → 10 ≤ x.wait → ∃ t y, exec (.stationSlot k r d noise) s = .next t
      ∧ tget none t.spine.inj (laneKey k r d) = some y ∧ y.flit = x.flit ∧ 10 ≤ y.wait)

/-- Handover and duties of the cores: an accepted HO_CTL write starts the broadcast for its boundary and a refused one
gives its code; at the boundary the STANDBY core becomes ACTIVE; a node notes the HANDOVER message; an old core with
nothing left to answer settles; a CFG pending at a core stop is answered; MEM_INIT is set; GO_SERVICE is accepted or
refused. -/
def Obligations.HandoverAndServiceCommandsTakeEffect : Prop :=
  (∀ (w : Word) (s : State) (b at' : Nat), s.coreState 0 = 3 ∨ s.coreState 1 = 3 → s.fbit F.CTL.HO_STS.PENDING = false →
    b = wrapAdd 48 (s.nodeTick 63) 2 →
    at' = (if w.getLsbD 1 ∧ s.wide F.CTL.HO_AT_LO.AT_LO F.CTL.HO_AT_HI.AT_HI ≠ b
            ∧ atOrAfter 48 (s.wide F.CTL.HO_AT_LO.AT_LO F.CTL.HO_AT_HI.AT_HI) b = true
           then s.wide F.CTL.HO_AT_LO.AT_LO F.CTL.HO_AT_HI.AT_HI else b) →
    ∃ t, exec (.handoverReq w) s = .next t ∧ t.fget F.CTL.HO_STS.PENDING = 1 ∧ t.fget F.CTL.HO_STS.RES = 0
      ∧ t.boot.hoAt = 1 + at'
      ∧ t.net.flight = s.net.flight ++ [msgToAll (mkCtrl 5 63 63 [(43, 1, 1 - s.fget F.CTL.CORE_STS.ACTIVE), (42, 1, 0), (26, 16, at')])])
  ∧ (∀ (w : Word) (s : State), s.coreState 0 ≠ 3 → s.coreState 1 ≠ 3 → exec (.handoverReq w) s =
      .next (((s.touch .ctl 0).fset F.CTL.HO_CTL.AT_EN (vbits w 1 1)).fset F.CTL.HO_STS.RES 1))
  ∧ (∀ (w : Word) (s : State), s.coreState 0 = 3 ∨ s.coreState 1 = 3 → s.fbit F.CTL.HO_STS.PENDING = true →
      exec (.handoverReq w) s = .next (((s.touch .ctl 0).fset F.CTL.HO_CTL.AT_EN (vbits w 1 1)).fset F.CTL.HO_STS.RES 2))
  ∧ (∀ (s : State) (old : Fin 2), s.fget F.CTL.CORE_STS.ACTIVE = old → s.fbit F.CTL.HO_STS.PENDING = true → s.boot.hoAt ≠ 0 →
    atOrAfter 48 (s.nodeTick 63) (s.boot.hoAt - 1) = true → s.coreState (1 - old.val) = 3 → s.fl.op = 0 →
    ∃ t, exec .handover s = .next t ∧ t.fget F.CTL.CORE_STS.ACTIVE = 1 - old.val ∧ t.coreState (1 - old.val) = 4
      ∧ t.fget F.CTL.HO_STS.PENDING = 0 ∧ t.boot.hoAt = 0
      ∧ (s.coreState old = 4 → tget 0 t.boot.settling old = 1))
  ∧ (∀ (s : State), s.fbit F.CTL.HO_STS.PENDING = true → s.boot.hoAt ≠ 0 →
    atOrAfter 48 (s.nodeTick 63) (s.boot.hoAt - 1) = true → s.coreState (1 - s.fget F.CTL.CORE_STS.ACTIVE) ≠ 3 →
    ∃ t, exec .handover s = .next t ∧ t.fget F.CTL.CORE_STS.ACTIVE = s.fget F.CTL.CORE_STS.ACTIVE
      ∧ t.fget F.CTL.HO_STS.PENDING = 0 ∧ t.boot.hoAt = 0)
  ∧ (∀ (n : Node) (m : Msg) (s : State), msgOk m = true → exec (.handoverMessage n m) s = .next { s.take n m with
      boot := { s.boot with hoNote := tset 0 s.boot.hoNote n (1 + s.boundaryOf n (vbits m 26 16) + 2 ^ 48 * vbits m 43 1) } })
  ∧ (∀ (c : Fin 2) (s : State), tget 0 s.boot.settling c = 1 → s.cfgPend c = [] →
    (s.tagsOf (56 + c)).any (fun e => e.2.st == 1 || e.2.st == 2 || e.2.st == 3) = false →
    ∃ t, exec (.oldCoreSettled c) s = .next t ∧ t.coreState c = 3 ∧ tget 0 t.boot.settling c = 0)
  ∧ (∀ (c : Fin 2) (x : Egr) (rest : List Egr) (a : Nat) (s : State), s.cfgPend c = x :: rest → s.cfgAnswerer c = some a →
    ∃ t r, exec (.memepCfg c) s = .next t ∧ t.cfgPend c = rest ∧ t.formQ (56 + a) = s.formQ (56 + a) ++ [r]
      ∧ r.hdr.dst = x.flit.src ∧ r.hdr.tag = x.flit.tag ∧ r.hdr.opc = (if x.flit.addr.getLsbD 12 then opCPL else opCPLD))
  ∧ (∀ (s : State), exec .memInitDone s = .next (s.fput F.GLB.FAB_STS.MEM_INIT true))
  ∧ (∀ (s : State), ∃ t, exec .goService s = .next t ∧ t.fget F.GLB.FAB_STS.REFUSE = (s.touch .glb 0).goRefusal % 8
      ∧ t.boot.goPend = if (s.touch .glb 0).goRefusal = 0 then max 1 s.boot.goPend else s.boot.goPend)

/-- Landing (R81, R167): the head of an ejection lane leaves it; a flit whose E2E_CRC fails is counted and nothing of the
order point changes; a number already landed is counted and acknowledged again; a new one is acknowledged; an ACK flit
frees the copies that it names. Retention and acknowledgement: pending numbers go into an ACK flit, eight at most (R164);
expired copies of a destination become due for replay (R166); an overflowed copy that has come back is due for replay
(R162). -/
def Obligations.FlitsLandAndCopiesAreRetained : Prop :=
  (∀ (k : Stop) (l : Fin 19) (e : Ejected) (s : State), s.ejectHead k l = some e → e.flit.opc ≠ opACK →
    ∃ t, exec (.flitLanding k l) s = .next t
      ∧ tget [] t.spine.eject (k * 32 + l) = (tget [] s.spine.eject (k * 32 + l)).tail
      ∧ (e.flit.crc ≠ e2eCrc e.flit → t.ord = s.ord ∧ s.Raised t F.STOP.E2E_ERR_CNT k))
  ∧ (∀ (k : Stop) (l : Fin 19) (e : Ejected) (s : State) (pk src seq : Nat), s.ejectHead k l = some e → e.flit.opc ≠ opACK →
    e.flit.crc = e2eCrc e.flit → e.flit.ackp = 0 → isPortStop k = true → src = e.flit.src.toNat → seq = e.flit.seq.toNat →
    pk = pairKey k src →
    ∃ t, exec (.flitLanding k l) s = .next t
      ∧ (atOrAfter 16 seq (tget 0 s.ord.low pk) = false ∨ tget 0 s.ord.seen (pk * 65536 + seq) = 1 →
          s.Raised t F.STOP.DUP_CNT k ∧ t.ord = { s.ord with acks := tset [] s.ord.acks pk (tget [] s.ord.acks pk ++ [seq]) })
      ∧ (atOrAfter 16 seq (tget 0 s.ord.low pk) = true → tget 0 s.ord.seen (pk * 65536 + seq) ≠ 1 →
          (if 4096 ≤ wrapSub 16 seq (tget 0 s.ord.low pk) then s.Raised t F.STOP.SEQ_RANGE_CNT k ∧ t.ord = s.ord
           else tget [] t.ord.acks pk = tget [] s.ord.acks pk ++ (if l.val = 18 then [] else [seq]))))
  ∧ (∀ (k : Stop) (l : Fin 19) (e : Ejected) (s : State), s.ejectHead k l = some e → e.flit.opc = opACK →
    ∃ t, exec (.ackFlit k l) s = .next t
      ∧ tget [] t.spine.eject (k * 32 + l) = (tget [] s.spine.eject (k * 32 + l)).tail
      ∧ (if e.flit.crc = e2eCrc e.flit then
          ∀ n ∈ ackNumbers e.flit, ∀ c ∈ t.ret k, c.flit.dst = e.flit.src → c.flit.seq.toNat ≠ n
         else t.ord = s.ord ∧ s.Raised t F.STOP.E2E_ERR_CNT k))
  ∧ (∀ (k src : Stop) (s : State) (l : List Nat), tget [] s.ord.acks (pairKey k src) = l → l ≠ [] →
    exec (.ackDelayExpire k src) s = .next { s with ord := { s.ord with
      acks := tset [] s.ord.acks (pairKey k src) (l.drop 8),
      ackQ := tset [] s.ord.ackQ k (tget [] s.ord.ackQ k ++ [ackFlit k src (l.take 8)]) } })
  ∧ (∀ (k d : Stop) (s : State), (s.ret k).any (fun c => expired (s.nodeTick k) d c && c.due == 0) = true →
    ∃ t, exec (.ackTimeout k d) s = .next t ∧ s.Raised t F.STOP.ACK_TO_CNT k
      ∧ t.ret k = (s.ret k).map (fun c => if expired (s.nodeTick k) d c && c.due == 0 then { c with due := if c.ovf then 3 else 1 } else c))
  ∧ (∀ (k : Stop) (r : RdDone) (rest : List RdDone) (n : Nat) (s : State), tget [] s.ord.rdDone k = r :: rest →
    r.use = .readback n → r.status = 0 → r.flits.any (fun f => f.pois == 1) = false →
    ∃ t, exec (.overflowReadback k) s = .next t ∧ tget [] t.ord.rdDone k = rest
      ∧ t.ret k = (s.ret k).map (fun c => if decide (3 ≤ c.due) && c.flit.dst.toNat * 65536 + c.flit.seq.toNat == n then
          { c with due := c.due - 2 } else c))

/-- Completions and tags (Table 6-3): a completion meets its tag as its flits land at a port stop; one for no request, of
another generation, or for an EXPIRED tag is counted with its last flit; one flit more than the reserved entries ends the
tag; the final one of an OPEN tag goes to the requester's link and the tag is IDLE; a deadline that has passed makes the tag EXPIRING, the next boundary EXPIRED, the end of the quarantine
IDLE. -/
def Obligations.TagsFollowTheirStates : Prop :=
  (∀ (k : Stop) (i n src low : Nat) (e : Ejected) (f : Flit) (s : State) (x : TagRec), isPortStop k = true →
    s.cplLane k = some i → s.ejectHead k i = some e → f = e.flit → n = f.tag.toNat → x = s.tag k n → src = f.src.toNat →
    low = tget 0 s.ord.low (pairKey k src) → f.crc = e2eCrc f → f.ackp = 0 → s.landedNum k src f.seq.toNat = false →
    wrapSub 16 f.seq.toNat low < 4096 →
    ∃ t, exec (.cplLanding k) s = .next t
      ∧ tget [] t.spine.eject (k * 32 + i) = (tget [] s.spine.eject (k * 32 + i)).tail
      ∧ (f.sgen.toNat ≠ tget 0 s.ord.gen (k * 4096 + f.slice.toNat) → f.last = 1 → s.Raised t F.STOP.STALE_CPL_CNT k)
      ∧ (f.sgen.toNat = tget 0 s.ord.gen (k * 4096 + f.slice.toNat) → n < tagSpace k →
          (x.st = 0 → f.last = 1 → s.Raised t F.STOP.UNEXP_CPL_CNT k)
          ∧ (x.st = 4 → f.last = 1 → s.Raised t F.STOP.LATE_CPL_CNT k)
          ∧ (x.st = 1 → x.entries ≤ x.taken → s.Raised t F.STOP.RSP_OVR_CNT k ∧ (t.tag k n).st = 4)
          ∧ (x.st = 1 → x.taken < x.entries → x.use = .tlp → s.egrDrops k x.link = false → f.fidx = 0 → f.seq.toNat = low →
              tget [] s.ord.wait (pairKey k src) = [] →
              (∃ y, t.egr k x.link 2 = s.egr k x.link 2 ++ [y] ∧ y.flit = f)
              ∧ (f.last = 1 → cplFinal f = true → t.tag k n = {})
              ∧ (f.last = 0 → t.tag k n = { x with taken := x.taken + 1, busy := x.busy + 1 }))))
  ∧ (∀ (k : Stop) (n : TagNo) (s : State), (s.tag k n).st = 1 → tickPast (s.nodeTick k) (s.tag k n).deadline 1 = true →
    exec (.tagDeadlinePassed k n) s = .next (s.setTag k n { s.tag k n with st := 3, expAt := s.nodeTick k }))
  ∧ (∀ (k : Stop) (n : TagNo) (s : State), (s.tag k n).st = 3 → tickPast (s.nodeTick k) (s.tag k n).expAt 1 = true →
    ∃ t, exec (.tagExpire k n) s = .next t ∧ (t.tag k n).st = 4
      ∧ ((s.tag k n).busy < (s.tag k n).entries → s.Raised t F.STOP.SYNTH_CPL_CNT k ∧ (t.tag k n).owes = 0)
      ∧ ((s.tag k n).entries ≤ (s.tag k n).busy → (t.tag k n).owes = 5))
  ∧ (∀ (k : Stop) (n : TagNo) (s : State), (s.tag k n).st = 4 → tickPast (s.nodeTick k) (s.tag k n).o (s.eff k 16) = true →
    tickPast (s.nodeTick k) (s.tag k n).expAt 1 = true → (s.tag k n).owes = 0 →
    exec (.quarantineEnd k n) s = .next (s.setTag k n {}))
  ∧ (∀ (k : Stop) (s : State), exec (.completerRecordExpire k) s = .next { s with ord := { s.ord with
      recs := tset [] s.ord.recs k ((tget [] s.ord.recs k).filter (fun r => r.age < s.eff k 15)) } })

/-- Forming and arbitration: the first request of the forming queue becomes a transaction of flits; a decision passes one
injection slot, or the next beat of the burst; the recheck injects the first beat or withdraws the grant; a bridge credit
returns with the flit that leaves the crossing FIFO; RQ_SEL copies a requester's counters, and CLR clears them. -/
def Obligations.ArbiterCommandsMoveFlits : Prop :=
  (∀ (k : Stop) (r : FormReq) (rest : List FormReq) (s : State), s.formQ k = r :: rest → s.formBlock k r = 0 →
    ∃ t, exec (.transactionFormed k) s = .next t ∧ (t.formQ k).length = rest.length ∧ (rest = [] → t.formQ k = [])
      ∧ (t.queue k).map (fun u => u.flits.map (fun f => (f.src, f.opc, f.fidx, f.last, f.data)))
        = (s.queue k).map (fun u => u.flits.map (fun f => (f.src, f.opc, f.fidx, f.last, f.data)))
          ++ [(flitsOf r.hdr r.chunks).map (fun f => (BitVec.ofNat 6 k, f.opc, f.fidx, f.last, f.data))])
  ∧ (∀ (k : Stop) (r : FormReq) (s : State), s.formQ k = [r] → s.formBlock k r = 1 → r.held1 = false →
    ∃ t, exec (.transactionFormed k) s = .next t ∧ t.formQ k = [{ r with held1 := true }] ∧ s.Raised t F.STOP.ROUTE_HOLD_CNT k)
  ∧ (∀ (k : Stop) (s : State), s.stopRuns k = true → tget none s.arb.burst k = none → tget 0 s.arb.decided k = 0 →
    ∃ t, exec (.arbiterDecision k) s = .next t ∧ tget 0 t.arb.clk k = tget 0 s.arb.clk k + 1)
  ∧ (∀ (k : Stop) (s : State) (b : Burst) (f : Flit) (rest : List Flit), s.stopRuns k = true → tget none s.arb.burst k = some b →
    b.first = false → b.flits = f :: rest → b.self = false →
    ∃ t fin, exec (.arbiterDecision k) s = .next t ∧ tget 0 t.arb.clk k = tget 0 s.arb.clk k + 1
      ∧ tget [] t.spine.xfer (laneKey k b.ring b.dir) = tget [] s.spine.xfer (laneKey k b.ring b.dir) ++ [fin]
      ∧ fin.dst = f.dst ∧ fin.data = f.data)
  ∧ (∀ (k : Stop) (s : State), s.stopRuns k = false → k.val ≠ 58 → exec (.arbiterDecision k) s = .next s)
  ∧ (∀ (k : Stop) (s : State) (b : Burst) (f : Flit) (rest : List Flit), s.stopRuns k = true → tget none s.arb.burst k = some b →
    b.first = true → b.flits = f :: rest → b.self = false →
    ∃ t, exec (.grantRecheck k) s = .next t ∧ tget 0 t.arb.clk k = tget 0 s.arb.clk k + 1
      ∧ (if s.recheckOk k b then
          ∃ fin, tget [] t.spine.xfer (laneKey k b.ring b.dir) = tget [] s.spine.xfer (laneKey k b.ring b.dir) ++ [fin]
            ∧ fin.dst = f.dst ∧ fin.data = f.data
         else tget none t.arb.burst k = none ∧ s.Raised t F.ARB.WITHDRAW_CNT k ∧ t.spine = s.spine))
  ∧ (∀ (k : Stop) (r : RingNo) (d : Dir) (f : Flit) (rest : List Flit) (s : State), s.isolated k = false →
    tget none s.spine.inj (laneKey k r d) = none → tget [] s.spine.xfer (laneKey k r d) = f :: rest →
    ∃ t, exec (.bridgeCreditReturn k r d) s = .next t ∧ tget none t.spine.inj (laneKey k r d) = some ⟨f, 0⟩
      ∧ tget [] t.spine.xfer (laneKey k r d) = rest ∧ t.bridgeUsed k r d = s.bridgeUsed k r d - 1)
  ∧ (∀ (k : Stop) (w : Word) (s : State), s.stopRuns k = true → ∃ t, exec (.rqSelWrite k w) s = .next t
    ∧ t.fget F.ARB.RQ_SEL.RQ_IDX k = vbits w 0 14 ∧ t.fget F.ARB.RQ_STS.VALID k = 1
    ∧ t.fget F.ARB.RQ_LONGEST.LONGEST k = tget 0 s.arb.longest (rqKey k (vbits w 0 14)) % 2 ^ 32
    ∧ (w.getLsbD 31 = true → tget 0 t.arb.grants (rqKey k (vbits w 0 14)) = 0 ∧ tget 0 t.arb.waits (rqKey k (vbits w 0 14)) = 0
        ∧ tget 0 t.arb.longest (rqKey k (vbits w 0 14)) = 0)
    ∧ (w.getLsbD 31 = false → t.arb = s.arb))
  ∧ (∀ (k : Stop) (w : Word) (s : State), s.stopRuns k = false →
    exec (.rqSelWrite k w) s = .next ((s.touch .arb k).pgErr .arb k 0x110))

/-- Credits and reservations at source and destination (R123–R138): a CREDIT brings the cumulative returns and, with SYNC,
the floors; a new RES_REQ joins its class's queue and a repeated one is answered again; the decision charges the pool and
answers; a RES_GNT of the outstanding request gives its credits; an unanswered request is sent again. Closing and
reopening (R143–R147): FLOOR_RECALL closes the destination at a source that runs, and elsewhere is answered with four
surrenders; a SURRENDER takes its counts out of the pool; FLOOR_REISSUE opens the destination, with fresh number spaces
after OFF; FLOOR_SYNC_REQ is answered with a CREDIT that has SYNC = 1. -/
def Obligations.ReservationMessagesMoveCreditsAndFloors : Prop :=
  (∀ (n : Stop) (m : Msg) (s : State), msgOk m = true → ∃ t, exec (.credit n m) s = .next t
    ∧ (∀ c : Fin 4, (t.credit n (msgSrc m) c).lastCum = vbits m (40 - 8 * c) 8)
    ∧ (vbits m 15 1 = 1 → tget 0 t.resv.unsync (pairKey n (msgSrc m)) = 0)
    ∧ (s.queue n = [] → ∀ c : Fin 4, t.credit n (msgSrc m) c =
        if vbits m 15 1 = 1 then { s.credit n (msgSrc m) c with f := 2 - vbits m (13 - 2 * c) 2, lastCum := vbits m (40 - 8 * c) 8 }
        else applyCum (s.credit n (msgSrc m) c) (vbits m (40 - 8 * c) 8)))
  ∧ (∀ (n : Stop) (m : Msg) (s : State) (x : Charge), msgOk m = true → x = s.charge n (msgSrc m) (vbits m 46 2) →
    ∃ t, exec (.resReq n m) s = .next t
      ∧ (x.lastRid ≠ vbits m 32 8 + 1 →
          t.pendQ n (vbits m 46 2) = s.pendQ n (vbits m 46 2) ++ [⟨msgSrc m, vbits m 40 6 + 1, vbits m 30 1 == 1, vbits m 32 8⟩]
          ∧ t.charge n (msgSrc m) (vbits m 46 2) = { x with lastRid := vbits m 32 8 + 1, pend := true })
      ∧ (x.lastRid = vbits m 32 8 + 1 →
          t = if x.pend then s.take n m else (s.take n m).sendGnt n (msgSrc m) (vbits m 46 2) x.gCount (vbits m 32 8) true x.gNp))
  ∧ (∀ (d : Stop) (c : Nat) (r : PendReq) (rest : List PendReq) (s : State), s.fbit F.STOP.POOL_STS.CLOSING d = false →
    s.stopRuns d = true → (s.grantOrder d).find? (fun c => s.grantFits d c) = some c → s.pendQ d c = r :: rest →
    ∃ t, exec (.resGrantDecision d) s = .next t ∧ t.pendQ d c = rest
      ∧ t.used d c = (s.used d c + r.count) % 2 ^ F.STOP.CLS_USE.USED.width
      ∧ t.npUsed d = (if r.np then (s.npUsed d + r.count) % 2 ^ F.STOP.POOL_STS.NP_USED.width else s.npUsed d)
      ∧ (t.charge d r.src c).gp = (s.charge d r.src c).gp + (if r.np then 0 else r.count)
      ∧ (t.charge d r.src c).ga = (s.charge d r.src c).ga + (if r.np then r.count else 0)
      ∧ s.Raised t F.STOP.RES_GNT_CNT d ∧ t.net.flight.length = s.net.flight.length + 1)
  ∧ (∀ (d : Stop) (s : State), s.fbit F.STOP.POOL_STS.CLOSING d = true ∨ s.stopRuns d = false →
    exec (.resGrantDecision d) s = .next s)
  ∧ (∀ (n : Stop) (m : Msg) (s : State) (x : Credit) (o : ReqOut), msgOk m = true → x = s.credit n (msgSrc m) (vbits m 46 2) →
    x.out = some o → o.rid = vbits m 32 8 →
    ∃ t, exec (.resGnt n m) s = .next t ∧ (t.credit n (msgSrc m) (vbits m 46 2)).lastCum = vbits m 22 8
      ∧ (s.queue n = [] → t.credit n (msgSrc m) (vbits m 46 2) = applyCum { x with
          out := none, p := x.p + (if vbits m 30 1 = 0 then vbits m 40 6 + 1 else 0),
          a := x.a + (if vbits m 30 1 = 0 then 0 else vbits m 40 6 + 1) } (vbits m 22 8)))
  ∧ (∀ (n : Stop) (m : Msg) (s : State), msgOk m = true →
    (∀ o, (s.credit n (msgSrc m) (vbits m 46 2)).out = some o → o.rid ≠ vbits m 32 8) → exec (.resGnt n m) s = .next (s.take n m))
  ∧ (∀ (k d : Stop) (c : Fin 4) (s : State) (o : ReqOut), (s.credit k d c).out = some o →
    (s.fbit F.STOP.RES_CFG.FLOOR_ONLY k = true → exec (.resReqRetry k d c) s = .next s)
    ∧ (s.fbit F.STOP.RES_CFG.FLOOR_ONLY k = false →
      tickPast (s.nodeTick k) o.g (max 1 (s.fget F.STOP.RES_CFG.REQ_TO k) + 1) = true →
      ∃ t, exec (.resReqRetry k d c) s = .next t ∧ s.Raised t F.STOP.RES_RETRY_CNT k ∧ s.Raised t F.STOP.RES_REQ_CNT k
        ∧ (t.credit k d c).out = some { o with g := s.nodeTick k } ∧ t.net.flight.length = s.net.flight.length + 1))
  ∧ (∀ (n : Stop) (m : Msg) (s : State), msgOk m = true → ∃ t, exec (.floorRecall n m) s = .next t
    ∧ t.isClosed n (msgSrc m) = true
    ∧ (s.stopRuns n = false → t.net.flight.length = ((s.take n m).net.flight).length + 4 ∧ t.resv.credit = s.resv.credit))
  ∧ (∀ (n : Stop) (m : Msg) (s : State) (c p a : Nat), msgOk m = true → c = vbits m 46 2 → p = vbits m 39 7 → a = vbits m 32 7 →
    ∃ t, exec (.surrender n m) s = .next t
      ∧ t.charge n (msgSrc m) c = { s.charge n (msgSrc m) c with gp := (s.charge n (msgSrc m) c).gp - p, ga := (s.charge n (msgSrc m) c).ga - a }
      ∧ t.used n c = (s.used n c - (p + a)) % 2 ^ F.STOP.CLS_USE.USED.width
      ∧ t.npUsed n = (s.npUsed n - a) % 2 ^ F.STOP.POOL_STS.NP_USED.width
      ∧ tget 0 t.resv.surr n = if vbits m 30 1 = 1 then tget 0 s.resv.surr n ||| 2 ^ msgSrc m else tget 0 s.resv.surr n)
  ∧ (∀ (n : Stop) (m : Msg) (s : State), msgOk m = true → ∃ t, exec (.floorReissue n m) s = .next t
    ∧ t.isClosed n (msgSrc m) = false
    ∧ (vbits m 45 1 = 1 → tget 0 t.ord.nextSeq (pairKey n (msgSrc m)) = 0 ∧ tget 0 t.ord.low (pairKey n (msgSrc m)) = 0)
    ∧ (vbits m 45 1 = 0 → t.ord = s.ord))
  ∧ (∀ (n : Stop) (m : Msg) (s : State), msgOk m = true →
    exec (.floorSyncReq n m) s = .next ((s.take n m).sendCredit n (msgSrc m) true))

/-- Register accesses of the management port and over the maintenance ring (R9, R132, R351, Table 5-8): REG_RD is answered
with the register's word, or 0 outside the owner's pages; a half of a write waits for the other, and with it the write is
performed and answered; a half alone for too long is answered with STATUS 1; REG_RSP ends the sender's access; the port's
request is forwarded, or answered at once where its tenant, its width or its offset keeps it back; TENANT_ERR is recorded.
Each of the seven commands answers a next state with that effect. -/
def Obligations.RegisterMessagesAreAnswered : Prop :=
  (∀ (n : Node) (m : Msg) (s : State), msgOk m = true →
    (∃ t, exec (.regRd n m) s = .next t ∧ t.net.flight.length = (s.take n m).net.flight.length + 1)
    ∧ (∃ t, exec (.regWrA n m) s = .next t
      ∧ if (s.net.halves.find? (fun h => h.sameAs n m false)).isSome then (s.take n m).net.flight.length < t.net.flight.length
        else t.net.halves.getLast? = some ⟨n, msgSrc m, msgTag m, true, m.toNat, s.cycle⟩)
    ∧ (∃ t, exec (.regWrD n m) s = .next t
      ∧ if (s.net.halves.find? (fun h => h.sameAs n m true)).isSome then (s.take n m).net.flight.length < t.net.flight.length
        else t.net.halves.getLast? = some ⟨n, msgSrc m, msgTag m, false, m.toNat, s.cycle⟩))
  ∧ (∀ (n : Node) (s : State), ∃ t, exec (.regWrHalfTimeout n) s = .next t
    ∧ (s.net.halves.any (fun h => h.owner == n.val && decide (h.since + 256 ≤ s.cycle)) = true →
        t.net.halves.length + 1 = s.net.halves.length ∧ t.net.flight.length = s.net.flight.length + 1))
  ∧ (∀ (n : Node) (m : Msg) (s : State) (c : Cls) (i : Nat), msgOk m = true → pageAt (msgOff m) = some (c, i) → ownerNode c i = n →
    ∃ u : State, exec (.regRd n m) s = .next (u.regRsp n (msgSrc m) (msgTag m) true (s.readWord c i (msgOff m % 4096)))
      ∧ u.net.flight = (s.take n m).net.flight ∧ u.units = s.units)
  ∧ (∀ (n : Node) (m : Msg) (s : State), msgOk m = true → ownsOff n (msgOff m) = false →
    exec (.regRd n m) s = .next ((s.take n m).regRsp n (msgSrc m) (msgTag m) true 0))
  ∧ (∀ (n : Node) (m : Msg) (s : State), msgOk m = true → s.net.halves.find? (fun h => h.sameAs n m false) = none →
    exec (.regWrA n m) s = .next ((s.take n m).setHalves ((s.net.halves.filter (fun h => !h.sameAs n m true)) ++ [⟨n, msgSrc m, msgTag m, true, m.toNat, s.cycle⟩])))
  ∧ (∀ (n : Node) (m : Msg) (s : State), msgOk m = true → s.net.halves.find? (fun h => h.sameAs n m true) = none →
    exec (.regWrD n m) s = .next ((s.take n m).setHalves ((s.net.halves.filter (fun h => !h.sameAs n m false)) ++ [⟨n, msgSrc m, msgTag m, false, m.toNat, s.cycle⟩])))
  ∧ (∀ (n : Node) (m : Msg) (s : State) (h : Half), msgOk m = true → s.net.halves.find? (fun h => h.sameAs n m false) = some h →
    ∃ (u : State) (ok : Bool), exec (.regWrA n m) s = .next (u.regRsp n (msgSrc m) (msgTag m) ok 0)
      ∧ u.net.halves = eraseFirst (fun g => g.sameAs n m false) s.net.halves ∧ (ownsOff n (msgOff m) = false → ok = true))
  ∧ (∀ (n : Node) (m a : Msg) (s : State) (h : Half), msgOk m = true → s.net.halves.find? (fun h => h.sameAs n m true) = some h →
    a = BitVec.ofNat 64 h.body →
    ∃ (u : State) (ok : Bool), exec (.regWrD n m) s = .next (u.regRsp n (msgSrc a) (msgTag a) ok 0)
      ∧ u.net.halves = eraseFirst (fun g => g.sameAs n m true) s.net.halves ∧ (ownsOff n (msgOff a) = false → ok = true))
  ∧ (∀ (n : Node) (s : State) (h : Half), s.net.halves.find? (fun h => h.owner == n.val && decide (h.since + 256 ≤ s.cycle)) = some h →
    exec (.regWrHalfTimeout n) s = .next ((s.setHalves (eraseFirst (fun h => h.owner == n.val && decide (h.since + 256 ≤ s.cycle))
      s.net.halves)).regRsp n h.sender h.tag false 0))
  ∧ (∀ (n : Node) (s : State), s.net.halves.find? (fun h => h.owner == n.val && decide (h.since + 256 ≤ s.cycle)) = none →
    exec (.regWrHalfTimeout n) s = .next s)
  ∧ (∀ (n : Node) (m : Msg) (s : State), msgOk m = true → ∃ t, exec (.regRsp n m) s = .next t
    ∧ t.net.accOut = eraseFirst (fun x => x.sender == n.val && x.tag == msgTag m) s.net.accOut
    ∧ ∃ e, tget none t.net.rsp n = some ⟨msgTag m, vbits m 7 32, e⟩ ∧ (vbits m 42 2 = 0 → e = false))
  ∧ (∀ (wr : Bool) (a : WinOff) (be : BitVec 4) (w : Word) (tn : Bool) (x : SliceNo) (tag : Fin 8) (s : State),
    (s.net.accOut.filter (fun y => y.sender == 60)).length < 8 → s.xbReady mgmtBridge = true →
    ∃ t, exec (.mgmtRequest wr a be w tn x tag) s = .next t
      ∧ (if tn && !tenantOk a.toNat x wr then
          t.net.flight = s.net.flight ++ [msgToOne (mkCtrl 0xD 62 60 [(32, 12, x), (8, 24, a.toNat / 4), (7, 1, b2n wr)])]
          ∧ ∃ e, tget none t.net.rsp 60 = some ⟨tag, 0, e⟩
        else if be ≠ 0xF ∨ a.toNat % 4 ≠ 0 then
          tget none t.net.rsp 60 = some ⟨tag, 0, true⟩ ∧ t.net.flight = s.net.flight
          ∧ s.Raised t (F.HDR.PG_ERR_CNT.CNT ((pageAt a.toNat).getD (.glb, 0)).1) ((pageAt a.toNat).getD (.glb, 0)).2
        else match pageAt a.toNat with
          | none => t = s.respond 60 tag 0 false
          | some _ => t.net.accOut = s.net.accOut ++ [⟨60, tag, if tn then .tenant else .mgmt, a.toNat, wr⟩]
              ∧ t.net.flight.length = s.net.flight.length + (if wr then 2 else 1)))
  ∧ (∀ (wr : Bool) (a : WinOff) (be : BitVec 4) (w : Word) (tn : Bool) (x : SliceNo) (tag : Fin 8) (s : State),
    8 ≤ (s.net.accOut.filter (fun y => y.sender == 60)).length ∨ s.xbReady mgmtBridge = false →
    exec (.mgmtRequest wr a be w tn x tag) s = .next s)
  ∧ (∀ (m : Msg) (s : State) (x : Nat), msgOk m = true → x = vbits m 32 12 → ∃ t, exec (.tenantErr m) s = .next t
    ∧ s.Raised t (F.HDR.PG_ERR_CNT.CNT .slice) x
    ∧ (s.fget (F.HDR.PG_ERR_FIRST.CODE .slice) x = 0 → t.fget (F.HDR.PG_ERR_FIRST.CODE .slice) x = 0x83))

/-- Accesses at a page (R10–R13, R48, R527–R533): a write outside every page changes nothing; PG_INT_EN takes its byte; a
WE write goes into the inactive bank while it is open and is counted otherwise, and awaits its acknowledgement; reads
clear RC counts and latch the upper half of a value; PG_LOCK, PG_ERR_FIRST, PG_INT_SET and DRAIN_REQ act on the header.
Drain reports, interrupts and unlisted messages (R131, R527, R528, R552): QUIET is set once the earlier WE writes have
taken effect and no command is in progress; a page whose request has changed and a slice whose event is pending are
presented; a message with an unlisted SUB is counted. Each of these commands answers a next state, with every operand. -/
def Obligations.PageAccessesAndReportsTakeEffect : Prop :=
  (∀ (off : WinOff) (w : Word) (o : Origin) (n : Node) (m : Msg) (s : State),
    ∀ c ∈ [Instr.registerWrite off w o, .weWrite off w o, .rcRead off o, .lowRegisterRead off o, .weAck off, .pgLockWrite off w o,
      .pgErrClear off o, .pgIntSet off w o, .drainReq off w o, .drainQuiet off, .irqPresent none, .irqPresent (some off),
      .ctrlSubUnlisted n m], ∃ t, exec c s = .next t ∧ t.pending = s.pending ∧ t.cycle = s.cycle)
  ∧ (∀ (off : WinOff) (w : Word) (o : Origin) (s : State), pageAt (off.toNat / 4 * 4) = none →
    exec (.registerWrite off w o) s = .next s ∧ exec (.rcRead off o) s = .next s ∧ exec (.lowRegisterRead off o) s = .next s)
  ∧ (∀ (off : WinOff) (w : Word) (o : Origin) (s : State) (c : Cls) (i : Nat), pageAt (off.toNat / 4 * 4) = some (c, i) →
    off.toNat / 4 * 4 % 4096 = 0x014 →
    exec (.registerWrite off w o) s = .next ((s.touch c i).fset (F.HDR.PG_INT_EN.INT_EN c) (vbits w 0 8) i))
  ∧ (∀ (off : WinOff) (w : Word) (o : Origin) (s u : State) (c : Cls) (i a h e sel : Nat) (f : Fld),
    pageAt (off.toNat / 4 * 4) = some (c, i) → a = off.toNat / 4 * 4 % 4096 → 0x040 ≤ a → c ≠ .gate → regFields c a = [(f, e)] →
    f.acc = .we → u = s.touch c i → u.fieldHome c i a = some (h, sel) → u.fbit F.GLB.EPOCH_STS.INACTIVE_OPEN = true →
    u.weOk c i a h sel (1 - u.bankAt (ownerNode c i)) w = true →
    ∃ t, exec (.weWrite off w o) s = .next t ∧ t.fget f h e (1 - u.bankAt (ownerNode c i)) sel = vbits w (f.loAt e) f.width
      ∧ t.tick.weNext = s.tick.weNext + 1 ∧ t.tick.weOut = s.tick.weOut ++ [⟨s.tick.weNext, pageNo c i, a, o, 0⟩])
  ∧ (∀ (off : WinOff) (w : Word) (o : Origin) (s u : State) (c : Cls) (i a h sel : Nat),
    pageAt (off.toNat / 4 * 4) = some (c, i) → a = off.toNat / 4 * 4 % 4096 → 0x040 ≤ a → weReg c a = true →
    u = s.touch c i → u.fieldHome c i a = some (h, sel) →
    u.fbit F.GLB.EPOCH_STS.INACTIVE_OPEN = false ∨ u.weOk c i a h sel (1 - u.bankAt (ownerNode c i)) w = false →
    exec (.weWrite off w o) s = .next (u.pgErr c i a))
  ∧ (∀ (off : WinOff) (s : State) (c : Cls) (i a : Nat) (v : WeOut), pageAt (off.toNat / 4 * 4) = some (c, i) →
    a = off.toNat / 4 * 4 % 4096 → c ≠ .gate → s.tick.weOut.find? (fun w => w.page == pageNo c i && w.off == a) = some v →
    ∃ t, exec (.weAck off) s = .next t ∧ t.tick.weOut = s.tick.weOut.filter (fun x => x.id != v.id)
      ∧ t.tick.swapWait = s.tick.swapWait.filter (fun x => x != v.id))
  ∧ (∀ (off : WinOff) (o : Origin) (s : State) (k : Fin 60), pageAt (off.toNat / 4 * 4) = some (Cls.stop, k.val) →
    off.toNat / 4 * 4 % 4096 = 0x1CC → ∃ t, exec (.rcRead off o) s = .next t ∧ t.units = s.units
      ∧ t.fget F.STOP.E2E_ERR_CNT k = if o = .tenant then s.fget F.STOP.E2E_ERR_CNT k else 0)
  ∧ (∀ (off : WinOff) (o : Origin) (s : State) (c : Cls) (i a : Nat), pageAt (off.toNat / 4 * 4) = some (c, i) →
    a = off.toNat / 4 * 4 % 4096 → lowReg c a = true → ∃ t, exec (.lowRegisterRead off o) s = .next t ∧ t.units = s.units
      ∧ tget 0 t.net.hold (holdKey c i (a + 4)) = s.wordAt c i (a + 4) % 2 ^ holdWidth c (a + 4))
  ∧ (∀ (off : WinOff) (w : Word) (o : Origin) (s : State) (c : Cls) (i : Nat), pageAt (off.toNat / 4096 * 4096 + 0x02C) = some (c, i) →
    exec (.pgLockWrite off w o) s = .next (if lockableCls c then (s.touch c i).fput (F.HDR.PG_LOCK.UNLOCKED c) (w.toNat == pageKey c) i
      else s.touch c i))
  ∧ (∀ (off : WinOff) (o : Origin) (s : State) (c : Cls) (i : Nat), pageAt (off.toNat / 4096 * 4096 + 0x01C) = some (c, i) →
    ∃ t, exec (.pgErrClear off o) s = .next t ∧ t.fget (F.HDR.PG_ERR_FIRST.CODE c) i = 0 ∧ t.fget (F.HDR.PG_ERR_FIRST.INJ c) i = 0
      ∧ t.fget (F.HDR.PG_ERR_INFO0.INFO0 c) i = 0 ∧ t.fget (F.HDR.PG_ERR_INFO1.INFO1 c) i = 0 ∧ t.units = s.units)
  ∧ (∀ (off : WinOff) (w : Word) (o : Origin) (s : State) (c : Cls) (i : Nat), pageAt (off.toNat / 4096 * 4096 + 0x018) = some (c, i) →
    exec (.pgIntSet off w o) s = .next ((s.touch c i).fset (F.HDR.PG_INT_STS.INT c)
      (s.fget (F.HDR.PG_INT_STS.INT c) i ||| (vbits w 0 8 &&& (if c = .glb then 0x11 else intBits c))) i))
  ∧ (∀ (off : WinOff) (w : Word) (o : Origin) (s : State) (c : Cls) (i : Nat), pageAt (off.toNat / 4096 * 4096 + 0x008) = some (c, i) →
    ∃ t, exec (.drainReq off w o) s = .next t ∧ t.fget (F.HDR.PG_CTL.DRAIN_REQ c) i = 1 ∧ t.fget (F.HDR.PG_STS.QUIET c) i = 0
      ∧ t.fget (F.HDR.PG_CTL.EN c) i = vbits w 0 1 ∧ t.fget (F.HDR.PG_CTL.EPOCH_SEL c) i = vbits w 2 1
      ∧ tget 0 t.net.drain (pageNo c i) = 1 + s.tick.weNext)
  ∧ (∀ (off : WinOff) (s : State) (c : Cls) (i : Nat), pageAt off.toNat = some (c, i) → s.fbit (F.HDR.PG_CTL.DRAIN_REQ c) i = true →
    s.tick.weOut.any (fun w => w.page == pageNo c i && w.id + 1 < tget 0 s.net.drain (pageNo c i)) = false → s.cmdBusy c i = false →
    ∃ t, exec (.drainQuiet off) s = .next t ∧ t.fget (F.HDR.PG_STS.QUIET c) i = 1 ∧ t.fget (F.HDR.PG_CTL.DRAIN_REQ c) i = 0
      ∧ t.units = s.units)
  ∧ (∀ (off : WinOff) (s : State) (c : Cls) (i : Nat), pageAt off.toNat = some (c, i) →
    s.fbit (F.HDR.PG_CTL.DRAIN_REQ c) i = false ∨ s.cmdBusy c i = true → exec (.drainQuiet off) s = .next s)
  ∧ (∀ (s : State) (x : Nat) (l : List Nat), s.irq.slices = x :: l →
    exec (.irqPresent none) s = .next { s with irq := { s.irq with slices := l, last := some ⟨1, 0, x, true⟩ } })
  ∧ (∀ (a : WinOff) (s : State) (c : Cls) (i : Nat), pageAt a.toNat = some (c, i) → ∃ t, exec (.irqPresent (some a)) s = .next t
    ∧ t.irqShown c i = s.irqReq c i ∧ t.regs = s.regs
    ∧ (s.irqShown c i ≠ s.irqReq c i → t.irq.last = some ⟨0, c.code, if c = .glb then s.boot.instId else i, s.irqReq c i⟩))
  ∧ (∀ (n : Node) (m : Msg) (s : State), ∃ t, exec (.ctrlSubUnlisted n m) s = .next t ∧ t.units = s.units
    ∧ (if n.val < 60 then s.Raised t F.STOP.MSG_ERR_CNT n else s.Raised t (F.HDR.PG_ERR_CNT.CNT .glb) 0))

/-- Meters and gates (R204–R229): a head is coloured once, by its meter or green when it has none; due red heads are
coloured again; a binding is set only while the slice is FREE and the meter lies in its accord, and a newly bound meter is
full; the lists of a stop follow the active bank; a recomputation ends; METER_SEL copies a meter. -/
def Obligations.MetersAndGatesFollowTheirRules : Prop :=
  (∀ (k : Stop) (rq : Fin 16384) (s : State) (i : Nat) (h : FTxn), headIdx (s.queue k) rq = some i → (s.queue k)[i]? = some h →
    h.colour = 3 → s.metered k h = false →
    exec (.meterColour k rq) s = .next (s.setQueue k ((s.queue k).set i { h with colour := 0 })))
  ∧ (∀ (k : Stop) (rq : Fin 16384) (s : State) (i : Nat) (h : FTxn) (x m bank : Nat) (r : Nat × Meter) (pre : Bool),
    headIdx (s.queue k) rq = some i → (s.queue k)[i]? = some h → h.colour = 3 → s.metered k h = true → x = sectorOf k →
    m = s.boundTo x h.rq - 1 → bank = s.bankAt k →
    pre = (s.fbit F.STOP.METER_MODE.AWARE (meterPage x) 0 bank m
      && nbit (s.fget F.STOP.METER_MODE.TC_YEL (meterPage x) 0 bank m) (nbits h.head.be.toNat 11 3)) →
    r = colour (access (s.meter (2048 * x + m)) (s.nodeTick k) s.epochLast (s.meterRates x m bank)) (chargeOf h.head) pre →
    ∃ t h', exec (.meterColour k rq) s = .next t ∧ t.meter (2048 * x + m) = r.2 ∧ t.queue k = (s.queue k).set i h'
      ∧ h'.colour = r.1 ∧ h'.flits = h.flits ∧ (r.1 = 2 → s.Raised t F.STOP.RED_HOLD_CNT k))
  ∧ (∀ (k : Stop) (rq : Fin 16384) (s : State) (i : Nat) (h : FTxn), headIdx (s.queue k) rq = some i → (s.queue k)[i]? = some h →
    h.colour ≠ 3 → exec (.meterColour k rq) s = .next s)
  ∧ (∀ (k : Stop) (s : State) (h : FTxn), s.queue k = [h] → s.recolourDue k h = true →
    exec (.redRecolour k) s = .next ((s.colourTxn k h).1.setQueue k [(s.colourTxn k h).2]))
  ∧ (∀ (k : Stop) (s : State), (∀ h ∈ s.queue k, s.recolourDue k h = false) → exec (.redRecolour k) s = .next s)
  ∧ (∀ (k : Stop) (w : Word) (s : State) (rq : Nat), k.val < 56 → rq = s.fget F.STOP.BIND_SEL.RQ_IDX k → s.sliceState (rq % 4096) = 0 →
    (w.getLsbD 15 = true → (s.bindings (sectorOf k) (vbits w 0 11)).any (fun q => q % 4096 != rq % 4096) = false
      ∧ s.ownsMeter (rq % 4096) (2048 * sectorOf k + vbits w 0 11) = true) →
    ∃ t, exec (.bindWrite k w) s = .next t ∧ t.boundTo (sectorOf k) rq = (if w.getLsbD 15 then vbits w 0 11 + 1 else 0)
      ∧ (w.getLsbD 15 = true → s.boundTo (sectorOf k) rq ≠ vbits w 0 11 + 1 → s.bindings (sectorOf k) (vbits w 0 11) = [] →
          t.meter (2048 * sectorOf k + vbits w 0 11) = freshMeter (s.nodeTick k) (s.meterRates (sectorOf k) (vbits w 0 11) (s.bankAt k))))
  ∧ (∀ (k : Stop) (w : Word) (s : State), 56 ≤ k.val ∨ s.sliceState (s.fget F.STOP.BIND_SEL.RQ_IDX k % 4096) ≠ 0 →
    exec (.bindWrite k w) s = .next ((s.touch .stop k).pgErr .stop k 0x4BC))
  ∧ (∀ (k : Stop) (s : State), ∃ t, exec (.gateAdvance k) s = .next t
    ∧ { t with regs := s.regs, mtr := { t.mtr with gate := s.mtr.gate } } = s ∧ ∀ l : Fin 8,
    if s.gateBank k l = s.bankAt k then t.gateBank k l = s.gateBank k l ∧ t.fget F.GATE.LIST_STS.PEND k 0 0 (l * 256) = 0
    else if s.fbit F.GATE.LIST_CTL.IMMEDIATE k 0 (s.bankAt k) (l * 256) = true
        ∨ gatePos (s.gateEntries k l (s.gateBank k l)) (s.gateStart k l (s.gateBank k l)) (s.nodeTick k)
            ≤ wrapSub 48 (s.nodeTick k) s.epochLast then
      t.gateBank k l = s.bankAt k % 2 ∧ t.fget F.GATE.LIST_STS.PEND k 0 0 (l * 256) = 0
      ∧ t.fget F.GATE.LIST_STS.SWAP_CNT k 0 0 (l * 256) = (s.fget F.GATE.LIST_STS.SWAP_CNT k 0 0 (l * 256) + 1) % 2 ^ 16
    else t.gateBank k l = s.gateBank k l ∧ t.fget F.GATE.LIST_STS.PEND k 0 0 (l * 256) = 1)
  ∧ (∀ (k : Stop) (s : State) (v : WeOut), s.tick.weOut.filter (fun w => w.page == pageNo .gate k && gateOff w.off) = [v] →
    ∃ t, exec (.gateRecomputeDone k) s = .next t ∧ t.tick.weOut = s.tick.weOut.filter (fun x => x.id != v.id)
      ∧ t.fget F.GATE.LIST_STS.READY k 0 0 (v.list * 256) = 1)
  ∧ (∀ (k : Stop) (w : Word) (s : State) (g : Nat), k.val < 56 → s.stopRuns k = true → g = 2048 * sectorOf k + vbits w 0 11 →
    ∃ t, exec (.meterSelWrite k w) s = .next t ∧ t.fget F.STOP.METER_SEL.IDX k = vbits w 0 11 ∧ t.fget F.STOP.METER_STS.VALID k = 1
      ∧ t.fget F.STOP.METER_TOK_C.TC k = (s.meter g).tc % 2 ^ F.STOP.METER_TOK_C.TC.width
      ∧ t.fget F.STOP.METER_TOK_P.TP k = (s.meter g).tp % 2 ^ F.STOP.METER_TOK_P.TP.width
      ∧ t.fget F.STOP.METER_RED.RED_CNT k = (s.meter g).red % 2 ^ 32
      ∧ t.meter g = if w.getLsbD 31 then { s.meter g with green := 0, yellow := 0, red := 0, ovfG := false, ovfY := false } else s.meter g)
  ∧ (∀ (k : Stop) (w : Word) (s : State), s.stopRuns k = false →
    exec (.meterSelWrite k w) s = .next ((s.touch .stop k).pgErr .stop k 0x480))

/-- Snapshots, freezes and counter views (R428–R446): SNAP_REQ and FREEZE arm and release, CNT_HI sets a counter, CS_SEL
and TC_SEL copy a counter set, a window closes at its count, SB_SEL selects an item. -/
def Obligations.CounterCommandsTakeEffect : Prop :=
  (∀ (s : State), exec .snapReq s = .next ((s.touch .glb 0).fput F.GLB.SNAP.REQ true))
  ∧ (∀ (s : State), s.fbit F.GLB.FREEZE_STS.HELD = false → s.cnt.freezeQ.contains none = false →
    ∃ t, exec .freezeArm s = .next t ∧ t.cnt.freezeQ = s.cnt.freezeQ ++ [none] ∧ t.fget F.GLB.FREEZE.ARM = 1 ∧ t.units = s.units)
  ∧ (∀ (s : State), s.fbit F.GLB.FREEZE_STS.HELD = true → exec .freezeArm s = .next ((s.touch .glb 0).pgErr .glb 0 0x300)
    ∧ ∃ t, exec .freezeRelease s = .next t ∧ t.cnt.relAt = 1 + wrapAdd 48 (s.nodeTick 60) 1 ∧ t.units = s.units)
  ∧ (∀ (s : State), s.fbit F.GLB.FREEZE_STS.HELD = false → exec .freezeRelease s = .next (s.touch .glb 0))
  ∧ (∀ (c : Cls) (n : Fin 60) (i : Fin 8) (w : Word) (s : State) (lo : Nat), n.val < blockCount c →
    lo = tget 0 s.cnt.loHold (blockKey c n i) → lo < 2 ^ 32 →
    ∃ t, exec (.cntHiWrite c n i w) s = .next t ∧ t.wide (F.CB.CNT_LO c) (F.CB.CNT_HI c) n i = lo + 2 ^ 32 * vbits w 0 16
      ∧ t.units = s.units)
  ∧ (∀ (c : Cls) (n : Fin 60) (i : Fin 8) (w : Word) (s : State), blockCount c ≤ n.val → exec (.cntHiWrite c n i w) s = .next s)
  ∧ (∀ (w : Word) (s : State) (n : Nat), n = vbits w 0 12 → ∃ t, exec (.csSelWrite w) s = .next t
    ∧ t.fget F.GLB.CS_SEL.SET = n ∧ t.fget F.GLB.CS_STS.VALID = 1 ∧ t.units = s.units
    ∧ (∀ i : Fin 8, t.wide F.GLB.CS_CNT_LO.CNT F.GLB.CS_CNT_HI.CNT 0 i = (s.setSum n i false).1)
    ∧ (w.getLsbD 31 = true → ∀ x : Fin 8, (t.cpart n x).cnt = [] ∧ (t.cpart n x).ovf = 0)
    ∧ (w.getLsbD 31 = false → t.cnt.cpart = s.cnt.cpart))
  ∧ (∀ (x : SliceNo) (w : Word) (s : State), s.fbit F.SLICE.CTL.CNT_VIS x = false →
    exec (.tcSelWrite x w) s = .next ((s.touch .slice x).fset F.SLICE.TC_SEL.OFF (vbits w 0 2) x))
  ∧ (∀ (x : SliceNo) (w : Word) (s : State) (n : Nat), s.fbit F.SLICE.CTL.CNT_VIS x = true →
    n = s.fget F.SLICE.ACC_C.CBASE x + vbits w 0 2 → ∃ t, exec (.tcSelWrite x w) s = .next t
    ∧ t.fget F.SLICE.TC_STS.VALID x = 1 ∧ t.fget F.SLICE.TC_STS.OWN x = b2n (decide (vbits w 0 2 < s.fget F.SLICE.ACC_C.CCNT x))
    ∧ ∀ i : Fin 8, t.wide F.SLICE.TC_CNT_LO.CNT F.SLICE.TC_CNT_HI.CNT x i =
        if vbits w 0 2 < s.fget F.SLICE.ACC_C.CCNT x then (s.setSum n i false).1 else 0)
  ∧ (∀ (j : Fin 16) (s : State) (w : Nat) (cur : WinRec), w = s.windowAt j (s.nodeTick 60) → cur = tget {} s.cnt.wsCur j →
    ∃ t, exec (.windowClose j) s = .next t ∧ t.units = s.units ∧ t.regs = s.regs
      ∧ (w = 0 → tget {} t.cnt.wsCur j = {})
      ∧ (w ≠ 0 → cur.k = w → t = s)
      ∧ (w ≠ 0 → cur.k ≠ w → tget {} t.cnt.wsCur j = { k := w }
          ∧ (cur.k ≠ 0 → (tget {} t.cnt.wsLast j).k = w - 1 ∧ (tget {} t.cnt.wsLast j).close = s.nodeTick 60)))
  ∧ (∀ (i : Fin 16) (s : State), exec (.sbSelect i) s = .next { s with cnt := { s.cnt with sbSel := i } })

/-- The sillage writers and the error record queue (R449, R470): a fragment is kept until its record is whole; a whole
entry is staged, or counted as lost at full staging; an incomplete record is discarded and counted; a line that is due is
written and its entries leave once it is acknowledged; ERQ_POP takes the head record. -/
def Obligations.RecordsAreAssembledAndKept : Prop :=
  (∀ (n : Stop) (m : Msg) (s : State), msgOk m = true → isMemStop n = false → exec (.silFrag n m) s = .next (s.take n m))
  ∧ (∀ (n : Stop) (m : Msg) (s : State) (key f : Nat) (b : FragBuf), msgOk m = true → isMemStop n = true →
    key = msgSrc m * 128 + vbits m 38 7 → f = vbits m 45 3 → b = tget {} s.cnt.silPart key → nbit b.seen f = false → f < 6 →
    ∃ t, exec (.silFrag n m) s = .next t
      ∧ (b.seen + 2 ^ f ≠ 63 → tget {} t.cnt.silPart key = ⟨b.seen + 2 ^ f, b.data + vbits m 7 31 * 2 ^ (31 * f)⟩)
      ∧ (b.seen + 2 ^ f = 63 → tget {} t.cnt.silPart key = {}
          ∧ (if 1024 ≤ (s.silStg (sectorOf n)).length then s.Raised t F.MEM.SIL_LOST.LOST (sectorOf n) ∧ t.silStg (sectorOf n) = s.silStg (sectorOf n)
             else (t.silStg (sectorOf n)).length = (s.silStg (sectorOf n)).length + 1
               ∧ t.fget F.MEM.SIL_WPTR.WPTR (sectorOf n) = wrapAdd 32 (s.fget F.MEM.SIL_WPTR.WPTR (sectorOf n)) 1)))
  ∧ (∀ (n : Stop) (m : Msg) (s : State), msgOk m = true → isMemStop n = true → 6 ≤ vbits m 45 3 → exec (.silFrag n m) s = .next (s.take n m))
  ∧ (∀ (n : Stop) (m : Msg) (s : State) (key : Nat) (b : FragBuf), msgOk m = true → isMemStop n = true →
    key = msgSrc m * 128 + vbits m 38 7 → b = tget {} s.cnt.silPart key → nbit b.seen (vbits m 45 3) = true → b.seen ≠ 63 →
    ∃ t, exec (.silFrag n m) s = .next t ∧ tget {} t.cnt.silPart key = b ∧ t.silStg (sectorOf n) = s.silStg (sectorOf n))
  ∧ (∀ (r : Node) (e : Fin 128) (s : State), (tget {} s.cnt.silPart (r * 128 + e)).seen ≠ 0 → ∃ t, exec (.silFragTimeout r e) s = .next t
    ∧ tget {} t.cnt.silPart (r * 128 + e) = {} ∧ s.Raised t F.MEM.SIL_LOST.LOST (sectorOf (writerStop r)))
  ∧ (∀ (x : Sector) (s : State), s.silLine x ≠ [] → s.fbit F.GLB.SIL_CTL.HALT = false → s.fbit F.STOP.POOL_STS.CLOSING (memStop x) = false →
    s.zeroing = false → s.stopRuns (memStop x) = true → ∃ t r, exec (.silLineWrite x) s = .next t ∧ t.formQ (memStop x) = s.formQ (memStop x) ++ [r]
      ∧ r.hdr.opc = opMWR ∧ r.hdr.cls = clsCTL ∧ r.hdr.slice = 0
      ∧ t.silStg x = (s.silStg x).map (fun e => if (s.silLine x).contains e then { e with st := 1, line := r.job } else e))
  ∧ (∀ (x : Sector) (s : State), s.silLine x = [] ∨ s.fbit F.GLB.SIL_CTL.HALT = true → exec (.silLineWrite x) s = .next s)
  ∧ (∀ (x : Sector) (s : State) (e : SilEnt), s.silStg x = [e] → e.st = 1 → s.writeOut (memStop x) e.line = false →
    tget 0 s.cnt.silOver x = 0 → ∃ t, exec (.silLineAck x) s = .next t ∧ t.silStg x = [])
  ∧ (∀ (m : Msg) (s : State) (key f : Nat) (b : FragBuf), msgOk m = true → key = erqKey (msgSrc m) (vbits m 39 6) → f = vbits m 45 3 →
    b = tget {} s.cnt.erqPart key → nbit b.seen f = false → ∃ t, exec (.erqFrag m) s = .next t
      ∧ (b.seen + 2 ^ f ≠ 255 → tget {} t.cnt.erqPart key = ⟨b.seen + 2 ^ f, b.data + vbits m 7 32 * 2 ^ (32 * f)⟩ ∧ t.cnt.erq = s.cnt.erq)
      ∧ (b.seen + 2 ^ f = 255 → tget {} t.cnt.erqPart key = {}
          ∧ (if s.cnt.erq.length < 512 then t.cnt.erq = s.cnt.erq ++ [b.data + vbits m 7 32 * 2 ^ (32 * f)]
             else t.cnt.erq = s.cnt.erq ∧ s.Raised t F.GLB.ERQ_LOST 0)))
  ∧ (∀ (m : Msg) (s : State) (key : Nat) (b : FragBuf), msgOk m = true → key = erqKey (msgSrc m) (vbits m 39 6) →
    b = tget {} s.cnt.erqPart key → nbit b.seen (vbits m 45 3) = true → b.seen ≠ 255 →
    ∃ t, exec (.erqFrag m) s = .next t ∧ tget {} t.cnt.erqPart key = b ∧ t.cnt.erq = s.cnt.erq)
  ∧ (∀ (r : Node) (n : Fin 64) (s : State), (tget {} s.cnt.erqPart (erqKey r n)).seen ≠ 0 → ∃ t, exec (.erqFragTimeout r n) s = .next t
    ∧ tget {} t.cnt.erqPart (erqKey r n) = {} ∧ s.Raised t F.GLB.ERQ_LOST 0)
  ∧ (∀ (s : State), ∃ t, exec .erqPop s = .next t ∧ t.cnt.erq = s.cnt.erq.tail
    ∧ t.fget F.GLB.ERQ_STS.COUNT = s.cnt.erq.tail.length % 2 ^ F.GLB.ERQ_STS.COUNT.width)

/-- Isolation (R462–R469): ISOLATE is refused by its code or starts, with the broadcast and the unit noted; each node
applies it once, the unit's own stops joining ISO_SET and the others knowing the stop gone; when all have, BUSY clears and
the record is sent; REJOIN takes the unit's stops out of ISO_SET. -/
def Obligations.IsolationRunsItsCourse : Prop :=
  (∀ (kd : Fin 2) (id : Fin 64) (s : State) (r : Nat), r = (s.touch .glb 0).isoRefusal kd id → r ≠ 0 →
    exec (.isolate kd id) s = .next ((s.touch .glb 0).fset F.GLB.ISO_STS.RES r))
  ∧ (∀ (kd : Fin 2) (id : Fin 64) (s : State) (nn : Nat), (s.touch .glb 0).isoRefusal kd id = 0 →
    nn = (if s.iso.nn = 255 then 1 else s.iso.nn + 1) → ∃ t l, exec (.isolate kd id) s = .next t
      ∧ t.fget F.GLB.ISO_STS.BUSY = 1 ∧ t.fget F.GLB.ISO_STS.RES = 0
      ∧ t.iso.unit = some (kd.val, id.val, (s.touch .glb 0).isoCause kd id) ∧ t.iso.nn = nn ∧ t.iso.done = 0
      ∧ t.iso.bound = wrapAdd 48 (s.nodeTick 60) 1
      ∧ t.net.flight = s.net.flight ++ msgToAll (isoMsg ⟨kd, id, nn, 3⟩) :: l)
  ∧ (∀ (n : Node) (m : Msg) (s : State), msgOk m = true → exec (.isolateMsg n m) s = .next (
      if tget 0 s.iso.applied n = vbits m 33 8 then s.take n m
      else ({ s.take n m with iso := { s.iso with arrived := tset none s.iso.arrived n (some ⟨vbits m 47 1, vbits m 41 6, vbits m 33 8, 0⟩) } } : State)))
  ∧ (∀ (n : Node) (u : IsoMsg) (s : State), tget none s.iso.arrived n = some u → ∃ t, exec (.isolateApply n) s = .next t
      ∧ tget none t.iso.arrived n = none ∧ tget 0 t.iso.applied n = u.nn
      ∧ (n.val < 60 → (isoStops u.kind u.id).contains n = true → t.isolated n = true)
      ∧ (n.val < 60 → (isoStops u.kind u.id).contains n = false → ∀ x ∈ isoStops u.kind u.id, t.knowsGone n x = true))
  ∧ (∀ (n : Node) (s : State), tget none s.iso.arrived n = none → exec (.isolateApply n) s = .next s)
  ∧ (∀ (s : State) (u : Nat × Nat × Nat), s.iso.unit = some u → s.isoAll = true → s.iso.queue = [] →
    ∃ t, exec .isolationComplete s = .next t ∧ t.iso.unit = none ∧ t.fget F.GLB.ISO_STS.BUSY = 0
      ∧ (s.fget (F.HDR.PG_ERR_FIRST.CODE .glb) = 0 → t.fget (F.HDR.PG_ERR_FIRST.CODE .glb) = 0xC2))
  ∧ (∀ (s : State), s.isoAll = false → exec .isolationComplete s = .next s)
  ∧ (∀ (kd : Fin 2) (id : Fin 64) (s : State), s.unitIsolated kd id = true → s.fbit F.GLB.ISO_STS.BUSY = false →
    (kd.val = 0 → id.val < 60) → (kd.val = 1 → id.val < 8) → ∃ t, exec (.rejoin kd id) s = .next t
      ∧ t.fget F.GLB.ISO_STS.RES = 0 ∧ ∀ x ∈ isoStops kd id, t.isolated x = false)
  ∧ (∀ (kd : Fin 2) (id : Fin 64) (s : State), s.unitIsolated kd id = false ∨ s.fbit F.GLB.ISO_STS.BUSY = true →
    exec (.rejoin kd id) s = .next ((s.touch .glb 0).fset F.GLB.ISO_STS.RES 3))

/-- Causes, faults of the maintenance ring and of the state SRAMs, the test key (R456, R460, R461, R475): a cause of Table
17-2 acts when it comes to hold, and in SERVICE leads to RECOVERY; a dead segment is recorded; STOP_UE is counted and
raises bit 3; the key unlocks TEST, and any other value locks it and disarms every unit. Crossings (R392–R396): a bridge
with both sides out of reset becomes READY, its unread entries discarded and counted; a clock switch keeps everything;
XB_SEL shows a bridge, and CLR clears its counts. -/
def Obligations.FaultsAndCrossingsFollowTheirRules : Prop :=
  (∀ (c : Fin 5) (s : State), s.causeHolds c = true → nbit s.boot.causeSeen c = false → ∃ t, exec (.recoveryCause c) s = .next t
    ∧ t.fget F.GLB.FAB_STS.CAUSE = c ∧ (s.fabState = 1 → t.fabState = 2 ∧ t.fget F.GLB.FAB_STS.RECOVERY_CNT =
        satAdd 16 (s.fget F.GLB.FAB_STS.RECOVERY_CNT) 1 % 2 ^ 16)
    ∧ (s.fabState ≠ 1 → t.fabState = s.fabState))
  ∧ (∀ (c : Fin 5) (s : State), s.causeHolds c = true → nbit s.boot.causeSeen c = true → exec (.recoveryCause c) s = .next s)
  ∧ (∀ (n : Node) (d : Dir) (s : State), ∃ t, exec (.maintSeg n d) s = .next t ∧ tget 0 t.net.dead (n * 2 + d) = 1
    ∧ (s.fget (F.HDR.PG_ERR_FIRST.CODE .glb) = 0 → t.fget (F.HDR.PG_ERR_FIRST.CODE .glb) = 0xC4))
  ∧ (∀ (k : Stop) (wh : Fin 9) (i : Word) (s : State), ∃ t, exec (.stopUe k wh i) s = .next t ∧ s.Raised t F.STOP.SRAM_UE_CNT k
    ∧ nbit (t.fget (F.HDR.PG_INT_STS.INT .stop) k) 3 = true ∧ t.units = s.units)
  ∧ (∀ (s : State), exec (.testKeyWrite 0x00007E57) s = .next ((s.touch .glb 0).fput F.GLB.TEST_STS.UNLOCKED true))
  ∧ (∀ (w : Word) (s : State), w ≠ 0x00007E57 → ∃ t, exec (.testKeyWrite w) s = .next t ∧ t.fget F.GLB.TEST_STS.UNLOCKED = 0
    ∧ t.armedCnt = 0 ∧ t.units = s.units)
  ∧ (∀ (g : Fin 10) (i : Fin 64) (s : State) (x : XbRec), (xbKind g i).isSome = true → s.xbReady (g * 64 + i) = false → s.xbOut g i = true →
    x = tget {} s.xb (g * 64 + i) → ∃ t, exec (.bridgeResync g i) s = .next t
      ∧ tget {} t.xb (g * 64 + i) = { x with ready := 3, resync := satAdd 32 x.resync 1, drop := satAdd 32 x.drop (s.xbUnread g i) }
      ∧ t.xbUnread g i = 0
      ∧ (s.xbUnread g i ≠ 0 → s.fget (F.HDR.PG_ERR_FIRST.CODE .xb) g = 0 → t.fget (F.HDR.PG_ERR_FIRST.CODE .xb) g = 0xA1))
  ∧ (∀ (g : Fin 10) (i : Fin 64) (s : State), xbKind g i = none ∨ s.xbReady (g * 64 + i) = true ∨ s.xbOut g i = false →
    exec (.bridgeResync g i) s = .next s)
  ∧ (∀ (s : State), exec .clockSwitch s = .next s)
  ∧ (∀ (b : Fin 10) (w : Word) (s : State) (x : XbRec) (i : Nat), i = vbits w 0 6 → x = tget {} s.xb (b * 64 + i) →
    ∃ t, exec (.xbSelWrite b w) s = .next t ∧ t.fget F.XB.XB_SEL.IDX b = i ∧ t.fget F.XB.XB_STS.VALID b = 1
      ∧ t.fget F.XB.XB_STS.PRESENT b = b2n (xbKind b i).isSome
      ∧ ((xbKind b i).isSome = true → t.fget F.XB.RESYNC_CNT b = x.resync % 2 ^ 32 ∧ t.fget F.XB.DROP_CNT b = x.drop % 2 ^ 32)
      ∧ tget {} t.xb (b * 64 + i) = (if w.getLsbD 31 && (xbKind b i).isSome then { x with resync := 0, drop := 0, ovf := 0, occ := 0 } else x))

/-- Flacon commands (R370–R380): a command while one is in progress is refused with code 5 and changes nothing else; one
whose slices are in the wrong state ends with code 1; else it starts, with its first access to the store; FL_OFF and
FL_DATA reach the store while no command is in progress, and are refused while one that uses a slot is. -/
def Obligations.FlaconCommandsStartOrAreRefused : Prop :=
  (∀ (s : State), s.fbit F.GLB.FL_STS.BUSY = true → ∀ c ∈ [Instr.flSave, .flLoad, .flRebind, .flCopy, .flDrop],
    exec c s = .next ((s.touch .glb 0).fset F.GLB.FL_STS.RES 5))
  ∧ (∀ (s : State), s.fbit F.GLB.FL_STS.BUSY = false →
    (∃ t, exec .flSave s = .next t ∧
      if s.sliceState s.flSrc = 4 ∧ s.fbit F.SLICE.FRZ_TICK_HI.LATCHED s.flSrc = true then
        t.fl.op = 1 ∧ t.fl.step = 1 ∧ t.fget F.GLB.FL_STS.BUSY = 1 ∧ (t.formQ s.activeCore).length = (s.formQ s.activeCore).length + 1
      else t.fl.op = 0 ∧ t.fget F.GLB.FL_STS.BUSY = 0 ∧ t.fget F.GLB.FL_STS.DONE = 1 ∧ t.fget F.GLB.FL_STS.RES = 1)
    ∧ (∃ t, exec .flLoad s = .next t ∧
      if s.sliceState s.flTgt = 0 then
        t.fl.op = 2 ∧ t.fl.step = 1 ∧ t.fget F.GLB.FL_STS.BUSY = 1
        ∧ (t.formQ s.activeCore).length = (s.formQ s.activeCore).length + flPieces
      else t.fl.op = 0 ∧ t.fget F.GLB.FL_STS.BUSY = 0 ∧ t.fget F.GLB.FL_STS.DONE = 1 ∧ t.fget F.GLB.FL_STS.RES = 1)
    ∧ (∃ t, exec .flRebind s = .next t ∧
      if s.sliceState s.flSrc = 4 ∧ s.sliceState s.flTgt = 0 then
        t.fl.op = 3 ∧ t.fl.step = 1 ∧ t.fget F.GLB.FL_STS.BUSY = 1 ∧ t.fget F.SLICE.MSTS.BUSY s.flSrc = 1
        ∧ (t.formQ s.activeCore).length = (s.formQ s.activeCore).length + flPieces
      else t.fl.op = 0 ∧ t.fget F.GLB.FL_STS.BUSY = 0 ∧ t.fget F.GLB.FL_STS.DONE = 1 ∧ t.fget F.GLB.FL_STS.RES = 1)
    ∧ (∃ t, exec .flCopy s = .next t ∧
      if s.sliceState s.flSrc = 4 then
        t.fl.op = 4 ∧ t.fl.step = 1 ∧ t.fget F.GLB.FL_STS.BUSY = 1 ∧ (t.formQ s.activeCore).length = (s.formQ s.activeCore).length + 1
      else t.fl.op = 0 ∧ t.fget F.GLB.FL_STS.BUSY = 0 ∧ t.fget F.GLB.FL_STS.DONE = 1 ∧ t.fget F.GLB.FL_STS.RES = 1)
    ∧ (∃ t, exec .flDrop s = .next t ∧ t.fl.op = 5 ∧ t.fget F.GLB.FL_STS.BUSY = 1
      ∧ (t.formQ s.activeCore).length = (s.formQ s.activeCore).length + 1)
    ∧ ∀ w : Word,
      (∃ t, exec (.flOffWrite w) s = .next t ∧ t.fget F.GLB.FL_OFF.OFF = vbits w 2 14 ∧ t.fget F.GLB.FL_OFF.VALID = 0
        ∧ (t.formQ s.slotCore.fl.core).length = (s.formQ s.slotCore.fl.core).length + 1)
      ∧ ∃ t, exec (.flDataWrite w) s = .next t ∧ t.fget F.GLB.FL_DATA.DATA = w.toNat
        ∧ t.fget F.GLB.FL_OFF.OFF = (s.fget F.GLB.FL_OFF.OFF + 1) % 2 ^ 14 ∧ t.fget F.GLB.FL_OFF.VALID = 0
        ∧ (t.formQ s.slotCore.fl.core).length = (s.formQ s.slotCore.fl.core).length + 1)
  ∧ (∀ (w : Word) (s : State), s.fbit F.GLB.FL_STS.BUSY = true →
    exec (.flOffWrite w) s = .next ((s.touch .glb 0).pgErr .glb 0 0x234)
    ∧ (s.fl.op ≠ 4 → exec (.flDataWrite w) s = .next ((s.touch .glb 0).pgErr .glb 0 0x238)))

/-- PS_CTL writes (R399, R403, Table 15-7), one command for each value of TARGET: the fields are kept; in RUN or TRIM
without a transition the other running state starts one, and a sleep is refused by its code or starts the close with
PWR_CMD to the sector's seven stops; a write during a transition waits for its end; one that ends a close or a sleep is a
wake of code 5. -/
def Obligations.PowerTargetsStartTransitions : Prop :=
  ∀ p ∈ [(Instr.psTargetRun, 0), (Instr.psTargetTrim, 1), (Instr.psTargetDoze, 2), (Instr.psTargetOff, 3)],
  ∀ (x : Sector) (w : Word) (s : State),
  (∃ t, exec (p.1 x w) s = .next t ∧ t.fget F.PWR.PS_CTL.TARGET x = p.2 ∧ t.fget F.PWR.PS_CTL.WAKE_TO x = vbits w 2 1
    ∧ t.fget F.PWR.PS_CTL.CLOSE_TO x = vbits w 8 16 ∧ t.sectorState x = s.sectorState x)
  ∧ (s.pwrPhase x = 0 → s.sectorState x < 2 → p.2 < 2 → ∃ t, exec (p.1 x w) s = .next t ∧ t.fget F.PWR.PS_STS.RES x = 0
    ∧ (s.sectorState x = p.2 → t.pwrPhase x = 0 ∧ t.units = s.units)
    ∧ (s.sectorState x ≠ p.2 → t.pwrPhase x = 1 ∧ t.pwrTgt x = p.2))
  ∧ (s.pwrPhase x = 0 → s.sectorState x < 2 → 2 ≤ p.2 → ∃ t, exec (p.1 x w) s = .next t ∧ t.fget F.PWR.PS_STS.RES x = s.sleepRefusal x
    ∧ (s.sleepRefusal x ≠ 0 → t.pwrPhase x = 0 ∧ t.units = s.units ∧ t.net = s.net)
    ∧ (s.sleepRefusal x = 0 → t.pwrPhase x = 2 ∧ t.pwrTgt x = p.2
        ∧ tget 0 t.pwr.closeAt x = 1 + wrapAdd 48 (s.nodeTick (pwrNode x)) 1
        ∧ t.net.flight = s.net.flight ++ (sectorStops x).map (fun k =>
            msgToOne (mkCtrl 6 k (pwrNode x) [(42, 2, 0), (41, 1, 0), (25, 16, wrapAdd 48 (s.nodeTick (pwrNode x)) 1)]))))
  ∧ (s.pwrPhase x ≠ 0 → ¬(s.pwrPhase x = 2 ∧ p.2 < 2) → ∃ t, exec (p.1 x w) s = .next t ∧ tget 0 t.pwr.pendTgt x = p.2 + 1
    ∧ t.pwrPhase x = s.pwrPhase x ∧ t.net = s.net)
  ∧ (s.pwrPhase x = 2 → p.2 < 2 → s.wakeEn x 5 = true → ∃ t, exec (p.1 x w) s = .next t ∧ t.fget F.PWR.PS_STS.RES x = 5
    ∧ t.pwrPhase x = (if p.2 = s.sectorState x then 0 else 1) ∧ tget 0 t.pwr.closeAt x = 0 ∧ t.fget F.PWR.LW_REC.CODE x = 5
    ∧ t.fget F.PWR.LW_REC.CANCEL x = 1)
  ∧ (s.pwrPhase x = 0 → 2 ≤ s.sectorState x → p.2 < 2 → s.wakeEn x 5 = true → ∃ t, exec (p.1 x w) s = .next t
    ∧ t.pwrPhase x = 4 ∧ t.pwrTgt x = p.2 ∧ t.fget F.PWR.LW_REC.CODE x = 5 ∧ t.fget F.PWR.LW_REC.CANCEL x = 0)
  ∧ (s.pwrPhase x = 0 → 2 ≤ s.sectorState x → 2 ≤ p.2 → ∃ t, exec (p.1 x w) s = .next t ∧ t.fget F.PWR.PS_STS.RES x = 0
    ∧ t.pwrPhase x = (if p.2 = 3 ∧ s.sectorState x = 2 then 3 else 0))

/-- The close (R144, R403–R405): CLOSE and REOPEN act at their stop, EMPTY is gathered at the owner, entry begins when all
seven stops are empty at one boundary, and a close that lasts CLOSE_TO ticks is given up: the seven stops are told to
reopen with FRESH = 0, RES is 6 and the record 0xB3. -/
def Obligations.ClosesRunToTheirEnd : Prop :=
  (∀ c ∈ [Instr.pwrCmdClose, .pwrCmdReopen, .pwrCmdEmpty], ∀ (n : Stop) (m : Msg) (s : State), msgOk m = true →
    (vbits m 42 2 = 0 → ∃ t, exec (c n m) s = .next t
      ∧ tget 0 t.pwr.closeReq n = 1 + s.boundaryOf n (vbits m 25 16) ∧ t.regs = s.regs)
    ∧ (vbits m 42 2 = 1 → ∃ t l, exec (c n m) s = .next t ∧ t.fbit F.STOP.POOL_STS.CLOSING n = false
      ∧ tget 0 t.pwr.closeReq n = 0
      ∧ t.net.flight = (s.take n m).net.flight ++ msgToAll (mkTyped 5 63 n [(46, 2, 1), (45, 1, vbits m 41 1)]) :: l
      ∧ (vbits m 41 1 = 0 → l = []))
    ∧ (∀ old bits, vbits m 42 2 = 2 → old = tget 0 s.pwr.empty (sectorOf n) →
      bits = (if old / 256 = vbits m 25 16 then old % 256 else 0) ||| (if vbits m 41 1 = 1 then 2 ^ (msgSrc m % 7) else 0) →
      ∃ t, exec (c n m) s = .next t
      ∧ (if s.pwrPhase (sectorOf n) = 2 ∧ bits % 128 = 127 then t.pwrPhase (sectorOf n) = 3 ∧ tget 0 t.pwr.empty (sectorOf n) = 0
         else tget 0 t.pwr.empty (sectorOf n) = 256 * vbits m 25 16 + bits ∧ t.regs = s.regs)))
  ∧ (∀ (x : Sector) (s : State), s.pwrPhase x = 2 → tget 0 s.pwr.empty x % 128 = 127 → ∃ t, exec (.sectorEmpty x) s = .next t
    ∧ t.pwrPhase x = 3 ∧ t.fget F.PWR.PS_STS.STEP x = 0 ∧ t.pwrTgt x = s.pwrTgt x ∧ tget 0 t.pwr.closeAt x = 0
    ∧ tget 0 t.pwr.trStart x = s.nodeTick (pwrNode x) ∧ t.sectorState x = s.sectorState x)
  ∧ (∀ (x : Sector) (s : State), ¬(s.pwrPhase x = 2 ∧ tget 0 s.pwr.empty x % 128 = 127) → exec (.sectorEmpty x) s = .next s)
  ∧ (∀ (x : Sector) (s : State) (b p : Nat), s.pwrPhase x = 2 → tget 0 s.pwr.closeAt x = b + 1 →
    tickPast (s.nodeTick (pwrNode x)) b (max 1 (s.fget F.PWR.PS_CTL.CLOSE_TO x)) = true → s.sectorState x < 2 →
    tget 0 s.pwr.pendTgt x = p + 1 → 2 ≤ p → s.sleepRefusal x = 0 → ∃ t, exec (.closeTimeout x) s = .next t
    ∧ t.pwrPhase x = 2 ∧ t.pwrTgt x = p ∧ tget 0 t.pwr.pendTgt x = 0 ∧ t.sectorState x = s.sectorState x)
  ∧ (∀ (x : Sector) (s : State) (b : Nat), s.pwrPhase x = 2 → tget 0 s.pwr.closeAt x = b + 1 → tget 0 s.pwr.pendTgt x = 0 →
    tickPast (s.nodeTick (pwrNode x)) b (max 1 (s.fget F.PWR.PS_CTL.CLOSE_TO x)) = true → ∃ t, exec (.closeTimeout x) s = .next t
    ∧ t.pwrPhase x = 0 ∧ t.fget F.PWR.PS_STS.RES x = 6 ∧ tget 0 t.pwr.closeAt x = 0 ∧ t.sectorState x = s.sectorState x
    ∧ ((sectorStops x).map (fun k => mkCtrl 6 k (pwrNode x) [(42, 2, 1), (41, 1, 0), (25, 16, s.nodeTick (pwrNode x))])).map
        msgToOne <:+ t.net.flight.drop s.net.flight.length
    ∧ (s.fget (F.HDR.PG_ERR_FIRST.CODE .pwr) x = 0 → t.fget (F.HDR.PG_ERR_FIRST.CODE .pwr) x = 0xB3
        ∧ t.fget (F.HDR.PG_ERR_INFO1.INFO1 .pwr) x = s.fget F.PWR.PS_CTL.TARGET x % 2 ^ 32))
  ∧ (∀ (x : Sector) (s : State) (b : Nat), s.pwrPhase x = 2 → tget 0 s.pwr.closeAt x = b + 1 →
    tickPast (s.nodeTick (pwrNode x)) b (max 1 (s.fget F.PWR.PS_CTL.CLOSE_TO x)) = false → exec (.closeTimeout x) s = .next s)
  ∧ (∀ (x : Sector) (s : State), s.pwrPhase x ≠ 2 → exec (.closeTimeout x) s = .next s)

/-- Wake sources (R406–R411, Table 15-4): each raises a wake event of its code once its own condition holds; an event that
is not enabled, or finds the sector in RUN or TRIM at rest, does nothing; one in a sleeping sector starts the wake with
its record and its count; one during a close gives it up with RES 5; one during an entry is latched; one during a wake
counts. -/
def Obligations.WakeEventsWakeTheSector : Prop :=
  (∀ (x : Sector) (s : State) (src : Nat), s.demandOf x = some src → exec (.wakeDemand x) s = .next (s.wakeEvent x 0 src 0 (s.wakeTo x)))
  ∧ (∀ (x : Sector) (s : State), s.demandOf x = none → exec (.wakeDemand x) s = .next s)
  ∧ (∀ (x : Sector) (ch : Fin 32) (s : State), exec (.wakeSigdet x ch) s = .next (
      if nbit (s.fget F.PWR.SIG_EN x) ch && !s.blanked x (8 + ch) then
        s.wakeEvent x 1 ch (s.fget F.PWR.SIG_THR.THR x (ch / 8)) (s.wakeTo x) else s))
  ∧ (∀ (x : Sector) (c : Fin 2) (s : State), exec (.wakeSupply x c) s = .next (
      if s.fbit F.PWR.CMP_SUP.SUP_EN x c && !s.blanked x c then s.wakeEvent x 2 c (s.fget F.PWR.CMP_SUP.SUP_THR x c) (s.wakeTo x) else s))
  ∧ (∀ (x : Sector) (c : Fin 4) (s : State), exec (.wakeTherm x c) s = .next (
      if s.fbit F.PWR.CMP_THM.THM_EN x c && !s.blanked x (2 + c) then
        s.wakeEvent x 3 c (s.fget F.PWR.CMP_THM.THM_THR x c) (s.wakeTo x) else s))
  ∧ (∀ (x : Sector) (s : State), exec (.wakeTimer x) s = .next (
      if atOrAfter 48 (s.nodeTick (pwrNode x)) (s.wide F.PWR.WAKE_AT_LO.AT_LO F.PWR.WAKE_AT_HI.AT_HI x) then
        s.wakeEvent x 4 0 0 (s.wakeTo x) else s))
  ∧ (∀ (x : Sector) (s : State), exec (.wakePair x) s = .next (s.wakeEvent x 6 0 0 (s.wakeTo x)))
  ∧ (∀ (x : Sector) (code : Fin 7) (chan thr : Fin 64) (toward : Fin 2) (s : State),
      (s.wakeEn x code = false ∨ (s.sectorState x < 2 ∧ s.pwrPhase x < 2) → s.wakeEvent x code chan thr toward = s)
      ∧ (s.wakeEn x code = true → 2 ≤ s.sectorState x → s.pwrPhase x = 0 → ∃ t, s.wakeEvent x code chan thr toward = t
        ∧ t.pwrPhase x = 4 ∧ t.pwrTgt x = toward ∧ t.fget F.PWR.LW_REC.VALID x = 1 ∧ t.fget F.PWR.LW_REC.CODE x = code
        ∧ t.fget F.PWR.LW_REC.FROM x = s.sectorState x % 4 ∧ t.fget F.PWR.LW_REC.CHAN x = chan ∧ t.fget F.PWR.LW_REC.THR x = thr
        ∧ t.fget F.PWR.LW_REC.CANCEL x = 0 ∧ tget 0 t.pwr.svokLow x = 1
        ∧ t.fget F.PWR.WAKE_CNT x code = satAdd F.PWR.WAKE_CNT.width (s.fget F.PWR.WAKE_CNT x code) 1 % 2 ^ F.PWR.WAKE_CNT.width
        ∧ (code.val = 4 → t.fget F.PWR.WAKE_EN.TIMER x = 0))
      ∧ (s.wakeEn x code = true → s.pwrPhase x = 2 → code.val ≠ 5 → tget 0 s.pwr.pendTgt x = 0 → ∃ t, s.wakeEvent x code chan thr toward = t
        ∧ t.pwrPhase x = 0 ∧ t.fget F.PWR.PS_STS.RES x = 5 ∧ t.fget F.PWR.LW_REC.CANCEL x = 1 ∧ tget 0 t.pwr.closeAt x = 0)
      ∧ (s.wakeEn x code = true → s.pwrPhase x = 3 → 0 < s.fget F.PWR.PS_STS.STEP x → tget 0 s.pwr.latch x = 0 →
        ∃ t, s.wakeEvent x code chan thr toward = t ∧ tget 0 t.pwr.latch x = 1 + code + 8 * chan + 512 * thr + 32768 * toward
          ∧ t.pwrPhase x = 3)
      ∧ (s.wakeEn x code = true → s.pwrPhase x = 4 → ∃ t, s.wakeEvent x code chan thr toward = t ∧ t.pwrPhase x = 4
          ∧ t.fget F.PWR.LW_REC.CODE x = s.fget F.PWR.LW_REC.CODE x
          ∧ t.fget F.PWR.WAKE_CNT x code = satAdd F.PWR.WAKE_CNT.width (s.fget F.PWR.WAKE_CNT x code) 1 % 2 ^ F.PWR.WAKE_CNT.width))

/-- Ends of transitions, supply faults, the spine's and the cores' power, and the governor (R399, R400, R408, R412–R418):
a transition whose steps are all made sets STATE and returns PHASE to 0; a supply fault takes the sector to OFF with its
count and cause; SPINE_PWR refuses TRIM while HOLD_DIV is above 550; LSG_SET gives a stop its cap and ballast level; each
governor interval starts the next one's counts. -/
def Obligations.TransitionsAndTheGovernorTakeEffect : Prop :=
  (∀ (x : Sector) (s : State), s.trComplete x = true → tget 0 s.pwr.latch x = 0 → tget 0 s.pwr.pendTgt x = 0 →
    ∃ t, exec (.transitionDone x) s = .next t ∧ t.sectorState x = s.pwrTgt x % 4 ∧ t.pwrPhase x = 0
      ∧ t.fget F.PWR.TR_STS.TR_US x = min (wrapSub 48 (s.nodeTick (pwrNode x)) (tget 0 s.pwr.trStart x) / 2) 65535)
  ∧ (∀ (x : Sector) (s : State), s.trComplete x = false → exec (.transitionDone x) s = .next s)
  ∧ (∀ (x : Sector) (s : State), exec (.svokAsserted x) s = .next { s with pwr := { s.pwr with svokLow := tset 0 s.pwr.svokLow x 0 } })
  ∧ (∀ (x : Sector) (s : State), (s.pwrPhase x = 4 ∨ (s.pwrPhase x = 1 ∧ s.pwrTgt x = 0)) → tget 0 s.pwr.svokLow x = 1 →
    ∃ t, exec (.svokTimeout x) s = .next t ∧ t.sectorState x = 3 ∧ t.pwrPhase x = 0 ∧ s.Raised t F.PWR.PWR_FAULT_CNT x
      ∧ nbit (t.fget (F.HDR.PG_INT_STS.INT .pwr) x) 0 = true ∧ t.pwr.why = some 0)
  ∧ (∀ (x : Sector) (s : State), tget 0 s.pwr.svokLow x = 0 → exec (.svokTimeout x) s = .next s)
  ∧ (∀ (x : Sector) (s : State), s.sectorState x < 3 → ∃ t, exec (.svokLost x) s = .next t ∧ t.sectorState x = 3 ∧ t.pwrPhase x = 0
      ∧ s.Raised t F.PWR.PWR_FAULT_CNT x ∧ nbit (t.fget (F.HDR.PG_INT_STS.INT .pwr) x) 0 = true
      ∧ (s.fget (F.HDR.PG_ERR_FIRST.CODE .pwr) x = 0 → t.fget (F.HDR.PG_ERR_FIRST.CODE .pwr) x = 0xB1))
  ∧ (∀ (x : Sector) (s : State), s.sectorState x = 3 →
    exec (.svokLost x) s = .next { s with pwr := { s.pwr with svokLow := tset 0 s.pwr.svokLow x 1 } })
  ∧ (∀ (w : Word) (s : State), vbits w 0 1 = 1 → 550 < s.fget F.TICK.HOLD_DIV →
    exec (.spinePwrWrite w) s = .next ((s.touch .glb 0).fput F.GLB.SPINE_PWR.REFUSED true))
  ∧ (∀ (w : Word) (s : State), ¬(vbits w 0 1 = 1 ∧ 550 < s.fget F.TICK.HOLD_DIV) → ∃ t, exec (.spinePwrWrite w) s = .next t
      ∧ t.fget F.GLB.SPINE_PWR.TARGET = vbits w 0 1 ∧ t.fget F.GLB.SPINE_PWR.REFUSED = 0
      ∧ t.fget F.GLB.SPINE_PWR.BUSY = (if vbits w 0 1 = s.fget F.GLB.SPINE_PWR.STATE then 0 else 1) ∧ t.units = s.units)
  ∧ (∀ (w : Word) (s : State), ∃ t, exec (.corePwrWrite w) s = .next t ∧ t.fget F.GLB.CORE_PWR.TARGET = vbits w 0 1
      ∧ t.fget F.GLB.CORE_PWR.BUSY = (if vbits w 0 1 = s.fget F.GLB.CORE_PWR.STATE then 0 else 1) ∧ t.units = s.units)
  ∧ (∀ (n : Stop) (m : Msg) (s : State), msgOk m = true → ∃ t, exec (.lsgSet n m) s = .next t
      ∧ tget 16 t.pwr.cap n = vbits m 39 5 ∧ tget 0 t.pwr.ball n = vbits m 34 5 ∧ t.regs = s.regs)
  ∧ (∀ (s : State), ∃ t, exec .governorInterval s = .next t ∧ t.pwr.interval = s.pwr.interval + 1 ∧ t.pwr.why = none
      ∧ t.pwr.used = [] ∧ t.pwr.slots = [] ∧ t.pwr.demand = []
      ∧ (s.fbit F.GLB.LSG_CFG.EN = false → t.fget F.GLB.LSG_STS.LIMITING = 0 ∧ t.pwr.gcap = [] ∧ t.pwr.gball = []))

/-- Link events (R247–R249, R255, R256, Table 9-4): PAUSE, RESUME, DOWN, RETURN_KEPT and RETURN_FRESH as each link state
takes them, with the counts, the LINK_NOTICE operation and the discards of the table; notices are noted once by NN and
apply at the receiver's boundary; event codes 5 to 7 are only counted. -/
def Obligations.LinkEventsFollowTheirTable : Prop :=
  (∀ c ∈ [Instr.pause, .resume, .down, .returnKept, .returnFresh], ∀ (k : Stop) (l : Link) (s : State),
    (s.serves k = false → exec (c k l) s = .next s)
    ∧ (s.serves k = true → s.present k l = false → exec (c k l) s = .next (s.rcInc F.STOP.LCI_PROTO_CNT k))
    ∧ (s.present k l = true → tget 0 s.boot.lciRun (s.portName k) = 0 → exec (c k l) s = .next (s.rcInc F.STOP.LCI_PROTO_CNT k)))
  ∧ (∀ (k : Stop) (l : Link) (s : State), s.present k l = true → tget 0 s.boot.lciRun (s.portName k) ≠ 0 →
    (s.linkState k l = 1 → ∃ t, exec (.pause k l) s = .next t ∧ t.linkState k l = 2 ∧ s.Raised t F.STOP.PAUSE_CNT k
      ∧ tget 0 t.port.paused (linkKey k l) = s.nodeTick k + 1)
    ∧ (s.linkState k l = 2 → exec (.pause k l) s = .next s)
    ∧ (s.linkState k l = 2 → ∃ t, exec (.resume k l) s = .next t ∧ t.linkState k l = 1 ∧ tget 0 t.port.paused (linkKey k l) = 0)
    ∧ (s.linkState k l = 1 → exec (.resume k l) s = .next (s.rcInc F.STOP.LCI_PROTO_CNT k))
    ∧ (s.linkState k l = 0 → ∀ c ∈ [Instr.pause, .resume], ∃ t, exec (c k l) s = .next t ∧ t.linkState k l = 0
        ∧ s.Raised t F.STOP.LCI_PROTO_CNT k
        ∧ (s.fget (F.HDR.PG_ERR_FIRST.CODE .stop) k = 0 → t.fget (F.HDR.PG_ERR_FIRST.CODE .stop) k = 0x53))
    ∧ (s.linkState k l = 0 → exec (.down k l) s = .next s)
    ∧ (∀ nn, s.linkState k l = 1 ∨ s.linkState k l = 2 →
        nn = (if s.fget F.STOP.LINK_STS.NN k l = 255 then 1 else s.fget F.STOP.LINK_STS.NN k l + 1) →
        ∃ t, exec (.down k l) s = .next t ∧ t.linkState k l = 0 ∧ s.Raised t F.STOP.LINK_DOWN_CNT k
        ∧ t.fget F.STOP.LINK_STS.NN k l = nn % 256
        ∧ (s.modeNow k = 1 → tget none t.port.notice (linkKey k l) = some ⟨0, nn, 3⟩ ∧ t.inSpill k l 0 = true ∧ t.inSpill k l 1 = true
            ∧ t.fbit F.STOP.LINK_STS.HOLDING k l = true)
        ∧ (s.modeNow k ≠ 1 → tget none t.port.notice (linkKey k l) = some ⟨3, nn, 3⟩ ∧ t.spill k l = [] ∧ t.deferred k l = []
            ∧ t.linkLock k l = none ∧ ∀ q : Fin 3, t.egr k l q = []))
    ∧ (∀ nn, s.linkState k l = 0 →
        nn = (if s.fget F.STOP.LINK_STS.NN k l = 255 then 1 else s.fget F.STOP.LINK_STS.NN k l + 1) →
        (∃ t, exec (.returnKept k l) s = .next t ∧ t.linkState k l = 1 ∧ t.fget F.STOP.LINK_STS.LAST_RET k l = 1
          ∧ tget none t.port.notice (linkKey k l) = some ⟨1, nn, 3⟩ ∧ t.spill k l = s.spill k l ∧ t.ord.egr = s.ord.egr)
        ∧ (∃ t, exec (.returnFresh k l) s = .next t ∧ t.linkState k l = 1 ∧ t.fget F.STOP.LINK_STS.LAST_RET k l = 2
          ∧ tget none t.port.notice (linkKey k l) = some ⟨2, nn, 3⟩ ∧ t.spill k l = [] ∧ ∀ q : Fin 3, t.egr k l q = []))
    ∧ (s.linkState k l = 1 → exec (.returnKept k l) s = .next (s.rcInc F.STOP.LCI_PROTO_CNT k))
    ∧ (s.linkState k l = 2 → ∃ t, exec (.returnKept k l) s = .next t ∧ t.linkState k l = 1 ∧ t.fget F.STOP.LINK_STS.LAST_RET k l = 1
        ∧ s.Raised t F.STOP.LCI_PROTO_CNT k ∧ t.port.notice = s.port.notice)
    ∧ (s.linkState k l = 1 ∨ s.linkState k l = 2 → ∃ t, exec (.returnFresh k l) s = .next t ∧ t.linkState k l = 1
        ∧ t.fget F.STOP.LINK_STS.LAST_RET k l = 2 ∧ s.Raised t F.STOP.LCI_PROTO_CNT k ∧ s.Raised t F.STOP.LINK_DOWN_CNT k
        ∧ t.spill k l = [] ∧ ∀ q : Fin 3, t.egr k l q = []))
  ∧ (∀ (k : Stop) (l : Link) (s : State), exec (.lciEvCodeUndefined k l) s =
      .next (if s.serves k then s.rcInc F.STOP.LCI_PROTO_CNT k else s))
  ∧ (∀ (n : Stop) (m : Msg) (s : State) (key : Nat), msgOk m = true → key = n * 256 + noticePort m * 4 + noticeLink m →
    (tget 0 s.port.applied key = noticeNn m → exec (.linkNotice n m) s = .next (s.take n m))
    ∧ (tget 0 s.port.applied key ≠ noticeNn m → ∃ t, exec (.linkNotice n m) s = .next t
      ∧ tget none t.port.arrived key = (match tget none s.port.arrived key with
        | none => some (noticeOp m, noticeNn m)
        | some o => some (if nnLater (noticeNn m) o.2 then (noticeOp m, noticeNn m) else o))
      ∧ t.regs = s.regs ∧ t.ord = s.ord))
  ∧ (∀ (n : Stop) (p : Fin 64) (l : Link) (op : Fin 4) (nn : Fin 256) (s : State) (key : Nat), key = n * 256 + p * 4 + l →
    s.port.arrived = [(key, some (op.val, nn.val))] → ∃ t, exec (.linkNoticeApply n) s = .next t
      ∧ tget 0 t.port.applied key = nn ∧ tget none t.port.arrived key = none
      ∧ tget 0 t.ord.tgt key = (if op.val = 0 then 1 else if op.val = 3 then 2 else 0)
      ∧ (∀ (i : TagNo) (x : TagRec), s.tagsOf n = [(i.val, x)] → s.tag n i = x → x.egStop = p → x.egLink = l →
        (op.val = 0 → x.st = 1 → (t.tag n i).st = 2
          ∧ (t.tag n i).remain = (if atOrAfter 48 x.deadline (s.nodeTick n) then wrapSub 48 x.deadline (s.nodeTick n) else 0))
        ∧ (op.val = 1 → x.st = 2 → (t.tag n i).st = 1 ∧ (t.tag n i).deadline = wrapAdd 48 (s.nodeTick n) x.remain)))
  ∧ (∀ (n : Stop) (s : State), s.port.arrived = [] → exec (.linkNoticeApply n) s = .next s)

/-- Port modes and the link watch (R244–R246): a PORT_MODE write keeps the mode for the next boundary, SERVICE only in
fabric SERVICE and TEST only unlocked; the change then moves MODE_NOW and what Table 9-4 gives to links that are DOWN; an
episode that has lasted WATCH ticks is counted and recorded once. -/
def Obligations.PortModesAndTheLinkWatch : Prop :=
  (∀ (k : Stop) (w : Word) (s : State), isPortStop k = false → exec (.portModeWrite k w) s = .next (s.touch .stop k))
  ∧ (∀ (k : Stop) (w : Word) (s : State) (m : Nat), isPortStop k = true → m = vbits w 0 2 →
    ((m = 1 ∧ s.fabState ≠ 1) ∨ (m = 2 ∧ s.fbit F.GLB.TEST_STS.UNLOCKED = false) →
      exec (.portModeWrite k w) s = .next ((s.touch .stop k).pgErr .stop k 0x504))
    ∧ (¬((m = 1 ∧ s.fabState ≠ 1) ∨ (m = 2 ∧ s.fbit F.GLB.TEST_STS.UNLOCKED = false)) → ∃ t, exec (.portModeWrite k w) s = .next t
      ∧ t.fget F.STOP.PORT_MODE.MODE k = m ∧ tget 0 t.boot.modeNext k = m + 1 ∧ t.modeNow k = s.modeNow k))
  ∧ (∀ (k : Stop) (s : State), tget 0 s.boot.modeNext k = 0 → exec (.portModeChange k) s = .next s)
  ∧ (∀ (k : Stop) (s : State) (v : Fin 4) (toward : Nat), tget 0 s.boot.modeNext k = v + 1 →
    toward = (if s.fabState = 0 then 0 else if s.fabState = 2 ∧ v.val = 1 then 3 else v.val) → ∃ t, exec (.portModeChange k) s = .next t
      ∧ t.modeNow k = toward ∧ tget 0 t.boot.modeNext k = 0
      ∧ (toward = s.modeNow k → t.regs = s.regs ∧ t.net = s.net)
      ∧ (toward ≠ s.modeNow k → ∀ l : Link, s.present k l = true →
          t.linkState k l = s.linkState k l
          ∧ (s.linkState k l = 0 → toward = 1 → t.fbit F.STOP.LINK_STS.HOLDING k l = true ∧ t.inSpill k l 0 = true ∧ t.inSpill k l 1 = true)
          ∧ (s.linkState k l = 0 → s.modeNow k = 1 → t.fbit F.STOP.LINK_STS.HOLDING k l = false ∧ t.spill k l = [])))
  ∧ (∀ (k : Stop) (l : Link) (s : State) (w b : Nat), w = s.eff k (3 + l) → w ≠ 0 → tget 0 s.port.told (linkKey k l) = 0 →
    (tget 0 s.port.paused (linkKey k l) = b + 1 ∨
      (tget 0 s.port.paused (linkKey k l) = 0 ∧ tget 0 s.port.stuck (linkKey k l) = b + 1 ∧ s.linkBusy k l = true)) →
    tickPast (s.nodeTick k) b w = true → ∃ t, exec (.linkWatch k l) s = .next t ∧ tget 0 t.port.told (linkKey k l) = 1
      ∧ s.Raised t F.STOP.WATCH_CNT k ∧ nbit (t.fget (F.HDR.PG_INT_STS.INT .stop) k) 0 = true
      ∧ (s.fget (F.HDR.PG_ERR_FIRST.CODE .stop) k = 0 → t.fget (F.HDR.PG_ERR_FIRST.CODE .stop) k = 0x56))
  ∧ (∀ (k : Stop) (l : Link) (s : State), s.eff k (3 + l) = 0 ∨ tget 0 s.port.told (linkKey k l) = 1 ∨
      (tget 0 s.port.paused (linkKey k l) = 0 ∧ tget 0 s.port.stuck (linkKey k l) = 0) → exec (.linkWatch k l) s = .next s)

/-- The spare port stop (R262–R266): SPARE_CTL is refused with its CLAIM_RES code, or the claim is taken: REPAIR waits for
a boundary when a TEST claim stands, GO starts the switch, a claim NONE with GO returns the socket. A write while a switch
is under way, or on a serving spare, is refused with code 1: the model's choice (assumption 35). -/
def Obligations.SpareClaimsAreTakenOrRefused : Prop :=
  (∀ (k : Stop) (sock : Fin 4) (f : Bool) (s : State),
    ∀ c ∈ [Instr.spareClaimRepair k sock f, .spareClaimTest k, .spareGo k sock f, .spareReturn k f],
    (isSpareStop k = false → exec c s = .next ((s.touch .stop k).spareRefuse k 3))
    ∧ (isSpareStop k = true → s.fget F.STOP.SPARE_CTL.PHASE k ≠ 0 → exec c s = .next ((s.touch .stop k).spareRefuse k 1))
    ∧ (isSpareStop k = true → s.fget F.STOP.SPARE_CTL.PHASE k = 0 → s.spareServes k = true → c ≠ .spareReturn k f →
        exec c s = .next ((s.touch .stop k).spareRefuse k 1)))
  ∧ (∀ (k : Stop) (f : Bool) (s : State), isSpareStop k = true → s.fget F.STOP.SPARE_CTL.PHASE k = 0 →
    (s.spareServes k = true → f = false → s.socketSpilled k = true →
        exec (.spareReturn k f) s = .next ((s.touch .stop k).spareRefuse k 2))
    ∧ (s.spareServes k = true → f = true ∨ s.socketSpilled k = false → ∃ t, exec (.spareReturn k f) s = .next t
      ∧ t.fget F.STOP.SPARE_CTL.PHASE k = (if f then 2 else 1)
      ∧ t.fget F.STOP.SPARE_CTL.GO k = 1 ∧ t.fget F.STOP.SPARE_CTL.CLAIM_RES k = 0 ∧ tget 0 t.boot.spareBack k = 1)
    ∧ (s.spareServes k = false → exec (.spareReturn k f) s = .next ((s.touch .stop k).spareRefuse k 1)))
  ∧ (∀ (k : Stop) (s : State), isSpareStop k = true → s.fget F.STOP.SPARE_CTL.PHASE k = 0 → s.spareServes k = false →
    (s.fget F.STOP.SPARE_CTL.CLAIM k = 1 → exec (.spareClaimTest k) s = .next ((s.touch .stop k).spareRefuse k 1))
    ∧ (s.fget F.STOP.SPARE_CTL.CLAIM k ≠ 1 → ∃ t, exec (.spareClaimTest k) s = .next t ∧ t.fget F.STOP.SPARE_CTL.CLAIM k = 2
      ∧ t.fget F.STOP.SPARE_CTL.CLAIM_RES k = 0 ∧ t.units = s.units))
  ∧ (∀ (k : Stop) (sock : Fin 4) (f : Bool) (s : State), isSpareStop k = true → s.fget F.STOP.SPARE_CTL.PHASE k = 0 →
    s.spareServes k = false →
    (s.fget F.STOP.SPARE_CTL.CLAIM k = 2 → ∃ t, exec (.spareClaimRepair k sock f) s = .next t
        ∧ tget none t.boot.claimNext k = some (1 + 4 * sock.val + 16 * b2n f) ∧ t.fget F.STOP.SPARE_CTL.CLAIM k = 2
        ∧ t.fget F.STOP.SPARE_CTL.CLAIM_RES k = 0)
    ∧ (s.fget F.STOP.SPARE_CTL.CLAIM k ≠ 2 → ∃ t, exec (.spareClaimRepair k sock f) s = .next t ∧ t.fget F.STOP.SPARE_CTL.CLAIM k = 1
        ∧ t.fget F.STOP.SPARE_CTL.SOCKET k = sock ∧ t.fget F.STOP.SPARE_CTL.FORCED k = b2n f ∧ t.fget F.STOP.SPARE_CTL.CLAIM_RES k = 0
        ∧ t.fget F.STOP.SPARE_CTL.PHASE k = 0 ∧ t.units = s.units)
    ∧ (f = false → s.socketSpilled (7 * sectorOf k + sock) = true → exec (.spareGo k sock f) s = .next ((s.touch .stop k).spareRefuse k 2))
    ∧ (f = true ∨ s.socketSpilled (7 * sectorOf k + sock) = false → s.fget F.STOP.SPARE_CTL.CLAIM k ≠ 2 →
        ∃ t, exec (.spareGo k sock f) s = .next t ∧ t.fget F.STOP.SPARE_CTL.CLAIM k = 1 ∧ t.fget F.STOP.SPARE_CTL.SOCKET k = sock
        ∧ t.fget F.STOP.SPARE_CTL.PHASE k = (if f then 2 else 1) ∧ t.fget F.STOP.SPARE_CTL.GO k = 1 ∧ tget 0 t.boot.spareBack k = 0))

/-- The receive side of a port (R233–R243): a TLP enters its part in order while the part has units for it, and is
discarded, counted and rejected when it has not; the head of a part waits, is admitted to be formed, is rejected with its
count, or ends at the port, and leaves its part unless it waits. -/
def Obligations.ReceivedTlpsAreCheckedInOrder : Prop :=
  (∀ (k : Stop) (l : Link) (x : Tlp) (s : State), s.serves k = false ∨ s.xbReady (lciBridge (s.socketOf k) l) = false →
    exec (.tlpReceived k l x) s = .next s)
  ∧ (∀ (k : Stop) (l : Link) (x : Tlp) (s : State), s.serves k = true → s.xbReady (lciBridge (s.socketOf k) l) = true →
    (s.present k l = false → exec (.tlpReceived k l x) s = .next (s.rcInc F.STOP.LCI_PROTO_CNT k))
    ∧ (s.present k l = true → s.linkState k l = 0 → ∃ t, exec (.tlpReceived k l x) s = .next t ∧ s.Raised t F.STOP.LCI_PROTO_CNT k
      ∧ t.port = s.port ∧ (s.fget (F.HDR.PG_ERR_FIRST.CODE .stop) k = 0 → t.fget (F.HDR.PG_ERR_FIRST.CODE .stop) k = 0x53))
    ∧ (∀ p, s.present k l = true → s.linkState k l ≠ 0 → tget none s.port.held (lciUnit k l 0) = none →
      s.modeNow k ≠ 2 ∨ s.fif F.FI.FI_CTL.ARM 1 (lciUnit k l 0) ≠ 1 → p = partOf x.head.kind → ∃ t, exec (.tlpReceived k l x) s = .next t
      ∧ (if unitsOf x ≤ s.rxFree k l p then t.rx k l p = s.rx k l p ++ [{ tlp := x, inj := false }]
         else t.rx k l p = s.rx k l p ∧ s.Raised t F.STOP.LCI_OVR_CNT k ∧ s.Raised t F.STOP.ING_REJ_CNT k
          ∧ (s.fget (F.HDR.PG_ERR_FIRST.CODE .stop) k = 0 → t.fget (F.HDR.PG_ERR_FIRST.CODE .stop) k = 0x52))))
  ∧ (∀ (k : Stop) (l : Link) (p : Fin 3) (s : State), s.present k l = false ∨ s.lanePend k l p ≠ [] →
    exec (.ingressCheck k l p) s = .next s)
  ∧ (∀ (k : Stop) (l : Link) (p : Fin 3) (s u : State), s.present k l = true → s.lanePend k l p = [] →
    p.val = 2 ∨ s.leavingPhase k = 0 ∨ 4 ≤ s.leavingPhase k → u = s.lookAll k l p →
    (u.rx k l p = [] → exec (.ingressCheck k l p) s = .next u)
    ∧ (∀ x rest, u.rx k l p = x :: rest →
      (u.verdict k l x = .wait → exec (.ingressCheck k l p) s = .next u)
      ∧ (u.verdict k l x ≠ .wait → ∃ t, exec (.ingressCheck k l p) s = .next t ∧ t.rx k l p = rest
        ∧ (∀ r g, u.verdict k l x = .accept r g → t.formQ k = u.formQ k ++ [r])
        ∧ (∀ why g miss, u.verdict k l x = .reject why g miss → u.Raised t F.STOP.ING_REJ_CNT k
            ∧ (miss = true → u.Raised t F.STOP.WIN_MISS_CNT k))
        ∧ (u.verdict k l x = .error → u.Raised t F.STOP.POST_REJ_CNT k)
        ∧ (u.verdict k l x = .consumed → t.units = { u.units with port := t.port }))))

/-- The transmit side of a port (R241, R242, R250–R261, R477): the controller's credits and stall are taken as given; a P
head that has waited P_AGE puts its queue in spill; landed read-backs are taken and the next asked for while the link is
UP; a semaphore held too long is released with an Unlock; an emulation's read leads to its write, or ends it; a TLP held
back FI_DLY ticks goes on. -/
def Obligations.TransmitSideFollowsItsRules : Prop :=
  (∀ (k : Stop) (l : Link) (p : Fin 3) (n : BitVec 16) (s : State), exec (.txCreditUpdate k l p n) s =
    .next { s with port := { s.port with cred := tset 0 s.port.cred (partKey k l p) n.toNat } })
  ∧ (∀ (k : Stop) (l : Link) (v : Bool) (s : State), exec (.stallChange k l v) s =
    .next { s with port := { s.port with stall := tset 0 s.port.stall (linkKey k l) (b2n v) } })
  ∧ (∀ (k : Stop) (l : Link) (s : State), s.egr k l 0 = [] ∨ s.present k l = false ∨ s.linkState k l = 0 ∨ s.eff k 1 = 0 ∨ s.inSpill k l 0 = true →
    exec (.spillAge k l) s = .next s)
  ∧ (∀ (k : Stop) (l : Link) (s : State) (x : Egr) (rest : List Egr), s.egr k l 0 = x :: rest → s.present k l = true →
    s.linkState k l ≠ 0 → s.eff k 1 ≠ 0 → s.inSpill k l 0 = false →
    (tickPast (s.nodeTick k) x.tick (s.eff k 1) = false → exec (.spillAge k l) s = .next s)
    ∧ (tickPast (s.nodeTick k) x.tick (s.eff k 1) = true → ∃ t, exec (.spillAge k l) s = .next t ∧ t.inSpill k l 0 = true
      ∧ t.fbit F.STOP.LINK_STS.HOLDING k l = true
      ∧ (rest = [] → s.egr k l 1 = [] → s.spill k l = [] → 0 < s.spillCap k l 0 → t.egr k l 0 = [] ∧ (t.spill k l).length = 1
          ∧ s.Raised t F.STOP.SPILL_FLIT_CNT k)))
  ∧ (∀ (k : Stop) (l : Link) (s : State), tget [] s.ord.rdDone k = [] → s.present k l = false ∨ s.linkState k l ≠ 1 →
    exec (.spillReadback k l) s = .next s)
  ∧ (∀ (k : Stop) (l : Link) (s : State) (e : SpillEnt), tget [] s.ord.rdDone k = [] → s.present k l = true → s.linkState k l = 1 →
    s.spill k l = [e] → e.st = 0 → ∃ t r, exec (.spillReadback k l) s = .next t ∧ t.spill k l = [{ e with st := 1 }]
      ∧ t.formQ k = s.formQ k ++ [r] ∧ r.hdr.opc = opMRD ∧ r.left = 192)
  ∧ (∀ (k : Stop) (l : Link) (s : State) (e : SpillEnt) (r : RdDone), tget [] s.ord.rdDone k = [r] →
    r.use = .spill (spillNum l e.stamp) → s.spill k l = [e] → e.st = 1 → s.linkState k l ≠ 1 →
    ∃ t, exec (.spillReadback k l) s = .next t ∧ t.spill k l = [{ e with st := 2, flit := some (spillFlit r) }]
      ∧ tget [] t.ord.rdDone k = [])
  ∧ (∀ (k : Stop) (l : Link) (s : State), s.linkLock k l = none → exec (.lockTimeout k l) s = .next s)
  ∧ (∀ (k : Stop) (l : Link) (s : State) (o : Lock), s.linkLock k l = some o →
    (tickPast (s.nodeTick k) o.since (s.eff k 2) = false → exec (.lockTimeout k l) s = .next s)
    ∧ (tickPast (s.nodeTick k) o.since (s.eff k 2) = true → ∃ t x, exec (.lockTimeout k l) s = .next t
      ∧ s.Raised t F.STOP.LOCK_TO_CNT k ∧ t.linkLock k l = none ∧ t.deferred k l = [] ∧ t.egr k l 1 = s.deferred k l ++ s.egr k l 1
      ∧ t.fget F.STOP.LINK_STS.LOCKED k l = 0 ∧ t.egr k l 0 = s.egr k l 0 ++ [x] ∧ x.flit.opc = opUNLOCK
      ∧ (s.fget (F.HDR.PG_ERR_FIRST.CODE .stop) k = 0 → t.fget (F.HDR.PG_ERR_FIRST.CODE .stop) k = 0x55)))
  ∧ (∀ (k : Stop) (l : Link) (s : State), s.linkEmu k l = none → exec (.atomEmuReadDone k l) s = .next s)
  ∧ (∀ (k : Stop) (l : Link) (s : State) (m : Emu), s.linkEmu k l = some m →
    (m.write.isSome = true ∨ s.linkState k l = 0 → exec (.atomEmuReadDone k l) s = .next s)
    ∧ (m.write = none → s.linkState k l ≠ 0 →
      (m.reading = true → tickPast (s.nodeTick k) m.deadline 1 = false → exec (.atomEmuReadDone k l) s = .next s)
      ∧ (m.reading = true → tickPast (s.nodeTick k) m.deadline 1 = true → ∃ t, exec (.atomEmuReadDone k l) s = .next t
          ∧ t.linkEmu k l = none)
      ∧ (∀ v, m.reading = false → m.deadline < 2 ^ 48 → m.pois = false → atomOf m.req.flit m.data = some v →
          ∃ t, exec (.atomEmuReadDone k l) s = .next t ∧ t.linkEmu k l = some { m with write := some v } ∧ t.regs = s.regs)
      ∧ (m.reading = false → 2 ^ 48 ≤ m.deadline ∨ m.pois = true ∨ atomOf m.req.flit m.data = none →
          ∃ t, exec (.atomEmuReadDone k l) s = .next t ∧ t.linkEmu k l = none)))
  ∧ (∀ (k : Stop) (l : Link) (d : Fin 2) (s : State), tget none s.port.held (lciUnit k l d) = none →
    exec (.fiLciDelayExpire k l d) s = .next s)
  ∧ (∀ (k : Stop) (l : Link) (d : Fin 2) (s : State) (h : LciHeld), tget none s.port.held (lciUnit k l d) = some h →
    (h.due = 0 ∨ atOrAfter 48 (s.nodeTick k) h.due = false → exec (.fiLciDelayExpire k l d) s = .next s)
    ∧ (h.due ≠ 0 → atOrAfter 48 (s.nodeTick k) h.due = true → ∃ t, exec (.fiLciDelayExpire k l d) s = .next t
      ∧ tget none t.port.held (lciUnit k l d) = none
      ∧ (s.linkState k l = 0 → t.port.rx = s.port.rx ∧ t.port.tx = s.port.tx)
      ∧ (s.linkState k l ≠ 0 → h.behind = [] →
          (d.val = 0 → unitsOf h.tlp ≤ s.rxFree k l (partOf h.tlp.head.kind) → ∃ y, y.tlp = h.tlp ∧ y.inj = true
            ∧ t.rx k l (partOf h.tlp.head.kind) = s.rx k l (partOf h.tlp.head.kind) ++ [y])
          ∧ (d.val = 1 → tget none t.port.tx (linkKey k l) = some h.tlp))))

/-- EGRESS_SEND (R158–R160, R241, R495): nothing leaves a stop that does not run or a link that is absent; the first head
in stamp order that may leave a port's P or NP queue is handed to the controller, with a completer-side record for a
non-posted one; behind a memory stop it goes to the channel, behind a core stop a CFG joins the pending list. -/
def Obligations.EgressSendsItsNextHead : Prop :=
  (∀ (k : Stop) (l : Link) (s : State), s.stopRuns k = false ∨ (isPortStop k = true ∧ s.present k l = false) →
    exec (.egressSend k l) s = .next s)
  ∧ (∀ (k : Stop) (l : Link) (s : State) (x : Egr) (rest : List (Nat × Egr)), s.stopRuns k = true → s.present k l = true →
    s.drops k l = false → tget 0 s.port.mode (linkKey k l) = 0 → s.spill k l = [] → s.linkLock k l = none → s.linkEmu k l = none →
    tget none s.port.held (lciUnit k l 1) = none → s.modeNow k ≠ 2 → x.flit.last = 1 → (∀ q : Fin 3, s.portBroken k l q = false) →
    (s.portHeads k l = (0, x) :: rest → x.flit.opc ≠ opUNLOCK → s.asm k l 0 = [] → ∃ t, exec (.egressSend k l) s = .next t
      ∧ t.egr k l 0 = (s.egr k l 0).filter (fun y => y.stamp != x.stamp)
      ∧ tget none t.port.tx (linkKey k l) = some (s.txTlp k l [x] 0)
      ∧ tget 0 t.port.used (partKey k l 0) = wrapAdd 16 (tget 0 s.port.used (partKey k l 0)) (unitsOf (s.txTlp k l [x] 0)))
    ∧ (∀ n, s.portHeads k l = (1, x) :: rest → x.flit.opc ≠ opLOCKRD → s.fbit F.STOP.LINK_CFG.ATOM_EMU k l = false → s.asm k l 1 = [] →
      s.newOutTag k l = some n → ∃ t, exec (.egressSend k l) s = .next t
      ∧ t.egr k l 1 = (s.egr k l 1).filter (fun y => y.stamp != x.stamp)
      ∧ tget none t.port.tx (linkKey k l) = some (s.txTlp k l [x] n)
      ∧ tget [] t.ord.recs k = tget [] s.ord.recs k ++
          [⟨n, l, x.flit.src.toNat, x.flit.tag.toNat, x.flit.slice.toNat, x.flit.sgen.toNat, x.ring, 0, x.flit⟩])
    ∧ (s.portHeads k l = [] → ∃ t, exec (.egressSend k l) s = .next t ∧ t.ord = s.ord ∧ t.regs = s.regs ∧ t.port.tx = s.port.tx))
  ∧ (∀ (x : Chan) (l : Link) (s : State), s.stopRuns (memStop x) = true → ∀ k : Stop, k.val = memStop x →
    exec (.egressSend k l) s = exec (.memRequest x) s)
  ∧ (∀ (k : Stop) (l : Link) (s : State) (q : Nat) (x : Egr), s.stopRuns k = true → s.egrNext k 0 (fun _ _ => true) = some (q, x) →
    (k.val = 56 ∨ k.val = 57 → ∃ t, exec (.egressSend k l) s = .next t ∧ t.egr k 0 q = (s.egr k 0 q).tail
      ∧ (x.flit.opc = opCFG → t.cfgPend (k - 56) = s.cfgPend (k - 56) ++ [x]))
    ∧ (k.val = 59 → ∃ t, exec (.egressSend k l) s = .next t ∧ t.egr k 0 q = (s.egr k 0 q).tail))
  ∧ (∀ (e : EngNo) (l : Link) (s : State) (q : Nat) (x : Egr) (k : Stop), k.val = engStop e → s.stopRuns k = true →
    s.descHead e 2 = none → s.descHead e 1 = none → s.egrNext k 0 (fun _ _ => true) = some (q, x) →
    ∃ t, exec (.egressSend k l) s = .next t ∧ t.egr k 0 q = (s.egr k 0 q).tail)

/-- What a memory stop takes (R294, R295, R355, R563): nothing while it does not run; MEM_REQUEST any next head, the three
others only a head of their kind; a read, a parity delta or a row read becomes a request of the channel, a row release
ends one hold, and a request outside its slice's units is fenced with record 0x81. -/
def Obligations.MemoryStopsTakeTheirRequests : Prop :=
  (∀ c ∈ [Instr.memRequest, .parityDelta, .rowRead, .rowRelease], ∀ (x : Chan) (s : State), s.stopRuns (memStop x) = false →
    exec (c x) s = .next s)
  ∧ (∀ c ∈ [Instr.memRequest, .parityDelta, .rowRead, .rowRelease], ∀ (x : Chan) (s : State), s.stopRuns (memStop x) = true →
    s.egrNext (memStop x) 0 (fun _ _ => true) = none → exec (c x) s = .next (s.pump x))
  ∧ (∀ (x : Chan) (s : State) (q : Nat) (e : Egr), s.stopRuns (memStop x) = true → s.egrNext (memStop x) 0 (fun _ _ => true) = some (q, e) →
    (¬(e.flit.opc = opMWR ∧ spaceOf e.flit = 0xD0) → exec (.parityDelta x) s = .next s)
    ∧ (¬(e.flit.opc = opMRD ∧ spaceOf e.flit = 0xD1) → exec (.rowRead x) s = .next s)
    ∧ (¬(e.flit.opc = opMWR ∧ spaceOf e.flit = 0xD2) → exec (.rowRelease x) s = .next s)
    ∧ (∃ t, exec (.memRequest x) s = .next t ∧ t.egr (memStop x) 0 q = (s.egr (memStop x) 0 q).tail))
  ∧ (∀ (x : Chan) (s : State) (q c : Nat) (e : Egr), s.stopRuns (memStop x) = true →
    s.egrNext (memStop x) 0 (fun _ _ => true) = some (q, e) → c = memChan (memStop x) e.rid → s.jobs c = [] →
    (e.flit.opc = opMWR → spaceOf e.flit = 0xD2 → ∃ t, exec (.rowRelease x) s = .next t
      ∧ tget [] t.mem.holds c = dropHold (spaceAddr e.flit) e.flit.src.toNat (tget [] s.mem.holds c)
      ∧ t.egr (memStop x) 0 q = (s.egr (memStop x) 0 q).tail)
    ∧ (s.poolFenced c e.flit = true → ∃ t, exec (.memRequest x) s = .next t ∧ t.jobs c = []
      ∧ (s.fget (F.HDR.PG_ERR_FIRST.CODE .mem) c = 0 → t.fget (F.HDR.PG_ERR_FIRST.CODE .mem) c = 0x81)
      ∧ (isNonPosted e.flit.opc = true → ∃ r, r ∈ t.formQ (s.actStop c) ∧ r.hdr.opc = opCPL)))
  ∧ (∀ (x : Chan) (s : State) (q c : Nat) (e : Egr), s.stopRuns (memStop x) = true →
    s.egrNext (memStop x) 0 (fun _ _ => true) = some (q, e) → c = memChan (memStop x) e.rid → s.jobs c = [] →
    (∀ i : Chan, chState s i = 0) →
    (e.flit.opc = opMWR → spaceOf e.flit = 0xD0 → 0 < writeBytes e.flit → tget [] s.mem.folded c = [] → ∃ t j, exec (.parityDelta x) s = .next t
      ∧ t.jobs c = [j] ∧ j.kind = .post ∧ j.hdr = e.flit ∧ j.id = s.mem.nextId ∧ ∀ a ∈ j.accs, a.op = 2)
    ∧ (e.flit.opc = opMRD → spaceOf e.flit = 0xD1 → ∃ t j, exec (.rowRead x) s = .next t
      ∧ t.jobs c = [j] ∧ j.kind = .rowRead ∧ j.hdr = e.flit ∧ j.id = s.mem.nextId ∧ ∀ a ∈ j.accs, a.op = 4)
    ∧ (e.flit.opc = opMRD → spaceOf e.flit ≠ 0xD1 → s.poolFenced c e.flit = false → ∃ t j, exec (.memRequest x) s = .next t
      ∧ t.jobs c = [j] ∧ j.kind = .read ∧ j.hdr = e.flit ∧ j.ring = e.ring ∧ j.id = s.mem.nextId
      ∧ (s.xbReady (memBridge c) = true →
          4 * lenUnits e.flit.len ≤ 128 - (spaceAddr e.flit + 128 * e.flit.fidx.toNat) % 128 → ∃ a, j.accs = [a] ∧ a.op = 0
          ∧ a.addr = byteLoc c (spaceOf e.flit) (spaceAddr e.flit + 128 * e.flit.fidx.toNat) ∧ a.len = 4 * lenUnits e.flit.len
          ∧ a.ph = 1 ∧ a.tag = 0)))

/-- What the controller's answers and the row reads' answers lead to (R294–R297, R548): an answer to no request does
nothing to the requests; a read is answered with its bytes; a write is merged and sent, and then its delta goes to the
row's parity stop; an uncorrectable word is reconstructed from the row, whose last span gives the bytes and counts
RECON_CNT. -/
def Obligations.MemoryAnswersCompleteRequests : Prop :=
  (∀ (c : Chan) (n : Fin 256) (d : Data) (ue : Bool) (s : State), s.accByTag c n = none →
    exec (.memResponse c n d ue) s = .next (s.rebuildAdvance c 40).memSettle)
  ∧ (∀ (c : Chan) (n : Fin 256) (d : Data) (s : State) (j : MJob) (a : MAcc), s.mem.upd = [] → s.mem.pbUpd = 0 → chState s c ≠ 2 →
    s.jobs c = [j] → j.accs = [a] → a.tag = n →
    (a.ph = 1 → a.op = 0 → j.kind = .read → ∃ t r, exec (.memResponse c n d false) s = .next t ∧ t.jobs c = []
      ∧ t.formQ (s.actStop c) = s.formQ (s.actStop c) ++ [r] ∧ r.hdr.opc = opCPLD ∧ r.hdr.dst = j.hdr.src ∧ r.hdr.tag = j.hdr.tag
      ∧ r.chunks = chunksOf 32 (bytesOf a.len (byteSlice d.toNat (a.addr % 128) a.len)))
    ∧ (a.ph = 1 → a.op = 1 → j.kind = .post → s.unitGone c (a.addr / 4096) = false → s.xbReady (memBridge c) = true → ∃ t a', exec (.memResponse c n d false) s = .next t
      ∧ t.jobs c = [{ j with accs := [a'] }] ∧ a'.ph = 2 ∧ a'.old = byteSlice d.toNat (a.addr % 128) a.len ∧ a'.new = a.new)
    ∧ (a.ph = 2 → a.op = 1 → j.kind = .post → s.unitGone (parityCh (a.addr / 4096)) (a.addr / 4096) = false →
      ∃ t r, exec (.memResponse c n d false) s = .next t ∧ t.jobs c = [] ∧ t.formQ (s.actStop c) = s.formQ (s.actStop c) ++ [r]
      ∧ r.hdr.opc = opMWR ∧ r.ldst = memStop (parityCh (a.addr / 4096)) ∧ r.hdr.addr = BitVec.ofNat 64 (spanAddr 0xD0 a.addr)
      ∧ r.chunks = chunksOf 32 (bytesOf a.len (a.old ^^^ mergeBytes a.old a.new a.be a.len)))
    ∧ (a.ph = 1 → a.op = 0 ∨ a.op = 1 → j.kind = .read ∨ j.kind = .post → ∃ t a', exec (.memResponse c n d true) s = .next t
      ∧ t.jobs c = [{ j with accs := [a'] }] ∧ a'.ph = 3 ∧ a'.span = 0 ∧ a'.ans = 0))
  ∧ (∀ (c : Chan) (s : State), tget [] s.ord.rdDone (s.actStop c) = [] →
    exec (.reconstructDone c) s = .next ((s.pump c).rebuildAdvance c 40).memSettle)
  ∧ (∀ (c : Chan) (s : State) (j : MJob) (a : MAcc) (r : RdDone), s.mem.upd = [] → s.mem.pbUpd = 0 → chState s c ≠ 2 →
    s.jobs c = [j] → j.accs = [a] → a.ph = 4 → a.op = 0 → a.pois = false → j.kind = .read → tget [] s.ord.rdDone (s.actStop c) = [r] →
    r.use = .rowRead j.id 0 (parityCh (a.addr / 4096)) → rdBad r = false → ∃ t l x, exec (.reconstructDone c) s = .next t
      ∧ t.jobs c = [] ∧ s.Raised t F.MEM.RECON_CNT c ∧ tget [] t.ord.rdDone (s.actStop c) = []
      ∧ t.formQ (s.actStop c) = s.formQ (s.actStop c) ++ l ++ [x] ∧ x.hdr.opc = opCPLD
      ∧ x.chunks = chunksOf 32 (bytesOf a.len (a.span ^^^ byteSlice (flitsNum r.flits) 0 a.len)))

/-- Channel states, rebuild and direct reads (R296–R300, R303, R548): a failed controller and FAIL make a channel LOST;
REBUILD starts from row 0 in a LOST channel whose controller is ready, CLEAR ends it, and other commands are refused by
CMD_RES; each tick of a rebuild starts RATE rows; a direct read takes its aligned 64 bytes and shows them with its status.
-/
def Obligations.ChannelCommandsTakeEffect : Prop :=
  (∀ (c : Chan) (s : State), (chState s c = 0 ∨ chState s c = 2) → ∃ t, exec (.chFail c) s = .next t ∧ chState t c = 1
    ∧ (chState s c = 0 → nbit (t.fget (F.HDR.PG_INT_STS.INT .mem) c) 0 = true
      ∧ (s.fget (F.HDR.PG_ERR_FIRST.CODE .mem) c = 0 → t.fget (F.HDR.PG_ERR_FIRST.CODE .mem) c = 0x63)))
  ∧ (∀ (c : Chan) (s : State), chState s c = 1 → ∃ t, exec (.chFail c) s = .next t ∧ chState t c = 1)
  ∧ (∀ i ∈ [Instr.chCmdFail, .chCmdRebuild, .chCmdClear], ∀ (c : Chan) (w : Word) (s : State),
    (16 < vbits w 8 5 → exec (i c w) s = .next ((s.touch .mem c).pgErr .mem c 0x100))
    ∧ (vbits w 8 5 ≤ 16 → ∃ t, exec (i c w) s = .next t ∧ t.fget F.MEM.CH_CTL.RATE c = vbits w 8 5))
  ∧ (∀ (c : Chan) (w : Word) (s : State), vbits w 8 5 ≤ 16 →
    (chState s c < 3 → ∃ t, exec (.chCmdFail c w) s = .next t ∧ chState t c = 1 ∧ t.fget F.MEM.CH_STS.CMD_RES c = 0)
    ∧ (chState s c = 1 → s.fbit F.MEM.CH_STS.CTRL_READY c = true → ∃ t, exec (.chCmdRebuild c w) s = .next t ∧ chState t c = 2
        ∧ t.fget F.MEM.REBUILD_PTR.PTR c = 0 ∧ t.fget F.MEM.CH_STS.CMD_RES c = 0)
    ∧ (chState s c = 1 → s.fbit F.MEM.CH_STS.CTRL_READY c = false → ∃ t, exec (.chCmdRebuild c w) s = .next t ∧ chState t c = 1
        ∧ t.fget F.MEM.CH_STS.CMD_RES c = 2 ∧ t.units = s.units)
    ∧ (chState s c ≠ 1 → ∃ t, exec (.chCmdRebuild c w) s = .next t ∧ chState t c = chState s c
        ∧ t.fget F.MEM.CH_STS.CMD_RES c = 1 ∧ t.units = s.units)
    ∧ (chState s c = 2 → ∃ t, exec (.chCmdClear c w) s = .next t ∧ chState t c = 1 ∧ t.fget F.MEM.CH_STS.CMD_RES c = 0)
    ∧ (chState s c ≠ 2 → ∃ t, exec (.chCmdClear c w) s = .next t ∧ chState t c = chState s c
        ∧ t.fget F.MEM.CH_STS.CMD_RES c = 1 ∧ t.units = s.units))
  ∧ (∀ (c : Chan) (s : State), chState s c ≠ 2 → exec (.rebuildTick c) s = .next s)
  ∧ (∀ (c : Chan) (s : State), chState s c = 2 → s.jobs c = [] → s.fget F.MEM.CH_CTL.RATE c ≤ 16 →
    s.fget F.MEM.REBUILD_PTR.PTR c + s.fget F.MEM.CH_CTL.RATE c < 8388608 → ∃ t, exec (.rebuildTick c) s = .next t
    ∧ (t.jobs c).map (fun j => j.kind) = (List.range (s.fget F.MEM.CH_CTL.RATE c)).map (fun i =>
        JobKind.rebuild (s.fget F.MEM.REBUILD_PTR.PTR c + i)))
  ∧ (∀ (c : Chan) (v : Bool) (s : State), exec (.ctrlReadyChange c v) s = .next (s.fput F.MEM.CH_STS.CTRL_READY v c))
  ∧ (∀ (c : Chan) (s : State), (s.jobs c).any (fun j => j.kind == .direct) = true → exec (.directRead c) s = .next (s.touch .mem c))
  ∧ (∀ (c : Chan) (s : State) (ad : Nat), s.jobs c = [] → ad = s.wide F.MEM.DR_ADDR_LO.ADDR_LO F.MEM.DR_ADDR_HI.ADDR_HI c →
    ∃ t j a, exec (.directRead c) s = .next t ∧ t.fget F.MEM.DR_STS.VALID c = 0 ∧ t.jobs c = [j] ∧ j.kind = .direct ∧ j.accs = [a]
      ∧ a.op = 5 ∧ a.addr = ad - ad % 64 ∧ a.len = 64
      ∧ (chState s c = 1 → a.ph = 5 ∧ a.span = 2)
      ∧ (chState s c ≠ 1 → s.xbReady (memBridge c) = true → a.ph = 1))
  ∧ (∀ (c : Chan) (s : State), (s.jobs c).any (fun j => j.kind == .direct && j.accs.all (fun a => a.ph == 5)) = false →
    exec (.directReadDone c) s = .next s)
  ∧ (∀ (c : Chan) (s : State) (j : MJob) (a : MAcc), s.jobs c = [j] → j.kind = .direct → j.accs = [a] → a.ph = 5 →
    ∃ t, exec (.directReadDone c) s = .next t ∧ t.jobs c = [] ∧ t.fget F.MEM.DR_STS.VALID c = 1
      ∧ t.fget F.MEM.DR_STS.STATUS c = a.span % 2 ^ F.MEM.DR_STS.STATUS.width
      ∧ (a.span ≠ 2 → ∀ i : Fin 16, t.fget F.MEM.DR_DATA.DATA c i = byteSlice a.old (4 * i) 4))

/-- Fills of a sector's translation and binding caches (R278–R281, R285, R341): nothing happens without an ended fill; a
good one is installed under its key; a stale one is counted and asked for again; a poisoned translation fill goes to the
other copy once, then, like a poisoned binding, ends with its record; a late fill is counted and sent again. -/
def Obligations.FillsAreInstalledOrTriedAgain : Prop :=
  (∀ (x : Sector) (s : State), tget [] s.ord.rdDone (memStop x) = [] → exec (.xltFillDone x) s = .next s ∧ exec (.bindFillDone x) s = .next s)
  ∧ (∀ p ∈ [(Instr.xltFillDone, false), (Instr.bindFillDone, true)], ∀ (x : Sector) (s : State) (r : RdDone) (f : Fill),
    tget [] s.ord.rdDone (memStop x) = [r] → r.use = (if p.2 then .bindFill f.id else .fill f.id) → s.fills x = [f] → f.bind = p.2 →
    (f.stale = false → rdBad r = false → ∃ t w e, exec (p.1 x) s = .next t ∧ t.fills x = [] ∧ t.cacheAt f.bind x f.key w = some e
      ∧ e.key = f.key ∧ e.val = byteSlice (flitsNum r.flits) 0 (if f.bind then 32 else 16) ∧ tget [] t.ord.rdDone (memStop x) = [])
    ∧ (f.stale = true → ∃ t f', exec (p.1 x) s = .next t ∧ t.fills x = [f'] ∧ f'.key = f.key ∧ f'.id = s.mem.nextId ∧ f'.stale = false
      ∧ s.Raised t F.STOP.XC_STALE_CNT (xcPage x))
    ∧ (f.stale = false → rdBad r = true → f.bind = false → (if f.copyB then f.badA else f.badB) = false →
      ∃ t f', exec (p.1 x) s = .next t ∧ t.fills x = [f'] ∧ f'.key = f.key ∧ f'.copyB = !f.copyB
        ∧ (if f.copyB then f'.badB = true else f'.badA = true))
    ∧ (f.stale = false → rdBad r = true → f.bind = true ∨ (if f.copyB then f.badA else f.badB) = true → ∃ t, exec (p.1 x) s = .next t ∧ t.fills x = []
      ∧ t.mem.cache = s.mem.cache ∧ t.mem.bcache = s.mem.bcache
      ∧ (s.fget (F.HDR.PG_ERR_FIRST.CODE .mem) x = 0 →
          t.fget (F.HDR.PG_ERR_FIRST.CODE .mem) x = (if f.bind then 0x84 else 0x61))))
  ∧ (∀ (x : Sector) (s : State), s.fills x = [] → exec (.xltFillTimeout x) s = .next s)
  ∧ (∀ (x : Sector) (s : State) (f : Fill) (n : Nat), s.fills x = [f] →
    n = max 1 (s.fget F.MEM.FILL_POLICY.FILL_TO x 0 (s.bankAt (memStop x))) →
    (tickPast (s.nodeTick (memStop x)) f.sent (n + 1) = false → exec (.xltFillTimeout x) s = .next s)
    ∧ (tickPast (s.nodeTick (memStop x)) f.sent (n + 1) = true → ∃ t f', exec (.xltFillTimeout x) s = .next t ∧ t.fills x = [f']
      ∧ f'.key = f.key ∧ f'.sent = s.nodeTick (memStop x) ∧ f'.copyB = (!f.bind && !f.copyB) ∧ s.Raised t F.MEM.FILL_RETRY_CNT x))

/-- Table updates (R284, R342, R343, R507): XLT_CMD.GO and PB_CMD.GO are refused by a page error or a RES code, or start
with BUSY 1 and no acknowledgement; the eighth INV_ACK makes the update DONE. -/
def Obligations.TableUpdatesRunToDone : Prop :=
  (∀ (c : Chan) (s : State) (key : Nat), key = s.fget F.MEM.XLT_KEY.KEY c →
    (s.fbit F.PAIR.PAIR_CTL.MIRROR = true → s.fbit F.PAIR.PAIR_CTL.PRIMARY = false →
      exec (.xltUpdate c) s = .next ((s.touch .mem c).pgErr .mem c 0x194))
    ∧ (s.fbit F.PAIR.PAIR_CTL.MIRROR = false ∨ s.fbit F.PAIR.PAIR_CTL.PRIMARY = true →
      ((fmaLoc (xltFma false key)).1 ≠ c.val → exec (.xltUpdate c) s = .next ((s.touch .mem c).fset F.MEM.XLT_STS.RES 1 c))
      ∧ ((fmaLoc (xltFma false key)).1 = c.val → s.fbit F.MEM.XLT_STS.BUSY c = true →
          exec (.xltUpdate c) s = .next ((s.touch .mem c).fset F.MEM.XLT_STS.RES 2 c))
      ∧ ((fmaLoc (xltFma false key)).1 = c.val → s.fbit F.MEM.XLT_STS.BUSY c = false → ∃ t, exec (.xltUpdate c) s = .next t
          ∧ t.fget F.MEM.XLT_STS.BUSY c = 1 ∧ t.fget F.MEM.XLT_STS.DONE c = 0 ∧ t.fget F.MEM.XLT_STS.RES c = 0
          ∧ t.fget F.MEM.XLT_STS.ACKS c = 0 ∧ tget 0 t.mem.updKey c = key ∧ tget 0 t.mem.updVal c = s.xltData c
          ∧ (tget 0 t.mem.upd c = 1 ∨ tget 0 t.mem.upd c = 4))))
  ∧ (∀ (n : Node) (m : Msg) (s : State), msgOk m = true → vbits m 43 1 = 0 →
    ((isMemStop n && tget 0 s.mem.upd (sectorOf n) == 3) = false → exec (.invAck n m) s = .next (s.take n m))
    ∧ (∀ a, isMemStop n = true → tget 0 s.mem.upd (sectorOf n) = 3 → a = s.fget F.MEM.XLT_STS.ACKS (sectorOf n) + 1 →
      ∃ t, exec (.invAck n m) s = .next t ∧ t.fget F.MEM.XLT_STS.ACKS (sectorOf n) = a % 16
      ∧ (a = 8 → t.fget F.MEM.XLT_STS.DONE (sectorOf n) = 1 ∧ t.fget F.MEM.XLT_STS.BUSY (sectorOf n) = 0
          ∧ tget 0 t.mem.upd (sectorOf n) = 0)
      ∧ (a ≠ 8 → t.mem = s.mem ∧ t.fget F.MEM.XLT_STS.DONE (sectorOf n) = s.fget F.MEM.XLT_STS.DONE (sectorOf n))))
  ∧ (∀ (n : Node) (m : Msg) (s : State), msgOk m = true → vbits m 43 1 = 1 →
    (vbits m 42 1 = 1 ∨ s.mem.pbUpd ≠ 3 → exec (.invAck n m) s = .next (s.take n m))
    ∧ (∀ a, vbits m 42 1 = 0 → s.mem.pbUpd = 3 → a = s.fget F.GLB.PB_STS.ACKS + 1 → ∃ t, exec (.invAck n m) s = .next t
      ∧ t.fget F.GLB.PB_STS.ACKS = a % 16
      ∧ (a = 8 → t.fget F.GLB.PB_STS.DONE = 1 ∧ t.fget F.GLB.PB_STS.BUSY = 0 ∧ t.mem.pbUpd = 0)
      ∧ (a ≠ 8 → t.mem = s.mem)))
  ∧ (∀ (s : State), s.fbit F.PAIR.PAIR_CTL.MIRROR = true → s.fbit F.PAIR.PAIR_CTL.PRIMARY = false →
      exec .pbUpdate s = .next ((s.touch .glb 0).pgErr .glb 0 0x1E0))
  ∧ (∀ (s : State), s.fbit F.PAIR.PAIR_CTL.MIRROR = false ∨ s.fbit F.PAIR.PAIR_CTL.PRIMARY = true →
      (s.pbRefusal ≠ 0 → exec .pbUpdate s = .next ((s.touch .glb 0).fset F.GLB.PB_STS.RES s.pbRefusal))
      ∧ (s.pbRefusal = 0 → ∃ t, exec .pbUpdate s = .next t ∧ t.fget F.GLB.PB_STS.BUSY = 1 ∧ t.fget F.GLB.PB_STS.DONE = 0
        ∧ t.fget F.GLB.PB_STS.RES = 0 ∧ t.fget F.GLB.PB_STS.ACKS = 0 ∧ t.mem.pbKey = s.pbIdx ∧ t.mem.pbVal = s.pbData
        ∧ (t.mem.pbUpd = 1 ∨ t.mem.pbUpd = 2)))

/-- Invalidations (R283–R285, R342, R343, R402): a memory stop in RUN or TRIM drops the key, makes its fills stale and
acknowledges; in DOZE it lists the key and acknowledges; in OFF it only acknowledges; other nodes take their copy. A
PB_DCNT write is refused, or sets the count and is broadcast: that every performed one is broadcast is the model's reading
(assumption 21). -/
def Obligations.InvalidationsAreAppliedAndAcknowledged : Prop :=
  (∀ c ∈ [Instr.xltInv, .pbInv], ∀ (n : Node) (m : Msg) (s : State), msgOk m = true → isMemStop n = false →
    exec (c n m) s = .next (s.take n m))
  ∧ (∀ (n : Node) (m : Msg) (s : State) (x key : Nat), msgOk m = true → isMemStop n = true → x = sectorOf n → key = vbits m 24 24 →
    ∃ t, exec (.xltInv n m) s = .next t
    ∧ t.net.flight = (s.take n m).net.flight ++ [msgToOne (mkCtrl 9 (msgSrc m) n [(43, 1, 0), (42, 1, 0), (18, 24, key)])] ∧ t.regs = s.regs
    ∧ (s.sectorState x < 2 → (∀ w, s.wayOf false x key = some w → t.cacheAt false x key w = none)
        ∧ (∀ f ∈ t.fills x, f.bind = false → f.key = key → s.fillHere x f = false → f.stale = true) ∧ t.mem.dozeInv = s.mem.dozeInv)
    ∧ (s.sectorState x = 2 → tget [] t.mem.dozeInv x = (tget [] s.mem.dozeInv x ++ [key]).take 65 ∧ t.mem.cache = s.mem.cache)
    ∧ (s.sectorState x = 3 → t.mem = s.mem))
  ∧ (∀ (n : Node) (m : Msg) (s : State) (x key : Nat), msgOk m = true → isMemStop n = true → x = sectorOf n → vbits m 47 1 = 0 →
    key = vbits m 24 20 → ∃ t, exec (.pbInv n m) s = .next t
    ∧ t.net.flight = (s.take n m).net.flight ++ [msgToOne (mkCtrl 9 (msgSrc m) n [(43, 1, 1), (42, 1, 0), (18, 24, key)])] ∧ t.regs = s.regs
    ∧ (s.sectorState x < 2 → (∀ w, s.wayOf true x key = some w → t.cacheAt true x key w = none)
        ∧ (∀ f ∈ t.fills x, f.bind = true → f.key = key → s.fillHere x f = false → f.stale = true) ∧ t.mem.dozePb = s.mem.dozePb)
    ∧ (s.sectorState x = 2 → tget [] t.mem.dozePb x = (tget [] s.mem.dozePb x ++ [key]).take 65 ∧ t.mem.bcache = s.mem.bcache)
    ∧ (s.sectorState x = 3 → t.mem = s.mem))
  ∧ (∀ (n : Node) (m : Msg) (s : State) (x dom : Nat), msgOk m = true → isMemStop n = true → x = sectorOf n → vbits m 47 1 = 1 →
    dom = vbits m 39 8 → ∃ t, exec (.pbInv n m) s = .next t
    ∧ t.net.flight = (s.take n m).net.flight ++ [msgToOne (mkCtrl 9 (msgSrc m) n [(43, 1, 1), (42, 1, 1), (18, 24, dom)])] ∧ t.regs = s.regs
    ∧ tget 0 t.mem.pbBase (x * 256 + dom) = vbits m 25 14 ∧ tget 0 t.mem.pbCnt (x * 256 + dom) = vbits m 10 15
    ∧ (s.sectorState x < 2 → (∀ key w e, t.cacheAt true x key w = some e → w < 8 → s.inDomain x dom e.key = false)
        ∧ (∀ f ∈ t.fills x, f.bind = true → s.inDomain x dom f.key = true → s.fillHere x f = false → f.stale = true))
    ∧ (s.sectorState x = 2 → tget [] t.mem.dozePb x = (tget [] s.mem.dozePb x ++ [1048576 + dom]).take 65)
    ∧ (s.sectorState x = 3 → t.mem.bcache = s.mem.bcache ∧ t.fills x = s.fills x))
  ∧ (∀ (w : Word) (s : State) (d n b : Nat), d = s.fget F.GLB.PB_DSEL.DOM → n = vbits w 0 15 → b = s.fget F.GLB.PB_DBASE.BASE 0 0 0 d →
      (n ≠ 0 → 16384 < n ∨ s.fget F.GLB.PB_DCNT.CNT 0 0 0 d ≠ 0 ∨ s.rangeTaken d b n = true →
        exec (.pbDcntWrite w) s = .next ((s.touch .glb 0).pgErr .glb 0 0x1C8))
      ∧ (n = 0 ∨ (n ≤ 16384 ∧ s.fget F.GLB.PB_DCNT.CNT 0 0 0 d = 0 ∧ s.rangeTaken d b n = false) → ∃ t, exec (.pbDcntWrite w) s = .next t
        ∧ t.fget F.GLB.PB_DCNT.CNT 0 0 0 d = n
        ∧ t.net.flight = s.net.flight ++ [msgToAll (mkTyped 0xC 63 60 [(47, 1, 1), (39, 8, d), (25, 14, b), (10, 15, n)])]
        ∧ t.units = s.units))

/-- Doorbells and completion events (R310, R311, R317, R352, R353): a slice's DOORBELL is refused outside its queues, or
sent to the engine that holds the queue; there it moves TAIL forward, or is counted by what is wrong with it; an engine
with a stub sends it on; an ended event read sets its PEND bit, and an armed slice presents its interrupt. -/
def Obligations.DoorbellsAndEventsReachTheirOwner : Prop :=
  (∀ (x : SliceNo) (tail : BitVec 16) (o : BitVec 8) (s : State),
    (s.fget F.SLICE.ACC_Q.QCNT x ≤ o.toNat → ∃ t, exec (.doorbellWrite x tail o) s = .next t
      ∧ s.Raised t (F.HDR.PG_ERR_CNT.CNT .slice) x ∧ t.fget F.SLICE.DOORBELL.TAIL x = tail.toNat
      ∧ (∀ f ∈ t.net.flight, f ∉ s.net.flight → vbits f.msg 60 4 ≠ 9)
      ∧ (s.fget (F.HDR.PG_ERR_FIRST.CODE .slice) x = 0 → t.fget (F.HDR.PG_ERR_FIRST.CODE .slice) x = 0x82))
    ∧ (∀ q m, o.toNat < s.fget F.SLICE.ACC_Q.QCNT x → q = (s.fget F.SLICE.ACC_Q.QBASE x + o.toNat) % 65536 →
      m = doorbellMsg (s.qmapCopy q) 62 q tail.toNat (s.sliceGen x) → ∃ t, exec (.doorbellWrite x tail o) s = .next t
      ∧ t.net.flight = s.net.flight ++ [msgToOne m] ∧ t.fget F.SLICE.DOORBELL.TAIL x = tail.toNat
      ∧ t.fget F.SLICE.DOORBELL.QOFF x = o.toNat ∧ t.units = s.units))
  ∧ (∀ (n : Node) (m : Msg) (s : State), msgOk m = true → isEngStop n = false → exec (.doorbell n m) s = .next (s.take n m))
  ∧ (∀ (n : Node) (m : Msg) (s : State) (e q tail : Nat) (c : QCtx), msgOk m = true → isEngStop n = true → e = n / 7 → q = vbits m 32 16 →
    tail = vbits m 16 16 → c = s.qctx e q →
    (s.resident e q = true →
      (vbits m 12 4 ≠ c.sgen → exec (.doorbell n m) s = .next ((s.take n m).rcInc F.ENG.DB_STALE_CNT e))
      ∧ (vbits m 12 4 = c.sgen → c.st = 0 → exec (.doorbell n m) s = .next ((s.take n m).rcInc F.ENG.DB_STRAY_CNT e))
      ∧ (vbits m 12 4 = c.sgen → c.st ≠ 0 → signedDiff 16 tail c.tail ≤ 0 →
          exec (.doorbell n m) s = .next ((s.take n m).rcInc F.ENG.DB_OLD_CNT e))
      ∧ (vbits m 12 4 = c.sgen → c.st ≠ 0 → 0 < signedDiff 16 tail c.tail → 2 ^ c.ring < wrapSub 16 tail c.head →
          ∃ t, exec (.doorbell n m) s = .next t ∧ (t.qctx e q).now = 3 ∧ (t.qctx e q).tail = c.tail
          ∧ (s.fget (F.HDR.PG_ERR_FIRST.CODE .eng) e = 0 → t.fget (F.HDR.PG_ERR_FIRST.CODE .eng) e = 0x73))
      ∧ (vbits m 12 4 = c.sgen → c.st ≠ 0 → 0 < signedDiff 16 tail c.tail → wrapSub 16 tail c.head ≤ 2 ^ c.ring →
          ∃ t, exec (.doorbell n m) s = .next t ∧ (t.qctx e q).tail = tail ∧ (t.qctx e q).head = c.head ∧ (t.qctx e q).now = c.now))
    ∧ (s.resident e q = false →
      (∀ x, s.stubOf e q = some x →
        exec (.doorbell n m) s = .next ((s.take n m).send (doorbellMsg x.toward (engStop e) q tail (vbits m 12 4))))
      ∧ (s.stubOf e q = none → ∃ t, exec (.doorbell n m) s = .next t ∧ s.Raised t F.ENG.DB_STRAY_CNT e ∧ t.units = s.units
          ∧ (s.fget (F.HDR.PG_ERR_FIRST.CODE .eng) e = 0 → t.fget (F.HDR.PG_ERR_FIRST.CODE .eng) e = 0x73))))
  ∧ (∀ (e : EngNo) (s : State), tget [] s.ord.rdDone (engStop e) = [] → exec (.completionEvent e) s = .next s)
  ∧ (∀ (e : EngNo) (s : State) (r : RdDone) (n q x k : Nat), tget [] s.ord.rdDone (engStop e) = [r] → r.use = .chunk n →
    tget [] s.eng.events e = [(n, q)] → x = (r.hdr.getD emptyFlit).slice.toNat → k = wrapSub 16 q (s.fget F.SLICE.ACC_Q.QBASE x) →
    ∃ t, exec (.completionEvent e) s = .next t ∧ tget [] t.eng.events e = [] ∧ tget [] t.ord.rdDone (engStop e) = []
      ∧ (k < 256 → nbit (t.fget F.SLICE.EVT_PEND.PEND x (k / 32)) (k % 32) = true)
      ∧ (256 ≤ k → t.regs = s.regs) ∧ (s.sliceState x ≠ 1 → t.irq = s.irq)
      ∧ (k < 256 → nbit (s.fget F.SLICE.EVT_PEND.PEND x (k / 32)) (k % 32) = false → s.sliceState x = 1 → s.fbit F.SLICE.EVT_CFG.EN x = true →
          s.fbit F.SLICE.EVT_CFG.ARMED x = true → t.fbit F.SLICE.EVT_CFG.ARMED x = false ∧ x ∈ t.irq.slices))
  ∧ (∀ (x : SliceNo) (s : State),
    ((∀ i : Fin 8, s.fget F.SLICE.EVT_PEND.PEND x i = 0) ∨ s.sliceState x ≠ 1 ∨ s.fbit F.SLICE.EVT_CFG.EN x = false →
      exec (.evtRearm x) s = .next ((s.touch .slice x).fput F.SLICE.EVT_CFG.ARMED true x))
    ∧ (∀ i : Fin 8, s.fget F.SLICE.EVT_PEND.PEND x i ≠ 0 → s.sliceState x = 1 → s.fbit F.SLICE.EVT_CFG.EN x = true →
      ∃ t, exec (.evtRearm x) s = .next t ∧ t.fbit F.SLICE.EVT_CFG.ARMED x = false ∧ x.val ∈ t.irq.slices))

/-- QC_CMD (R307, R323, R336): a command while the stop does not run is a page error; on a queue that is not resident
READ, ENABLE, DISABLE and RESTART answer 2; READ shows the context; WRITE stores a valid one as DISABLED; ENABLE starts a
DISABLED queue, DISABLE ends one that has nothing in execution, RESTART starts a stopped one at HEAD. -/
def Obligations.QueueCommandsTakeEffect : Prop :=
  (∀ i ∈ [Instr.qcRead, .qcWrite, .qcEnable, .qcDisable, .qcRestart], ∀ (e : EngNo) (s : State), s.stopRuns (engStop e) = false →
    exec (i e) s = .next ((s.touch .eng e).pgErr .eng e 0x118))
  ∧ (∀ i ∈ [Instr.qcRead, .qcEnable, .qcDisable, .qcRestart], ∀ (e : EngNo) (s : State), s.stopRuns (engStop e) = true →
    s.resident e (s.qIdx e) = false → exec (i e) s = .next ((s.touch .eng e).qcRes e 2))
  ∧ (∀ (e : EngNo) (s : State) (q : Nat) (c : QCtx), s.stopRuns (engStop e) = true → q = s.qIdx e → c = s.qctx e q →
    (s.resident e q = true → ∃ t, exec (.qcRead e) s = .next t ∧ t.fget F.ENG.QC_CMD.QC_RES e = 0 ∧ t.units = s.units
      ∧ ∀ i : Fin 16, t.fget F.ENG.QC_DATA.DATA e i = nbits c.bits (32 * i) 32)
    ∧ (s.qmap q ≠ e.val ∨ (s.resident e q = false ∧ (s.queueHeld q = true ∨ s.engState e ≠ 0 ∨ engSlots ≤ s.engRes e)) →
      exec (.qcWrite e) s = .next ((s.touch .eng e).qcRes e 2))
    ∧ (s.qmap q = e.val → s.resident e q = true → c.st ≠ 0 → exec (.qcWrite e) s = .next ((s.touch .eng e).qcRes e 1))
    ∧ (∀ w, w = ctxOf (s.qcData e) → s.qmap q = e.val →
      (s.resident e q = true ∧ c.st = 0) ∨ (s.resident e q = false ∧ s.queueHeld q = false ∧ s.engState e = 0 ∧ s.engRes e < engSlots) →
      (ctxValid (s.qcData e) = false ∨ s.sliceState w.slice ≠ 0 ∨ s.ownsQueue w.slice q = false →
        exec (.qcWrite e) s = .next ((s.touch .eng e).qcRes e 3))
      ∧ (ctxValid (s.qcData e) = true → s.sliceState w.slice = 0 → s.ownsQueue w.slice q = true → ∃ t, exec (.qcWrite e) s = .next t
        ∧ t.qctx e q = { w with st := 0 } ∧ t.resident e q = true ∧ t.fget F.ENG.QC_CMD.QC_RES e = 0))
    ∧ (s.resident e q = true →
      (c.st = 0 → c.v = true → ∃ t, exec (.qcEnable e) s = .next t ∧ (t.qctx e q).st = 1 ∧ (t.qctx e q).head = c.head
          ∧ t.fget F.ENG.QC_CMD.QC_RES e = 0)
      ∧ (c.st = 0 → c.v = false → exec (.qcEnable e) s = .next ((s.touch .eng e).qcRes e 3))
      ∧ (c.st = 2 ∨ c.st = 4 → exec (.qcEnable e) s = .next ((s.touch .eng e).qcRes e 1)
          ∧ exec (.qcRestart e) s = .next ((s.touch .eng e).qcRes e 1))
      ∧ (c.st = 1 ∨ c.st = 3 → exec (.qcEnable e) s = .next ((s.touch .eng e).qcRes e 0))
      ∧ (c.st = 0 → exec (.qcDisable e) s = .next ((s.touch .eng e).qcRes e 0))
      ∧ (c.st = 2 ∨ c.st = 3 → s.execOn e q = [] → ∃ t, exec (.qcDisable e) s = .next t ∧ (t.qctx e q).st = 0
          ∧ t.fget F.ENG.QC_CMD.QC_RES e = 0)
      ∧ ((c.st = 2 ∨ c.st = 3) ∧ s.execOn e q ≠ [] ∨ c.st = 1 ∨ c.st = 4 → exec (.qcDisable e) s = .next ((s.touch .eng e).qcRes e 1))
      ∧ (c.st = 3 → ∃ t, exec (.qcRestart e) s = .next t ∧ (t.qctx e q).st = 1 ∧ (t.qctx e q).head = c.head
          ∧ t.fget F.ENG.QC_CMD.QC_RES e = 0)
      ∧ (c.st = 0 ∨ c.st = 1 → exec (.qcRestart e) s = .next ((s.touch .eng e).qcRes e 0))))

/-- Engine commands (R324–R328): LEAVE and MOVEQ are refused outside IN_SVC with code 1 and for a bad DEST with code 2;
LEAVE takes the engine to LEAVING, or to OUT when no queue is resident; JOIN brings an OUT engine to IN_SVC and CLEAR a
FAILED one to OUT; MOVEQ makes its queue MOVING; a context lost to an uncorrectable error makes the engine FAILED. -/
def Obligations.EngineCommandsMoveTheEngineState : Prop :=
  (∀ i ∈ [Instr.engLeave, .engMoveq], ∀ (e : EngNo) (d : BitVec 8) (s : State), s.engState e ≠ 0 →
    exec (i e d) s = .next (((s.touch .eng e).fset F.ENG.ENG_CTL.DEST d.toNat e).engCmdRes e 1))
  ∧ (∀ (e : EngNo) (d : BitVec 8) (s : State) (n : Nat), n = s.engRes e - s.onTheWay e → s.engState e = 0 →
    (s.destBad e d.toNat n = true →
      exec (.engLeave e d) s = .next (((s.touch .eng e).fset F.ENG.ENG_CTL.DEST d.toNat e).engCmdRes e 2))
    ∧ (s.destBad e d.toNat n = false → tget [] s.eng.moving e = [] → ∃ t, exec (.engLeave e d) s = .next t
      ∧ t.fget F.ENG.ENG_STS.CMD_RES e = 0 ∧ t.fget F.ENG.ENG_CTL.DEST e = d.toNat
      ∧ t.engState e = (if s.engRes e % 2 ^ F.ENG.ENG_STS.RESIDENT.width = 0 then 2 else 1)))
  ∧ (∀ (e : EngNo) (d : BitVec 8) (s : State),
    (s.engState e = 2 → ∃ t, exec (.engJoin e d) s = .next t ∧ t.engState e = 0 ∧ t.fget F.ENG.ENG_STS.CMD_RES e = 0
      ∧ ∀ q : QueueNo, t.resident e q = false)
    ∧ (s.engState e ≠ 2 → exec (.engJoin e d) s = .next (((s.touch .eng e).fset F.ENG.ENG_CTL.DEST d.toNat e).engCmdRes e 1))
    ∧ (s.engState e = 3 → ∃ t, exec (.engClear e d) s = .next t ∧ t.engState e = 2 ∧ t.fget F.ENG.ENG_STS.CMD_RES e = 0
      ∧ ∀ q : QueueNo, t.resident e q = false)
    ∧ (s.engState e ≠ 3 → exec (.engClear e d) s = .next (((s.touch .eng e).fset F.ENG.ENG_CTL.DEST d.toNat e).engCmdRes e 1)))
  ∧ (∀ (e : EngNo) (d : BitVec 8) (s : State) (q : Nat), s.engState e = 0 → q = s.qIdx e →
    (s.destBad e d.toNat 1 = true ∨ s.resident e q = false →
      exec (.engMoveq e d) s = .next (((s.touch .eng e).fset F.ENG.ENG_CTL.DEST d.toNat e).engCmdRes e 2))
    ∧ (s.destBad e d.toNat 1 = false → s.resident e q = true → (s.qctx e q).st = 4 →
      exec (.engMoveq e d) s = .next (((s.touch .eng e).fset F.ENG.ENG_CTL.DEST d.toNat e).engCmdRes e 1))
    ∧ (s.destBad e d.toNat 1 = false → s.resident e q = true → (s.qctx e q).st ≠ 4 → ∃ t, exec (.engMoveq e d) s = .next t
      ∧ t.fget F.ENG.ENG_STS.CMD_RES e = 0 ∧ (t.qctx e q).st = 4 ∧ (t.qctx e q).land = (s.qctx e q).st
      ∧ tget 0 t.eng.moveTo q = 1 + (destList d.toNat).headD 0))
  ∧ (∀ (e : EngNo) (q : QueueNo) (s : State), 2 ≤ s.engState e ∨ s.resident e q = false → exec (.engCtxUe e q) s = .next s)
  ∧ (∀ (e : EngNo) (q : QueueNo) (s : State), s.engState e < 2 → s.resident e q = true → ∃ t, exec (.engCtxUe e q) s = .next t
    ∧ t.engState e = 3 ∧ t.engRes e = 0 ∧ t.execOf e = [] ∧ (∀ r : QueueNo, t.resident e r = false)
    ∧ nbit (t.fget (F.HDR.PG_INT_STS.INT .eng) e) 0 = true
    ∧ (s.fget (F.HDR.PG_ERR_FIRST.CODE .eng) e = 0 → t.fget (F.HDR.PG_ERR_FIRST.CODE .eng) e = 0x72))

/-- Moves of contexts and pushes (R321, R322, R326, R327): a moving queue without a descriptor in execution leaves as a
CONTEXT with a stub behind it; a CONTEXT is rejected with its count or installed and announced; a PUSH is rejected with
its count or appended to its queue; QMAP_UPD updates GLB, the slices' copy and the stubs, and a stub expires two ticks
later. The replicator (R332, R333): the oldest transaction of the pending list has one more copy flit made for its lowest
member still to serve; a member whose link has dropped is passed over; with the last member the transaction leaves the
list. -/
def Obligations.ContextsPushesAndCopiesAreServed : Prop :=
  (∀ (e : EngNo) (s : State), s.eng.moveTo = [] → exec (.contextSend e) s = .next (s.engSettle e))
  ∧ (∀ (e : EngNo) (s : State) (q d : Nat), s.eng.moveTo = [(q, d + 1)] → s.sendable e q = true → ∃ t r, exec (.contextSend e) s = .next t
    ∧ t.formQ (engStop e) = s.formQ (engStop e) ++ [r] ∧ r.hdr.opc = opDESC ∧ r.ldst = engStop d
    ∧ r.chunks = [BitVec.ofNat 1024 (s.leaving e q).bits] ∧ t.stubOf e q = some ⟨d, (s.qctx e q).slice, 0⟩
    ∧ t.resident e q = false ∧ tget 0 t.eng.moveTo q = 0
    ∧ tget [] t.eng.moving e = tget [] s.eng.moving e ++ [(s.eng.nextId, 1)])
  ∧ (∀ (e : EngNo) (s : State), (s.descHead e 2 = none → exec (.contextLand e) s = .next s)
    ∧ (s.descHead e 1 = none → exec (.push e) s = .next s))
  ∧ (∀ (e : EngNo) (s : State) (x : Egr), s.descHead e 2 = some x →
    (isEngStop x.flit.src.toNat = false ∨ s.engState e ≠ 0 ∨ engSlots < s.engRes e + (descItems x.flit).length →
      ∃ t, exec (.contextLand e) s = .next t ∧ s.Raised t F.ENG.DESC_REJ_CNT e ∧ t.eng = s.eng
      ∧ t.egr (engStop e) 0 0 = (s.egr (engStop e) 0 0).tail
      ∧ (s.fget (F.HDR.PG_ERR_FIRST.CODE .eng) e = 0 → t.fget (F.HDR.PG_ERR_FIRST.CODE .eng) e = 0x74))
    ∧ (∀ q, isEngStop x.flit.src.toNat = true → s.engState e = 0 → s.engRes e + 1 ≤ engSlots → descTwo x.flit = false →
      q = vbits x.flit.addr 0 16 → ∃ t, exec (.contextLand e) s = .next t ∧ t.resident e q = true ∧ t.stubOf e q = none
      ∧ (t.qctx e q).slice = (ctxOf (vbits x.flit.data 0 512)).slice
      ∧ (tget 0 s.eng.abort (qKey e q) = 0 → (t.qctx e q).st = (ctxOf (vbits x.flit.data 0 512)).land)
      ∧ ∃ f ∈ t.net.flight, f.msg = qmapUpdMsg e q))
  ∧ (∀ (e : EngNo) (s : State) (x : Egr) (q : Nat) (c : QCtx), s.descHead e 1 = some x → q = vbits x.flit.addr 0 16 → c = s.qctx e q →
    ([56, 57, 59].contains x.flit.src.toNat = false ∨ s.resident e q = false ∨ c.pushq = false
        ∨ 64 < s.unretired e q + (descItems x.flit).length →
      ∃ t, exec (.push e) s = .next t ∧ s.Raised t F.ENG.DESC_REJ_CNT e ∧ t.eng = s.eng
      ∧ (s.fget (F.HDR.PG_ERR_FIRST.CODE .eng) e = 0 → t.fget (F.HDR.PG_ERR_FIRST.CODE .eng) e = 0x74))
    ∧ ([56, 57, 59].contains x.flit.src.toNat = true → s.resident e q = true → c.pushq = true →
        s.unretired e q + (descItems x.flit).length ≤ 64 → ∃ t, exec (.push e) s = .next t
      ∧ (t.availOf q).length = (s.availOf q).length + (descItems x.flit).length
      ∧ (t.qctx e q).tail = (c.tail + (descItems x.flit).length) % 65536
      ∧ (t.qctx e q).fetched = (c.tail + (descItems x.flit).length) % 65536))
  ∧ (∀ (n : Node) (m : Msg) (s : State) (q e : Nat), msgOk m = true → q = vbits m 32 16 → e = vbits m 16 3 →
    (n.val = 60 → exec (.qmapUpd n m) s = .next ((s.take n m).fset F.GLB.QMAP_DATA.ENGINE e 0 0 0 q))
    ∧ (n.val = 62 → ∃ t, exec (.qmapUpd n m) s = .next t ∧ t.qmapCopy q = e ∧ t.regs = s.regs)
    ∧ (∀ x, isEngStop n = true → s.stubOf (n / 7) q = some x → ∃ t, exec (.qmapUpd n m) s = .next t
        ∧ t.stubOf (n / 7) q = some { x with seen := 1 + s.nodeTick n } ∧ t.regs = s.regs)
    ∧ (n.val ≠ 60 → n.val ≠ 62 → isEngStop n = false ∨ s.stubOf (n / 7) q = none → exec (.qmapUpd n m) s = .next (s.take n m)))
  ∧ (∀ (e : EngNo) (q : QueueNo) (y : Stub) (s : State), s.eng.stub = [(qKey e q, some y)] →
    (y.seen ≠ 0 → tickPast (s.nodeTick (engStop e)) (y.seen - 1) 2 = true → ∃ t, exec (.stubExpire e) s = .next t ∧ t.eng.stub = [])
    ∧ (y.seen = 0 ∨ tickPast (s.nodeTick (engStop e)) (y.seen - 1) 2 = false → exec (.stubExpire e) s = .next s))
  ∧ (∀ (s : State), s.egr 58 0 0 = [] → s.eng.fan = [] → exec .replCopy s = .next s)
  ∧ (∀ (s : State) (x : Fan) (i : Nat) (ms : List Nat), s.egr 58 0 0 = [] → s.eng.fan = [x] → x.members = i :: ms →
    i ∉ ms → (∀ m ∈ x.members, s.formBlock 58 (copyReq x m) ≠ 1) →
    (x.part = 0 → s.target 58 (linkOf i).1 (linkOf i).2 = 2 → ∃ t, exec .replCopy s = .next t ∧ s.Raised t F.REPL.SKIP_CNT 0
      ∧ t.formQ 58 = s.formQ 58 ∧ t.eng.fan = if ms = [] then [] else [{ x with members := ms, part := 0 }])
    ∧ ((x.part ≠ 0 ∧ x.cur = i) ∨ (x.part = 0 ∧ s.target 58 (linkOf i).1 (linkOf i).2 ≠ 2 ∧ s.formBlock 58 (copyReq x i) = 0) →
      (x.part + 1 < x.flits.length → ∃ t, exec .replCopy s = .next t
        ∧ t.eng.fan = [{ x with part := x.part + 1, cur := i }] ∧ t.ord = s.ord)
      ∧ (x.flits.length ≤ x.part + 1 → ∃ t, exec .replCopy s = .next t
        ∧ s.Raised t F.REPL.COPY_CNT 0 ∧ t.formQ 58 = s.formQ 58 ∧ (t.queue 58).length = (s.queue 58).length + 1
        ∧ t.eng.fan = if ms = [] then [] else [{ x with members := ms, part := 0 }])))

/-- Descriptors (R309, R312–R317): a good fetch makes its descriptors available, a failed one ends the first of them; the
next descriptor of the slice with the smallest virtual time starts, a bad one with its record; an ended read gives its
chunk its bytes or its failure; a retirement moves HEAD, counts, and stops the queue on an error that does. -/
def Obligations.DescriptorsRunAndRetire : Prop :=
  (∀ (e : EngNo) (s : State), tget [] s.ord.rdDone (engStop e) = [] →
    exec (.descFetchDone e) s = .next s ∧ exec (.chunkReadDone e) s = .next (s.engPump e))
  ∧ (∀ (e : EngNo) (q : QueueNo) (s : State) (r : RdDone) (id i n : Nat), tget [] s.ord.rdDone (engStop e) = [r] → r.use = .desc id →
    s.eng.fetch = [(qKey e q, some (id, i, n))] →
    ((s.qctx e q).now = 3 → ∃ t, exec (.descFetchDone e) s = .next t ∧ tget none t.eng.fetch (qKey e q) = none ∧ t.availOf q = s.availOf q)
    ∧ ((s.qctx e q).now ≠ 3 → rdStatus r = 0 → rdPois r = false → 0 < n → ∃ t, exec (.descFetchDone e) s = .next t
      ∧ tget none t.eng.fetch (qKey e q) = none ∧ t.availOf q = s.availOf q ++ (List.range n).map (fun j =>
          ((i + j) % 65536, numOfBytes (((rdBytes r).drop (64 * j)).take 64))))
    ∧ ((s.qctx e q).now ≠ 3 → rdStatus r ≠ 0 ∨ rdPois r = true → ∃ t x, exec (.descFetchDone e) s = .next t
      ∧ tget none t.eng.fetch (qKey e q) = none ∧ t.availOf q = s.availOf q ++ [x] ∧ x.1 = i
      ∧ x.2 / 2 ^ 512 = (if rdStatus r ≠ 0 then rdStatus r else 4) ∧ (t.qctx e q).fetched = (i + 1) % 65536))
  ∧ (∀ (e : EngNo) (s u : State), u = s.engPump e → u.engState e ≠ 0 ∨ 64 ≤ (u.execOf e).length ∨
      (u.storedQueues e).filter (fun q => u.startable? e q) = [] → ∃ t, exec (.descStart e) s = .next t ∧ t.execOf e = u.execOf e
      ∧ t.regs = u.regs ∧ t.eng.avail = u.eng.avail)
  ∧ (∀ (e : EngNo) (s u : State) (q i b : Nat) (rest : List (Nat × Nat)) (c : QCtx), u = s.engPump e → u.engState e = 0 →
    (u.execOf e).length < 64 → (u.storedQueues e).filter (fun y => u.startable? e y) = [q] → u.availOf q = (i, b) :: rest → c = u.qctx e q →
    ∃ t, exec (.descStart e) s = .next t ∧ t.availOf q = rest
      ∧ (∃ d ∈ t.execOf e, d.q = q ∧ d.index = i ∧ d.bits = b % 2 ^ 512
        ∧ d.fixed = if b / 2 ^ 512 ≠ 0 then b / 2 ^ 512 else if dscOk b c.pv then 0 else 7)
      ∧ tget 0 t.eng.vt (vtKey e c.slice) = wrapAdd 32 (tget 0 u.eng.vt (vtKey e c.slice)) (vStep (u.engWt e c.slice))
      ∧ (b < 2 ^ 512 → dscOk b c.pv = false → u.Raised t F.ENG.BAD_DESC_CNT e))
  ∧ (∀ (e : EngNo) (s : State) (r : RdDone) (d : Dsc) (c : EChunk), tget [] s.ord.rdDone (engStop e) = [r] → r.use = .chunk c.id →
    tget [] s.eng.events e = [] → s.execOf e = [d] → d.chunks = [c] → tget [] s.eng.wait e = [] → c.id < s.eng.nextId →
    (rdStatus r ≠ 0 → ∃ t, exec (.chunkReadDone e) s = .next t ∧ ∃ d' ∈ t.execOf e, ∃ c' ∈ d'.chunks, d'.index = d.index
      ∧ c'.id = c.id ∧ c'.st = 4 ∧ c'.status = rdStatus r)
    ∧ (rdStatus r = 0 → dOp d.bits = 3 → ∃ t, exec (.chunkReadDone e) s = .next t ∧ ∃ d' ∈ t.execOf e, ∃ c' ∈ d'.chunks,
      d'.index = d.index ∧ c'.id = c.id ∧ c'.st = 3 ∧ c'.data = rdWanted r c.len ∧ c'.pois = rdPois r)
    ∧ (rdStatus r = 0 → dOp d.bits = 1 → s.budget e < c.len → ∃ t, exec (.chunkReadDone e) s = .next t ∧ ∃ d' ∈ t.execOf e,
      ∃ c' ∈ d'.chunks, d'.index = d.index ∧ c'.id = c.id ∧ c'.st = 1 ∧ c'.data = rdWanted r c.len ∧ c'.pois = rdPois r))
  ∧ (∀ (e : EngNo) (s u : State), u = s.engPump e → u.retirable e = none → exec (.descRetire e) s = .next u)
  ∧ (∀ (e : EngNo) (s u : State) (d : Dsc), u = s.engPump e → u.retirable e = some d → ∃ t, exec (.descRetire e) s = .next t
    ∧ (t.qctx e d.q).head = ((u.qctx e d.q).head + 1) % 65536
    ∧ (d.status = 0 → u.Raised t F.ENG.DESC_DONE_CNT e) ∧ (d.status ≠ 0 → u.Raised t F.ENG.DESC_ERR_CNT e)
    ∧ (stopsQueue d.status = true → (t.qctx e d.q).now = 3))

/-- Slice commands (R344–R349, R359, R365, Table 12-5): refused while BUSY with code 5 (FORCE is held instead), outside
their states with code 1, and with code 2 in LIVE and DRYING; each accepted one sets the new state and announces its
update to every node, RESET, REMOVE and FORCE under the next generation. -/
def Obligations.SliceCommandsFollowTheirTable : Prop :=
  (∀ (x : SliceNo) (s : State), s.fbit F.SLICE.MSTS.BUSY x = true →
    (∀ c ∈ [Instr.sliceCreate, .sliceDrydown, .sliceOpen, .sliceReset, .sliceRemove, .sliceFreeze, .sliceThaw],
      exec (c x) s = .next ((s.touch .slice x).sliceRes x 5))
    ∧ (∃ t, exec (.sliceForce x) s = .next t ∧ tget 0 t.slc.force x = 1 ∧ t.sliceState x = s.sliceState x))
  ∧ (∀ p ∈ [(0, [Instr.sliceDrydown, .sliceOpen, .sliceReset, .sliceRemove, .sliceFreeze, .sliceThaw, .sliceForce]),
      (1, [.sliceCreate, .sliceOpen, .sliceThaw]), (2, [.sliceCreate, .sliceDrydown, .sliceThaw]),
      (3, [.sliceCreate, .sliceDrydown, .sliceThaw]),
      (4, [.sliceCreate, .sliceDrydown, .sliceOpen, .sliceReset, .sliceFreeze]),
      (5, [.sliceCreate, .sliceDrydown, .sliceOpen, .sliceReset, .sliceRemove, .sliceFreeze, .sliceThaw])],
    ∀ (x : SliceNo) (s : State), s.fbit F.SLICE.MSTS.BUSY x = false → s.sliceState x = p.1 → ∀ c ∈ p.2,
      exec (c x) s = .next ((s.touch .slice x).sliceRes x 1))
  ∧ (∀ (x : SliceNo) (s : State), s.fbit F.SLICE.MSTS.BUSY x = false → s.sliceState x = 1 ∨ s.sliceState x = 2 →
      ∀ c ∈ [Instr.sliceReset, .sliceRemove, .sliceFreeze], exec (c x) s = .next ((s.touch .slice x).sliceRes x 2))
  ∧ (∀ (x : SliceNo) (s : State), s.fbit F.SLICE.MSTS.BUSY x = false → s.sliceState x = 0 →
    (s.accordRes x ≠ 0 → exec (.sliceCreate x) s = .next ((s.touch .slice x).sliceRes x (s.accordRes x)))
    ∧ (s.accordRes x = 0 → ∃ t l, exec (.sliceCreate x) s = .next t ∧ t.fget F.SLICE.MSTS.BUSY x = 1 ∧ t.fget F.SLICE.MSTS.RES x = 0
      ∧ tget 0 t.slc.create x = 1 + s.nodeTick 62 ∧ t.sliceState x = 0 ∧ t.net.flight = s.net.flight ++ l ∧ l.length = 16))
  ∧ (∀ (x : SliceNo) (s : State), s.fbit F.SLICE.MSTS.BUSY x = false → s.sliceState x = 1 →
    (s.freeTracker = none → exec (.sliceDrydown x) s = .next ((s.touch .slice x).sliceRes x 5))
    ∧ (∀ i, s.freeTracker = some i → ∃ t u, exec (.sliceDrydown x) s = .next t ∧ t.sliceState x = 2 ∧ t.fget F.SLICE.MSTS.RES x = 0
      ∧ t.fget F.SLICE.MSTS.TRACKED x = 1 ∧ tget 0 t.slc.trk i = x + 1 ∧ t.fget F.SLICE.DRY_TICKS x = 0
      ∧ tget none t.slc.again x = some u ∧ u.op = 1 ∧ u.sgen = s.sliceGen x ∧ u.left = 3
      ∧ ∃ f ∈ t.net.flight, f.msg = sliceUpdMsg x u))
  ∧ (∀ (x : SliceNo) (s : State), s.fbit F.SLICE.MSTS.BUSY x = false → s.sliceState x = 2 ∨ s.sliceState x = 3 →
    ∃ t u, exec (.sliceOpen x) s = .next t ∧ t.sliceState x = 1 ∧ t.fget F.SLICE.MSTS.RES x = 0
      ∧ tget none t.slc.again x = some u ∧ u.op = 0 ∧ u.qreset = false ∧ ∃ f ∈ t.net.flight, f.msg = sliceUpdMsg x u)
  ∧ (∀ (x : SliceNo) (s : State), s.fbit F.SLICE.MSTS.BUSY x = false → s.sliceState x = 3 →
    (∃ t u, exec (.sliceReset x) s = .next t ∧ t.sliceState x = 1 ∧ t.fget F.SLICE.MSTS.RES x = 0
      ∧ t.sliceGen x = (s.sliceGen x + 1) % 16 ∧ tget none t.slc.again x = some u ∧ u.op = 0 ∧ u.qreset = true
      ∧ u.sgen = (s.sliceGen x + 1) % 16 ∧ t.fbit F.SLICE.EVT_CFG.EN x = false ∧ t.fbit F.SLICE.EVT_CFG.ARMED x = false
      ∧ ∀ i : Fin 8, t.fget F.SLICE.EVT_PEND.PEND x i = 0)
    ∧ (∃ t, exec (.sliceFreeze x) s = .next t ∧ t.sliceState x = 4 ∧ t.fget F.SLICE.MSTS.RES x = 0
      ∧ t.fbit F.SLICE.FRZ_TICK_HI.LATCHED x = false ∧ t.cnt.freezeQ = s.cnt.freezeQ ++ [some x.val]))
  ∧ (∀ (x : SliceNo) (s : State), s.fbit F.SLICE.MSTS.BUSY x = false → s.sliceState x = 3 ∨ s.sliceState x = 4 →
    ∃ t u, exec (.sliceRemove x) s = .next t ∧ t.sliceState x = 5 ∧ t.fget F.SLICE.MSTS.RES x = 0
      ∧ t.sliceGen x = (s.sliceGen x + 1) % 16 ∧ tget none t.slc.again x = some u ∧ u.op = 1 ∧ u.sgen = (s.sliceGen x + 1) % 16)
  ∧ (∀ (x : SliceNo) (s : State), s.fbit F.SLICE.MSTS.BUSY x = false → s.sliceState x = 4 →
    ∃ t u, exec (.sliceThaw x) s = .next t ∧ t.sliceState x = 1 ∧ t.fget F.SLICE.MSTS.RES x = 0
      ∧ t.fbit F.SLICE.FRZ_TICK_HI.LATCHED x = false ∧ tget none t.slc.again x = some u ∧ u.op = 0)
  ∧ (∀ (x : SliceNo) (s : State), s.fbit F.SLICE.MSTS.BUSY x = false → 1 ≤ s.sliceState x → s.sliceState x ≤ 4 →
    ∃ t u, exec (.sliceForce x) s = .next t ∧ t.sliceState x = 5 ∧ t.fget F.SLICE.MSTS.RES x = 0
      ∧ t.sliceGen x = (s.sliceGen x + 1) % 16 ∧ tget none t.slc.again x = some u ∧ u.op = 2 ∧ u.sgen = (s.sliceGen x + 1) % 16)
  ∧ (∀ (x : SliceNo) (s : State), s.fbit F.SLICE.MSTS.BUSY x = false → s.sliceState x = 5 →
      exec (.sliceForce x) s = .next ((s.touch .slice x).sliceRes x 0))

/-- Slice updates at the stops, unit ranges, meters and flushes (R346–R348, R354, R357): an update is noted once by NN and
applies at the stop's boundary, with its generation and what the stop admits; a unit range counts once both halves have
come; MTR_SEL shows an own meter; posted entries of a slice that has dried FLUSH_AGE ticks move to flush spill while there
is room. Residue and the ends of slices (R349, R356, R358): census reports go to GLB and to the slice page owner, which
shows how many stops reported residue of a tracked slice; a census event takes a DRYING slice to DRY and a REMOVED one to
FREE, its tracker free again. -/
def Obligations.SliceUpdatesAndTheCensusTakeEffect : Prop :=
  (∀ (n : Node) (m : Msg) (s : State) (key : Nat), msgOk m = true → key = sliceKey n (vbits m 36 12) →
    (60 ≤ n.val ∨ tget 0 s.slc.applied key = vbits m 21 8 → exec (.sliceUpd n m) s = .next (s.take n m))
    ∧ (n.val < 60 → tget 0 s.slc.applied key ≠ vbits m 21 8 → tget none s.slc.arrived key = none → ∃ t, exec (.sliceUpd n m) s = .next t
      ∧ tget none t.slc.arrived key =
          some { op := vbits m 30 2, sgen := vbits m 32 4, qreset := m.getLsbD 29, nn := vbits m 21 8, left := 0 }
      ∧ t.regs = s.regs))
  ∧ (∀ (k : Stop) (s : State), s.slc.arrived = [] → exec (.sliceUpdApply k) s = .next s)
  ∧ (∀ (k : Stop) (x : SliceNo) (u : SliceUpd) (s : State), s.slc.arrived = [(sliceKey k x, some u)] →
    ∃ t, exec (.sliceUpdApply k) s = .next t ∧ tget 0 t.slc.applied (sliceKey k x) = u.nn
      ∧ tget none t.slc.arrived (sliceKey k x) = none ∧ tget 0 t.ord.gen (sliceKey k x) = u.sgen
      ∧ t.admits k x = decide (u.op = 0) ∧ tget 0 t.slc.closedAt (sliceKey k x) = (if u.op = 1 then 1 + s.nodeTick k else 0))
  ∧ (∀ (n : Node) (m : Msg) (s : State) (key old : Nat), msgOk m = true → key = sectorOf n * 4096 + vbits m 32 12 →
    old = tget 0 s.mem.unitsPart key →
    (isMemStop n = false → exec (.unitRng n m) s = .next (s.take n m))
    ∧ (isMemStop n = true → old = 0 ∨ (old - 1) % 2 = vbits m 31 1 → ∃ t, exec (.unitRng n m) s = .next t
      ∧ tget 0 t.mem.unitsPart key = 1 + vbits m 31 1 + 2 * vbits m 14 17 ∧ t.mem.units = s.mem.units)
    ∧ (isMemStop n = true → old ≠ 0 → (old - 1) % 2 ≠ vbits m 31 1 → ∃ t, exec (.unitRng n m) s = .next t
      ∧ tget 0 t.mem.unitsPart key = 0
      ∧ tget 0 t.mem.units key = (if vbits m 31 1 = 1 then (old - 1) / 2 + 131072 * vbits m 14 17
          else vbits m 14 17 + 131072 * ((old - 1) / 2))))
  ∧ (∀ (x : SliceNo) (g : Fin 16384) (s : State), ∃ t, exec (.mtrSelWrite x g) s = .next t ∧ t.fget F.SLICE.MTR_SEL.METER x = g
      ∧ t.fget F.SLICE.MTR_STS.VALID x = 1 ∧ t.fget F.SLICE.MTR_STS.OWN x = b2n (s.ownsMeter x g)
      ∧ t.fget F.SLICE.MTR_TC.TC x = (if s.ownsMeter x g then (s.meter g).tc else 0) % 2 ^ F.SLICE.MTR_TC.TC.width
      ∧ t.fget F.SLICE.MTR_TP.TP x = (if s.ownsMeter x g then (s.meter g).tp else 0) % 2 ^ F.SLICE.MTR_TP.TP.width
      ∧ t.units = s.units)
  ∧ (∀ (k : Stop) (x : SliceNo) (s : State) (a : Nat), a = tget 0 s.slc.closedAt (sliceKey k x) →
    isPortStop k = false ∨ s.sliceState x ≠ 2 ∨ a = 0 ∨ tickPast (s.nodeTick k) (a - 1) (s.fget F.SLICE.CTL.FLUSH_AGE x) = false →
    exec (.drydownFlush k x) s = .next s)
  ∧ (∀ (k : Stop) (x : SliceNo) (s : State) (a : Nat) (l : Link) (y : Egr), a = tget 0 s.slc.closedAt (sliceKey k x) →
    isPortStop k = true → s.sliceState x = 2 → a ≠ 0 → tickPast (s.nodeTick k) (a - 1) (s.fget F.SLICE.CTL.FLUSH_AGE x) = true →
    s.present k l = true → s.linkState k l ≠ 0 → s.egr k l 0 = [y] → y.flit.slice.toNat = x.val → s.spill k l = [] →
    (∀ j : Link, j ≠ l → s.egr k j 0 = []) →
    (0 < s.spillCap k l 1 → 192 * (s.flushUse x + 1) ≤ 1048576 * s.fget F.SLICE.ACC_FLUSH.FLUSH_MIB x →
      ∃ t e, exec (.drydownFlush k x) s = .next t ∧ t.egr k l 0 = [] ∧ t.spill k l = [e] ∧ e.q = 2 ∧ e.stamp = y.stamp)
    ∧ (s.spillCap k l 1 = 0 → ∃ t, exec (.drydownFlush k x) s = .next t ∧ t.egr k l 0 = [y] ∧ t.fget F.SLICE.DRY_STS.FLUSH_FULL x = 1))
  ∧ (∀ (n : Node) (m : Msg) (s : State), msgOk m = true →
    (n.val = 60 → exec (.census n m) s = .next ((s.take n m).census60 (msgSrc m) (vbits m 7 4) (m.getLsbD 43)))
    ∧ (n.val = 62 → exec (.census n m) s = .next ((s.take n m).census62 (msgSrc m) (vbits m 7 4) (vbits m 11 32)))
    ∧ (n.val ≠ 60 → n.val ≠ 62 → exec (.census n m) s = .next (s.take n m)))
  ∧ (∀ (n : Node) (m : Msg) (s : State) (b : Nat) (seen : Tbl Nat), msgOk m = true → n.val = 62 →
    b = countWithLow (s.nodeTick 62) 4 (vbits m 7 4) →
    seen = tset 0 (if s.slc.censusTick = b then s.slc.censusSeen else []) (msgSrc m) (1 + vbits m 11 32) →
    ∃ t, exec (.census n m) s = .next t ∧ t.slc.censusTick = b ∧ t.slc.censusSeen = seen
      ∧ ((∃ j : Stop, tget 0 seen j = 0) → t.regs = s.regs)
      ∧ (∀ (i : Fin 32) (x : SliceNo), s.slc.trk = [(i.val, x.val + 1)] → (∀ j : Stop, tget 0 seen j ≠ 0) →
          atOrAfter 48 (tget 0 s.slc.since i - 1) b = false →
          t.fget F.SLICE.DRY_STS.PENDING x = ((List.range 60).filter (fun k => nbit (tget 0 seen k - 1) i)).length))
  ∧ (∀ (x : SliceNo) (s : State), (s.sliceState x ≠ 2 ∨ s.censusHit x = false → exec (.dryReached x) s = .next s)
    ∧ (s.sliceState x ≠ 5 ∨ s.censusHit x = false → exec (.cleared x) s = .next s))
  ∧ (∀ (x : SliceNo) (s : State), s.censusHit x = true → s.slc.waiting = [] →
    (s.sliceState x = 2 → ∃ t, exec (.dryReached x) s = .next t ∧ t.sliceState x = 3 ∧ t.fget F.SLICE.MSTS.TRACKED x = 0
      ∧ t.fget F.SLICE.DRY_STS.PENDING x = 0 ∧ t.eng = s.eng ∧ t.mtr = s.mtr)
    ∧ (s.sliceState x = 5 → ∃ t, exec (.cleared x) s = .next t ∧ t.sliceState x = 0 ∧ t.fget F.SLICE.MSTS.TRACKED x = 0
      ∧ (tget 0 s.slc.moved x = 1 → tget 0 t.slc.moved x = 0)
      ∧ (tget 0 s.slc.moved x ≠ 1 → (∀ e : EngNo, t.fget F.ENG.SW_DATA.WEIGHT e 0 0 x = 16)
          ∧ ∀ b ∈ t.mtr.bind, b.1 % 4096 ≠ x.val)))

/-- Arrival of a pair frame (R391, R504–R506, R519): nothing arrives while the link is not enabled; one without room or
with a wrong CRC is counted and lost; during a takeover a frame only ends mirroring; a valid one shows the peer, and one
that is not the expected PSEQ is a counted duplicate or nothing; each applied frame moves the expected PSEQ on and counts.
A frame whose TYPE is another command's does nothing: the model's choice (assumption 56). Takeover (R512, R513): refused
by its code, or started with BUSY 1 and the CREATEs of the shadow slices; when they have all ended DONE shows how many
became LIVE, and HOME takes SHD in. -/
def Obligations.PairFramesArriveAndTakeoversRun : Prop :=
  (∀ (raw : BitVec 1344) (b : Bool) (s : State) (f : PairFrame), f = frameOf raw.toNat →
    ∀ p ∈ [(1, Instr.pairFrameXlt raw b), (2, .pairFramePb raw b), (3, .pairFrameAcc raw b), (4, .pairFrameQctx raw),
      (5, .pairFrameMtr raw), (6, .pairFrameSlc raw), (7, .pairFrameFlc raw), (8, .pairFrameCkpt raw), (9, .pairFrameWake raw),
      (10, .pairFrameHb raw b)],
    (s.fbit F.PAIR.PAIR_CTL.EN = false → exec p.2 s = .next s)
    ∧ (s.fbit F.PAIR.PAIR_CTL.EN = true →
      (64 ≤ s.pair.rx.length ∨ s.xbReady pairBridge = false → exec p.2 s = .next s.pairOverflow)
      ∧ (s.pair.rx.length < 64 → s.xbReady pairBridge = true →
        (pairCrcOk raw = false → exec p.2 s = .next (s.rcInc F.PAIR.CRC_ERR_CNT 0))
        ∧ (pairCrcOk raw = true → f.type ≠ p.1 → exec p.2 s = .next s)
        ∧ (pairCrcOk raw = true → f.type = p.1 → s.fbit F.PAIR.TKO_STS.BUSY = true →
            exec p.2 s = .next (if s.pairMs = 0 then s
              else ({ s with pair := { s.pair with full := 0, fullOut := [] } } : State).setMs 3))
        ∧ (pairCrcOk raw = true → f.type = p.1 → s.fbit F.PAIR.TKO_STS.BUSY = false → ∃ t, exec p.2 s = .next t
            ∧ t.fget F.PAIR.PAIR_STS.PEER = 1 ∧ t.pair.heard = true
            ∧ (f.type ≠ 10 → s.pair.cur = none → s.pair.rx = [] → f.pseq ≠ s.pair.rxSeq → t.pair.cur = none ∧ t.pair.rxSeq = s.pair.rxSeq
                ∧ t.slc = s.slc ∧ t.mem = s.mem ∧ (signedDiff 16 f.pseq s.pair.rxSeq < 0 → s.Raised t F.PAIR.DUP_CNT 0))))))
  ∧ (∀ (w : Word) (s : State) (u : State), u = (if s.fbit (F.HDR.PG_LOCK.UNLOCKED .pair) then
      (s.touch .pair 0).fput F.PAIR.TKO_CTL.FORCE (w.getLsbD 1)
      else if w.getLsbD 1 = s.fbit F.PAIR.TKO_CTL.FORCE then s.touch .pair 0 else (s.touch .pair 0).pgErr .pair 0 0x11C) →
    (w.getLsbD 0 = false → exec (.takeover w) s = .next u)
    ∧ (w.getLsbD 0 = true → u.tkoRefusal ≠ 0 → exec (.takeover w) s = .next (u.fset F.PAIR.TKO_STS.RES u.tkoRefusal))
    ∧ (w.getLsbD 0 = true → u.tkoRefusal = 0 → ∃ t, exec (.takeover w) s = .next t ∧ t.fget F.PAIR.TKO_STS.BUSY = 1
      ∧ t.fget F.PAIR.TKO_STS.RES = 0 ∧ t.fget F.PAIR.TKO_STS.DONE = 0 ∧ t.pair.tkoDone = 0
      ∧ (s.pair.shadow = [] → t.fget F.PAIR.TKO_STS.FAILED = 0 ∧ t.pair.tko = [] ∧ t.pair.tkoRun = [])))
  ∧ (∀ (s : State), s.fget F.PAIR.PAIR_STS.PEER ≠ 2 → s.tkoRefusal = 1)
  ∧ (∀ (s : State), s.fget F.PAIR.PAIR_STS.PEER = 2 → s.fbit F.PAIR.PAIR_STS.PARTNER_FAIL = false → s.fbit F.PAIR.TKO_CTL.FORCE = false →
      s.tkoRefusal = 2)
  ∧ (∀ (s : State), s.fbit F.PAIR.TKO_STS.BUSY = false → exec .takeoverDone s = .next s)
  ∧ (∀ (s : State), s.fbit F.PAIR.TKO_STS.BUSY = true → s.pair.tko = [] → (∀ x ∈ s.pair.tkoRun, tget 0 s.slc.create x = 0) →
    ∃ t, exec .takeoverDone s = .next t ∧ t.fget F.PAIR.TKO_STS.BUSY = 0
      ∧ t.fget F.PAIR.TKO_STS.DONE = (s.pair.tkoDone + s.pair.tkoRun.length) % 2 ^ 13
      ∧ t.fget F.PAIR.SHD.CNT = 0 ∧ t.fget F.PAIR.HOME.CNT = (s.fget F.PAIR.HOME.CNT + s.fget F.PAIR.SHD.CNT) % 2 ^ 13)
  ∧ (∀ (s : State) (x : Nat), s.fbit F.PAIR.TKO_STS.BUSY = true → s.pair.tko = [] → x ∈ s.pair.tkoRun → tget 0 s.slc.create x ≠ 0 →
    ∃ t, exec .takeoverDone s = .next t ∧ t.fbit F.PAIR.TKO_STS.BUSY = true ∧ x ∈ t.pair.tkoRun)

/-- What the mirrored frames do when they are the expected one (R508, R509, R511, R515, Table 19-3): shadow accords,
contexts, checkpoints and marks are written where R509 allows it and refused with REFUSE_CNT elsewhere; translation and
binding entries go through this die's update paths; flacon blocks are written; WAKE wakes the sectors it names; HB frees
copies, ends LAG and carries RESTART. -/
def Obligations.PairFramesAreApplied : Prop :=
  (∀ (raw : BitVec 1344) (b : Bool) (s : State) (f : PairFrame) (x q : Nat), f = frameOf raw.toNat → s.fbit F.PAIR.PAIR_CTL.EN = true →
    s.pair.rx = [] → s.xbReady pairBridge = true → pairCrcOk raw = true → s.fbit F.PAIR.TKO_STS.BUSY = false → s.pair.cur = none →
    s.pair.items = [] → s.pair.out = [] → s.pair.ret = [] → s.pair.mark = none → f.pseq = s.pair.rxSeq → x = f.item % 4096 →
    q = nbits f.item 16 16 →
    (f.type = 3 → ∃ t, exec (.pairFrameAcc raw b) s = .next t ∧ t.pair.rxSeq = (s.pair.rxSeq + 1) % 65536 ∧ t.pair.cur = none
      ∧ s.Raised t F.PAIR.MIR_RX_CNT 0 ∧ (b = true → t.pair.shadow = [])
      ∧ (b = false → s.takesMirror x = true → ∀ i : Fin 8, ∀ g ∈ accordReg i, t.fget g x = nbits (nbits f.payload (32 * i) 32) g.lo g.width)
      ∧ (b = false → s.takesMirror x = false → s.Raised t F.PAIR.REFUSE_CNT 0 ∧ t.slc = s.slc))
    ∧ (f.type = 4 → f.count = 1 → ∀ e c, e = s.qmap q → c = ctxOf (nbits f.payload 0 512) → ∃ t, exec (.pairFrameQctx raw) s = .next t
      ∧ t.pair.rxSeq = (s.pair.rxSeq + 1) % 65536 ∧ s.Raised t F.PAIR.MIR_RX_CNT 0
      ∧ (if s.takesMirror x && s.resident e q && (s.qctx e q).st == 0 && ctxValid (nbits f.payload 0 512) && c.slice == x && s.ownsQueue x q then
          tget {} t.eng.ctx (qKey e q) = { c with st := 0, fetched := c.head, sgen := s.sliceGen x }
         else s.Raised t F.PAIR.REFUSE_CNT 0 ∧ t.eng = s.eng))
    ∧ (f.type = 5 → f.count = 1 → ∀ off, off = nbits f.item 16 12 → ∃ t, exec (.pairFrameMtr raw) s = .next t
      ∧ t.pair.rxSeq = (s.pair.rxSeq + 1) % 65536 ∧ s.Raised t F.PAIR.MIR_RX_CNT 0
      ∧ (if s.takesMirror x && off < s.fget F.SLICE.ACC_M.MCNT x then t.mtr = (s.loadMeter x f.payload off 0).mtr
         else s.Raised t F.PAIR.REFUSE_CNT 0 ∧ t.mtr = s.mtr))
    ∧ (f.type = 6 → ∃ t, exec (.pairFrameSlc raw) s = .next t ∧ t.pair.rxSeq = (s.pair.rxSeq + 1) % 65536 ∧ s.Raised t F.PAIR.MIR_RX_CNT 0
      ∧ (nbits f.item 12 4 = 0 → s.takesMirror x = true → tget 0 t.pair.shadow x = 1)
      ∧ (nbits f.item 12 4 ≠ 0 → s.sliceState x = 0 → tget 0 t.pair.shadow x = 0 ∧ ∀ i : Fin 8, ∀ g ∈ accordReg i, t.fget g x = 0)
      ∧ ((nbits f.item 12 4 = 0 ∧ s.takesMirror x = false) ∨ (nbits f.item 12 4 ≠ 0 ∧ s.sliceState x ≠ 0) →
          s.Raised t F.PAIR.REFUSE_CNT 0 ∧ t.pair.shadow = s.pair.shadow))
    ∧ (f.type = 8 → f.count = 1 → ∀ p e c, p = f.item % 65536 → e = s.qmap p → c = s.qctx e p → ∃ t, exec (.pairFrameCkpt raw) s = .next t
      ∧ t.pair.rxSeq = (s.pair.rxSeq + 1) % 65536 ∧ s.Raised t F.PAIR.MIR_RX_CNT 0
      ∧ (if s.resident e p && c.v && c.st == 0 && s.isShadow c.slice then
          (tget {} t.eng.ctx (qKey e p)).head = nbits f.payload 0 16 ∧ (tget {} t.eng.ctx (qKey e p)).tail = nbits f.payload 16 16
         else s.Raised t F.PAIR.REFUSE_CNT 0 ∧ t.eng = s.eng))
    ∧ (f.type = 9 → ∃ t, exec (.pairFrameWake raw) s = .next t ∧ t.pair.rxSeq = (s.pair.rxSeq + 1) % 65536
      ∧ ∀ y : Sector, nbit f.item y = true → s.wakeEn y 6 = true → 2 ≤ s.sectorState y → s.pwrPhase y = 0 → t.pwrPhase y = 4)
    ∧ (f.type = 1 → 0 < f.count → ∀ key c, key = nbits f.payload 0 24 → c = (fmaLoc (xltFma false key)).1 → b = false →
      (s.fbit F.MEM.XLT_STS.BUSY c = true → ∃ t, exec (.pairFrameXlt raw b) s = .next t ∧ t.pair.cur = some f ∧ t.mem = s.mem
          ∧ t.pair.rxSeq = s.pair.rxSeq)
      ∧ (s.fbit F.MEM.XLT_STS.BUSY c = false → ∃ t, exec (.pairFrameXlt raw b) s = .next t ∧ t.pair.cur = some f ∧ t.pair.curSt = 1
          ∧ t.fget F.MEM.XLT_STS.BUSY c = 1 ∧ tget 0 t.mem.updKey c = key ∧ tget 0 t.mem.updMir c = 1
          ∧ tget 0 t.mem.updVal c = (s.mapEntry (nbits f.payload 32 128)).1
          ∧ ((s.mapEntry (nbits f.payload 32 128)).2 = true → s.Raised t F.PAIR.NOMAP_CNT 0)))
    ∧ (f.type = 2 → f.count = 1 → b = false → ∀ v i, v = nbits f.payload 0 256 → i = f.item % 1048576 →
      (nbit v 0 = true → s.glbBindIdx (nbits v 24 8) (nbits v 32 20) ≠ some i → ∃ t, exec (.pairFramePb raw b) s = .next t
        ∧ s.Raised t F.PAIR.REFUSE_CNT 0 ∧ t.pair.cur = none ∧ t.pair.rxSeq = (s.pair.rxSeq + 1) % 65536 ∧ t.mem = s.mem)
      ∧ (nbit v 0 = false ∨ s.glbBindIdx (nbits v 24 8) (nbits v 32 20) = some i →
        (s.fbit F.GLB.PB_STS.BUSY = true → ∃ t, exec (.pairFramePb raw b) s = .next t ∧ t.pair.cur = some f ∧ t.mem = s.mem)
        ∧ (s.fbit F.GLB.PB_STS.BUSY = false → ∃ t, exec (.pairFramePb raw b) s = .next t ∧ t.pair.cur = some f ∧ t.pair.curSt = 1
          ∧ t.fget F.GLB.PB_STS.BUSY = 1 ∧ t.mem.pbKey = i ∧ t.mem.pbVal = v ∧ t.mem.pbMir = true)))
    ∧ (f.type = 7 → s.fl.op ≠ 1 → ∃ t r, exec (.pairFrameFlc raw) s = .next t ∧ t.pair.cur = some f ∧ t.pair.curSt = 1
      ∧ t.formQ 59 = s.formQ 59 ++ [r] ∧ r.hdr.opc = opMWR
      ∧ r.hdr.addr = BitVec.ofNat 64 (slotFma x (128 * nbits f.item 16 12)) ∧ r.chunks = chunksOf 32 (bytesOf 128 f.payload)))
  ∧ (∀ (raw : BitVec 1344) (b : Bool) (s : State) (f : PairFrame), f = frameOf raw.toNat → s.fbit F.PAIR.PAIR_CTL.EN = true →
    s.pair.rx = [] → s.xbReady pairBridge = true → pairCrcOk raw = true → s.fbit F.PAIR.TKO_STS.BUSY = false → s.pair.cur = none →
    s.pair.items = [] → f.type = 10 → ∃ t, exec (.pairFrameHb raw b) s = .next t
    ∧ (f.restart = false → s.pairMs ≠ 2 → t.pair.ret = s.pair.ret.filter (fun g => 0 ≤ signedDiff 16 g.pseq f.pack))
    ∧ (f.restart = false → s.pairMs = 2 → s.pairUp = true → b = false → t.pairMs = 1)
    ∧ (f.restart = true → s.pairMs = 1 ∨ s.pairMs = 2 → t.pairMs = 3 ∧ t.pair.txSeq = 0 ∧ t.pair.rxSeq = 0 ∧ t.pair.ret = [])
    ∧ (b = true → s.pairMs = 1 ∨ s.pairMs = 4 → t.pairMs = 3)
    ∧ (b = false → f.restart = false → s.pairMs ≠ 2 → t.pairMs = s.pairMs))

/-- The mirror's own course (R504, R506, R508, R510, R515, R559): replays, checkpoints, the loss of the peer, the link's
moves, MIRROR, RSYNC, the end of a full send, wakes, marks and credit. -/
def Obligations.PairCommandsMoveTheMirror : Prop :=
  (∀ (s : State), s.replayDue = false → exec .pairReplay s = .next s)
  ∧ (∀ (s : State) (l : List PairFrame), s.replayDue = true → s.pair.items = [] → s.pair.cred = s.pair.used → s.pair.used < 65536 →
    l = s.pair.ret.map (fun f => { f with sent := s.nodeTick 59 }) → ∃ t, exec .pairReplay s = .next t
      ∧ t.pair.ret = l ∧ t.pair.out = s.pair.out.filter (fun f => f.type == 10) ++ l ∧ s.Raised t F.PAIR.REPLAY_CNT 0)
  ∧ (∀ (s : State) (per : Nat), per = s.fget F.PAIR.PAIR_CFG.CKPT_PER → per = 0 ∨ s.pair.ckptAt < per → exec .pairCkpt s = .next s)
  ∧ (∀ (s : State) (l : List MirItem), s.fget F.PAIR.PAIR_CFG.CKPT_PER ≠ 0 → s.fget F.PAIR.PAIR_CFG.CKPT_PER ≤ s.pair.ckptAt →
    l = (s.activeSlices.filter (fun x => s.isHome x && s.sliceState x == 1)).flatMap (fun x => s.ckptItems x) → s.pair.items = [] →
    s.pair.ret.length + l.length ≤ 4096 → ∃ t m, exec .pairCkpt s = .next t ∧ t.pair.ckptAt = 0 ∧ t.pair.ret = s.pair.ret ++ m
      ∧ (s.fbit F.PAIR.PAIR_CTL.MIRROR = true → s.pairMs = 1 → m.length = l.length ∧ ∀ f ∈ m, f.type = 8)
      ∧ (s.fbit F.PAIR.PAIR_CTL.MIRROR = false → m = []))
  ∧ (∀ (s : State), s.fbit F.PAIR.PAIR_CTL.EN = false ∨ s.fget F.PAIR.PAIR_STS.PEER = 2 ∨
      s.pair.silent < max 1 (s.fget F.PAIR.PAIR_CFG.HB_LIM) → exec .peerLost s = .next s)
  ∧ (∀ (s : State), s.fbit F.PAIR.PAIR_CTL.EN = true → s.fget F.PAIR.PAIR_STS.PEER ≠ 2 →
    max 1 (s.fget F.PAIR.PAIR_CFG.HB_LIM) ≤ s.pair.silent → ∃ t, exec .peerLost s = .next t ∧ t.fget F.PAIR.PAIR_STS.PEER = 2
      ∧ nbit (t.fget (F.HDR.PG_INT_STS.INT .pair)) 0 = true ∧ (s.pairMs = 1 → t.pairMs = 2)
      ∧ (s.fget (F.HDR.PG_ERR_FIRST.CODE .pair) = 0 → t.fget (F.HDR.PG_ERR_FIRST.CODE .pair) = 0xE1)
      ∧ (s.fbit F.PAIR.PAIR_CTL.AUTO = true → s.fbit F.PAIR.PAIR_STS.PARTNER_FAIL = true → s.fbit F.PAIR.TKO_STS.BUSY = false →
          t.fbit F.PAIR.TKO_STS.BUSY = true))
  ∧ (∀ (up : Bool) (s : State) (now : Bool), now = (s.fbit F.PAIR.PAIR_CTL.EN && up) →
    (s.fbit F.PAIR.PAIR_STS.LINK = now → exec (.plUpChange up) s = .next { s with pair := { s.pair with up := up } })
    ∧ (s.fbit F.PAIR.PAIR_STS.LINK ≠ now → ∃ t, exec (.plUpChange up) s = .next t ∧ t.fbit F.PAIR.PAIR_STS.LINK = now ∧ t.pair.up = up
      ∧ (now = false → t.pair.out = [] ∧ (s.pairMs = 1 → t.pairMs = 2) ∧ (s.pairMs = 4 → t.pairMs = 3))
      ∧ (now = true → s.pairMs = 3 → t.pairMs = if s.fbit F.PAIR.PAIR_CTL.AUTO_RESYNC && !s.fbit F.PAIR.TKO_STS.BUSY then 4 else 3)
      ∧ (now = true → s.pairMs ≠ 0 → s.fbit F.PAIR.TKO_STS.BUSY = true → t.pairMs = 3)))
  ∧ (∀ (v : Bool) (s : State), exec (.partnerFailChange v) s = .next (s.fput F.PAIR.PAIR_STS.PARTNER_FAIL v))
  ∧ (∀ (w : Word) (s : State), ∃ t, exec (.mirrorWrite w) s = .next t ∧ t.fbit F.PAIR.PAIR_CTL.EN = w.getLsbD 0
    ∧ t.fbit F.PAIR.PAIR_CTL.MIRROR = w.getLsbD 1 ∧ t.fbit F.PAIR.PAIR_CTL.AUTO = w.getLsbD 3
    ∧ t.fbit F.PAIR.PAIR_CTL.AUTO_RESYNC = w.getLsbD 4
    ∧ (s.fbit F.PAIR.PAIR_CTL.MIRROR = false → t.fbit F.PAIR.PAIR_CTL.PRIMARY = w.getLsbD 2)
    ∧ (s.fbit F.PAIR.PAIR_CTL.MIRROR = true → w.getLsbD 2 ≠ s.fbit F.PAIR.PAIR_CTL.PRIMARY →
        t.fbit F.PAIR.PAIR_CTL.PRIMARY = s.fbit F.PAIR.PAIR_CTL.PRIMARY ∧ s.Raised t (F.HDR.PG_ERR_CNT.CNT .pair) 0)
    ∧ (w.getLsbD 1 = false → t.pairMs = 0 ∧ t.pair.items = [] ∧ t.pair.ret = [])
    ∧ (w.getLsbD 1 = true → s.pairMs = 0 → t.pairMs = if w.getLsbD 0 && s.pair.up then 4 else 3))
  ∧ (∀ (s : State), (s.pairMs = 3 → s.pairUp = true → ∃ t, exec .rsyncGo s = .next t ∧ t.pairMs = 4 ∧ t.pair.full ≠ 0)
    ∧ (s.pairMs ≠ 3 ∨ s.pairUp = false → exec .rsyncGo s = .next (s.touch .pair 0)))
  ∧ (∀ (s : State) (d : Bool), d = (s.pair.full == fullEnd + 2 && s.pair.ret.all (fun f => 0 ≤ signedDiff 16 f.pseq s.pair.fullLast)) →
    (s.pairMs = 4 → d = true → ∃ t, exec .resyncDone s = .next t ∧ t.pairMs = 1 ∧ t.pair.full = 0)
    ∧ (s.pairMs ≠ 4 ∨ d = false → exec .resyncDone s = .next s))
  ∧ (∀ (m : BitVec 8) (s : State), (s.fbit F.PAIR.PAIR_CTL.EN = false → exec (.pwake m) s = .next (s.touch .pair 0))
    ∧ (s.fbit F.PAIR.PAIR_CTL.EN = true → s.pair.items = [] → s.pair.ret.length < 4096 → ∃ t f, exec (.pwake m) s = .next t
      ∧ t.pair.ret = s.pair.ret ++ [f] ∧ f.type = 9 ∧ f.item = m.toNat ∧ f.pseq = s.pair.txSeq
      ∧ t.pair.txSeq = (s.pair.txSeq + 1) % 65536 ∧ s.Raised t F.PAIR.MIR_TX_CNT 0))
  ∧ (∀ (s : State) (n : Nat), n = s.pair.items.length + s.pair.ret.length → ∃ t, exec .pairMark s = .next t
    ∧ t.pair.mark = (if n = 0 then none else some n) ∧ t.fget F.PAIR.MARK = (if n = 0 then 0 else 1) ∧ t.pair.ret = s.pair.ret)
  ∧ (∀ (c : BitVec 16) (s : State), ∃ t, exec (.pairCreditUpdate c) s = .next t ∧ t.pair.cred = c.toNat
    ∧ (∀ f, s.pair.items = [] → s.pair.out = [f] → s.pairUp = true → s.xbReady pairBridge = true →
        0 < wrapSub 16 c.toNat s.pair.used → wrapSub 16 c.toNat s.pair.used < 32768 → t.pair.out = []
        ∧ t.pair.lastTx = some (PairFrame.bits { f with pack := s.pair.rxSeq }) ∧ t.pair.used = (s.pair.used + 1) % 65536))

/-- The frame of the commands of the spine, of resets, ticks, epochs, reservations, meters and gates: what the command
does not name in `unitFrame` and `regWrites` is as before: the components of the units, and every register field in every
bank and at every select index. -/
def Obligations.SpineCommandsChangeOnlyTheirPart : Prop :=
  ∀ (c : Instr) (s t : State), areaOf c = .spine → exec c s = .next t → t = unitFrame c s t ∧ regsKept c s t

/-- The frame of the commands of ports, translation and attached memory: what the command does not name in `unitFrame` and
`regWrites` is as before: the components of the units, and every register field in every bank and at every select index.
-/
def Obligations.PortCommandsChangeOnlyTheirPart : Prop :=
  ∀ (c : Instr) (s t : State), areaOf c = .port → exec c s = .next t → t = unitFrame c s t ∧ regsKept c s t

/-- The frame of the commands of register access, engines, slices, counters and the sillage: what the command does not
name in `unitFrame` and `regWrites` is as before: the components of the units, and every register field in every bank and
at every select index. -/
def Obligations.EngineAndRegisterCommandsChangeOnlyTheirPart : Prop :=
  ∀ (c : Instr) (s t : State), areaOf c = .engine → exec c s = .next t → t = unitFrame c s t ∧ regsKept c s t

/-- The frame of the commands of power, isolation, boot, fabric states and the pair: what the command does not name in
`unitFrame` and `regWrites` is as before: the components of the units, and every register field in every bank and at every
select index. -/
def Obligations.ManagerCommandsChangeOnlyTheirPart : Prop :=
  ∀ (c : Instr) (s t : State), areaOf c = .manager → exec c s = .next t → t = unitFrame c s t ∧ regsKept c s t
end

