-- ==== Sys2Proof/Laws/Tbl.lean ====
section
/-! SUPPORT. Laws of sparse tables: a read after a write, and the canonical form under every table operation. -/

namespace Sys2Proof.Machine

variable {α : Type}

theorem tget_tput_same (d : α) (i : Nat) (v : α) : (t : Tbl α) → (∀ e ∈ t, e.1 ≠ i) → tget d (tput i v t) i = v
  | [], _ => by simp [tput, tget]
  | (k, w) :: t, h => by
    have hk : i ≠ k := fun e => h (k, w) (by simp) e.symm
    simp only [tput]
    split
    · simp [tget]
    · simp [tget, hk, tget_tput_same d i v t (fun e he => h e (by simp [he]))]

theorem tget_tput_ne (d : α) (i j : Nat) (v : α) (hij : j ≠ i) : (t : Tbl α) → tget d (tput i v t) j = tget d t j
  | [] => by simp [tput, tget, hij]
  | (k, w) :: t => by
    simp only [tput]
    split
    · simp [tget, hij]
    · simp only [tget, tget_tput_ne d i j v hij t]

theorem tget_filter_ne (d : α) (p : Nat → Bool) (j : Nat) (hj : p j = true) :
    (t : Tbl α) → tget d (t.filter (fun e => p e.1)) j = tget d t j
  | [] => rfl
  | (k, w) :: t => by
    by_cases hk : p k = true
    · simp only [List.filter_cons, hk, if_true, tget, tget_filter_ne d p j hj t]
    · have hjk : j ≠ k := by intro h; rw [h] at hj; exact hk hj
      simp only [List.filter_cons, hk, tget, if_neg hjk]
      exact tget_filter_ne d p j hj t

theorem tget_filter_drop (d : α) (p : Nat → Bool) (j : Nat) (hj : p j = false) :
    (t : Tbl α) → tget d (t.filter (fun e => p e.1)) j = d
  | [] => rfl
  | (k, w) :: t => by
    by_cases hk : p k = true
    · have hjk : j ≠ k := by intro h; rw [h] at hj; simp [hk] at hj
      simp only [List.filter_cons, hk, if_true, tget, if_neg hjk, tget_filter_drop d p j hj t]
    · simp only [List.filter_cons, hk]
      exact tget_filter_drop d p j hj t

theorem tget_terase_same (d : α) (i : Nat) (t : Tbl α) : tget d (terase i t) i = d :=
  tget_filter_drop d (fun k => k != i) i (by simp) t

theorem tget_terase_ne (d : α) (i j : Nat) (h : j ≠ i) (t : Tbl α) : tget d (terase i t) j = tget d t j :=
  tget_filter_ne d (fun k => k != i) j (by simp [h]) t

/-- Reading the key just written gives the value written. -/
@[simp] theorem tget_tset_same [DecidableEq α] (d : α) (t : Tbl α) (i : Nat) (v : α) : tget d (tset d t i v) i = v := by
  simp only [tset]
  split
  · rename_i h; rw [tget_terase_same, h]
  · exact tget_tput_same d i v _ (by intro e he; simp [terase] at he; exact he.2)

/-- A write leaves every other key alone. -/
theorem tget_tset_ne [DecidableEq α] (d : α) (t : Tbl α) (i j : Nat) (v : α) (h : j ≠ i) :
    tget d (tset d t i v) j = tget d t j := by
  simp only [tset]
  split
  · exact tget_terase_ne d i j h t
  · rw [tget_tput_ne d i j v h, tget_terase_ne d i j h]

/-- Dropped keys read the default. -/
theorem tget_tdrop (d : α) (p : Nat → Bool) (t : Tbl α) (j : Nat) :
    tget d (tdrop p t) j = if p j then d else tget d t j := by
  cases h : p j
  · exact tget_filter_ne d (fun k => !p k) j (by simp [h]) t
  · exact tget_filter_drop d (fun k => !p k) j (by simp [h]) t

@[simp] theorem tget_nil (d : α) (i : Nat) : tget d ([] : Tbl α) i = d := rfl

/-! ### The canonical form -/

/-- Every key of a table is above a bound. -/
def keysAbove (b : Nat) (t : Tbl α) : Prop := ∀ e ∈ t, b < e.1

theorem twf_cons [DecidableEq α] (d : α) (e : Nat × α) (t : Tbl α) :
    twf d (e :: t) = true ↔ e.2 ≠ d ∧ keysAbove e.1 t ∧ twf d t = true := by
  induction t generalizing e with
  | nil => simp [twf, keysRise, keysAbove]
  | cons f t ih =>
    have h1 : twf d (e :: f :: t) = true ↔ e.1 < f.1 ∧ e.2 ≠ d ∧ twf d (f :: t) = true := by
      simp only [twf, keysRise, List.map_cons, List.all_cons, Bool.and_eq_true, decide_eq_true_eq]
      exact ⟨fun h => ⟨h.1.1, h.2.1, h.1.2, h.2.2⟩, fun h => ⟨⟨h.1, h.2.2.1⟩, h.2.1, h.2.2.2⟩⟩
    rw [h1]
    constructor
    · rintro ⟨a, b, c⟩
      refine ⟨b, ?_, c⟩
      intro x hx
      rcases List.mem_cons.mp hx with rfl | hx
      · exact a
      · exact Nat.lt_trans a (((ih f).mp c).2.1 x hx)
    · rintro ⟨a, b, c⟩
      exact ⟨b f (by simp), a, c⟩

theorem twf_nil [DecidableEq α] (d : α) : twf d ([] : Tbl α) = true := rfl

theorem twf_filter [DecidableEq α] (d : α) (p : Nat × α → Bool) (t : Tbl α) (h : twf d t = true) :
    twf d (t.filter p) = true := by
  induction t with
  | nil => rfl
  | cons e t ih =>
    obtain ⟨a, b, c⟩ := (twf_cons d e t).mp h
    rw [List.filter_cons]
    split
    · exact (twf_cons d e _).mpr ⟨a, fun x hx => b x (List.mem_filter.mp hx).1, ih c⟩
    · exact ih c

theorem twf_tdrop [DecidableEq α] (d : α) (p : Nat → Bool) (t : Tbl α) (h : twf d t = true) :
    twf d (tdrop p t) = true := twf_filter d _ t h

theorem mem_tput (i : Nat) (v : α) (t : Tbl α) (x : Nat × α) (h : x ∈ tput i v t) : x = (i, v) ∨ x ∈ t := by
  induction t with
  | nil => simpa [tput] using h
  | cons e t ih =>
    obtain ⟨k, w⟩ := e
    simp only [tput] at h
    split at h
    · simpa using h
    · rcases List.mem_cons.mp h with h | h
      · right; simp [h]
      · rcases ih h with h | h
        · left; exact h
        · right; simp [h]

theorem twf_tput [DecidableEq α] (d : α) (i : Nat) (v : α) (hv : v ≠ d) (t : Tbl α) (h : twf d t = true)
    (hi : ∀ e ∈ t, e.1 ≠ i) : twf d (tput i v t) = true := by
  induction t with
  | nil => simp [tput, twf, keysRise, hv]
  | cons e t ih =>
    obtain ⟨k, w⟩ := e
    obtain ⟨a, b, c⟩ := (twf_cons d (k, w) t).mp h
    simp only [tput]
    split
    · rename_i hik
      refine (twf_cons d _ _).mpr ⟨hv, ?_, h⟩
      intro x hx
      rcases List.mem_cons.mp hx with rfl | hx
      · exact hik
      · exact Nat.lt_trans hik (b x hx)
    · rename_i hik
      refine (twf_cons d _ _).mpr ⟨a, ?_, ih c (fun e he => hi e (by simp [he]))⟩
      intro x hx
      rcases mem_tput i v t x hx with rfl | hx
      · have := hi (k, w) (by simp); simp at this ⊢; omega
      · exact b x hx

/-- A write keeps the canonical form. -/
theorem twf_tset [DecidableEq α] (d : α) (t : Tbl α) (i : Nat) (v : α) (h : twf d t = true) :
    twf d (tset d t i v) = true := by
  simp only [tset]
  split
  · exact twf_filter d _ t h
  · rename_i hv
    exact twf_tput d i v hv _ (twf_filter d _ t h) (by intro e he; simp [terase] at he; exact he.2)

end Sys2Proof.Machine
end

