-- ==== Sys2Proof/Laws/State.lean ====
section
/-! SUPPORT. What the operations of Ops.lean leave alone, one lemma for each component of State, and a register field read
after a register field is written. -/

namespace Sys2Proof.Machine

/-! ### fset -/

@[simp] theorem State.fset_pending (s : State) (f : Fld) (v i e b k : Nat) : (s.fset f v i e b k).pending = s.pending := rfl
@[simp] theorem State.fset_freeNext (s : State) (f : Fld) (v i e b k : Nat) : (s.fset f v i e b k).freeNext = s.freeNext := rfl
@[simp] theorem State.fset_tick (s : State) (f : Fld) (v i e b k : Nat) : (s.fset f v i e b k).tick = s.tick := rfl
@[simp] theorem State.fset_net (s : State) (f : Fld) (v i e b k : Nat) : (s.fset f v i e b k).net = s.net := rfl
@[simp] theorem State.fset_cnt (s : State) (f : Fld) (v i e b k : Nat) : (s.fset f v i e b k).cnt = s.cnt := rfl
@[simp] theorem State.fset_spine (s : State) (f : Fld) (v i e b k : Nat) : (s.fset f v i e b k).spine = s.spine := rfl
@[simp] theorem State.fset_resv (s : State) (f : Fld) (v i e b k : Nat) : (s.fset f v i e b k).resv = s.resv := rfl
@[simp] theorem State.fset_ord (s : State) (f : Fld) (v i e b k : Nat) : (s.fset f v i e b k).ord = s.ord := rfl
@[simp] theorem State.fset_arb (s : State) (f : Fld) (v i e b k : Nat) : (s.fset f v i e b k).arb = s.arb := rfl
@[simp] theorem State.fset_mtr (s : State) (f : Fld) (v i e b k : Nat) : (s.fset f v i e b k).mtr = s.mtr := rfl
@[simp] theorem State.fset_pwr (s : State) (f : Fld) (v i e b k : Nat) : (s.fset f v i e b k).pwr = s.pwr := rfl
@[simp] theorem State.fset_boot (s : State) (f : Fld) (v i e b k : Nat) : (s.fset f v i e b k).boot = s.boot := rfl
@[simp] theorem State.fset_port (s : State) (f : Fld) (v i e b k : Nat) : (s.fset f v i e b k).port = s.port := rfl
@[simp] theorem State.fset_mem (s : State) (f : Fld) (v i e b k : Nat) : (s.fset f v i e b k).mem = s.mem := rfl
@[simp] theorem State.fset_eng (s : State) (f : Fld) (v i e b k : Nat) : (s.fset f v i e b k).eng = s.eng := rfl
@[simp] theorem State.fset_slc (s : State) (f : Fld) (v i e b k : Nat) : (s.fset f v i e b k).slc = s.slc := rfl
@[simp] theorem State.fset_xb (s : State) (f : Fld) (v i e b k : Nat) : (s.fset f v i e b k).xb = s.xb := rfl
@[simp] theorem State.fset_iso (s : State) (f : Fld) (v i e b k : Nat) : (s.fset f v i e b k).iso = s.iso := rfl
@[simp] theorem State.fset_irq (s : State) (f : Fld) (v i e b k : Nat) : (s.fset f v i e b k).irq = s.irq := rfl
@[simp] theorem State.fset_fl (s : State) (f : Fld) (v i e b k : Nat) : (s.fset f v i e b k).fl = s.fl := rfl
@[simp] theorem State.fset_pair (s : State) (f : Fld) (v i e b k : Nat) : (s.fset f v i e b k).pair = s.pair := rfl
@[simp] theorem State.fset_cycle (s : State) (f : Fld) (v i e b k : Nat) : (s.fset f v i e b k).cycle = s.cycle := rfl

/-! ### fput -/

@[simp] theorem State.fput_pending (s : State) (f : Fld) (v : Bool) (i e b k : Nat) : (s.fput f v i e b k).pending = s.pending := rfl
@[simp] theorem State.fput_freeNext (s : State) (f : Fld) (v : Bool) (i e b k : Nat) : (s.fput f v i e b k).freeNext = s.freeNext := rfl
@[simp] theorem State.fput_tick (s : State) (f : Fld) (v : Bool) (i e b k : Nat) : (s.fput f v i e b k).tick = s.tick := rfl
@[simp] theorem State.fput_net (s : State) (f : Fld) (v : Bool) (i e b k : Nat) : (s.fput f v i e b k).net = s.net := rfl
@[simp] theorem State.fput_cnt (s : State) (f : Fld) (v : Bool) (i e b k : Nat) : (s.fput f v i e b k).cnt = s.cnt := rfl
@[simp] theorem State.fput_spine (s : State) (f : Fld) (v : Bool) (i e b k : Nat) : (s.fput f v i e b k).spine = s.spine := rfl
@[simp] theorem State.fput_resv (s : State) (f : Fld) (v : Bool) (i e b k : Nat) : (s.fput f v i e b k).resv = s.resv := rfl
@[simp] theorem State.fput_ord (s : State) (f : Fld) (v : Bool) (i e b k : Nat) : (s.fput f v i e b k).ord = s.ord := rfl
@[simp] theorem State.fput_arb (s : State) (f : Fld) (v : Bool) (i e b k : Nat) : (s.fput f v i e b k).arb = s.arb := rfl
@[simp] theorem State.fput_mtr (s : State) (f : Fld) (v : Bool) (i e b k : Nat) : (s.fput f v i e b k).mtr = s.mtr := rfl
@[simp] theorem State.fput_pwr (s : State) (f : Fld) (v : Bool) (i e b k : Nat) : (s.fput f v i e b k).pwr = s.pwr := rfl
@[simp] theorem State.fput_boot (s : State) (f : Fld) (v : Bool) (i e b k : Nat) : (s.fput f v i e b k).boot = s.boot := rfl
@[simp] theorem State.fput_port (s : State) (f : Fld) (v : Bool) (i e b k : Nat) : (s.fput f v i e b k).port = s.port := rfl
@[simp] theorem State.fput_mem (s : State) (f : Fld) (v : Bool) (i e b k : Nat) : (s.fput f v i e b k).mem = s.mem := rfl
@[simp] theorem State.fput_eng (s : State) (f : Fld) (v : Bool) (i e b k : Nat) : (s.fput f v i e b k).eng = s.eng := rfl
@[simp] theorem State.fput_slc (s : State) (f : Fld) (v : Bool) (i e b k : Nat) : (s.fput f v i e b k).slc = s.slc := rfl
@[simp] theorem State.fput_xb (s : State) (f : Fld) (v : Bool) (i e b k : Nat) : (s.fput f v i e b k).xb = s.xb := rfl
@[simp] theorem State.fput_iso (s : State) (f : Fld) (v : Bool) (i e b k : Nat) : (s.fput f v i e b k).iso = s.iso := rfl
@[simp] theorem State.fput_irq (s : State) (f : Fld) (v : Bool) (i e b k : Nat) : (s.fput f v i e b k).irq = s.irq := rfl
@[simp] theorem State.fput_fl (s : State) (f : Fld) (v : Bool) (i e b k : Nat) : (s.fput f v i e b k).fl = s.fl := rfl
@[simp] theorem State.fput_pair (s : State) (f : Fld) (v : Bool) (i e b k : Nat) : (s.fput f v i e b k).pair = s.pair := rfl
@[simp] theorem State.fput_cycle (s : State) (f : Fld) (v : Bool) (i e b k : Nat) : (s.fput f v i e b k).cycle = s.cycle := rfl

/-! ### fsat -/

@[simp] theorem State.fsat_pending (s : State) (f : Fld) (n i e : Nat) : (s.fsat f n i e).pending = s.pending := rfl
@[simp] theorem State.fsat_freeNext (s : State) (f : Fld) (n i e : Nat) : (s.fsat f n i e).freeNext = s.freeNext := rfl
@[simp] theorem State.fsat_tick (s : State) (f : Fld) (n i e : Nat) : (s.fsat f n i e).tick = s.tick := rfl
@[simp] theorem State.fsat_net (s : State) (f : Fld) (n i e : Nat) : (s.fsat f n i e).net = s.net := rfl
@[simp] theorem State.fsat_cnt (s : State) (f : Fld) (n i e : Nat) : (s.fsat f n i e).cnt = s.cnt := rfl
@[simp] theorem State.fsat_spine (s : State) (f : Fld) (n i e : Nat) : (s.fsat f n i e).spine = s.spine := rfl
@[simp] theorem State.fsat_resv (s : State) (f : Fld) (n i e : Nat) : (s.fsat f n i e).resv = s.resv := rfl
@[simp] theorem State.fsat_ord (s : State) (f : Fld) (n i e : Nat) : (s.fsat f n i e).ord = s.ord := rfl
@[simp] theorem State.fsat_arb (s : State) (f : Fld) (n i e : Nat) : (s.fsat f n i e).arb = s.arb := rfl
@[simp] theorem State.fsat_mtr (s : State) (f : Fld) (n i e : Nat) : (s.fsat f n i e).mtr = s.mtr := rfl
@[simp] theorem State.fsat_pwr (s : State) (f : Fld) (n i e : Nat) : (s.fsat f n i e).pwr = s.pwr := rfl
@[simp] theorem State.fsat_boot (s : State) (f : Fld) (n i e : Nat) : (s.fsat f n i e).boot = s.boot := rfl
@[simp] theorem State.fsat_port (s : State) (f : Fld) (n i e : Nat) : (s.fsat f n i e).port = s.port := rfl
@[simp] theorem State.fsat_mem (s : State) (f : Fld) (n i e : Nat) : (s.fsat f n i e).mem = s.mem := rfl
@[simp] theorem State.fsat_eng (s : State) (f : Fld) (n i e : Nat) : (s.fsat f n i e).eng = s.eng := rfl
@[simp] theorem State.fsat_slc (s : State) (f : Fld) (n i e : Nat) : (s.fsat f n i e).slc = s.slc := rfl
@[simp] theorem State.fsat_xb (s : State) (f : Fld) (n i e : Nat) : (s.fsat f n i e).xb = s.xb := rfl
@[simp] theorem State.fsat_iso (s : State) (f : Fld) (n i e : Nat) : (s.fsat f n i e).iso = s.iso := rfl
@[simp] theorem State.fsat_irq (s : State) (f : Fld) (n i e : Nat) : (s.fsat f n i e).irq = s.irq := rfl
@[simp] theorem State.fsat_fl (s : State) (f : Fld) (n i e : Nat) : (s.fsat f n i e).fl = s.fl := rfl
@[simp] theorem State.fsat_pair (s : State) (f : Fld) (n i e : Nat) : (s.fsat f n i e).pair = s.pair := rfl
@[simp] theorem State.fsat_cycle (s : State) (f : Fld) (n i e : Nat) : (s.fsat f n i e).cycle = s.cycle := rfl

/-! ### setWide -/

@[simp] theorem State.setWide_pending (s : State) (f g : Fld) (v i e b k : Nat) : (s.setWide f g v i e b k).pending = s.pending := rfl
@[simp] theorem State.setWide_freeNext (s : State) (f g : Fld) (v i e b k : Nat) : (s.setWide f g v i e b k).freeNext = s.freeNext := rfl
@[simp] theorem State.setWide_tick (s : State) (f g : Fld) (v i e b k : Nat) : (s.setWide f g v i e b k).tick = s.tick := rfl
@[simp] theorem State.setWide_net (s : State) (f g : Fld) (v i e b k : Nat) : (s.setWide f g v i e b k).net = s.net := rfl
@[simp] theorem State.setWide_cnt (s : State) (f g : Fld) (v i e b k : Nat) : (s.setWide f g v i e b k).cnt = s.cnt := rfl
@[simp] theorem State.setWide_spine (s : State) (f g : Fld) (v i e b k : Nat) : (s.setWide f g v i e b k).spine = s.spine := rfl
@[simp] theorem State.setWide_resv (s : State) (f g : Fld) (v i e b k : Nat) : (s.setWide f g v i e b k).resv = s.resv := rfl
@[simp] theorem State.setWide_ord (s : State) (f g : Fld) (v i e b k : Nat) : (s.setWide f g v i e b k).ord = s.ord := rfl
@[simp] theorem State.setWide_arb (s : State) (f g : Fld) (v i e b k : Nat) : (s.setWide f g v i e b k).arb = s.arb := rfl
@[simp] theorem State.setWide_mtr (s : State) (f g : Fld) (v i e b k : Nat) : (s.setWide f g v i e b k).mtr = s.mtr := rfl
@[simp] theorem State.setWide_pwr (s : State) (f g : Fld) (v i e b k : Nat) : (s.setWide f g v i e b k).pwr = s.pwr := rfl
@[simp] theorem State.setWide_boot (s : State) (f g : Fld) (v i e b k : Nat) : (s.setWide f g v i e b k).boot = s.boot := rfl
@[simp] theorem State.setWide_port (s : State) (f g : Fld) (v i e b k : Nat) : (s.setWide f g v i e b k).port = s.port := rfl
@[simp] theorem State.setWide_mem (s : State) (f g : Fld) (v i e b k : Nat) : (s.setWide f g v i e b k).mem = s.mem := rfl
@[simp] theorem State.setWide_eng (s : State) (f g : Fld) (v i e b k : Nat) : (s.setWide f g v i e b k).eng = s.eng := rfl
@[simp] theorem State.setWide_slc (s : State) (f g : Fld) (v i e b k : Nat) : (s.setWide f g v i e b k).slc = s.slc := rfl
@[simp] theorem State.setWide_xb (s : State) (f g : Fld) (v i e b k : Nat) : (s.setWide f g v i e b k).xb = s.xb := rfl
@[simp] theorem State.setWide_iso (s : State) (f g : Fld) (v i e b k : Nat) : (s.setWide f g v i e b k).iso = s.iso := rfl
@[simp] theorem State.setWide_irq (s : State) (f g : Fld) (v i e b k : Nat) : (s.setWide f g v i e b k).irq = s.irq := rfl
@[simp] theorem State.setWide_fl (s : State) (f g : Fld) (v i e b k : Nat) : (s.setWide f g v i e b k).fl = s.fl := rfl
@[simp] theorem State.setWide_pair (s : State) (f g : Fld) (v i e b k : Nat) : (s.setWide f g v i e b k).pair = s.pair := rfl
@[simp] theorem State.setWide_cycle (s : State) (f g : Fld) (v i e b k : Nat) : (s.setWide f g v i e b k).cycle = s.cycle := rfl

/-! ### touch -/

@[simp] theorem State.touch_pending (s : State) (c : Cls) (i : Nat) : (s.touch c i).pending = s.pending := rfl
@[simp] theorem State.touch_freeNext (s : State) (c : Cls) (i : Nat) : (s.touch c i).freeNext = s.freeNext := rfl
@[simp] theorem State.touch_tick (s : State) (c : Cls) (i : Nat) : (s.touch c i).tick = s.tick := rfl
@[simp] theorem State.touch_net (s : State) (c : Cls) (i : Nat) : (s.touch c i).net = s.net := rfl
@[simp] theorem State.touch_cnt (s : State) (c : Cls) (i : Nat) : (s.touch c i).cnt = s.cnt := rfl
@[simp] theorem State.touch_spine (s : State) (c : Cls) (i : Nat) : (s.touch c i).spine = s.spine := rfl
@[simp] theorem State.touch_resv (s : State) (c : Cls) (i : Nat) : (s.touch c i).resv = s.resv := rfl
@[simp] theorem State.touch_ord (s : State) (c : Cls) (i : Nat) : (s.touch c i).ord = s.ord := rfl
@[simp] theorem State.touch_arb (s : State) (c : Cls) (i : Nat) : (s.touch c i).arb = s.arb := rfl
@[simp] theorem State.touch_mtr (s : State) (c : Cls) (i : Nat) : (s.touch c i).mtr = s.mtr := rfl
@[simp] theorem State.touch_pwr (s : State) (c : Cls) (i : Nat) : (s.touch c i).pwr = s.pwr := rfl
@[simp] theorem State.touch_boot (s : State) (c : Cls) (i : Nat) : (s.touch c i).boot = s.boot := rfl
@[simp] theorem State.touch_port (s : State) (c : Cls) (i : Nat) : (s.touch c i).port = s.port := rfl
@[simp] theorem State.touch_mem (s : State) (c : Cls) (i : Nat) : (s.touch c i).mem = s.mem := rfl
@[simp] theorem State.touch_eng (s : State) (c : Cls) (i : Nat) : (s.touch c i).eng = s.eng := rfl
@[simp] theorem State.touch_slc (s : State) (c : Cls) (i : Nat) : (s.touch c i).slc = s.slc := rfl
@[simp] theorem State.touch_xb (s : State) (c : Cls) (i : Nat) : (s.touch c i).xb = s.xb := rfl
@[simp] theorem State.touch_iso (s : State) (c : Cls) (i : Nat) : (s.touch c i).iso = s.iso := rfl
@[simp] theorem State.touch_irq (s : State) (c : Cls) (i : Nat) : (s.touch c i).irq = s.irq := rfl
@[simp] theorem State.touch_fl (s : State) (c : Cls) (i : Nat) : (s.touch c i).fl = s.fl := rfl
@[simp] theorem State.touch_pair (s : State) (c : Cls) (i : Nat) : (s.touch c i).pair = s.pair := rfl
@[simp] theorem State.touch_cycle (s : State) (c : Cls) (i : Nat) : (s.touch c i).cycle = s.cycle := rfl

/-! ### intSet -/

@[simp] theorem State.intSet_pending (s : State) (c : Cls) (i b : Nat) : (s.intSet c i b).pending = s.pending := rfl
@[simp] theorem State.intSet_freeNext (s : State) (c : Cls) (i b : Nat) : (s.intSet c i b).freeNext = s.freeNext := rfl
@[simp] theorem State.intSet_tick (s : State) (c : Cls) (i b : Nat) : (s.intSet c i b).tick = s.tick := rfl
@[simp] theorem State.intSet_net (s : State) (c : Cls) (i b : Nat) : (s.intSet c i b).net = s.net := rfl
@[simp] theorem State.intSet_cnt (s : State) (c : Cls) (i b : Nat) : (s.intSet c i b).cnt = s.cnt := rfl
@[simp] theorem State.intSet_spine (s : State) (c : Cls) (i b : Nat) : (s.intSet c i b).spine = s.spine := rfl
@[simp] theorem State.intSet_resv (s : State) (c : Cls) (i b : Nat) : (s.intSet c i b).resv = s.resv := rfl
@[simp] theorem State.intSet_ord (s : State) (c : Cls) (i b : Nat) : (s.intSet c i b).ord = s.ord := rfl
@[simp] theorem State.intSet_arb (s : State) (c : Cls) (i b : Nat) : (s.intSet c i b).arb = s.arb := rfl
@[simp] theorem State.intSet_mtr (s : State) (c : Cls) (i b : Nat) : (s.intSet c i b).mtr = s.mtr := rfl
@[simp] theorem State.intSet_pwr (s : State) (c : Cls) (i b : Nat) : (s.intSet c i b).pwr = s.pwr := rfl
@[simp] theorem State.intSet_boot (s : State) (c : Cls) (i b : Nat) : (s.intSet c i b).boot = s.boot := rfl
@[simp] theorem State.intSet_port (s : State) (c : Cls) (i b : Nat) : (s.intSet c i b).port = s.port := rfl
@[simp] theorem State.intSet_mem (s : State) (c : Cls) (i b : Nat) : (s.intSet c i b).mem = s.mem := rfl
@[simp] theorem State.intSet_eng (s : State) (c : Cls) (i b : Nat) : (s.intSet c i b).eng = s.eng := rfl
@[simp] theorem State.intSet_slc (s : State) (c : Cls) (i b : Nat) : (s.intSet c i b).slc = s.slc := rfl
@[simp] theorem State.intSet_xb (s : State) (c : Cls) (i b : Nat) : (s.intSet c i b).xb = s.xb := rfl
@[simp] theorem State.intSet_iso (s : State) (c : Cls) (i b : Nat) : (s.intSet c i b).iso = s.iso := rfl
@[simp] theorem State.intSet_irq (s : State) (c : Cls) (i b : Nat) : (s.intSet c i b).irq = s.irq := rfl
@[simp] theorem State.intSet_fl (s : State) (c : Cls) (i b : Nat) : (s.intSet c i b).fl = s.fl := rfl
@[simp] theorem State.intSet_pair (s : State) (c : Cls) (i b : Nat) : (s.intSet c i b).pair = s.pair := rfl
@[simp] theorem State.intSet_cycle (s : State) (c : Cls) (i b : Nat) : (s.intSet c i b).cycle = s.cycle := rfl

/-! ### pgErr -/

@[simp] theorem State.pgErr_pending (s : State) (c : Cls) (i o : Nat) : (s.pgErr c i o).pending = s.pending := rfl
@[simp] theorem State.pgErr_freeNext (s : State) (c : Cls) (i o : Nat) : (s.pgErr c i o).freeNext = s.freeNext := rfl
@[simp] theorem State.pgErr_tick (s : State) (c : Cls) (i o : Nat) : (s.pgErr c i o).tick = s.tick := rfl
@[simp] theorem State.pgErr_net (s : State) (c : Cls) (i o : Nat) : (s.pgErr c i o).net = s.net := rfl
@[simp] theorem State.pgErr_cnt (s : State) (c : Cls) (i o : Nat) : (s.pgErr c i o).cnt = s.cnt := rfl
@[simp] theorem State.pgErr_spine (s : State) (c : Cls) (i o : Nat) : (s.pgErr c i o).spine = s.spine := rfl
@[simp] theorem State.pgErr_resv (s : State) (c : Cls) (i o : Nat) : (s.pgErr c i o).resv = s.resv := rfl
@[simp] theorem State.pgErr_ord (s : State) (c : Cls) (i o : Nat) : (s.pgErr c i o).ord = s.ord := rfl
@[simp] theorem State.pgErr_arb (s : State) (c : Cls) (i o : Nat) : (s.pgErr c i o).arb = s.arb := rfl
@[simp] theorem State.pgErr_mtr (s : State) (c : Cls) (i o : Nat) : (s.pgErr c i o).mtr = s.mtr := rfl
@[simp] theorem State.pgErr_pwr (s : State) (c : Cls) (i o : Nat) : (s.pgErr c i o).pwr = s.pwr := rfl
@[simp] theorem State.pgErr_boot (s : State) (c : Cls) (i o : Nat) : (s.pgErr c i o).boot = s.boot := rfl
@[simp] theorem State.pgErr_port (s : State) (c : Cls) (i o : Nat) : (s.pgErr c i o).port = s.port := rfl
@[simp] theorem State.pgErr_mem (s : State) (c : Cls) (i o : Nat) : (s.pgErr c i o).mem = s.mem := rfl
@[simp] theorem State.pgErr_eng (s : State) (c : Cls) (i o : Nat) : (s.pgErr c i o).eng = s.eng := rfl
@[simp] theorem State.pgErr_slc (s : State) (c : Cls) (i o : Nat) : (s.pgErr c i o).slc = s.slc := rfl
@[simp] theorem State.pgErr_xb (s : State) (c : Cls) (i o : Nat) : (s.pgErr c i o).xb = s.xb := rfl
@[simp] theorem State.pgErr_iso (s : State) (c : Cls) (i o : Nat) : (s.pgErr c i o).iso = s.iso := rfl
@[simp] theorem State.pgErr_irq (s : State) (c : Cls) (i o : Nat) : (s.pgErr c i o).irq = s.irq := rfl
@[simp] theorem State.pgErr_fl (s : State) (c : Cls) (i o : Nat) : (s.pgErr c i o).fl = s.fl := rfl
@[simp] theorem State.pgErr_pair (s : State) (c : Cls) (i o : Nat) : (s.pgErr c i o).pair = s.pair := rfl
@[simp] theorem State.pgErr_cycle (s : State) (c : Cls) (i o : Nat) : (s.pgErr c i o).cycle = s.cycle := rfl

/-! ### send -/

@[simp] theorem State.send_pending (s : State) (m : Msg) : (s.send m).pending = s.pending := rfl
@[simp] theorem State.send_freeNext (s : State) (m : Msg) : (s.send m).freeNext = s.freeNext := rfl
@[simp] theorem State.send_tick (s : State) (m : Msg) : (s.send m).tick = s.tick := rfl
@[simp] theorem State.send_cnt (s : State) (m : Msg) : (s.send m).cnt = s.cnt := rfl
@[simp] theorem State.send_spine (s : State) (m : Msg) : (s.send m).spine = s.spine := rfl
@[simp] theorem State.send_resv (s : State) (m : Msg) : (s.send m).resv = s.resv := rfl
@[simp] theorem State.send_ord (s : State) (m : Msg) : (s.send m).ord = s.ord := rfl
@[simp] theorem State.send_arb (s : State) (m : Msg) : (s.send m).arb = s.arb := rfl
@[simp] theorem State.send_mtr (s : State) (m : Msg) : (s.send m).mtr = s.mtr := rfl
@[simp] theorem State.send_pwr (s : State) (m : Msg) : (s.send m).pwr = s.pwr := rfl
@[simp] theorem State.send_boot (s : State) (m : Msg) : (s.send m).boot = s.boot := rfl
@[simp] theorem State.send_port (s : State) (m : Msg) : (s.send m).port = s.port := rfl
@[simp] theorem State.send_mem (s : State) (m : Msg) : (s.send m).mem = s.mem := rfl
@[simp] theorem State.send_eng (s : State) (m : Msg) : (s.send m).eng = s.eng := rfl
@[simp] theorem State.send_slc (s : State) (m : Msg) : (s.send m).slc = s.slc := rfl
@[simp] theorem State.send_xb (s : State) (m : Msg) : (s.send m).xb = s.xb := rfl
@[simp] theorem State.send_iso (s : State) (m : Msg) : (s.send m).iso = s.iso := rfl
@[simp] theorem State.send_irq (s : State) (m : Msg) : (s.send m).irq = s.irq := rfl
@[simp] theorem State.send_fl (s : State) (m : Msg) : (s.send m).fl = s.fl := rfl
@[simp] theorem State.send_pair (s : State) (m : Msg) : (s.send m).pair = s.pair := rfl
@[simp] theorem State.send_cycle (s : State) (m : Msg) : (s.send m).cycle = s.cycle := rfl
@[simp] theorem State.send_regs (s : State) (m : Msg) : (s.send m).regs = s.regs := rfl

/-! ### bcast -/

@[simp] theorem State.bcast_pending (s : State) (m : Msg) : (s.bcast m).pending = s.pending := rfl
@[simp] theorem State.bcast_freeNext (s : State) (m : Msg) : (s.bcast m).freeNext = s.freeNext := rfl
@[simp] theorem State.bcast_tick (s : State) (m : Msg) : (s.bcast m).tick = s.tick := rfl
@[simp] theorem State.bcast_cnt (s : State) (m : Msg) : (s.bcast m).cnt = s.cnt := rfl
@[simp] theorem State.bcast_spine (s : State) (m : Msg) : (s.bcast m).spine = s.spine := rfl
@[simp] theorem State.bcast_resv (s : State) (m : Msg) : (s.bcast m).resv = s.resv := rfl
@[simp] theorem State.bcast_ord (s : State) (m : Msg) : (s.bcast m).ord = s.ord := rfl
@[simp] theorem State.bcast_arb (s : State) (m : Msg) : (s.bcast m).arb = s.arb := rfl
@[simp] theorem State.bcast_mtr (s : State) (m : Msg) : (s.bcast m).mtr = s.mtr := rfl
@[simp] theorem State.bcast_pwr (s : State) (m : Msg) : (s.bcast m).pwr = s.pwr := rfl
@[simp] theorem State.bcast_boot (s : State) (m : Msg) : (s.bcast m).boot = s.boot := rfl
@[simp] theorem State.bcast_port (s : State) (m : Msg) : (s.bcast m).port = s.port := rfl
@[simp] theorem State.bcast_mem (s : State) (m : Msg) : (s.bcast m).mem = s.mem := rfl
@[simp] theorem State.bcast_eng (s : State) (m : Msg) : (s.bcast m).eng = s.eng := rfl
@[simp] theorem State.bcast_slc (s : State) (m : Msg) : (s.bcast m).slc = s.slc := rfl
@[simp] theorem State.bcast_xb (s : State) (m : Msg) : (s.bcast m).xb = s.xb := rfl
@[simp] theorem State.bcast_iso (s : State) (m : Msg) : (s.bcast m).iso = s.iso := rfl
@[simp] theorem State.bcast_irq (s : State) (m : Msg) : (s.bcast m).irq = s.irq := rfl
@[simp] theorem State.bcast_fl (s : State) (m : Msg) : (s.bcast m).fl = s.fl := rfl
@[simp] theorem State.bcast_pair (s : State) (m : Msg) : (s.bcast m).pair = s.pair := rfl
@[simp] theorem State.bcast_cycle (s : State) (m : Msg) : (s.bcast m).cycle = s.cycle := rfl
@[simp] theorem State.bcast_regs (s : State) (m : Msg) : (s.bcast m).regs = s.regs := rfl

/-! ### take -/

@[simp] theorem State.take_pending (s : State) (n : Nat) (m : Msg) : (s.take n m).pending = s.pending := rfl
@[simp] theorem State.take_freeNext (s : State) (n : Nat) (m : Msg) : (s.take n m).freeNext = s.freeNext := rfl
@[simp] theorem State.take_tick (s : State) (n : Nat) (m : Msg) : (s.take n m).tick = s.tick := rfl
@[simp] theorem State.take_cnt (s : State) (n : Nat) (m : Msg) : (s.take n m).cnt = s.cnt := rfl
@[simp] theorem State.take_spine (s : State) (n : Nat) (m : Msg) : (s.take n m).spine = s.spine := rfl
@[simp] theorem State.take_resv (s : State) (n : Nat) (m : Msg) : (s.take n m).resv = s.resv := rfl
@[simp] theorem State.take_ord (s : State) (n : Nat) (m : Msg) : (s.take n m).ord = s.ord := rfl
@[simp] theorem State.take_arb (s : State) (n : Nat) (m : Msg) : (s.take n m).arb = s.arb := rfl
@[simp] theorem State.take_mtr (s : State) (n : Nat) (m : Msg) : (s.take n m).mtr = s.mtr := rfl
@[simp] theorem State.take_pwr (s : State) (n : Nat) (m : Msg) : (s.take n m).pwr = s.pwr := rfl
@[simp] theorem State.take_boot (s : State) (n : Nat) (m : Msg) : (s.take n m).boot = s.boot := rfl
@[simp] theorem State.take_port (s : State) (n : Nat) (m : Msg) : (s.take n m).port = s.port := rfl
@[simp] theorem State.take_mem (s : State) (n : Nat) (m : Msg) : (s.take n m).mem = s.mem := rfl
@[simp] theorem State.take_eng (s : State) (n : Nat) (m : Msg) : (s.take n m).eng = s.eng := rfl
@[simp] theorem State.take_slc (s : State) (n : Nat) (m : Msg) : (s.take n m).slc = s.slc := rfl
@[simp] theorem State.take_xb (s : State) (n : Nat) (m : Msg) : (s.take n m).xb = s.xb := rfl
@[simp] theorem State.take_iso (s : State) (n : Nat) (m : Msg) : (s.take n m).iso = s.iso := rfl
@[simp] theorem State.take_irq (s : State) (n : Nat) (m : Msg) : (s.take n m).irq = s.irq := rfl
@[simp] theorem State.take_fl (s : State) (n : Nat) (m : Msg) : (s.take n m).fl = s.fl := rfl
@[simp] theorem State.take_pair (s : State) (n : Nat) (m : Msg) : (s.take n m).pair = s.pair := rfl
@[simp] theorem State.take_cycle (s : State) (n : Nat) (m : Msg) : (s.take n m).cycle = s.cycle := rfl
@[simp] theorem State.take_regs (s : State) (n : Nat) (m : Msg) : (s.take n m).regs = s.regs := rfl

/-! ### Register fields -/

/-- Reading the field just written gives the value, cut to the field's width. -/
@[simp] theorem State.fget_fset (s : State) (f : Fld) (v i e b k : Nat) :
    (s.fset f v i e b k).fget f i e b k = v % 2 ^ f.width := by
  simp only [State.fget, State.fset, tget_tset_same]
  rw [Nat.xor_assoc, Nat.xor_self, Nat.xor_zero]

/-- A write leaves every field with another key alone. -/
theorem State.fget_fset_ne (s : State) (f g : Fld) (v i e b k i' e' b' k' : Nat)
    (h : g.key i' e' b' k' ≠ f.key i e b k) :
    (s.fset f v i e b k).fget g i' e' b' k' = s.fget g i' e' b' k' := by
  simp only [State.fget, State.fset, tget_tset_ne 0 s.regs _ _ _ h]

/-- A field read depends on the register file alone. -/
theorem State.fget_congr {s t : State} (h : s.regs = t.regs) (f : Fld) (i e b k : Nat) :
    s.fget f i e b k = t.fget f i e b k := by
  simp only [State.fget, h]

@[simp] theorem State.fget_send (s : State) (m : Msg) (f : Fld) (i e b k : Nat) :
    (s.send m).fget f i e b k = s.fget f i e b k := rfl
@[simp] theorem State.fget_bcast (s : State) (m : Msg) (f : Fld) (i e b k : Nat) :
    (s.bcast m).fget f i e b k = s.fget f i e b k := rfl
@[simp] theorem State.fget_take (s : State) (n : Nat) (m : Msg) (f : Fld) (i e b k : Nat) :
    (s.take n m).fget f i e b k = s.fget f i e b k := rfl

/-- Where a field is kept: page, register and bit. -/
def Fld.place (f : Fld) (i e : Nat) : Nat := (pageNo f.cls i * 1024 + f.offAt e / 4) * 32 + f.loAt e

theorem Fld.key_place (f : Fld) (i e b k : Nat) : f.key i e b k / 65536 / 4 = f.place i e := by
  have h : (if f.acc = .we then 1 + b % 2 else 0) < 4 := by split <;> omega
  simp only [Fld.key, Fld.place]
  generalize (if f.acc = .we then 1 + b % 2 else 0) = w at h
  omega

/-- Fields at different places have different keys. -/
theorem Fld.key_ne (f g : Fld) (i e b k i' e' b' k' : Nat) (h : g.place i' e' ≠ f.place i e) :
    g.key i' e' b' k' ≠ f.key i e b k := by
  intro hk
  apply h
  rw [← Fld.key_place f i e b k, ← Fld.key_place g i' e' b' k', hk]

/-- A write leaves every field at another place alone. -/
theorem State.fget_fset_place (s : State) (f g : Fld) (v i e b k i' e' b' k' : Nat) (h : g.place i' e' ≠ f.place i e) :
    (s.fset f v i e b k).fget g i' e' b' k' = s.fget g i' e' b' k' :=
  State.fget_fset_ne s f g v i e b k i' e' b' k' (Fld.key_ne f g i e b k i' e' b' k' h)

/-- A page lies in the low 12 bits of its number, its class above them. -/
theorem place_page (f : Fld) (i e : Nat) (ho : f.offAt e < 4096) (hl : f.loAt e < 32) :
    f.place i e / 32768 = pageNo f.cls i := by
  simp only [Fld.place]
  omega

/-- Fields of pages of different classes are at different places. -/
theorem Fld.place_cls (f g : Fld) (i e i' e' : Nat) (hf : f.offAt e < 4096) (hfl : f.loAt e < 32)
    (hg : g.offAt e' < 4096) (hgl : g.loAt e' < 32) (h : g.cls.code ≠ f.cls.code) : g.place i' e' ≠ f.place i e := by
  intro he
  have h1 := place_page f i e hf hfl
  have h2 := place_page g i' e' hg hgl
  rw [he, h1] at h2
  simp only [pageNo] at h2
  omega

/-- Fields of a page of the same instance at different registers or bits are at different places. -/
theorem Fld.place_off (f g : Fld) (i e e' : Nat) (hc : g.cls = f.cls)
    (h : g.offAt e' / 4 * 32 + g.loAt e' ≠ f.offAt e / 4 * 32 + f.loAt e) : g.place i e' ≠ f.place i e := by
  simp only [Fld.place, hc]
  omega

end Sys2Proof.Machine
end

