-- ==== Sys2Proof/Laws/Kept.lean ====
section
/-! SUPPORT. What every operation of the block keeps: the queue of waiting commands, the canonical form of the register
file, and (but for a mark's arrival, a boundary and cold reset) each node's count and the mark it holds. -/

namespace Sys2Proof.Machine

/-- `t` comes from `z` by operations that leave the queue alone and keep the register file canonical. -/
structure State.Kept0 (z t : State) : Prop where
  queue : t.pending = z.pending
  regs : z.RegsOk → t.RegsOk

/-- They leave the count and the mark of every node alone as well. -/
structure State.Kept (z t : State) : Prop where
  queue : t.pending = z.pending
  regs : z.RegsOk → t.RegsOk
  counts : t.tick.nodeCount = z.tick.nodeCount
  marks : t.tick.nodeMark = z.tick.nodeMark

theorem State.Kept.base {z t : State} (h : State.Kept z t) : State.Kept0 z t := ⟨h.queue, h.regs⟩

theorem State.Kept.refl (z : State) : State.Kept z z := ⟨rfl, id, rfl, rfl⟩

theorem State.Kept0.trans {a b c : State} (h : State.Kept0 a b) (k : State.Kept0 b c) : State.Kept0 a c :=
  ⟨k.queue.trans h.queue, fun r => k.regs (h.regs r)⟩

/-- A change of the register file alone that keeps it canonical. -/
theorem State.Kept.updRegs {z s t : State} (h : State.Kept z s) (hp : t.pending = s.pending) (ht : t.tick.nodeCount = s.tick.nodeCount)
    (hm : t.tick.nodeMark = s.tick.nodeMark) (hr : s.RegsOk → t.RegsOk) : State.Kept z t :=
  ⟨hp.trans h.queue, fun r => hr (h.regs r), ht.trans h.counts, hm.trans h.marks⟩

theorem twf_foldl_tset {α : Type} (k v : α → Nat) (l : List α) (t : Tbl Nat) (h : twf 0 t = true) :
    twf 0 (l.foldl (fun t e => tset 0 t (k e) (v e)) t) = true := by
  induction l generalizing t with
  | nil => exact h
  | cons x l ih => exact ih _ (twf_tset 0 t _ _ h)

theorem State.Kept.foldl {z s : State} {α : Type} (f : State → α → State) (l : List α) (h : State.Kept z s)
    (hf : ∀ a x, State.Kept z a → State.Kept z (f a x)) : State.Kept z (l.foldl f s) := by
  induction l generalizing s with
  | nil => exact h
  | cons x l ih => exact ih (hf s x h)

theorem State.Kept.foldl1 {z : State} {α β : Type} (f : State × β → α → State × β) (l : List α) (s : State × β)
    (h : State.Kept z s.1) (hf : ∀ a x, State.Kept z a.1 → State.Kept z (f a x).1) : State.Kept z (l.foldl f s).1 := by
  induction l generalizing s with
  | nil => exact h
  | cons x l ih => exact ih (f s x) (hf s x h)

theorem State.Kept.foldl2 {z : State} {α β : Type} (f : β × State → α → β × State) (l : List α) (s : β × State)
    (h : State.Kept z s.2) (hf : ∀ a x, State.Kept z a.2 → State.Kept z (f a x).2) : State.Kept z (l.foldl f s).2 := by
  induction l generalizing s with
  | nil => exact h
  | cons x l ih => exact ih (f s x) (hf s x h)

/-- A change of components other than the queue, the register file and the tick. -/
theorem State.Kept.mk_iff (z s : State) (f1 f2 f3 f4 f5 f6 f7 f8 f9 f10 f11 f12 f13 f14 f15 f16 f17 f18 f19 f20) :
    State.Kept z (State.mk s.pending s.regs f1 s.tick f2 f3 f4 f5 f6 f7 f8 f9 f10 f11 f12 f13 f14 f15 f16 f17 f18 f19 f20)
      ↔ State.Kept z s :=
  ⟨fun h => ⟨h.queue, h.regs, h.counts, h.marks⟩, fun h => ⟨h.queue, h.regs, h.counts, h.marks⟩⟩

/-- A change of the tick beside the counts and the marks of the nodes. -/
theorem State.Kept.tick_iff (z s : State) (f1 f2 f3 f4 f5 f6 f7 f8 f9 f10 f11 f12 f13 f14 f15 f16 f17 f18 f19 f20)
    (g1 g2 g3 g4 g5 g6 g7 g8 g9 g10 g11 g12 g13) :
    State.Kept z (State.mk s.pending s.regs f1 (TickSt.mk g1 g2 g3 s.tick.nodeCount g4 s.tick.nodeMark g5 g6 g7 g8 g9 g10 g11 g12 g13)
      f2 f3 f4 f5 f6 f7 f8 f9 f10 f11 f12 f13 f14 f15 f16 f17 f18 f19 f20) ↔ State.Kept z s :=
  ⟨fun h => ⟨h.queue, h.regs, h.counts, h.marks⟩, fun h => ⟨h.queue, h.regs, h.counts, h.marks⟩⟩

theorem State.fset_kept {z s : State} (h : State.Kept z s) (f : Fld) (v i e b k : Nat) :
    State.Kept z (s.fset f v i e b k) :=
  ⟨h.queue, fun r => twf_tset 0 s.regs _ _ (h.regs r), h.counts, h.marks⟩

theorem State.Kept.of_some {z s t : State} (h : State.Kept z s) : some s = some t → State.Kept z t := by
  intro e; cases e; exact h

theorem State.Kept.of_pair {α : Type} {z s t : State} {a b : α} (h : State.Kept z s) :
    some (a, s) = some (b, t) → State.Kept z t := by
  intro e; cases e; exact h

theorem State.Kept.of_none {α : Type} {z t : State} {b : α} : none = some b → State.Kept z t := by
  intro e; cases e

end Sys2Proof.Machine
end

