-- ==== Sys2Proof/Laws/KeptOps.lean ====
section
/-! SUPPORT. The operations of Ops.lean keep the queue and the canonical register file. -/

set_option linter.unusedSimpArgs false

namespace Sys2Proof.Machine

open State

-- fset: Kept.lean

theorem State.fput_kept {z s : State} (h : State.Kept z s) (f : Fld) (b : Bool) (inst : Nat) (e : Nat) (bank : Nat) (sel : Nat) : State.Kept z (State.fput s f b inst e bank sel) := by
  dsimp only [State.fput]
  repeat' (first | (with_reducible first | assumption | apply Kept.foldl | apply Kept.foldl1 | apply Kept.foldl2 | apply fset_kept) | (simp only [Kept.mk_iff, Kept.tick_iff]) | split | intro _)

theorem State.fsat_kept {z s : State} (h : State.Kept z s) (f : Fld) (n : Nat) (inst : Nat) (e : Nat) : State.Kept z (State.fsat s f n inst e) := by
  dsimp only [State.fsat]
  repeat' (first | (with_reducible first | assumption | apply Kept.foldl | apply Kept.foldl1 | apply Kept.foldl2 | apply fset_kept) | (simp only [Kept.mk_iff, Kept.tick_iff]) | split | intro _)

theorem State.fmax_kept {z s : State} (h : State.Kept z s) (f : Fld) (n : Nat) (inst : Nat) : State.Kept z (State.fmax s f n inst) := by
  dsimp only [State.fmax]
  repeat' (first | (with_reducible first | assumption | apply Kept.foldl | apply Kept.foldl1 | apply Kept.foldl2 | apply fset_kept) | (simp only [Kept.mk_iff, Kept.tick_iff]) | split | intro _)

theorem State.setWide_kept {z s : State} (h : State.Kept z s) (lo hi : Fld) (v : Nat) (inst : Nat) (e : Nat) (bank : Nat) (sel : Nat) : State.Kept z (State.setWide s lo hi v inst e bank sel) := by
  dsimp only [State.setWide]
  repeat' (first | (with_reducible first | assumption | apply Kept.foldl | apply Kept.foldl1 | apply Kept.foldl2 | apply fset_kept) | (simp only [Kept.mk_iff, Kept.tick_iff]) | split | intro _)

theorem State.post_kept {z s : State} (h : State.Kept z s) (f : Flight) : State.Kept z (State.post s f) := by
  dsimp only [State.post]
  repeat' (first | (with_reducible first | assumption | apply Kept.foldl | apply Kept.foldl1 | apply Kept.foldl2) | (simp only [Kept.mk_iff, Kept.tick_iff]) | split | intro _)

theorem State.send_kept {z s : State} (h : State.Kept z s) (m : Msg) : State.Kept z (State.send s m) := by
  dsimp only [State.send]
  repeat' (first | (with_reducible first | assumption | apply Kept.foldl | apply Kept.foldl1 | apply Kept.foldl2 | apply post_kept) | (simp only [Kept.mk_iff, Kept.tick_iff]) | split | intro _)

theorem State.bcast_kept {z s : State} (h : State.Kept z s) (m : Msg) : State.Kept z (State.bcast s m) := by
  dsimp only [State.bcast]
  repeat' (first | (with_reducible first | assumption | apply Kept.foldl | apply Kept.foldl1 | apply Kept.foldl2 | apply post_kept) | (simp only [Kept.mk_iff, Kept.tick_iff]) | split | intro _)

theorem State.take_kept {z s : State} (h : State.Kept z s) (n : Nat) (m : Msg) : State.Kept z (State.take s n m) := by
  dsimp only [State.take]
  repeat' (first | (with_reducible first | assumption | apply Kept.foldl | apply Kept.foldl1 | apply Kept.foldl2) | (simp only [Kept.mk_iff, Kept.tick_iff]) | split | intro _)

theorem State.intSet_kept {z s : State} (h : State.Kept z s) (c : Cls) (inst bit : Nat) : State.Kept z (State.intSet s c inst bit) := by
  dsimp only [State.intSet]
  repeat' (first | (with_reducible first | assumption | apply Kept.foldl | apply Kept.foldl1 | apply Kept.foldl2 | apply fset_kept) | (simp only [Kept.mk_iff, Kept.tick_iff]) | split | intro _)

theorem State.smpOverflow_kept {z s : State} (h : State.Kept z s) (inst i : Nat) : State.Kept z (State.smpOverflow s inst i) := by
  dsimp only [State.smpOverflow]
  repeat' (first | (with_reducible first | assumption | apply Kept.foldl | apply Kept.foldl1 | apply Kept.foldl2 | apply fsat_kept) | (simp only [Kept.mk_iff, Kept.tick_iff]) | split | intro _)

theorem State.engOverflow_kept {z s : State} (h : State.Kept z s) (inst i : Nat) : State.Kept z (State.engOverflow s inst i) := by
  dsimp only [State.engOverflow]
  repeat' (first | (with_reducible first | assumption | apply Kept.foldl | apply Kept.foldl1 | apply Kept.foldl2 | apply fsat_kept) | (simp only [Kept.mk_iff, Kept.tick_iff]) | split | intro _)

theorem State.ctrAdd_kept {z s : State} (h : State.Kept z s) (b : Cls) (inst i n : Nat) : State.Kept z (State.ctrAdd s b inst i n) := by
  dsimp only [State.ctrAdd]
  repeat' (first | (with_reducible first | assumption | apply Kept.foldl | apply Kept.foldl1 | apply Kept.foldl2 | apply fset_kept | apply setWide_kept | apply intSet_kept | apply smpOverflow_kept | apply engOverflow_kept) | (simp only [Kept.mk_iff, Kept.tick_iff]) | split | intro _)

theorem State.countOne_kept {z s : State} (h : State.Kept z s) (b : Cls) (inst evt n : Nat) (a : EvtAttr) : State.Kept z (State.countOne s b inst evt n a) := by
  dsimp only [State.countOne]
  repeat' (first | (with_reducible first | assumption | apply Kept.foldl | apply Kept.foldl1 | apply Kept.foldl2 | apply ctrAdd_kept) | (simp only [Kept.mk_iff, Kept.tick_iff]) | split | intro _)

theorem State.countEvt_kept {z s : State} (h : State.Kept z s) (b : Cls) (inst evt n : Nat) (a : EvtAttr) : State.Kept z (State.countEvt s b inst evt n a) := by
  dsimp only [State.countEvt]
  repeat' (first | (with_reducible first | assumption | apply Kept.foldl | apply Kept.foldl1 | apply Kept.foldl2 | apply countOne_kept) | (simp only [Kept.mk_iff, Kept.tick_iff]) | split | intro _)

theorem State.rcInc_kept {z s : State} (h : State.Kept z s) (f : Fld) (inst : Nat) (n : Nat) (inj : Bool) (e : Nat) : State.Kept z (State.rcInc s f inst n inj e) := by
  dsimp only [State.rcInc]
  repeat' (first | (with_reducible first | assumption | apply Kept.foldl | apply Kept.foldl1 | apply Kept.foldl2 | apply fsat_kept | apply countEvt_kept) | (simp only [Kept.mk_iff, Kept.tick_iff]) | split | intro _)

theorem State.sillage_kept {z s : State} (h : State.Kept z s) (node code : Nat) (info : Nat) (inj : Bool) : State.Kept z (State.sillage s node code info inj) := by
  dsimp only [State.sillage]
  repeat' (first | (with_reducible first | assumption | apply Kept.foldl | apply Kept.foldl1 | apply Kept.foldl2 | apply send_kept) | (simp only [Kept.mk_iff, Kept.tick_iff]) | split | intro _)

end Sys2Proof.Machine
end

