-- ==== Sys2Proof/Laws/KeptFlags.lean ====
section
/-! SUPPORT. The operations of Flags.lean keep the queue and the canonical register file. -/

set_option linter.unusedSimpArgs false

namespace Sys2Proof.Machine

open State

theorem State.record_kept {z s : State} (h : State.Kept z s) (c : Cls) (inst code info0 info1 : Nat) (ident : Nat) (inj : Bool) : State.Kept z (State.record s c inst code info0 info1 ident inj) := by
  dsimp only [State.record]
  repeat' (first | (with_reducible first | assumption | apply Kept.foldl | apply Kept.foldl1 | apply Kept.foldl2 | apply fset_kept | apply fput_kept | apply intSet_kept | apply sillage_kept) | (simp only [Kept.mk_iff, Kept.tick_iff]) | split | intro _)

theorem State.pgErr_kept {z s : State} (h : State.Kept z s) (c : Cls) (inst off : Nat) : State.Kept z (State.pgErr s c inst off) := by
  dsimp only [State.pgErr]
  repeat' (first | (with_reducible first | assumption | apply Kept.foldl | apply Kept.foldl1 | apply Kept.foldl2 | apply fset_kept | apply fput_kept | apply fsat_kept) | (simp only [Kept.mk_iff, Kept.tick_iff]) | split | intro _)

theorem State.pgErrEvt_kept {z s : State} (h : State.Kept z s) (c : Cls) (inst : Nat) : State.Kept z (State.pgErrEvt s c inst) := by
  dsimp only [State.pgErrEvt]
  repeat' (first | (with_reducible first | assumption | apply Kept.foldl | apply Kept.foldl1 | apply Kept.foldl2 | apply fput_kept | apply fsat_kept) | (simp only [Kept.mk_iff, Kept.tick_iff]) | split | intro _)

theorem State.touch_kept {z s : State} (h : State.Kept z s) (c : Cls) (inst : Nat) : State.Kept z (State.touch s c inst) := by
  dsimp only [State.touch]
  repeat' (first | (with_reducible first | assumption | apply Kept.foldl | apply Kept.foldl1 | apply Kept.foldl2 | apply fput_kept) | (simp only [Kept.mk_iff, Kept.tick_iff]) | split | intro _)

theorem State.msgBad_kept {z s : State} (h : State.Kept z s) (n : Nat) (m : Msg) : State.Kept z (State.msgBad s n m) := by
  dsimp only [State.msgBad]
  repeat' (first | (with_reducible first | assumption | apply Kept.foldl | apply Kept.foldl1 | apply Kept.foldl2 | apply rcInc_kept | apply record_kept | apply pgErrEvt_kept) | (simp only [Kept.mk_iff, Kept.tick_iff]) | split | intro _)

end Sys2Proof.Machine
end

