-- ==== Sys2Proof/Laws/KeptCommon.lean ====
section
/-! SUPPORT. The operations of Common.lean keep the queue and the canonical register file. -/

set_option linter.unusedSimpArgs false

namespace Sys2Proof.Machine

open State

theorem State.xbOcc_kept {z s : State} (h : State.Kept z s) (b n : Nat) : State.Kept z (State.xbOcc s b n) := by
  dsimp only [State.xbOcc]
  repeat' (first | (with_reducible first | assumption | apply Kept.foldl | apply Kept.foldl1 | apply Kept.foldl2) | (simp only [Kept.mk_iff, Kept.tick_iff]) | split | intro _)

theorem State.xbReset_kept {z s : State} (h : State.Kept z s) (bs : List Nat) : State.Kept z (State.xbReset s bs) := by
  dsimp only [State.xbReset]
  repeat' (first | (with_reducible first | assumption | apply Kept.foldl | apply Kept.foldl1 | apply Kept.foldl2) | (simp only [Kept.mk_iff, Kept.tick_iff]) | split | intro _)

theorem State.setFab_kept {z s : State} (h : State.Kept z s) (toward : Nat) : State.Kept z (State.setFab s toward) := by
  dsimp only [State.setFab]
  repeat' (first | (with_reducible first | assumption | apply Kept.foldl | apply Kept.foldl1 | apply Kept.foldl2 | apply fset_kept | apply intSet_kept | apply sillage_kept) | (simp only [Kept.mk_iff, Kept.tick_iff]) | split | intro _)

theorem State.recoveryCause_kept {z s : State} (h : State.Kept z s) (cause : Nat) : State.Kept z (State.recoveryCause s cause) := by
  dsimp only [State.recoveryCause]
  repeat' (first | (with_reducible first | assumption | apply Kept.foldl | apply Kept.foldl1 | apply Kept.foldl2 | apply fset_kept | apply fsat_kept | apply sillage_kept | apply setFab_kept) | (simp only [Kept.mk_iff, Kept.tick_iff]) | split | intro _)

theorem State.mirror_kept {z s : State} (h : State.Kept z s) (l : List MirItem) : State.Kept z (State.mirror s l) := by
  dsimp only [State.mirror]
  repeat' (first | (with_reducible first | assumption | apply Kept.foldl | apply Kept.foldl1 | apply Kept.foldl2) | (simp only [Kept.mk_iff, Kept.tick_iff]) | split | intro _)

theorem State.setWord_kept {z s : State} (h : State.Kept z s) (fs : List Fld) (w : Nat) (inst : Nat) (e : Nat) (bank : Nat) (sel : Nat) : State.Kept z (State.setWord s fs w inst e bank sel) := by
  dsimp only [State.setWord]
  repeat' (first | (with_reducible first | assumption | apply Kept.foldl | apply Kept.foldl1 | apply Kept.foldl2 | apply fset_kept) | (simp only [Kept.mk_iff, Kept.tick_iff]) | split | intro _)

theorem State.fresh_kept {z s : State} (h : State.Kept z s)  : State.Kept z (State.fresh s).2 := by
  dsimp only [State.fresh]
  repeat' (first | (with_reducible first | assumption | apply Kept.foldl | apply Kept.foldl1 | apply Kept.foldl2) | (simp only [Kept.mk_iff, Kept.tick_iff]) | split | intro _)

theorem State.stopUe_kept {z s : State} (h : State.Kept z s) (k which idx : Nat) : State.Kept z (State.stopUe s k which idx) := by
  dsimp only [State.stopUe]
  repeat' (first | (with_reducible first | assumption | apply Kept.foldl | apply Kept.foldl1 | apply Kept.foldl2 | apply intSet_kept | apply rcInc_kept | apply record_kept) | (simp only [Kept.mk_iff, Kept.tick_iff]) | split | intro _)

end Sys2Proof.Machine
end

