-- ==== Sys2Proof/Laws/KeptResv.lean ====
section
/-! SUPPORT. The operations of Resv.lean keep the queue and the canonical register file. -/

set_option linter.unusedSimpArgs false

namespace Sys2Proof.Machine

open State

theorem State.setCredit_kept {z s : State} (h : State.Kept z s) (k d c : Nat) (x : Credit) : State.Kept z (State.setCredit s k d c x) := by
  dsimp only [State.setCredit]
  repeat' (first | (with_reducible first | assumption | apply Kept.foldl | apply Kept.foldl1 | apply Kept.foldl2) | (simp only [Kept.mk_iff, Kept.tick_iff]) | split | intro _)

theorem State.setCharge_kept {z s : State} (h : State.Kept z s) (d k c : Nat) (x : Charge) : State.Kept z (State.setCharge s d k c x) := by
  dsimp only [State.setCharge]
  repeat' (first | (with_reducible first | assumption | apply Kept.foldl | apply Kept.foldl1 | apply Kept.foldl2) | (simp only [Kept.mk_iff, Kept.tick_iff]) | split | intro _)

theorem State.setQueue_kept {z s : State} (h : State.Kept z s) (k : Nat) (q : List FTxn) : State.Kept z (State.setQueue s k q) := by
  dsimp only [State.setQueue]
  repeat' (first | (with_reducible first | assumption | apply Kept.foldl | apply Kept.foldl1 | apply Kept.foldl2) | (simp only [Kept.mk_iff, Kept.tick_iff]) | split | intro _)

theorem State.assignCredits_kept {z s : State} (h : State.Kept z s) (k : Nat) : State.Kept z (State.assignCredits s k) := by
  dsimp only [State.assignCredits]
  repeat' (first | (with_reducible first | assumption | apply Kept.foldl | apply Kept.foldl1 | apply Kept.foldl2 | apply setCredit_kept | apply setQueue_kept) | (simp only [Kept.mk_iff, Kept.tick_iff]) | split | intro _)

theorem State.sendReq_kept {z s : State} (h : State.Kept z s) (k d c : Nat) (o : ReqOut) (retry : Bool) : State.Kept z (State.sendReq s k d c o retry) := by
  dsimp only [State.sendReq]
  repeat' (first | (with_reducible first | assumption | apply Kept.foldl | apply Kept.foldl1 | apply Kept.foldl2 | apply send_kept | apply rcInc_kept) | (simp only [Kept.mk_iff, Kept.tick_iff]) | split | intro _)

theorem State.ask_kept {z s : State} (h : State.Kept z s) (k d c : Nat) : State.Kept z (State.ask s k d c) := by
  dsimp only [State.ask]
  repeat' (first | (with_reducible first | assumption | apply Kept.foldl | apply Kept.foldl1 | apply Kept.foldl2 | apply take_kept | apply setCredit_kept | apply sendReq_kept) | (simp only [Kept.mk_iff, Kept.tick_iff]) | split | intro _)

theorem State.resService_kept {z s : State} (h : State.Kept z s) (k : Nat) : State.Kept z (State.resService s k) := by
  dsimp only [State.resService]
  repeat' (first | (with_reducible first | assumption | apply Kept.foldl | apply Kept.foldl1 | apply Kept.foldl2 | apply assignCredits_kept | apply ask_kept) | (simp only [Kept.mk_iff, Kept.tick_iff]) | split | intro _)

theorem State.setUsed_kept {z s : State} (h : State.Kept z s) (d c v : Nat) : State.Kept z (State.setUsed s d c v) := by
  dsimp only [State.setUsed]
  repeat' (first | (with_reducible first | assumption | apply Kept.foldl | apply Kept.foldl1 | apply Kept.foldl2 | apply fset_kept) | (simp only [Kept.mk_iff, Kept.tick_iff]) | split | intro _)

theorem State.sendCredit_kept {z s : State} (h : State.Kept z s) (d k : Nat) (sync : Bool) : State.Kept z (State.sendCredit s d k sync) := by
  dsimp only [State.sendCredit]
  repeat' (first | (with_reducible first | assumption | apply Kept.foldl | apply Kept.foldl1 | apply Kept.foldl2 | apply send_kept) | (simp only [Kept.mk_iff, Kept.tick_iff]) | split | intro _)

theorem State.freeEntry_kept {z s : State} (h : State.Kept z s) (d k c kind : Nat) : State.Kept z (State.freeEntry s d k c kind) := by
  dsimp only [State.freeEntry]
  repeat' (first | (with_reducible first | assumption | apply Kept.foldl | apply Kept.foldl1 | apply Kept.foldl2 | apply fset_kept | apply setCharge_kept | apply setUsed_kept | apply sendCredit_kept) | (simp only [Kept.mk_iff, Kept.tick_iff]) | split | intro _)

theorem State.setPendQ_kept {z s : State} (h : State.Kept z s) (d c : Nat) (q : List PendReq) : State.Kept z (State.setPendQ s d c q) := by
  dsimp only [State.setPendQ]
  repeat' (first | (with_reducible first | assumption | apply Kept.foldl | apply Kept.foldl1 | apply Kept.foldl2) | (simp only [Kept.mk_iff, Kept.tick_iff]) | split | intro _)

theorem State.sendGnt_kept {z s : State} (h : State.Kept z s) (d k c count rid : Nat) (rep np : Bool) : State.Kept z (State.sendGnt s d k c count rid rep np) := by
  dsimp only [State.sendGnt]
  repeat' (first | (with_reducible first | assumption | apply Kept.foldl | apply Kept.foldl1 | apply Kept.foldl2 | apply send_kept) | (simp only [Kept.mk_iff, Kept.tick_iff]) | split | intro _)

theorem execResReq_kept (s : State) (n : Stop) (m : Msg) : ∃ u9, execResReq n m s = .next u9 ∧ State.Kept s u9 := by
  have h := State.Kept.refl s
  dsimp only [execResReq]
  repeat' (first | refine ⟨_, rfl, ?_⟩ | (with_reducible first | assumption | apply Kept.foldl | apply Kept.foldl1 | apply Kept.foldl2 | apply take_kept | apply msgBad_kept | apply setCharge_kept | apply setPendQ_kept | apply sendGnt_kept) | (simp only [Kept.mk_iff, Kept.tick_iff]) | split | intro _)

theorem State.grantDecision_kept {z s : State} (h : State.Kept z s) (d : Nat) : State.Kept z (State.grantDecision s d) := by
  dsimp only [State.grantDecision]
  repeat' (first | (with_reducible first | assumption | apply Kept.foldl | apply Kept.foldl1 | apply Kept.foldl2 | apply fset_kept | apply rcInc_kept | apply setCharge_kept | apply setUsed_kept | apply setPendQ_kept | apply sendGnt_kept) | (simp only [Kept.mk_iff, Kept.tick_iff]) | split | intro _)

theorem execResGrantDecision_kept (s : State) (d : Stop) : ∃ u9, execResGrantDecision d s = .next u9 ∧ State.Kept s u9 := by
  have h := State.Kept.refl s
  dsimp only [execResGrantDecision]
  repeat' (first | refine ⟨_, rfl, ?_⟩ | (with_reducible first | assumption | apply Kept.foldl | apply Kept.foldl1 | apply Kept.foldl2 | apply grantDecision_kept) | (simp only [Kept.mk_iff, Kept.tick_iff]) | split | intro _)

theorem execResGnt_kept (s : State) (n : Stop) (m : Msg) : ∃ u9, execResGnt n m s = .next u9 ∧ State.Kept s u9 := by
  have h := State.Kept.refl s
  dsimp only [execResGnt]
  repeat' (first | refine ⟨_, rfl, ?_⟩ | (with_reducible first | assumption | apply Kept.foldl | apply Kept.foldl1 | apply Kept.foldl2 | apply fmax_kept | apply take_kept | apply msgBad_kept | apply setCredit_kept | apply resService_kept) | (simp only [Kept.mk_iff, Kept.tick_iff]) | split | intro _)

theorem execCredit_kept (s : State) (n : Stop) (m : Msg) : ∃ u9, execCredit n m s = .next u9 ∧ State.Kept s u9 := by
  have h := State.Kept.refl s
  dsimp only [execCredit]
  repeat' (first | refine ⟨_, rfl, ?_⟩ | (with_reducible first | assumption | apply Kept.foldl | apply Kept.foldl1 | apply Kept.foldl2 | apply take_kept | apply msgBad_kept | apply setCredit_kept | apply resService_kept) | (simp only [Kept.mk_iff, Kept.tick_iff]) | split | intro _)

theorem State.resRetry_kept {z s : State} (h : State.Kept z s) (k d c : Nat) : State.Kept z (State.resRetry s k d c) := by
  dsimp only [State.resRetry]
  repeat' (first | (with_reducible first | assumption | apply Kept.foldl | apply Kept.foldl1 | apply Kept.foldl2 | apply rcInc_kept | apply setCredit_kept | apply sendReq_kept) | (simp only [Kept.mk_iff, Kept.tick_iff]) | split | intro _)

theorem execResReqRetry_kept (s : State) (k : Stop) (d : Stop) (c : Fin 4) : ∃ u9, execResReqRetry k d c s = .next u9 ∧ State.Kept s u9 := by
  have h := State.Kept.refl s
  dsimp only [execResReqRetry]
  repeat' (first | refine ⟨_, rfl, ?_⟩ | (with_reducible first | assumption | apply Kept.foldl | apply Kept.foldl1 | apply Kept.foldl2 | apply resRetry_kept) | (simp only [Kept.mk_iff, Kept.tick_iff]) | split | intro _)

theorem State.beginClose_kept {z s : State} (h : State.Kept z s) (k : Nat) : State.Kept z (State.beginClose s k) := by
  dsimp only [State.beginClose]
  repeat' (first | (with_reducible first | assumption | apply Kept.foldl | apply Kept.foldl1 | apply Kept.foldl2 | apply fput_kept | apply bcast_kept) | (simp only [Kept.mk_iff, Kept.tick_iff]) | split | intro _)

theorem State.reopen_kept {z s : State} (h : State.Kept z s) (k : Nat) (fresh : Bool) : State.Kept z (State.reopen s k fresh) := by
  dsimp only [State.reopen]
  repeat' (first | (with_reducible first | assumption | apply Kept.foldl | apply Kept.foldl1 | apply Kept.foldl2 | apply fput_kept | apply bcast_kept | apply fresh_kept) | (simp only [Kept.mk_iff, Kept.tick_iff]) | split | intro _)

theorem State.refund_kept {z s : State} (h : State.Kept z s) (k : Nat) (t : FTxn) : State.Kept z (State.refund s k t) := by
  dsimp only [State.refund]
  repeat' (first | (with_reducible first | assumption | apply Kept.foldl | apply Kept.foldl1 | apply Kept.foldl2 | apply setCredit_kept) | (simp only [Kept.mk_iff, Kept.tick_iff]) | split | intro _)

theorem State.withdrawCredits_kept {z s : State} (h : State.Kept z s) (k d : Nat) : State.Kept z (State.withdrawCredits s k d) := by
  dsimp only [State.withdrawCredits]
  repeat' (first | (with_reducible first | assumption | apply Kept.foldl | apply Kept.foldl1 | apply Kept.foldl2 | apply setQueue_kept | apply refund_kept) | (simp only [Kept.mk_iff, Kept.tick_iff]) | split | intro _)

theorem State.surrender_kept {z s : State} (h : State.Kept z s) (k d : Nat) : State.Kept z (State.surrender s k d) := by
  dsimp only [State.surrender]
  repeat' (first | (with_reducible first | assumption | apply Kept.foldl | apply Kept.foldl1 | apply Kept.foldl2 | apply send_kept | apply setCredit_kept | apply resService_kept | apply withdrawCredits_kept) | (simp only [Kept.mk_iff, Kept.tick_iff]) | split | intro _)

theorem execFloorRecall_kept (s : State) (n : Stop) (m : Msg) : ∃ u9, execFloorRecall n m s = .next u9 ∧ State.Kept s u9 := by
  have h := State.Kept.refl s
  dsimp only [execFloorRecall]
  repeat' (first | refine ⟨_, rfl, ?_⟩ | (with_reducible first | assumption | apply Kept.foldl | apply Kept.foldl1 | apply Kept.foldl2 | apply send_kept | apply take_kept | apply msgBad_kept | apply surrender_kept) | (simp only [Kept.mk_iff, Kept.tick_iff]) | split | intro _)

theorem execSurrender_kept (s : State) (n : Stop) (m : Msg) : ∃ u9, execSurrender n m s = .next u9 ∧ State.Kept s u9 := by
  have h := State.Kept.refl s
  dsimp only [execSurrender]
  repeat' (first | refine ⟨_, rfl, ?_⟩ | (with_reducible first | assumption | apply Kept.foldl | apply Kept.foldl1 | apply Kept.foldl2 | apply fset_kept | apply take_kept | apply msgBad_kept | apply setCharge_kept | apply setUsed_kept) | (simp only [Kept.mk_iff, Kept.tick_iff]) | split | intro _)

theorem State.restartPair_kept {z s : State} (h : State.Kept z s) (k d : Nat) : State.Kept z (State.restartPair s k d) := by
  dsimp only [State.restartPair]
  repeat' (first | (with_reducible first | assumption | apply Kept.foldl | apply Kept.foldl1 | apply Kept.foldl2) | (simp only [Kept.mk_iff, Kept.tick_iff]) | split | intro _)

theorem State.unsyncAll_kept {z s : State} (h : State.Kept z s) (k : Nat) : State.Kept z (State.unsyncAll s k) := by
  dsimp only [State.unsyncAll]
  repeat' (first | (with_reducible first | assumption | apply Kept.foldl | apply Kept.foldl1 | apply Kept.foldl2) | (simp only [Kept.mk_iff, Kept.tick_iff]) | split | intro _)

theorem State.syncReq_kept {z s : State} (h : State.Kept z s) (k d : Nat) : State.Kept z (State.syncReq s k d) := by
  dsimp only [State.syncReq]
  repeat' (first | (with_reducible first | assumption | apply Kept.foldl | apply Kept.foldl1 | apply Kept.foldl2 | apply send_kept) | (simp only [Kept.mk_iff, Kept.tick_iff]) | split | intro _)

theorem State.syncAll_kept {z s : State} (h : State.Kept z s) (k : Nat) : State.Kept z (State.syncAll s k) := by
  dsimp only [State.syncAll]
  repeat' (first | (with_reducible first | assumption | apply Kept.foldl | apply Kept.foldl1 | apply Kept.foldl2 | apply syncReq_kept) | (simp only [Kept.mk_iff, Kept.tick_iff]) | split | intro _)

theorem execFloorReissue_kept (s : State) (n : Stop) (m : Msg) : ∃ u9, execFloorReissue n m s = .next u9 ∧ State.Kept s u9 := by
  have h := State.Kept.refl s
  dsimp only [execFloorReissue]
  repeat' (first | refine ⟨_, rfl, ?_⟩ | (with_reducible first | assumption | apply Kept.foldl | apply Kept.foldl1 | apply Kept.foldl2 | apply take_kept | apply msgBad_kept | apply setCredit_kept | apply resService_kept | apply restartPair_kept | apply syncReq_kept | apply syncAll_kept) | (simp only [Kept.mk_iff, Kept.tick_iff]) | split | intro _)

theorem execFloorSyncReq_kept (s : State) (n : Stop) (m : Msg) : ∃ u9, execFloorSyncReq n m s = .next u9 ∧ State.Kept s u9 := by
  have h := State.Kept.refl s
  dsimp only [execFloorSyncReq]
  repeat' (first | refine ⟨_, rfl, ?_⟩ | (with_reducible first | assumption | apply Kept.foldl | apply Kept.foldl1 | apply Kept.foldl2 | apply take_kept | apply msgBad_kept | apply sendCredit_kept) | (simp only [Kept.mk_iff, Kept.tick_iff]) | split | intro _)

end Sys2Proof.Machine
end

