-- ==== Sys2Proof/Laws/KeptForm.lean ====
section
/-! SUPPORT. The operations of Form.lean keep the queue and the canonical register file. -/

set_option linter.unusedSimpArgs false

namespace Sys2Proof.Machine

open State

theorem State.setTag_kept {z s : State} (h : State.Kept z s) (k t : Nat) (x : TagRec) : State.Kept z (State.setTag s k t x) := by
  dsimp only [State.setTag]
  repeat' (first | (with_reducible first | assumption | apply Kept.foldl | apply Kept.foldl1 | apply Kept.foldl2) | (simp only [Kept.mk_iff, Kept.tick_iff]) | split | intro _)

theorem State.setFormQ_kept {z s : State} (h : State.Kept z s) (k : Nat) (q : List FormReq) : State.Kept z (State.setFormQ s k q) := by
  dsimp only [State.setFormQ]
  repeat' (first | (with_reducible first | assumption | apply Kept.foldl | apply Kept.foldl1 | apply Kept.foldl2) | (simp only [Kept.mk_iff, Kept.tick_iff]) | split | intro _)

theorem State.submit_kept {z s : State} (h : State.Kept z s) (k : Nat) (r : FormReq) : State.Kept z (State.submit s k r) := by
  dsimp only [State.submit]
  repeat' (first | (with_reducible first | assumption | apply Kept.foldl | apply Kept.foldl1 | apply Kept.foldl2 | apply setFormQ_kept) | (simp only [Kept.mk_iff, Kept.tick_iff]) | split | intro _)

theorem State.effTake_kept {z s : State} (h : State.Kept z s) (k : Nat) : State.Kept z (State.effTake s k) := by
  dsimp only [State.effTake]
  repeat' (first | (with_reducible first | assumption | apply Kept.foldl | apply Kept.foldl1 | apply Kept.foldl2) | (simp only [Kept.mk_iff, Kept.tick_iff]) | split | intro _)

theorem State.openTag_kept {z s : State} (h : State.Kept z s) (k t : Nat) (r : FormReq) : State.Kept z (State.openTag s k t r) := by
  dsimp only [State.openTag]
  repeat' (first | (with_reducible first | assumption | apply Kept.foldl | apply Kept.foldl1 | apply Kept.foldl2 | apply setTag_kept) | (simp only [Kept.mk_iff, Kept.tick_iff]) | split | intro _)

theorem State.formOne_kept {z s : State} (h : State.Kept z s) (k : Nat) (r : FormReq) : State.Kept z (State.formOne s k r) := by
  dsimp only [State.formOne]
  repeat' (first | (with_reducible first | assumption | apply Kept.foldl | apply Kept.foldl1 | apply Kept.foldl2 | apply setQueue_kept | apply resService_kept | apply freeEntry_kept | apply openTag_kept) | (simp only [Kept.mk_iff, Kept.tick_iff]) | split | intro _)

theorem State.formWaits_kept {z s : State} (h : State.Kept z s) (k : Nat) : State.Kept z (State.formWaits s k) := by
  dsimp only [State.formWaits]
  repeat' (first | (with_reducible first | assumption | apply Kept.foldl | apply Kept.foldl1 | apply Kept.foldl2 | apply rcInc_kept | apply setFormQ_kept) | (simp only [Kept.mk_iff, Kept.tick_iff]) | split | intro _)

theorem State.transactionFormed_kept {z s : State} (h : State.Kept z s) (k : Nat) : State.Kept z (State.transactionFormed s k) := by
  dsimp only [State.transactionFormed]
  repeat' (first | (with_reducible first | assumption | apply Kept.foldl | apply Kept.foldl1 | apply Kept.foldl2 | apply setFormQ_kept | apply formOne_kept | apply formWaits_kept) | (simp only [Kept.mk_iff, Kept.tick_iff]) | split | intro _)

theorem State.reroute_kept {z s : State} (h : State.Kept z s) (k : Nat) : State.Kept z (State.reroute s k) := by
  dsimp only [State.reroute]
  repeat' (first | (with_reducible first | assumption | apply Kept.foldl | apply Kept.foldl1 | apply Kept.foldl2 | apply setQueue_kept | apply resService_kept | apply refund_kept) | (simp only [Kept.mk_iff, Kept.tick_iff]) | split | intro _)

theorem State.ownWrite_kept {z s : State} (h : State.Kept z s) (k d addr : Nat) (bytes : List (BitVec 8)) (frees : List (Nat × Nat × Nat)) : State.Kept z (State.ownWrite s k d addr bytes frees) := by
  dsimp only [State.ownWrite]
  repeat' (first | (with_reducible first | assumption | apply Kept.foldl | apply Kept.foldl1 | apply Kept.foldl2 | apply submit_kept) | (simp only [Kept.mk_iff, Kept.tick_iff]) | split | intro _)

theorem State.ownRead_kept {z s : State} (h : State.Kept z s) (k d addr n : Nat) (use : TagUse) : State.Kept z (State.ownRead s k d addr n use) := by
  dsimp only [State.ownRead]
  repeat' (first | (with_reducible first | assumption | apply Kept.foldl | apply Kept.foldl1 | apply Kept.foldl2 | apply submit_kept) | (simp only [Kept.mk_iff, Kept.tick_iff]) | split | intro _)

end Sys2Proof.Machine
end

