-- ==== Sys2Proof/Laws/KeptInject.lean ====
section
/-! SUPPORT. The operations of Inject.lean keep the queue and the canonical register file. -/

set_option linter.unusedSimpArgs false

namespace Sys2Proof.Machine

open State

theorem State.fiSet_kept {z s : State} (h : State.Kept z s) (pg u : Nat) (x : FiUnit) : State.Kept z (State.fiSet s pg u x) := by
  dsimp only [State.fiSet]
  repeat' (first | (with_reducible first | assumption | apply Kept.foldl | apply Kept.foldl1 | apply Kept.foldl2) | (simp only [Kept.mk_iff, Kept.tick_iff]) | split | intro _)

theorem State.fiInc_kept {z s : State} (h : State.Kept z s) (f : Fld) (pg u : Nat) : State.Kept z (State.fiInc s f pg u) := by
  dsimp only [State.fiInc]
  repeat' (first | (with_reducible first | assumption | apply Kept.foldl | apply Kept.foldl1 | apply Kept.foldl2 | apply fset_kept) | (simp only [Kept.mk_iff, Kept.tick_iff]) | split | intro _)

theorem State.fiSee_kept {z s : State} (h : State.Kept z s) (pg u : Nat) : State.Kept z (State.fiSee s pg u).2 := by
  dsimp only [State.fiSee]
  repeat' (first | (with_reducible first | assumption | apply Kept.foldl | apply Kept.foldl1 | apply Kept.foldl2 | apply fset_kept | apply fiSet_kept | apply fiInc_kept) | (simp only [Kept.mk_iff, Kept.tick_iff]) | split | intro _)

theorem State.fiDropHeld_kept {z s : State} (h : State.Kept z s) (u : Nat) : State.Kept z (State.fiDropHeld s u) := by
  dsimp only [State.fiDropHeld]
  repeat' (first | (with_reducible first | assumption | apply Kept.foldl | apply Kept.foldl1 | apply Kept.foldl2 | apply fiSet_kept | apply fiInc_kept) | (simp only [Kept.mk_iff, Kept.tick_iff]) | split | intro _)

theorem State.fiPass_kept {z s : State} (h : State.Kept z s) (u : Nat) (f : Flit) : State.Kept z (State.fiPass s u f) := by
  dsimp only [State.fiPass]
  repeat' (first | (with_reducible first | assumption | apply Kept.foldl | apply Kept.foldl1 | apply Kept.foldl2 | apply fiSet_kept | apply fiSee_kept) | (simp only [Kept.mk_iff, Kept.tick_iff]) | split | intro _)

theorem State.fiRing_kept {z s : State} (h : State.Kept z s) (k r d : Nat) (f : Flit) (out : Option Slot) : State.Kept z (State.fiRing s k r d f out).2 := by
  dsimp only [State.fiRing]
  repeat' (first | (with_reducible first | assumption | apply Kept.foldl | apply Kept.foldl1 | apply Kept.foldl2 | apply fiSet_kept | apply fiSee_kept | apply fiDropHeld_kept | apply fiPass_kept) | (simp only [Kept.mk_iff, Kept.tick_iff]) | split | intro _)

theorem State.driveLink_kept {z s : State} (h : State.Kept z s) (k r d : Nat) (o : Option Slot) : State.Kept z (State.driveLink s k r d o) := by
  dsimp only [State.driveLink]
  repeat' (first | (with_reducible first | assumption | apply Kept.foldl | apply Kept.foldl1 | apply Kept.foldl2) | (simp only [Kept.mk_iff, Kept.tick_iff]) | split | intro _)

theorem State.fiHeldRelease_kept {z s : State} (h : State.Kept z s) (k r d : Nat) : State.Kept z (State.fiHeldRelease s k r d) := by
  dsimp only [State.fiHeldRelease]
  repeat' (first | (with_reducible first | assumption | apply Kept.foldl | apply Kept.foldl1 | apply Kept.foldl2 | apply fiSet_kept | apply fiDropHeld_kept | apply driveLink_kept) | (simp only [Kept.mk_iff, Kept.tick_iff]) | split | intro _)

theorem execFiHeldRelease_kept (s : State) (k : Stop) (r : RingNo) (d : Dir) : ∃ u9, execFiHeldRelease k r d s = .next u9 ∧ State.Kept s u9 := by
  have h := State.Kept.refl s
  dsimp only [execFiHeldRelease]
  repeat' (first | refine ⟨_, rfl, ?_⟩ | (with_reducible first | assumption | apply Kept.foldl | apply Kept.foldl1 | apply Kept.foldl2 | apply fiHeldRelease_kept) | (simp only [Kept.mk_iff, Kept.tick_iff]) | split | intro _)

end Sys2Proof.Machine
end

