-- ==== Sys2Proof/Laws/KeptRing.lean ====
section
/-! SUPPORT. The operations of Ring.lean keep the queue and the canonical register file. -/

set_option linter.unusedSimpArgs false

namespace Sys2Proof.Machine

open State

theorem State.setRing_kept {z s : State} (h : State.Kept z s) (r toward : Nat) : State.Kept z (State.setRing s r toward) := by
  dsimp only [State.setRing]
  repeat' (first | (with_reducible first | assumption | apply Kept.foldl | apply Kept.foldl1 | apply Kept.foldl2 | apply fset_kept | apply sillage_kept) | (simp only [Kept.mk_iff, Kept.tick_iff]) | split | intro _)

theorem State.ringFail_kept {z s : State} (h : State.Kept z s) (r : Nat) : State.Kept z (State.ringFail s r) := by
  dsimp only [State.ringFail]
  repeat' (first | (with_reducible first | assumption | apply Kept.foldl | apply Kept.foldl1 | apply Kept.foldl2 | apply fput_kept | apply setRing_kept) | (simp only [Kept.mk_iff, Kept.tick_iff]) | split | intro _)

theorem State.liftFence_kept {z s : State} (h : State.Kept z s) (r : Nat) : State.Kept z (State.liftFence s r) := by
  dsimp only [State.liftFence]
  repeat' (first | (with_reducible first | assumption | apply Kept.foldl | apply Kept.foldl1 | apply Kept.foldl2 | apply fset_kept) | (simp only [Kept.mk_iff, Kept.tick_iff]) | split | intro _)

theorem State.ringSuspect_kept {z s : State} (h : State.Kept z s) (r : Nat) : State.Kept z (State.ringSuspect s r) := by
  dsimp only [State.ringSuspect]
  repeat' (first | (with_reducible first | assumption | apply Kept.foldl | apply Kept.foldl1 | apply Kept.foldl2 | apply fput_kept | apply bcast_kept | apply intSet_kept) | (simp only [Kept.mk_iff, Kept.tick_iff]) | split | intro _)

theorem State.ringThreshold_kept {z s : State} (h : State.Kept z s) (r : Nat) : State.Kept z (State.ringThreshold s r) := by
  dsimp only [State.ringThreshold]
  repeat' (first | (with_reducible first | assumption | apply Kept.foldl | apply Kept.foldl1 | apply Kept.foldl2 | apply fput_kept | apply ringSuspect_kept) | (simp only [Kept.mk_iff, Kept.tick_iff]) | split | intro _)

theorem State.ringKeep_kept {z s : State} (h : State.Kept z s) (r : Nat) (is : List Nat) : State.Kept z (State.ringKeep s r is) := by
  dsimp only [State.ringKeep]
  repeat' (first | (with_reducible first | assumption | apply Kept.foldl | apply Kept.foldl1 | apply Kept.foldl2) | (simp only [Kept.mk_iff, Kept.tick_iff]) | split | intro _)

theorem State.ringCommit_kept {z s : State} (h : State.Kept z s)  : State.Kept z (State.ringCommit s) := by
  dsimp only [State.ringCommit]
  repeat' (first | (with_reducible first | assumption | apply Kept.foldl | apply Kept.foldl1 | apply Kept.foldl2) | (simp only [Kept.mk_iff, Kept.tick_iff]) | split | intro _)

theorem State.maintFresh_kept {z s : State} (h : State.Kept z s) (r : Nat) : State.Kept z (State.maintFresh s r) := by
  dsimp only [State.maintFresh]
  repeat' (first | (with_reducible first | assumption | apply Kept.foldl | apply Kept.foldl1 | apply Kept.foldl2) | (simp only [Kept.mk_iff, Kept.tick_iff]) | split | intro _)

theorem State.ringRes_kept {z s : State} (h : State.Kept z s) (r res : Nat) : State.Kept z (State.ringRes s r res) := by
  dsimp only [State.ringRes]
  repeat' (first | (with_reducible first | assumption | apply Kept.foldl | apply Kept.foldl1 | apply Kept.foldl2 | apply fset_kept) | (simp only [Kept.mk_iff, Kept.tick_iff]) | split | intro _)

theorem State.ringCal_kept {z s : State} (h : State.Kept z s) (r : Nat) : State.Kept z (State.ringCal s r) := by
  dsimp only [State.ringCal]
  repeat' (first | (with_reducible first | assumption | apply Kept.foldl | apply Kept.foldl1 | apply Kept.foldl2 | apply fput_kept | apply setRing_kept | apply maintFresh_kept | apply ringRes_kept) | (simp only [Kept.mk_iff, Kept.tick_iff]) | split | intro _)

theorem State.ringTest_kept {z s : State} (h : State.Kept z s) (r : Nat) : State.Kept z (State.ringTest s r) := by
  dsimp only [State.ringTest]
  repeat' (first | (with_reducible first | assumption | apply Kept.foldl | apply Kept.foldl1 | apply Kept.foldl2 | apply setRing_kept | apply ringRes_kept) | (simp only [Kept.mk_iff, Kept.tick_iff]) | split | intro _)

theorem State.ringFailCmd_kept {z s : State} (h : State.Kept z s) (r : Nat) : State.Kept z (State.ringFailCmd s r) := by
  dsimp only [State.ringFailCmd]
  repeat' (first | (with_reducible first | assumption | apply Kept.foldl | apply Kept.foldl1 | apply Kept.foldl2 | apply fput_kept | apply ringFail_kept | apply ringSuspect_kept | apply ringRes_kept) | (simp only [Kept.mk_iff, Kept.tick_iff]) | split | intro _)

theorem State.ringClear_kept {z s : State} (h : State.Kept z s) (r : Nat) : State.Kept z (State.ringClear s r) := by
  dsimp only [State.ringClear]
  repeat' (first | (with_reducible first | assumption | apply Kept.foldl | apply Kept.foldl1 | apply Kept.foldl2 | apply fput_kept | apply setRing_kept | apply ringRes_kept) | (simp only [Kept.mk_iff, Kept.tick_iff]) | split | intro _)

theorem State.ringCmd_kept {z s : State} (h : State.Kept z s) (r cmd : Nat) : State.Kept z (State.ringCmd s r cmd) := by
  dsimp only [State.ringCmd]
  repeat' (first | (with_reducible first | assumption | apply Kept.foldl | apply Kept.foldl1 | apply Kept.foldl2 | apply ringCal_kept | apply ringTest_kept | apply ringFailCmd_kept | apply ringClear_kept) | (simp only [Kept.mk_iff, Kept.tick_iff]) | split | intro _)

theorem State.ringSwap_kept {z s : State} (h : State.Kept z s) (old new : Nat) : State.Kept z (State.ringSwap s old new) := by
  dsimp only [State.ringSwap]
  repeat' (first | (with_reducible first | assumption | apply Kept.foldl | apply Kept.foldl1 | apply Kept.foldl2 | apply setRing_kept) | (simp only [Kept.mk_iff, Kept.tick_iff]) | split | intro _)

theorem State.ringDrained_kept {z s : State} (h : State.Kept z s)  : State.Kept z (State.ringDrained s) := by
  dsimp only [State.ringDrained]
  repeat' (first | (with_reducible first | assumption | apply Kept.foldl | apply Kept.foldl1 | apply Kept.foldl2 | apply setRing_kept | apply ringFail_kept | apply liftFence_kept) | (simp only [Kept.mk_iff, Kept.tick_iff]) | split | intro _)

theorem State.ringCalDone_kept {z s : State} (h : State.Kept z s) (r cyc0 cyc1 m0 m1 w0 w1 : Nat) : State.Kept z (State.ringCalDone s r cyc0 cyc1 m0 m1 w0 w1) := by
  dsimp only [State.ringCalDone]
  repeat' (first | (with_reducible first | assumption | apply Kept.foldl | apply Kept.foldl1 | apply Kept.foldl2 | apply fset_kept | apply fput_kept | apply setRing_kept | apply ringFail_kept) | (simp only [Kept.mk_iff, Kept.tick_iff]) | split | intro _)

theorem State.ringTestStart_kept {z s : State} (h : State.Kept z s) (r : Nat) : State.Kept z (State.ringTestStart s r) := by
  dsimp only [State.ringTestStart]
  repeat' (first | (with_reducible first | assumption | apply Kept.foldl | apply Kept.foldl1 | apply Kept.foldl2 | apply maintFresh_kept) | (simp only [Kept.mk_iff, Kept.tick_iff]) | split | intro _)

theorem State.ringTestEnd_kept {z s : State} (h : State.Kept z s) (r : Nat) : State.Kept z (State.ringTestEnd s r) := by
  dsimp only [State.ringTestEnd]
  repeat' (first | (with_reducible first | assumption | apply Kept.foldl | apply Kept.foldl1 | apply Kept.foldl2 | apply fput_kept | apply setRing_kept | apply ringFail_kept) | (simp only [Kept.mk_iff, Kept.tick_iff]) | split | intro _)

theorem State.testError_kept {z s : State} (h : State.Kept z s) (r : Nat) : State.Kept z (State.testError s r) := by
  dsimp only [State.testError]
  repeat' (first | (with_reducible first | assumption | apply Kept.foldl | apply Kept.foldl1 | apply Kept.foldl2) | (simp only [Kept.mk_iff, Kept.tick_iff]) | split | intro _)

theorem State.windowRoll_kept {z s : State} (h : State.Kept z s) (r : Nat) : State.Kept z (State.windowRoll s r) := by
  dsimp only [State.windowRoll]
  repeat' (first | (with_reducible first | assumption | apply Kept.foldl | apply Kept.foldl1 | apply Kept.foldl2) | (simp only [Kept.mk_iff, Kept.tick_iff]) | split | intro _)

theorem State.countRemoval_kept {z s : State} (h : State.Kept z s) (r : Nat) (inj : Bool) : State.Kept z (State.countRemoval s r inj) := by
  dsimp only [State.countRemoval]
  repeat' (first | (with_reducible first | assumption | apply Kept.foldl | apply Kept.foldl1 | apply Kept.foldl2 | apply windowRoll_kept) | (simp only [Kept.mk_iff, Kept.tick_iff]) | split | intro _)

theorem execRingCal_kept (s : State) (r : RingNo) : ∃ u9, execRingCal r s = .next u9 ∧ State.Kept s u9 := by
  have h := State.Kept.refl s
  dsimp only [execRingCal]
  repeat' (first | refine ⟨_, rfl, ?_⟩ | (with_reducible first | assumption | apply Kept.foldl | apply Kept.foldl1 | apply Kept.foldl2 | apply touch_kept | apply ringCal_kept) | (simp only [Kept.mk_iff, Kept.tick_iff]) | split | intro _)

theorem execRingTest_kept (s : State) (r : RingNo) : ∃ u9, execRingTest r s = .next u9 ∧ State.Kept s u9 := by
  have h := State.Kept.refl s
  dsimp only [execRingTest]
  repeat' (first | refine ⟨_, rfl, ?_⟩ | (with_reducible first | assumption | apply Kept.foldl | apply Kept.foldl1 | apply Kept.foldl2 | apply touch_kept | apply ringTest_kept) | (simp only [Kept.mk_iff, Kept.tick_iff]) | split | intro _)

theorem execRingFail_kept (s : State) (r : RingNo) : ∃ u9, execRingFail r s = .next u9 ∧ State.Kept s u9 := by
  have h := State.Kept.refl s
  dsimp only [execRingFail]
  repeat' (first | refine ⟨_, rfl, ?_⟩ | (with_reducible first | assumption | apply Kept.foldl | apply Kept.foldl1 | apply Kept.foldl2 | apply touch_kept | apply ringFailCmd_kept) | (simp only [Kept.mk_iff, Kept.tick_iff]) | split | intro _)

theorem execRingClear_kept (s : State) (r : RingNo) : ∃ u9, execRingClear r s = .next u9 ∧ State.Kept s u9 := by
  have h := State.Kept.refl s
  dsimp only [execRingClear]
  repeat' (first | refine ⟨_, rfl, ?_⟩ | (with_reducible first | assumption | apply Kept.foldl | apply Kept.foldl1 | apply Kept.foldl2 | apply touch_kept | apply ringClear_kept) | (simp only [Kept.mk_iff, Kept.tick_iff]) | split | intro _)

theorem execRingCalDone_kept (s : State) (r : RingNo) (cyc0 cyc1 : BitVec 8) (m0 m1 : BitVec 6) (w0 w1 : Stop) : ∃ u9, execRingCalDone r cyc0 cyc1 m0 m1 w0 w1 s = .next u9 ∧ State.Kept s u9 := by
  have h := State.Kept.refl s
  dsimp only [execRingCalDone]
  repeat' (first | refine ⟨_, rfl, ?_⟩ | (with_reducible first | assumption | apply Kept.foldl | apply Kept.foldl1 | apply Kept.foldl2 | apply ringCalDone_kept) | (simp only [Kept.mk_iff, Kept.tick_iff]) | split | intro _)

theorem execRingTestStart_kept (s : State) (r : RingNo) : ∃ u9, execRingTestStart r s = .next u9 ∧ State.Kept s u9 := by
  have h := State.Kept.refl s
  dsimp only [execRingTestStart]
  repeat' (first | refine ⟨_, rfl, ?_⟩ | (with_reducible first | assumption | apply Kept.foldl | apply Kept.foldl1 | apply Kept.foldl2 | apply ringTestStart_kept) | (simp only [Kept.mk_iff, Kept.tick_iff]) | split | intro _)

theorem execRingTestEnd_kept (s : State) (r : RingNo) : ∃ u9, execRingTestEnd r s = .next u9 ∧ State.Kept s u9 := by
  have h := State.Kept.refl s
  dsimp only [execRingTestEnd]
  repeat' (first | refine ⟨_, rfl, ?_⟩ | (with_reducible first | assumption | apply Kept.foldl | apply Kept.foldl1 | apply Kept.foldl2 | apply ringTestEnd_kept) | (simp only [Kept.mk_iff, Kept.tick_iff]) | split | intro _)

theorem execRingThreshold_kept (s : State) (r : RingNo) : ∃ u9, execRingThreshold r s = .next u9 ∧ State.Kept s u9 := by
  have h := State.Kept.refl s
  dsimp only [execRingThreshold]
  repeat' (first | refine ⟨_, rfl, ?_⟩ | (with_reducible first | assumption | apply Kept.foldl | apply Kept.foldl1 | apply Kept.foldl2 | apply ringThreshold_kept) | (simp only [Kept.mk_iff, Kept.tick_iff]) | split | intro _)

theorem execFence_kept (s : State) (n : Node) (m : Msg) : ∃ u9, execFence n m s = .next u9 ∧ State.Kept s u9 := by
  have h := State.Kept.refl s
  dsimp only [execFence]
  repeat' (first | refine ⟨_, rfl, ?_⟩ | (with_reducible first | assumption | apply Kept.foldl | apply Kept.foldl1 | apply Kept.foldl2 | apply take_kept | apply msgBad_kept) | (simp only [Kept.mk_iff, Kept.tick_iff]) | split | intro _)

theorem State.fenceApply_kept {z s : State} (h : State.Kept z s) (n r : Nat) : State.Kept z (State.fenceApply s n r) := by
  dsimp only [State.fenceApply]
  repeat' (first | (with_reducible first | assumption | apply Kept.foldl | apply Kept.foldl1 | apply Kept.foldl2 | apply fset_kept) | (simp only [Kept.mk_iff, Kept.tick_iff]) | split | intro _)

theorem execFenceApply_kept (s : State) (n : Node) (r : RingNo) : ∃ u9, execFenceApply n r s = .next u9 ∧ State.Kept s u9 := by
  have h := State.Kept.refl s
  dsimp only [execFenceApply]
  repeat' (first | refine ⟨_, rfl, ?_⟩ | (with_reducible first | assumption | apply Kept.foldl | apply Kept.foldl1 | apply Kept.foldl2 | apply fenceApply_kept) | (simp only [Kept.mk_iff, Kept.tick_iff]) | split | intro _)

end Sys2Proof.Machine
end

