-- ==== Sys2Proof/Laws/KeptTick.lean ====
section
/-! SUPPORT. The operations of Tick.lean keep the queue and the canonical register file. -/

set_option linter.unusedSimpArgs false

namespace Sys2Proof.Machine

open State

theorem State.setFreezeOwner_kept {z s : State} (h : State.Kept z s)  : State.Kept z (State.setFreezeOwner s) := by
  dsimp only [State.setFreezeOwner]
  repeat' (first | (with_reducible first | assumption | apply Kept.foldl | apply Kept.foldl1 | apply Kept.foldl2 | apply fset_kept) | (simp only [Kept.mk_iff, Kept.tick_iff]) | split | intro _)

theorem State.noteLatch_kept {z s : State} (h : State.Kept z s) (c : Nat) (snap : Bool) : State.Kept z (State.noteLatch s c snap) := by
  dsimp only [State.noteLatch]
  repeat' (first | (with_reducible first | assumption | apply Kept.foldl | apply Kept.foldl1 | apply Kept.foldl2 | apply fput_kept | apply setFreezeOwner_kept) | (simp only [Kept.mk_iff, Kept.tick_iff]) | split | intro _)

theorem State.swapBanks_kept {z s : State} (h : State.Kept z s) (c : Nat) : State.Kept z (State.swapBanks s c) := by
  dsimp only [State.swapBanks]
  repeat' (first | (with_reducible first | assumption | apply Kept.foldl | apply Kept.foldl1 | apply Kept.foldl2 | apply fset_kept | apply fput_kept | apply setWide_kept | apply sillage_kept | apply ringSwap_kept) | (simp only [Kept.mk_iff, Kept.tick_iff]) | split | intro _)

theorem State.tickEdge_kept {z s : State} (h : State.Kept z s) (hold : Bool) : State.Kept z (State.tickEdge s hold) := by
  dsimp only [State.tickEdge]
  repeat' (first | (with_reducible first | assumption | apply Kept.foldl | apply Kept.foldl1 | apply Kept.foldl2 | apply fput_kept | apply post_kept | apply noteLatch_kept | apply swapBanks_kept) | (simp only [Kept.mk_iff, Kept.tick_iff]) | split | intro _)

theorem execReferenceTickEdge_kept (s : State)  : ∃ u9, execReferenceTickEdge s = .next u9 ∧ State.Kept s u9 := by
  have h := State.Kept.refl s
  dsimp only [execReferenceTickEdge]
  repeat' (first | refine ⟨_, rfl, ?_⟩ | (with_reducible first | assumption | apply Kept.foldl | apply Kept.foldl1 | apply Kept.foldl2 | apply fput_kept | apply sillage_kept | apply tickEdge_kept) | (simp only [Kept.mk_iff, Kept.tick_iff]) | split | intro _)

theorem State.tickEnable_kept {z s : State} (h : State.Kept z s) (en : Bool) : State.Kept z (State.tickEnable s en) := by
  dsimp only [State.tickEnable]
  repeat' (first | (with_reducible first | assumption | apply Kept.foldl | apply Kept.foldl1 | apply Kept.foldl2 | apply fput_kept) | (simp only [Kept.mk_iff, Kept.tick_iff]) | split | intro _)

theorem execTickCalStart_kept (s : State)  : ∃ u9, execTickCalStart s = .next u9 ∧ State.Kept s u9 := by
  have h := State.Kept.refl s
  dsimp only [execTickCalStart]
  repeat' (first | refine ⟨_, rfl, ?_⟩ | (with_reducible first | assumption | apply Kept.foldl | apply Kept.foldl1 | apply Kept.foldl2 | apply touch_kept | apply tickEnable_kept) | (simp only [Kept.mk_iff, Kept.tick_iff]) | split | intro _)

theorem execTickStopWrite_kept (s : State)  : ∃ u9, execTickStopWrite s = .next u9 ∧ State.Kept s u9 := by
  have h := State.Kept.refl s
  dsimp only [execTickStopWrite]
  repeat' (first | refine ⟨_, rfl, ?_⟩ | (with_reducible first | assumption | apply Kept.foldl | apply Kept.foldl1 | apply Kept.foldl2 | apply touch_kept | apply tickEnable_kept) | (simp only [Kept.mk_iff, Kept.tick_iff]) | split | intro _)

theorem execTickCalDone_kept (s : State)  : ∃ u9, execTickCalDone s = .next u9 ∧ State.Kept s u9 := by
  have h := State.Kept.refl s
  dsimp only [execTickCalDone]
  repeat' (first | refine ⟨_, rfl, ?_⟩ | (with_reducible first | assumption | apply Kept.foldl | apply Kept.foldl1 | apply Kept.foldl2 | apply fput_kept) | (simp only [Kept.mk_iff, Kept.tick_iff]) | split | intro _)

theorem execTickrefLoss_kept (s : State)  : ∃ u9, execTickrefLoss s = .next u9 ∧ State.Kept s u9 := by
  have h := State.Kept.refl s
  dsimp only [execTickrefLoss]
  repeat' (first | refine ⟨_, rfl, ?_⟩ | (with_reducible first | assumption | apply Kept.foldl | apply Kept.foldl1 | apply Kept.foldl2 | apply fput_kept | apply intSet_kept | apply sillage_kept | apply recoveryCause_kept) | (simp only [Kept.mk_iff, Kept.tick_iff]) | split | intro _)

theorem execHoldoverTick_kept (s : State)  : ∃ u9, execHoldoverTick s = .next u9 ∧ State.Kept s u9 := by
  have h := State.Kept.refl s
  dsimp only [execHoldoverTick]
  repeat' (first | refine ⟨_, rfl, ?_⟩ | (with_reducible first | assumption | apply Kept.foldl | apply Kept.foldl1 | apply Kept.foldl2 | apply fsat_kept | apply intSet_kept | apply tickEdge_kept) | (simp only [Kept.mk_iff, Kept.tick_iff]) | split | intro _)

theorem execTickrefReturn_kept (s : State)  : ∃ u9, execTickrefReturn s = .next u9 ∧ State.Kept s u9 := by
  have h := State.Kept.refl s
  dsimp only [execTickrefReturn]
  repeat' (first | refine ⟨_, rfl, ?_⟩ | (with_reducible first | assumption | apply Kept.foldl | apply Kept.foldl1 | apply Kept.foldl2 | apply fput_kept) | (simp only [Kept.mk_iff, Kept.tick_iff]) | split | intro _)

theorem execTickMark_kept (s : State) (n : Node) (d : Dir) (m : Msg) : ∃ u9, execTickMark n d m s = .next u9 ∧ State.Kept0 s u9 := by
  have h := State.Kept.refl s
  dsimp only [execTickMark]
  repeat' split
  · exact ⟨_, rfl, (State.rcInc_kept (State.take_kept h _ _) _ _ _ _ _).base⟩
  · exact ⟨_, rfl, (State.take_kept h _ _).base⟩
  · exact ⟨_, rfl, (State.take_kept h _ _).base⟩
  · exact ⟨_, rfl, rfl, id⟩

theorem execTickSlip_kept (s : State) (n : Node) : ∃ u9, execTickSlip n s = .next u9 ∧ State.Kept s u9 := by
  have h := State.Kept.refl s
  dsimp only [execTickSlip]
  repeat' (first | refine ⟨_, rfl, ?_⟩ | (with_reducible first | assumption | apply Kept.foldl | apply Kept.foldl1 | apply Kept.foldl2) | (simp only [Kept.mk_iff, Kept.tick_iff]) | split | intro _)

theorem State.epochReq_kept {z s : State} (h : State.Kept z s) (o : Origin) : State.Kept z (State.epochReq s o) := by
  dsimp only [State.epochReq]
  repeat' (first | (with_reducible first | assumption | apply Kept.foldl | apply Kept.foldl1 | apply Kept.foldl2 | apply fset_kept | apply fput_kept) | (simp only [Kept.mk_iff, Kept.tick_iff]) | split | intro _)

theorem State.epochCancel_kept {z s : State} (h : State.Kept z s)  : State.Kept z (State.epochCancel s) := by
  dsimp only [State.epochCancel]
  repeat' (first | (with_reducible first | assumption | apply Kept.foldl | apply Kept.foldl1 | apply Kept.foldl2 | apply fput_kept) | (simp only [Kept.mk_iff, Kept.tick_iff]) | split | intro _)

theorem State.epochCtlWrite_kept {z s : State} (h : State.Kept z s) (o : Origin) (w : Word) : State.Kept z (State.epochCtlWrite s o w) := by
  dsimp only [State.epochCtlWrite]
  repeat' (first | (with_reducible first | assumption | apply Kept.foldl | apply Kept.foldl1 | apply Kept.foldl2 | apply fput_kept | apply epochReq_kept | apply epochCancel_kept) | (simp only [Kept.mk_iff, Kept.tick_iff]) | split | intro _)

theorem execEpochReq_kept (s : State) (o : Origin) (w : Word) : ∃ u9, execEpochReq o w s = .next u9 ∧ State.Kept s u9 := by
  have h := State.Kept.refl s
  dsimp only [execEpochReq]
  repeat' (first | refine ⟨_, rfl, ?_⟩ | (with_reducible first | assumption | apply Kept.foldl | apply Kept.foldl1 | apply Kept.foldl2 | apply touch_kept | apply epochCtlWrite_kept) | (simp only [Kept.mk_iff, Kept.tick_iff]) | split | intro _)

theorem execEpochCancel_kept (s : State)  : ∃ u9, execEpochCancel s = .next u9 ∧ State.Kept s u9 := by
  have h := State.Kept.refl s
  dsimp only [execEpochCancel]
  repeat' (first | refine ⟨_, rfl, ?_⟩ | (with_reducible first | assumption | apply Kept.foldl | apply Kept.foldl1 | apply Kept.foldl2 | apply touch_kept | apply epochCancel_kept) | (simp only [Kept.mk_iff, Kept.tick_iff]) | split | intro _)

theorem State.oldEpochDrained_kept {z s : State} (h : State.Kept z s)  : State.Kept z (State.oldEpochDrained s) := by
  dsimp only [State.oldEpochDrained]
  repeat' (first | (with_reducible first | assumption | apply Kept.foldl | apply Kept.foldl1 | apply Kept.foldl2 | apply fput_kept | apply ringDrained_kept) | (simp only [Kept.mk_iff, Kept.tick_iff]) | split | intro _)

theorem State.census60_kept {z s : State} (h : State.Kept z s) (k low : Nat) (oldEp : Bool) : State.Kept z (State.census60 s k low oldEp) := by
  dsimp only [State.census60]
  repeat' (first | (with_reducible first | assumption | apply Kept.foldl | apply Kept.foldl1 | apply Kept.foldl2 | apply oldEpochDrained_kept) | (simp only [Kept.mk_iff, Kept.tick_iff]) | split | intro _)

theorem execOldEpochDrained_kept (s : State)  : ∃ u9, execOldEpochDrained s = .next u9 ∧ State.Kept s u9 := by
  have h := State.Kept.refl s
  dsimp only [execOldEpochDrained]
  repeat' (first | refine ⟨_, rfl, ?_⟩ | (with_reducible first | assumption | apply Kept.foldl | apply Kept.foldl1 | apply Kept.foldl2 | apply oldEpochDrained_kept) | (simp only [Kept.mk_iff, Kept.tick_iff]) | split | intro _)

theorem State.weSts_kept {z s : State} (h : State.Kept z s)  : State.Kept z (State.weSts s) := by
  dsimp only [State.weSts]
  repeat' (first | (with_reducible first | assumption | apply Kept.foldl | apply Kept.foldl1 | apply Kept.foldl2 | apply fset_kept) | (simp only [Kept.mk_iff, Kept.tick_iff]) | split | intro _)

theorem State.weIssue_kept {z s : State} (h : State.Kept z s) (page off : Nat) (o : Origin) (list : Nat) : State.Kept z (State.weIssue s page off o list) := by
  dsimp only [State.weIssue]
  repeat' (first | (with_reducible first | assumption | apply Kept.foldl | apply Kept.foldl1 | apply Kept.foldl2 | apply weSts_kept) | (simp only [Kept.mk_iff, Kept.tick_iff]) | split | intro _)

theorem State.weAck_kept {z s : State} (h : State.Kept z s) (page off : Nat) : State.Kept z (State.weAck s page off) := by
  dsimp only [State.weAck]
  repeat' (first | (with_reducible first | assumption | apply Kept.foldl | apply Kept.foldl1 | apply Kept.foldl2 | apply weSts_kept) | (simp only [Kept.mk_iff, Kept.tick_iff]) | split | intro _)

theorem State.bankSync_kept {z s : State} (h : State.Kept z s)  : State.Kept z (State.bankSync s) := by
  dsimp only [State.bankSync]
  repeat' (first | (with_reducible first | assumption | apply Kept.foldl | apply Kept.foldl1 | apply Kept.foldl2 | apply fput_kept | apply bcast_kept) | (simp only [Kept.mk_iff, Kept.tick_iff]) | split | intro _)

theorem execBankSync_kept (s : State)  : ∃ u9, execBankSync s = .next u9 ∧ State.Kept s u9 := by
  have h := State.Kept.refl s
  dsimp only [execBankSync]
  repeat' (first | refine ⟨_, rfl, ?_⟩ | (with_reducible first | assumption | apply Kept.foldl | apply Kept.foldl1 | apply Kept.foldl2 | apply touch_kept | apply bankSync_kept) | (simp only [Kept.mk_iff, Kept.tick_iff]) | split | intro _)

theorem State.copyBanks_kept {z s : State} (h : State.Kept z s) (n : Nat) : State.Kept z (State.copyBanks s n) := by
  dsimp only [State.copyBanks]
  refine State.Kept.updRegs h rfl rfl rfl (fun r => ?_)
  unfold State.RegsOk
  dsimp only
  exact twf_foldl_tset _ _ _ _ (twf_tdrop 0 _ _ r)

theorem execBankSyncStartMsg_kept (s : State) (n : Node) (m : Msg) : ∃ u9, execBankSyncStartMsg n m s = .next u9 ∧ State.Kept s u9 := by
  have h := State.Kept.refl s
  dsimp only [execBankSyncStartMsg]
  repeat' (first | refine ⟨_, rfl, ?_⟩ | (with_reducible first | assumption | apply Kept.foldl | apply Kept.foldl1 | apply Kept.foldl2 | apply fput_kept | apply send_kept | apply take_kept | apply msgBad_kept | apply copyBanks_kept) | (simp only [Kept.mk_iff, Kept.tick_iff]) | split | intro _)

theorem execBankSyncDone_kept (s : State) (m : Msg) : ∃ u9, execBankSyncDone m s = .next u9 ∧ State.Kept s u9 := by
  have h := State.Kept.refl s
  dsimp only [execBankSyncDone]
  repeat' (first | refine ⟨_, rfl, ?_⟩ | (with_reducible first | assumption | apply Kept.foldl | apply Kept.foldl1 | apply Kept.foldl2 | apply fput_kept | apply take_kept | apply msgBad_kept) | (simp only [Kept.mk_iff, Kept.tick_iff]) | split | intro _)

end Sys2Proof.Machine
end

