-- ==== Sys2Proof/Laws/KeptMeter.lean ====
section
/-! SUPPORT. The operations of Meter.lean keep the queue and the canonical register file. -/

set_option linter.unusedSimpArgs false

namespace Sys2Proof.Machine

open State

theorem State.setMeter_kept {z s : State} (h : State.Kept z s) (g : Nat) (m : Meter) : State.Kept z (State.setMeter s g m) := by
  dsimp only [State.setMeter]
  repeat' (first | (with_reducible first | assumption | apply Kept.foldl | apply Kept.foldl1 | apply Kept.foldl2) | (simp only [Kept.mk_iff, Kept.tick_iff]) | split | intro _)

theorem State.colourTxn_kept {z s : State} (h : State.Kept z s) (k : Nat) (t : FTxn) : State.Kept z (State.colourTxn s k t).1 := by
  dsimp only [State.colourTxn]
  repeat' (first | (with_reducible first | assumption | apply Kept.foldl | apply Kept.foldl1 | apply Kept.foldl2 | apply countEvt_kept | apply rcInc_kept | apply setMeter_kept) | (simp only [Kept.mk_iff, Kept.tick_iff]) | split | intro _)

theorem State.meterColour_kept {z s : State} (h : State.Kept z s) (k rq : Nat) : State.Kept z (State.meterColour s k rq) := by
  dsimp only [State.meterColour]
  repeat' (first | (with_reducible first | assumption | apply Kept.foldl | apply Kept.foldl1 | apply Kept.foldl2 | apply setQueue_kept | apply colourTxn_kept) | (simp only [Kept.mk_iff, Kept.tick_iff]) | split | intro _)

theorem State.redRecolour_kept {z s : State} (h : State.Kept z s) (k : Nat) : State.Kept z (State.redRecolour s k) := by
  dsimp only [State.redRecolour]
  repeat' (first | (with_reducible first | assumption | apply Kept.foldl | apply Kept.foldl1 | apply Kept.foldl2 | apply setQueue_kept | apply colourTxn_kept) | (simp only [Kept.mk_iff, Kept.tick_iff]) | split | intro _)

theorem State.rebound_kept {z s : State} (h : State.Kept z s) (x rq : Nat) (ms : List Nat) : State.Kept z (State.rebound s x rq ms) := by
  dsimp only [State.rebound]
  repeat' (first | (with_reducible first | assumption | apply Kept.foldl | apply Kept.foldl1 | apply Kept.foldl2 | apply setQueue_kept) | (simp only [Kept.mk_iff, Kept.tick_iff]) | split | intro _)

theorem State.setBinding_kept {z s : State} (h : State.Kept z s) (x rq v now bank : Nat) : State.Kept z (State.setBinding s x rq v now bank) := by
  dsimp only [State.setBinding]
  repeat' (first | (with_reducible first | assumption | apply Kept.foldl | apply Kept.foldl1 | apply Kept.foldl2 | apply setMeter_kept | apply rebound_kept) | (simp only [Kept.mk_iff, Kept.tick_iff]) | split | intro _)

theorem State.bindWrite_kept {z s : State} (h : State.Kept z s) (k : Nat) (w : Word) : State.Kept z (State.bindWrite s k w) := by
  dsimp only [State.bindWrite]
  repeat' (first | (with_reducible first | assumption | apply Kept.foldl | apply Kept.foldl1 | apply Kept.foldl2 | apply pgErr_kept | apply setBinding_kept) | (simp only [Kept.mk_iff, Kept.tick_iff]) | split | intro _)

theorem State.meterSel_kept {z s : State} (h : State.Kept z s) (k : Nat) (w : Word) : State.Kept z (State.meterSel s k w) := by
  dsimp only [State.meterSel]
  repeat' (first | (with_reducible first | assumption | apply Kept.foldl | apply Kept.foldl1 | apply Kept.foldl2 | apply fset_kept | apply fput_kept | apply setWide_kept | apply setMeter_kept) | (simp only [Kept.mk_iff, Kept.tick_iff]) | split | intro _)

theorem State.metersFresh_kept {z s : State} (h : State.Kept z s) (x : Nat) : State.Kept z (State.metersFresh s x) := by
  dsimp only [State.metersFresh]
  repeat' (first | (with_reducible first | assumption | apply Kept.foldl | apply Kept.foldl1 | apply Kept.foldl2 | apply setMeter_kept) | (simp only [Kept.mk_iff, Kept.tick_iff]) | split | intro _)

theorem State.gateShow_kept {z s : State} (h : State.Kept z s) (k l : Nat) : State.Kept z (State.gateShow s k l) := by
  dsimp only [State.gateShow]
  repeat' (first | (with_reducible first | assumption | apply Kept.foldl | apply Kept.foldl1 | apply Kept.foldl2 | apply fset_kept) | (simp only [Kept.mk_iff, Kept.tick_iff]) | split | intro _)

theorem State.gateTake_kept {z s : State} (h : State.Kept z s) (k l : Nat) : State.Kept z (State.gateTake s k l) := by
  dsimp only [State.gateTake]
  repeat' (first | (with_reducible first | assumption | apply Kept.foldl | apply Kept.foldl1 | apply Kept.foldl2 | apply fset_kept | apply fput_kept) | (simp only [Kept.mk_iff, Kept.tick_iff]) | split | intro _)

theorem State.gateList_kept {z s : State} (h : State.Kept z s) (k l : Nat) : State.Kept z (State.gateList s k l) := by
  dsimp only [State.gateList]
  repeat' (first | (with_reducible first | assumption | apply Kept.foldl | apply Kept.foldl1 | apply Kept.foldl2 | apply fput_kept | apply gateShow_kept | apply gateTake_kept) | (simp only [Kept.mk_iff, Kept.tick_iff]) | split | intro _)

theorem State.gateRecompute_kept {z s : State} (h : State.Kept z s) (k l : Nat) : State.Kept z (State.gateRecompute s k l) := by
  dsimp only [State.gateRecompute]
  repeat' (first | (with_reducible first | assumption | apply Kept.foldl | apply Kept.foldl1 | apply Kept.foldl2 | apply fput_kept) | (simp only [Kept.mk_iff, Kept.tick_iff]) | split | intro _)

theorem State.gateRecomputeDone_kept {z s : State} (h : State.Kept z s) (k : Nat) : State.Kept z (State.gateRecomputeDone s k) := by
  dsimp only [State.gateRecomputeDone]
  repeat' (first | (with_reducible first | assumption | apply Kept.foldl | apply Kept.foldl1 | apply Kept.foldl2 | apply fput_kept | apply weAck_kept | apply gateShow_kept) | (simp only [Kept.mk_iff, Kept.tick_iff]) | split | intro _)

theorem State.gateMarks_kept {z s : State} (h : State.Kept z s) (k : Nat) : State.Kept z (State.gateMarks s k) := by
  dsimp only [State.gateMarks]
  repeat' (first | (with_reducible first | assumption | apply Kept.foldl | apply Kept.foldl1 | apply Kept.foldl2) | (simp only [Kept.mk_iff, Kept.tick_iff]) | split | intro _)

theorem State.gateAdvance_kept {z s : State} (h : State.Kept z s) (k : Nat) : State.Kept z (State.gateAdvance s k) := by
  dsimp only [State.gateAdvance]
  repeat' (first | (with_reducible first | assumption | apply Kept.foldl | apply Kept.foldl1 | apply Kept.foldl2 | apply gateList_kept | apply gateMarks_kept) | (simp only [Kept.mk_iff, Kept.tick_iff]) | split | intro _)

theorem execMeterColour_kept (s : State) (k : Stop) (rq : Fin 16384) : ∃ u9, execMeterColour k rq s = .next u9 ∧ State.Kept s u9 := by
  have h := State.Kept.refl s
  dsimp only [execMeterColour]
  repeat' (first | refine ⟨_, rfl, ?_⟩ | (with_reducible first | assumption | apply Kept.foldl | apply Kept.foldl1 | apply Kept.foldl2 | apply meterColour_kept) | (simp only [Kept.mk_iff, Kept.tick_iff]) | split | intro _)

theorem execRedRecolour_kept (s : State) (k : Stop) : ∃ u9, execRedRecolour k s = .next u9 ∧ State.Kept s u9 := by
  have h := State.Kept.refl s
  dsimp only [execRedRecolour]
  repeat' (first | refine ⟨_, rfl, ?_⟩ | (with_reducible first | assumption | apply Kept.foldl | apply Kept.foldl1 | apply Kept.foldl2 | apply redRecolour_kept) | (simp only [Kept.mk_iff, Kept.tick_iff]) | split | intro _)

theorem execBindWrite_kept (s : State) (k : Stop) (w : Word) : ∃ u9, execBindWrite k w s = .next u9 ∧ State.Kept s u9 := by
  have h := State.Kept.refl s
  dsimp only [execBindWrite]
  repeat' (first | refine ⟨_, rfl, ?_⟩ | (with_reducible first | assumption | apply Kept.foldl | apply Kept.foldl1 | apply Kept.foldl2 | apply touch_kept | apply bindWrite_kept) | (simp only [Kept.mk_iff, Kept.tick_iff]) | split | intro _)

theorem State.meterSelWrite_kept {z s : State} (h : State.Kept z s) (k : Nat) (w : Word) : State.Kept z (State.meterSelWrite s k w) := by
  dsimp only [State.meterSelWrite]
  repeat' (first | (with_reducible first | assumption | apply Kept.foldl | apply Kept.foldl1 | apply Kept.foldl2 | apply pgErr_kept | apply meterSel_kept) | (simp only [Kept.mk_iff, Kept.tick_iff]) | split | intro _)

theorem execMeterSelWrite_kept (s : State) (k : Stop) (w : Word) : ∃ u9, execMeterSelWrite k w s = .next u9 ∧ State.Kept s u9 := by
  have h := State.Kept.refl s
  dsimp only [execMeterSelWrite]
  repeat' (first | refine ⟨_, rfl, ?_⟩ | (with_reducible first | assumption | apply Kept.foldl | apply Kept.foldl1 | apply Kept.foldl2 | apply touch_kept | apply meterSelWrite_kept) | (simp only [Kept.mk_iff, Kept.tick_iff]) | split | intro _)

theorem execGateAdvance_kept (s : State) (k : Stop) : ∃ u9, execGateAdvance k s = .next u9 ∧ State.Kept s u9 := by
  have h := State.Kept.refl s
  dsimp only [execGateAdvance]
  repeat' (first | refine ⟨_, rfl, ?_⟩ | (with_reducible first | assumption | apply Kept.foldl | apply Kept.foldl1 | apply Kept.foldl2 | apply gateAdvance_kept) | (simp only [Kept.mk_iff, Kept.tick_iff]) | split | intro _)

theorem execGateRecomputeDone_kept (s : State) (k : Stop) : ∃ u9, execGateRecomputeDone k s = .next u9 ∧ State.Kept s u9 := by
  have h := State.Kept.refl s
  dsimp only [execGateRecomputeDone]
  repeat' (first | refine ⟨_, rfl, ?_⟩ | (with_reducible first | assumption | apply Kept.foldl | apply Kept.foldl1 | apply Kept.foldl2 | apply gateRecomputeDone_kept) | (simp only [Kept.mk_iff, Kept.tick_iff]) | split | intro _)

end Sys2Proof.Machine
end

