-- ==== Sys2Proof/Laws/KeptStation.lean ====
section
/-! SUPPORT. The operations of Station.lean keep the queue and the canonical register file. -/

set_option linter.unusedSimpArgs false

namespace Sys2Proof.Machine

open State

theorem State.stationUe_kept {z s : State} (h : State.Kept z s) (k r d bad : Nat) (inj : Bool) : State.Kept z (State.stationUe s k r d bad inj) := by
  dsimp only [State.stationUe]
  repeat' (first | (with_reducible first | assumption | apply Kept.foldl | apply Kept.foldl1 | apply Kept.foldl2 | apply rcInc_kept | apply record_kept | apply testError_kept | apply countRemoval_kept) | (simp only [Kept.mk_iff, Kept.tick_iff]) | split | intro _)

theorem State.stationGuard_kept {z s : State} (h : State.Kept z s) (k r d g : Nat) (f : Flit) (inj : Bool) : State.Kept z (State.stationGuard s k r d g f inj) := by
  dsimp only [State.stationGuard]
  repeat' (first | (with_reducible first | assumption | apply Kept.foldl | apply Kept.foldl1 | apply Kept.foldl2 | apply rcInc_kept | apply record_kept | apply testError_kept | apply countRemoval_kept) | (simp only [Kept.mk_iff, Kept.tick_iff]) | split | intro _)

theorem State.maintPost_kept {z s : State} (h : State.Kept z s) (k r d dst len addr : Nat) (data : Nat → BitVec 1024) : State.Kept z (State.maintPost s k r d dst len addr data) := by
  dsimp only [State.maintPost]
  repeat' (first | (with_reducible first | assumption | apply Kept.foldl | apply Kept.foldl1 | apply Kept.foldl2) | (simp only [Kept.mk_iff, Kept.tick_iff]) | split | intro _)

theorem State.maintAt_kept {z s : State} (h : State.Kept z s) (k r d : Nat) (f : Flit) : State.Kept z (State.maintAt s k r d f) := by
  dsimp only [State.maintAt]
  repeat' (first | (with_reducible first | assumption | apply Kept.foldl | apply Kept.foldl1 | apply Kept.foldl2 | apply fset_kept | apply rcInc_kept | apply testError_kept | apply maintPost_kept) | (simp only [Kept.mk_iff, Kept.tick_iff]) | split | intro _)

theorem State.ejectTo_kept {z s : State} (h : State.Kept z s) (k lane : Nat) (e : Ejected) : State.Kept z (State.ejectTo s k lane e) := by
  dsimp only [State.ejectTo]
  repeat' (first | (with_reducible first | assumption | apply Kept.foldl | apply Kept.foldl1 | apply Kept.foldl2) | (simp only [Kept.mk_iff, Kept.tick_iff]) | split | intro _)

theorem State.maintSend_kept {z s : State} (h : State.Kept z s) (k r d : Nat) : State.Kept z (State.maintSend s k r d) := by
  dsimp only [State.maintSend]
  repeat' (first | (with_reducible first | assumption | apply Kept.foldl | apply Kept.foldl1 | apply Kept.foldl2 | apply maintPost_kept) | (simp only [Kept.mk_iff, Kept.tick_iff]) | split | intro _)

theorem State.echoSend_kept {z s : State} (h : State.Kept z s) (k r d : Nat) : State.Kept z (State.echoSend s k r d) := by
  dsimp only [State.echoSend]
  repeat' (first | (with_reducible first | assumption | apply Kept.foldl | apply Kept.foldl1 | apply Kept.foldl2 | apply maintPost_kept) | (simp only [Kept.mk_iff, Kept.tick_iff]) | split | intro _)

theorem State.echoCount_kept {z s : State} (h : State.Kept z s) (k r d : Nat) : State.Kept z (State.echoCount s k r d) := by
  dsimp only [State.echoCount]
  repeat' (first | (with_reducible first | assumption | apply Kept.foldl | apply Kept.foldl1 | apply Kept.foldl2) | (simp only [Kept.mk_iff, Kept.tick_iff]) | split | intro _)

theorem State.echoPlace_kept {z s : State} (h : State.Kept z s) (k r d : Nat) (f : Flit) : State.Kept z (State.echoPlace s k r d f).2 := by
  dsimp only [State.echoPlace]
  repeat' (first | (with_reducible first | assumption | apply Kept.foldl | apply Kept.foldl1 | apply Kept.foldl2) | (simp only [Kept.mk_iff, Kept.tick_iff]) | split | intro _)

theorem State.maintLoad_kept {z s : State} (h : State.Kept z s) (k r d : Nat) : State.Kept z (State.maintLoad s k r d) := by
  dsimp only [State.maintLoad]
  repeat' (first | (with_reducible first | assumption | apply Kept.foldl | apply Kept.foldl1 | apply Kept.foldl2) | (simp only [Kept.mk_iff, Kept.tick_iff]) | split | intro _)

theorem State.placed_kept {z s : State} (h : State.Kept z s) (k r d : Nat) (x : InjReg) : State.Kept z (State.placed s k r d x) := by
  dsimp only [State.placed]
  repeat' (first | (with_reducible first | assumption | apply Kept.foldl | apply Kept.foldl1 | apply Kept.foldl2 | apply fmax_kept | apply countEvt_kept) | (simp only [Kept.mk_iff, Kept.tick_iff]) | split | intro _)

theorem State.driveFlit_kept {z s : State} (h : State.Kept z s) (k r d : Nat) (f : Flit) (inj : Bool) : State.Kept z (State.driveFlit s k r d f inj) := by
  dsimp only [State.driveFlit]
  repeat' (first | (with_reducible first | assumption | apply Kept.foldl | apply Kept.foldl1 | apply Kept.foldl2 | apply countEvt_kept | apply fiRing_kept | apply driveLink_kept) | (simp only [Kept.mk_iff, Kept.tick_iff]) | split | intro _)

theorem State.fillSlot_kept {z s : State} (h : State.Kept z s) (k r d : Nat) : State.Kept z (State.fillSlot s k r d) := by
  dsimp only [State.fillSlot]
  repeat' (first | (with_reducible first | assumption | apply Kept.foldl | apply Kept.foldl1 | apply Kept.foldl2 | apply fiRing_kept | apply driveLink_kept | apply echoPlace_kept | apply placed_kept | apply driveFlit_kept) | (simp only [Kept.mk_iff, Kept.tick_iff]) | split | intro _)

theorem State.holdSlot_kept {z s : State} (h : State.Kept z s) (k r d : Nat) : State.Kept z (State.holdSlot s k r d) := by
  dsimp only [State.holdSlot]
  repeat' (first | (with_reducible first | assumption | apply Kept.foldl | apply Kept.foldl1 | apply Kept.foldl2) | (simp only [Kept.mk_iff, Kept.tick_iff]) | split | intro _)

theorem State.ejectOverflow_kept {z s : State} (h : State.Kept z s) (k r d : Nat) (inj : Bool) : State.Kept z (State.ejectOverflow s k r d inj) := by
  dsimp only [State.ejectOverflow]
  repeat' (first | (with_reducible first | assumption | apply Kept.foldl | apply Kept.foldl1 | apply Kept.foldl2 | apply record_kept | apply testError_kept | apply countRemoval_kept) | (simp only [Kept.mk_iff, Kept.tick_iff]) | split | intro _)

theorem State.ejectFlit_kept {z s : State} (h : State.Kept z s) (k r d : Nat) (f : Flit) (inj : Bool) : State.Kept z (State.ejectFlit s k r d f inj) := by
  dsimp only [State.ejectFlit]
  repeat' (first | (with_reducible first | assumption | apply Kept.foldl | apply Kept.foldl1 | apply Kept.foldl2 | apply countEvt_kept | apply rcInc_kept | apply xbOcc_kept | apply maintAt_kept | apply ejectTo_kept | apply ejectOverflow_kept) | (simp only [Kept.mk_iff, Kept.tick_iff]) | split | intro _)

theorem State.stationSlot_kept {z s : State} (h : State.Kept z s) (k r d : Nat) (noise : BitVec 1384) : State.Kept z (State.stationSlot s k r d noise) := by
  dsimp only [State.stationSlot]
  repeat' (first | (with_reducible first | assumption | apply Kept.foldl | apply Kept.foldl1 | apply Kept.foldl2 | apply rcInc_kept | apply testError_kept | apply stationUe_kept | apply stationGuard_kept | apply maintSend_kept | apply echoSend_kept | apply echoCount_kept | apply maintLoad_kept | apply driveFlit_kept | apply fillSlot_kept | apply holdSlot_kept | apply ejectFlit_kept) | (simp only [Kept.mk_iff, Kept.tick_iff]) | split | intro _)

theorem execStationSlot_kept (s : State) (k : Stop) (r : RingNo) (d : Dir) (noise : BitVec 1384) : ∃ u9, execStationSlot k r d noise s = .next u9 ∧ State.Kept s u9 := by
  have h := State.Kept.refl s
  dsimp only [execStationSlot]
  repeat' (first | refine ⟨_, rfl, ?_⟩ | (with_reducible first | assumption | apply Kept.foldl | apply Kept.foldl1 | apply Kept.foldl2 | apply stationSlot_kept) | (simp only [Kept.mk_iff, Kept.tick_iff]) | split | intro _)

theorem execSlotRelease_kept (s : State) (k : Stop) (r : RingNo) (d : Dir) : ∃ u9, execSlotRelease k r d s = .next u9 ∧ State.Kept s u9 := by
  have h := State.Kept.refl s
  dsimp only [execSlotRelease]
  repeat' (first | refine ⟨_, rfl, ?_⟩ | (with_reducible first | assumption | apply Kept.foldl | apply Kept.foldl1 | apply Kept.foldl2 | apply rcInc_kept | apply testError_kept) | (simp only [Kept.mk_iff, Kept.tick_iff]) | split | intro _)

end Sys2Proof.Machine
end

