-- ==== Sys2Proof/Laws/KeptCntSet.lean ====
section
/-! SUPPORT. The operations of CntSet.lean keep the queue and the canonical register file. -/

set_option linter.unusedSimpArgs false

namespace Sys2Proof.Machine

open State

theorem State.sendErq_kept {z s : State} (h : State.Kept z s) (node : Nat) (rec : Nat) : State.Kept z (State.sendErq s node rec) := by
  dsimp only [State.sendErq]
  repeat' (first | (with_reducible first | assumption | apply Kept.foldl | apply Kept.foldl1 | apply Kept.foldl2 | apply send_kept) | (simp only [Kept.mk_iff, Kept.tick_iff]) | split | intro _)

theorem State.setCpart_kept {z s : State} (h : State.Kept z s) (n x : Nat) (p : CPart) : State.Kept z (State.setCpart s n x p) := by
  dsimp only [State.setCpart]
  repeat' (first | (with_reducible first | assumption | apply Kept.foldl | apply Kept.foldl1 | apply Kept.foldl2) | (simp only [Kept.mk_iff, Kept.tick_iff]) | split | intro _)

theorem State.countTlp_kept {z s : State} (h : State.Kept z s) (k l x : Nat) (c : Crossing) : State.Kept z (State.countTlp s k l x c) := by
  dsimp only [State.countTlp]
  repeat' (first | (with_reducible first | assumption | apply Kept.foldl | apply Kept.foldl1 | apply Kept.foldl2 | apply setCpart_kept) | (simp only [Kept.mk_iff, Kept.tick_iff]) | split | intro _)

theorem State.countDisc_kept {z s : State} (h : State.Kept z s) (k l x cls : Nat) : State.Kept z (State.countDisc s k l x cls) := by
  dsimp only [State.countDisc]
  repeat' (first | (with_reducible first | assumption | apply Kept.foldl | apply Kept.foldl1 | apply Kept.foldl2 | apply setCpart_kept) | (simp only [Kept.mk_iff, Kept.tick_iff]) | split | intro _)

theorem State.windowClose_kept {z s : State} (h : State.Kept z s) (j : Nat) : State.Kept z (State.windowClose s j) := by
  dsimp only [State.windowClose]
  repeat' (first | (with_reducible first | assumption | apply Kept.foldl | apply Kept.foldl1 | apply Kept.foldl2) | (simp only [Kept.mk_iff, Kept.tick_iff]) | split | intro _)

theorem State.windowFlag_kept {z s : State} (h : State.Kept z s) (flag first last : Nat) : State.Kept z (State.windowFlag s flag first last) := by
  dsimp only [State.windowFlag]
  repeat' (first | (with_reducible first | assumption | apply Kept.foldl | apply Kept.foldl1 | apply Kept.foldl2) | (simp only [Kept.mk_iff, Kept.tick_iff]) | split | intro _)

theorem State.csSel_kept {z s : State} (h : State.Kept z s) (w : Word) : State.Kept z (State.csSel s w) := by
  dsimp only [State.csSel]
  repeat' (first | (with_reducible first | assumption | apply Kept.foldl | apply Kept.foldl1 | apply Kept.foldl2 | apply fset_kept | apply fput_kept | apply setWide_kept | apply setCpart_kept) | (simp only [Kept.mk_iff, Kept.tick_iff]) | split | intro _)

theorem State.tcSel_kept {z s : State} (h : State.Kept z s) (x : Nat) (w : Word) : State.Kept z (State.tcSel s x w) := by
  dsimp only [State.tcSel]
  repeat' (first | (with_reducible first | assumption | apply Kept.foldl | apply Kept.foldl1 | apply Kept.foldl2 | apply fset_kept | apply fput_kept | apply setWide_kept) | (simp only [Kept.mk_iff, Kept.tick_iff]) | split | intro _)

theorem State.clearSet_kept {z s : State} (h : State.Kept z s) (n : Nat) : State.Kept z (State.clearSet s n) := by
  dsimp only [State.clearSet]
  repeat' (first | (with_reducible first | assumption | apply Kept.foldl | apply Kept.foldl1 | apply Kept.foldl2 | apply fput_kept | apply setCpart_kept) | (simp only [Kept.mk_iff, Kept.tick_iff]) | split | intro _)

theorem execCsSelWrite_kept (s : State) (w : Word) : ∃ u9, execCsSelWrite w s = .next u9 ∧ State.Kept s u9 := by
  have h := State.Kept.refl s
  dsimp only [execCsSelWrite]
  repeat' (first | refine ⟨_, rfl, ?_⟩ | (with_reducible first | assumption | apply Kept.foldl | apply Kept.foldl1 | apply Kept.foldl2 | apply touch_kept | apply csSel_kept) | (simp only [Kept.mk_iff, Kept.tick_iff]) | split | intro _)

theorem execTcSelWrite_kept (s : State) (x : SliceNo) (w : Word) : ∃ u9, execTcSelWrite x w s = .next u9 ∧ State.Kept s u9 := by
  have h := State.Kept.refl s
  dsimp only [execTcSelWrite]
  repeat' (first | refine ⟨_, rfl, ?_⟩ | (with_reducible first | assumption | apply Kept.foldl | apply Kept.foldl1 | apply Kept.foldl2 | apply touch_kept | apply tcSel_kept) | (simp only [Kept.mk_iff, Kept.tick_iff]) | split | intro _)

theorem execWindowClose_kept (s : State) (j : Fin 16) : ∃ u9, execWindowClose j s = .next u9 ∧ State.Kept s u9 := by
  have h := State.Kept.refl s
  dsimp only [execWindowClose]
  repeat' (first | refine ⟨_, rfl, ?_⟩ | (with_reducible first | assumption | apply Kept.foldl | apply Kept.foldl1 | apply Kept.foldl2 | apply windowClose_kept) | (simp only [Kept.mk_iff, Kept.tick_iff]) | split | intro _)

end Sys2Proof.Machine
end

