-- ==== Sys2Proof/Laws/KeptEgress.lean ====
section
/-! SUPPORT. The operations of Egress.lean keep the queue and the canonical register file. -/

set_option linter.unusedSimpArgs false

namespace Sys2Proof.Machine

open State

theorem State.setEgr_kept {z s : State} (h : State.Kept z s) (k eg q : Nat) (l : List Egr) : State.Kept z (State.setEgr s k eg q l) := by
  dsimp only [State.setEgr]
  repeat' (first | (with_reducible first | assumption | apply Kept.foldl | apply Kept.foldl1 | apply Kept.foldl2) | (simp only [Kept.mk_iff, Kept.tick_iff]) | split | intro _)

theorem State.toEgress_kept {z s : State} (h : State.Kept z s) (k eg : Nat) (f : Flit) (charge ring rid : Nat) (synth : Bool) (num : Nat) : State.Kept z (State.toEgress s k eg f charge ring rid synth num) := by
  dsimp only [State.toEgress]
  repeat' (first | (with_reducible first | assumption | apply Kept.foldl | apply Kept.foldl1 | apply Kept.foldl2 | apply setEgr_kept) | (simp only [Kept.mk_iff, Kept.tick_iff]) | split | intro _)

theorem State.discardFlit_kept {z s : State} (h : State.Kept z s) (k l : Nat) (f : Flit) : State.Kept z (State.discardFlit s k l f) := by
  dsimp only [State.discardFlit]
  repeat' (first | (with_reducible first | assumption | apply Kept.foldl | apply Kept.foldl1 | apply Kept.foldl2 | apply rcInc_kept | apply countDisc_kept) | (simp only [Kept.mk_iff, Kept.tick_iff]) | split | intro _)

theorem State.takeDone_kept {z s u9 : State} {r9 : RdDone} (h : State.Kept z s) (k : Nat) (p : TagUse → Bool) (he : State.takeDone s k p = some (r9, u9)) : State.Kept z u9 := by
  revert he
  dsimp only [State.takeDone]
  repeat' (first | (with_reducible first | refine Kept.of_some ?_ | refine Kept.of_none | refine Kept.of_pair ?_) | (with_reducible first | assumption | apply Kept.foldl | apply Kept.foldl1 | apply Kept.foldl2) | (simp only [Kept.mk_iff, Kept.tick_iff]) | split | intro _)

theorem State.rdEnd_kept {z s : State} (h : State.Kept z s) (k num status : Nat) (synth : Bool) : State.Kept z (State.rdEnd s k num status synth) := by
  dsimp only [State.rdEnd]
  repeat' (first | (with_reducible first | assumption | apply Kept.foldl | apply Kept.foldl1 | apply Kept.foldl2) | (simp only [Kept.mk_iff, Kept.tick_iff]) | split | intro _)

theorem State.rdTake_kept {z s : State} (h : State.Kept z s) (k num : Nat) (f : Flit) : State.Kept z (State.rdTake s k num f) := by
  dsimp only [State.rdTake]
  repeat' (first | (with_reducible first | assumption | apply Kept.foldl | apply Kept.foldl1 | apply Kept.foldl2 | apply rdEnd_kept) | (simp only [Kept.mk_iff, Kept.tick_iff]) | split | intro _)

theorem State.synthNow_kept {z s : State} (h : State.Kept z s) (k t status : Nat) : State.Kept z (State.synthNow s k t status) := by
  dsimp only [State.synthNow]
  repeat' (first | (with_reducible first | assumption | apply Kept.foldl | apply Kept.foldl1 | apply Kept.foldl2 | apply rcInc_kept | apply setTag_kept | apply toEgress_kept | apply discardFlit_kept | apply rdEnd_kept) | (simp only [Kept.mk_iff, Kept.tick_iff]) | split | intro _)

theorem State.freeRsp_kept {z s : State} (h : State.Kept z s) (k t num : Nat) : State.Kept z (State.freeRsp s k t num) := by
  dsimp only [State.freeRsp]
  repeat' (first | (with_reducible first | assumption | apply Kept.foldl | apply Kept.foldl1 | apply Kept.foldl2 | apply setTag_kept | apply synthNow_kept) | (simp only [Kept.mk_iff, Kept.tick_iff]) | split | intro _)

theorem State.freeEgr_kept {z s : State} (h : State.Kept z s) (k : Nat) (x : Egr) : State.Kept z (State.freeEgr s k x) := by
  dsimp only [State.freeEgr]
  repeat' (first | (with_reducible first | assumption | apply Kept.foldl | apply Kept.foldl1 | apply Kept.foldl2 | apply freeEntry_kept | apply freeRsp_kept) | (simp only [Kept.mk_iff, Kept.tick_iff]) | split | intro _)

theorem State.poisTake_kept {z s : State} (h : State.Kept z s) (k : Nat) (f : Flit) : State.Kept z (State.poisTake s k f) := by
  dsimp only [State.poisTake]
  repeat' (first | (with_reducible first | assumption | apply Kept.foldl | apply Kept.foldl1 | apply Kept.foldl2 | apply rcInc_kept) | (simp only [Kept.mk_iff, Kept.tick_iff]) | split | intro _)

theorem State.egrPop_kept {z s : State} (h : State.Kept z s) (k q : Nat) (x : Egr) : State.Kept z (State.egrPop s k q x) := by
  dsimp only [State.egrPop]
  repeat' (first | (with_reducible first | assumption | apply Kept.foldl | apply Kept.foldl1 | apply Kept.foldl2 | apply setEgr_kept | apply rdTake_kept | apply freeEgr_kept | apply poisTake_kept) | (simp only [Kept.mk_iff, Kept.tick_iff]) | split | intro _)

theorem State.cplDrain_kept {z s : State} (h : State.Kept z s) (k : Nat) (n : Nat) : State.Kept z (State.cplDrain s k n) := by
  induction n generalizing s with
  | zero =>
    dsimp only [State.cplDrain]
    repeat' (first | (with_reducible first | assumption | apply Kept.foldl | apply Kept.foldl1 | apply Kept.foldl2 | apply egrPop_kept) | (simp only [Kept.mk_iff, Kept.tick_iff]) | split | intro _)
  | succ n ih =>
    dsimp only [State.cplDrain]
    repeat' (first | with_reducible (apply ih) | (with_reducible first | assumption | apply Kept.foldl | apply Kept.foldl1 | apply Kept.foldl2 | apply egrPop_kept) | (simp only [Kept.mk_iff, Kept.tick_iff]) | split | intro _)

theorem State.drain_kept {z s : State} (h : State.Kept z s) (k : Nat) : State.Kept z (State.drain s k) := by
  dsimp only [State.drain]
  repeat' (first | (with_reducible first | assumption | apply Kept.foldl | apply Kept.foldl1 | apply Kept.foldl2 | apply cplDrain_kept) | (simp only [Kept.mk_iff, Kept.tick_iff]) | split | intro _)

theorem State.egrTake_kept {z s : State} (h : State.Kept z s) (k q : Nat) (x : Egr) : State.Kept z (State.egrTake s k q x) := by
  dsimp only [State.egrTake]
  repeat' (first | (with_reducible first | assumption | apply Kept.foldl | apply Kept.foldl1 | apply Kept.foldl2 | apply egrPop_kept | apply drain_kept) | (simp only [Kept.mk_iff, Kept.tick_iff]) | split | intro _)

end Sys2Proof.Machine
end

