-- ==== Sys2Proof/Laws/KeptOrder.lean ====
section
/-! SUPPORT. The operations of Order.lean keep the queue and the canonical register file. -/

set_option linter.unusedSimpArgs false

namespace Sys2Proof.Machine

open State

theorem State.setRet_kept {z s : State} (h : State.Kept z s) (k : Nat) (l : List Copy) : State.Kept z (State.setRet s k l) := by
  dsimp only [State.setRet]
  repeat' (first | (with_reducible first | assumption | apply Kept.foldl | apply Kept.foldl1 | apply Kept.foldl2) | (simp only [Kept.mk_iff, Kept.tick_iff]) | split | intro _)

theorem State.ackOne_kept {z s : State} (h : State.Kept z s) (k d seq : Nat) : State.Kept z (State.ackOne s k d seq) := by
  dsimp only [State.ackOne]
  repeat' (first | (with_reducible first | assumption | apply Kept.foldl | apply Kept.foldl1 | apply Kept.foldl2 | apply rcInc_kept | apply surrender_kept | apply setRet_kept) | (simp only [Kept.mk_iff, Kept.tick_iff]) | split | intro _)

theorem State.ackPend_kept {z s : State} (h : State.Kept z s) (k src seq : Nat) : State.Kept z (State.ackPend s k src seq) := by
  dsimp only [State.ackPend]
  repeat' (first | (with_reducible first | assumption | apply Kept.foldl | apply Kept.foldl1 | apply Kept.foldl2) | (simp only [Kept.mk_iff, Kept.tick_iff]) | split | intro _)

theorem State.formAck_kept {z s : State} (h : State.Kept z s) (k src : Nat) : State.Kept z (State.formAck s k src) := by
  dsimp only [State.formAck]
  repeat' (first | (with_reducible first | assumption | apply Kept.foldl | apply Kept.foldl1 | apply Kept.foldl2 | apply take_kept) | (simp only [Kept.mk_iff, Kept.tick_iff]) | split | intro _)

theorem execAckDelayExpire_kept (s : State) (k : Stop) (src : Stop) : ∃ u9, execAckDelayExpire k src s = .next u9 ∧ State.Kept s u9 := by
  have h := State.Kept.refl s
  dsimp only [execAckDelayExpire]
  repeat' (first | refine ⟨_, rfl, ?_⟩ | (with_reducible first | assumption | apply Kept.foldl | apply Kept.foldl1 | apply Kept.foldl2 | apply formAck_kept) | (simp only [Kept.mk_iff, Kept.tick_iff]) | split | intro _)

theorem State.expire_kept {z s : State} (h : State.Kept z s) (k t status : Nat) : State.Kept z (State.expire s k t status) := by
  dsimp only [State.expire]
  repeat' (first | (with_reducible first | assumption | apply Kept.foldl | apply Kept.foldl1 | apply Kept.foldl2 | apply setTag_kept | apply synthNow_kept) | (simp only [Kept.mk_iff, Kept.tick_iff]) | split | intro _)

theorem State.unexpected_kept {z s : State} (h : State.Kept z s) (k : Nat) (f : Flit) : State.Kept z (State.unexpected s k f) := by
  dsimp only [State.unexpected]
  repeat' (first | (with_reducible first | assumption | apply Kept.foldl | apply Kept.foldl1 | apply Kept.foldl2 | apply rcInc_kept | apply record_kept) | (simp only [Kept.mk_iff, Kept.tick_iff]) | split | intro _)

theorem State.lateCpl_kept {z s : State} (h : State.Kept z s) (k : Nat) (f : Flit) (l : Nat) : State.Kept z (State.lateCpl s k f l) := by
  dsimp only [State.lateCpl]
  repeat' (first | (with_reducible first | assumption | apply Kept.foldl | apply Kept.foldl1 | apply Kept.foldl2 | apply rcInc_kept | apply record_kept) | (simp only [Kept.mk_iff, Kept.tick_iff]) | split | intro _)

theorem State.cplEvent_kept {z s : State} (h : State.Kept z s) (k t : Nat) (f : Flit) : State.Kept z (State.cplEvent s k t f) := by
  dsimp only [State.cplEvent]
  repeat' (first | (with_reducible first | assumption | apply Kept.foldl | apply Kept.foldl1 | apply Kept.foldl2 | apply rcInc_kept | apply setTag_kept) | (simp only [Kept.mk_iff, Kept.tick_iff]) | split | intro _)

theorem State.tagDeadline_kept {z s : State} (h : State.Kept z s) (k t : Nat) : State.Kept z (State.tagDeadline s k t) := by
  dsimp only [State.tagDeadline]
  repeat' (first | (with_reducible first | assumption | apply Kept.foldl | apply Kept.foldl1 | apply Kept.foldl2 | apply setTag_kept) | (simp only [Kept.mk_iff, Kept.tick_iff]) | split | intro _)

theorem State.tagExpire_kept {z s : State} (h : State.Kept z s) (k t : Nat) : State.Kept z (State.tagExpire s k t) := by
  dsimp only [State.tagExpire]
  repeat' (first | (with_reducible first | assumption | apply Kept.foldl | apply Kept.foldl1 | apply Kept.foldl2 | apply record_kept | apply expire_kept) | (simp only [Kept.mk_iff, Kept.tick_iff]) | split | intro _)

theorem State.tagQuar_kept {z s : State} (h : State.Kept z s) (k t : Nat) : State.Kept z (State.tagQuar s k t) := by
  dsimp only [State.tagQuar]
  repeat' (first | (with_reducible first | assumption | apply Kept.foldl | apply Kept.foldl1 | apply Kept.foldl2 | apply setTag_kept) | (simp only [Kept.mk_iff, Kept.tick_iff]) | split | intro _)

theorem State.tagScan_kept {z s : State} (h : State.Kept z s) (k t : Nat) : State.Kept z (State.tagScan s k t) := by
  dsimp only [State.tagScan]
  repeat' (first | (with_reducible first | assumption | apply Kept.foldl | apply Kept.foldl1 | apply Kept.foldl2 | apply tagDeadline_kept | apply tagExpire_kept | apply tagQuar_kept) | (simp only [Kept.mk_iff, Kept.tick_iff]) | split | intro _)

theorem execTagDeadlinePassed_kept (s : State) (k : Stop) (t : TagNo) : ∃ u9, execTagDeadlinePassed k t s = .next u9 ∧ State.Kept s u9 := by
  have h := State.Kept.refl s
  dsimp only [execTagDeadlinePassed]
  repeat' (first | refine ⟨_, rfl, ?_⟩ | (with_reducible first | assumption | apply Kept.foldl | apply Kept.foldl1 | apply Kept.foldl2 | apply tagDeadline_kept) | (simp only [Kept.mk_iff, Kept.tick_iff]) | split | intro _)

theorem execTagExpire_kept (s : State) (k : Stop) (t : TagNo) : ∃ u9, execTagExpire k t s = .next u9 ∧ State.Kept s u9 := by
  have h := State.Kept.refl s
  dsimp only [execTagExpire]
  repeat' (first | refine ⟨_, rfl, ?_⟩ | (with_reducible first | assumption | apply Kept.foldl | apply Kept.foldl1 | apply Kept.foldl2 | apply tagExpire_kept) | (simp only [Kept.mk_iff, Kept.tick_iff]) | split | intro _)

theorem execQuarantineEnd_kept (s : State) (k : Stop) (t : TagNo) : ∃ u9, execQuarantineEnd k t s = .next u9 ∧ State.Kept s u9 := by
  have h := State.Kept.refl s
  dsimp only [execQuarantineEnd]
  repeat' (first | refine ⟨_, rfl, ?_⟩ | (with_reducible first | assumption | apply Kept.foldl | apply Kept.foldl1 | apply Kept.foldl2 | apply tagQuar_kept) | (simp only [Kept.mk_iff, Kept.tick_iff]) | split | intro _)

theorem execCompleterRecordExpire_kept (s : State) (k : Stop) : ∃ u9, execCompleterRecordExpire k s = .next u9 ∧ State.Kept s u9 := by
  have h := State.Kept.refl s
  dsimp only [execCompleterRecordExpire]
  repeat' (first | refine ⟨_, rfl, ?_⟩ | (with_reducible first | assumption | apply Kept.foldl | apply Kept.foldl1 | apply Kept.foldl2) | (simp only [Kept.mk_iff, Kept.tick_iff]) | split | intro _)

theorem State.freeLanded_kept {z s : State} (h : State.Kept z s) (k : Nat) (l : Landed) : State.Kept z (State.freeLanded s k l) := by
  dsimp only [State.freeLanded]
  repeat' (first | (with_reducible first | assumption | apply Kept.foldl | apply Kept.foldl1 | apply Kept.foldl2 | apply freeEntry_kept | apply freeRsp_kept) | (simp only [Kept.mk_iff, Kept.tick_iff]) | split | intro _)

theorem State.dropLanded_kept {z s : State} (h : State.Kept z s) (k : Nat) (l : Landed) : State.Kept z (State.dropLanded s k l) := by
  dsimp only [State.dropLanded]
  repeat' (first | (with_reducible first | assumption | apply Kept.foldl | apply Kept.foldl1 | apply Kept.foldl2 | apply discardFlit_kept | apply freeLanded_kept) | (simp only [Kept.mk_iff, Kept.tick_iff]) | split | intro _)

theorem State.releaseOne_kept {z s : State} (h : State.Kept z s) (k : Nat) (l : Landed) : State.Kept z (State.releaseOne s k l) := by
  dsimp only [State.releaseOne]
  repeat' (first | (with_reducible first | assumption | apply Kept.foldl | apply Kept.foldl1 | apply Kept.foldl2 | apply countEvt_kept | apply toEgress_kept | apply rdTake_kept | apply freeRsp_kept | apply poisTake_kept | apply drain_kept | apply dropLanded_kept) | (simp only [Kept.mk_iff, Kept.tick_iff]) | split | intro _)

theorem State.releaseRun_kept {z s : State} (h : State.Kept z s) (k src : Nat) : State.Kept z (State.releaseRun s k src) := by
  dsimp only [State.releaseRun]
  repeat' (first | (with_reducible first | assumption | apply Kept.foldl | apply Kept.foldl1 | apply Kept.foldl2 | apply releaseOne_kept) | (simp only [Kept.mk_iff, Kept.tick_iff]) | split | intro _)

theorem State.releaseRelaxed_kept {z s : State} (h : State.Kept z s) (k src : Nat) : State.Kept z (State.releaseRelaxed s k src) := by
  dsimp only [State.releaseRelaxed]
  repeat' (first | (with_reducible first | assumption | apply Kept.foldl | apply Kept.foldl1 | apply Kept.foldl2 | apply releaseOne_kept) | (simp only [Kept.mk_iff, Kept.tick_iff]) | split | intro _)

theorem State.dropPart_kept {z s : State} (h : State.Kept z s) (k : Nat) (f : Flit) : State.Kept z (State.dropPart s k f).1 := by
  dsimp only [State.dropPart]
  repeat' (first | (with_reducible first | assumption | apply Kept.foldl | apply Kept.foldl1 | apply Kept.foldl2 | apply setEgr_kept | apply freeRsp_kept) | (simp only [Kept.mk_iff, Kept.tick_iff]) | split | intro _)

theorem State.cplDiscard_kept {z s : State} (h : State.Kept z s) (k : Nat) (f : Flit) (count : State → State)
    (hc : ∀ a, State.Kept z a → State.Kept z (count a)) : State.Kept z (State.cplDiscard s k f count) := by
  dsimp only [State.cplDiscard]
  split
  · exact hc _ (State.dropPart_kept h _ _)
  · exact State.dropPart_kept h _ _

theorem State.cplMeet_kept {z s : State} (h : State.Kept z s) (k : Nat) (f : Flit) : State.Kept z (State.cplMeet s k f).1 := by
  dsimp only [State.cplMeet]
  repeat' (first | (with_reducible first | assumption | apply Kept.foldl | apply Kept.foldl1 | apply Kept.foldl2 | apply fsat_kept | apply rcInc_kept | apply record_kept | apply setTag_kept | apply expire_kept | apply unexpected_kept | apply lateCpl_kept | apply dropPart_kept | apply cplDiscard_kept) | (simp only [Kept.mk_iff, Kept.tick_iff]) | split | intro _)

theorem State.waitIn_kept {z s : State} (h : State.Kept z s) (k : Nat) (l : Landed) : State.Kept z (State.waitIn s k l) := by
  dsimp only [State.waitIn]
  repeat' (first | (with_reducible first | assumption | apply Kept.foldl | apply Kept.foldl1 | apply Kept.foldl2) | (simp only [Kept.mk_iff, Kept.tick_iff]) | split | intro _)

theorem State.landAt_kept {z s : State} (h : State.Kept z s) (k : Nat) (l : Landed) : State.Kept z (State.landAt s k l) := by
  dsimp only [State.landAt]
  repeat' (first | (with_reducible first | assumption | apply Kept.foldl | apply Kept.foldl1 | apply Kept.foldl2 | apply dropLanded_kept | apply waitIn_kept) | (simp only [Kept.mk_iff, Kept.tick_iff]) | split | intro _)

theorem State.landRsp_kept {z s : State} (h : State.Kept z s) (k : Nat) (f : Flit) : State.Kept z (State.landRsp s k f) := by
  dsimp only [State.landRsp]
  repeat' (first | (with_reducible first | assumption | apply Kept.foldl | apply Kept.foldl1 | apply Kept.foldl2 | apply cplEvent_kept | apply cplMeet_kept | apply landAt_kept) | (simp only [Kept.mk_iff, Kept.tick_iff]) | split | intro _)

theorem State.landReq_kept {z s : State} (h : State.Kept z s) (k lane : Nat) (e : Ejected) : State.Kept z (State.landReq s k lane e) := by
  dsimp only [State.landReq]
  repeat' (first | (with_reducible first | assumption | apply Kept.foldl | apply Kept.foldl1 | apply Kept.foldl2 | apply setCharge_kept | apply landAt_kept) | (simp only [Kept.mk_iff, Kept.tick_iff]) | split | intro _)

theorem State.landFilter_kept {z s : State} (h : State.Kept z s) (k lane : Nat) (e : Ejected) : State.Kept z (State.landFilter s k lane e) := by
  dsimp only [State.landFilter]
  repeat' (first | (with_reducible first | assumption | apply Kept.foldl | apply Kept.foldl1 | apply Kept.foldl2 | apply rcInc_kept | apply record_kept | apply ackPend_kept | apply releaseRun_kept | apply releaseRelaxed_kept | apply landRsp_kept | apply landReq_kept) | (simp only [Kept.mk_iff, Kept.tick_iff]) | split | intro _)

theorem State.ejectPop_kept {z s : State} (h : State.Kept z s) (k lane : Nat) : State.Kept z (State.ejectPop s k lane) := by
  dsimp only [State.ejectPop]
  repeat' (first | (with_reducible first | assumption | apply Kept.foldl | apply Kept.foldl1 | apply Kept.foldl2) | (simp only [Kept.mk_iff, Kept.tick_iff]) | split | intro _)

theorem State.e2eFail_kept {z s : State} (h : State.Kept z s) (k : Nat) (e : Ejected) : State.Kept z (State.e2eFail s k e) := by
  dsimp only [State.e2eFail]
  repeat' (first | (with_reducible first | assumption | apply Kept.foldl | apply Kept.foldl1 | apply Kept.foldl2 | apply rcInc_kept | apply record_kept) | (simp only [Kept.mk_iff, Kept.tick_iff]) | split | intro _)

end Sys2Proof.Machine
end

