-- ==== Sys2Proof/Laws/KeptMem.lean ====
section
/-! SUPPORT. The operations of Mem.lean keep the queue and the canonical register file. -/

set_option linter.unusedSimpArgs false

namespace Sys2Proof.Machine

open State

theorem State.setJobs_kept {z s : State} (h : State.Kept z s) (c : Nat) (l : List MJob) : State.Kept z (State.setJobs s c l) := by
  dsimp only [State.setJobs]
  repeat' (first | (with_reducible first | assumption | apply Kept.foldl | apply Kept.foldl1 | apply Kept.foldl2) | (simp only [Kept.mk_iff, Kept.tick_iff]) | split | intro _)

theorem State.addJob_kept {z s : State} (h : State.Kept z s) (c : Nat) (kind : JobKind) (hdr : Flit) (ring : Nat) (accs : List MAcc) : State.Kept z (State.addJob s c kind hdr ring accs) := by
  dsimp only [State.addJob]
  repeat' (first | (with_reducible first | assumption | apply Kept.foldl | apply Kept.foldl1 | apply Kept.foldl2 | apply setJobs_kept) | (simp only [Kept.mk_iff, Kept.tick_iff]) | split | intro _)

theorem State.setAcc_kept {z s : State} (h : State.Kept z s) (c id i : Nat) (a : MAcc) : State.Kept z (State.setAcc s c id i a) := by
  dsimp only [State.setAcc]
  repeat' (first | (with_reducible first | assumption | apply Kept.foldl | apply Kept.foldl1 | apply Kept.foldl2 | apply setJobs_kept) | (simp only [Kept.mk_iff, Kept.tick_iff]) | split | intro _)

theorem State.rowReads_kept {z s : State} (h : State.Kept z s) (c : Nat) (j : MJob) (i : Nat) (a : MAcc) : State.Kept z (State.rowReads s c j i a) := by
  dsimp only [State.rowReads]
  repeat' (first | (with_reducible first | assumption | apply Kept.foldl | apply Kept.foldl1 | apply Kept.foldl2 | apply ownRead_kept | apply setAcc_kept) | (simp only [Kept.mk_iff, Kept.tick_iff]) | split | intro _)

theorem State.sendDelta_kept {z s : State} (h : State.Kept z s) (c : Nat) (a : MAcc) (new : Nat) : State.Kept z (State.sendDelta s c a new) := by
  dsimp only [State.sendDelta]
  repeat' (first | (with_reducible first | assumption | apply Kept.foldl | apply Kept.foldl1 | apply Kept.foldl2 | apply ownWrite_kept) | (simp only [Kept.mk_iff, Kept.tick_iff]) | split | intro _)

theorem State.answerData_kept {z s : State} (h : State.Kept z s) (m : Nat) (req : Flit) (ring : Nat) (bytes : List (BitVec 8)) (count lower : Nat) (pois : Bool) : State.Kept z (State.answerData s m req ring bytes count lower pois) := by
  dsimp only [State.answerData]
  repeat' (first | (with_reducible first | assumption | apply Kept.foldl | apply Kept.foldl1 | apply Kept.foldl2 | apply submit_kept) | (simp only [Kept.mk_iff, Kept.tick_iff]) | split | intro _)

theorem State.answerStatus_kept {z s : State} (h : State.Kept z s) (m : Nat) (req : Flit) (ring status count : Nat) : State.Kept z (State.answerStatus s m req ring status count) := by
  dsimp only [State.answerStatus]
  repeat' (first | (with_reducible first | assumption | apply Kept.foldl | apply Kept.foldl1 | apply Kept.foldl2 | apply submit_kept) | (simp only [Kept.mk_iff, Kept.tick_iff]) | split | intro _)

theorem State.ownDone_kept {z s : State} (h : State.Kept z s) (c what : Nat) : State.Kept z (State.ownDone s c what) := by
  dsimp only [State.ownDone]
  repeat' (first | (with_reducible first | assumption | apply Kept.foldl | apply Kept.foldl1 | apply Kept.foldl2) | (simp only [Kept.mk_iff, Kept.tick_iff]) | split | intro _)

theorem State.memUeAt_kept {z s : State} (h : State.Kept z s) (c : Nat) (local' : Bool) (ad : Nat) : State.Kept z (State.memUeAt s c local' ad) := by
  dsimp only [State.memUeAt]
  repeat' (first | (with_reducible first | assumption | apply Kept.foldl | apply Kept.foldl1 | apply Kept.foldl2 | apply record_kept) | (simp only [Kept.mk_iff, Kept.tick_iff]) | split | intro _)

theorem State.memUe_kept {z s : State} (h : State.Kept z s) (c : Nat) (j : MJob) (a : MAcc) : State.Kept z (State.memUe s c j a) := by
  dsimp only [State.memUe]
  repeat' (first | (with_reducible first | assumption | apply Kept.foldl | apply Kept.foldl1 | apply Kept.foldl2 | apply memUeAt_kept) | (simp only [Kept.mk_iff, Kept.tick_iff]) | split | intro _)

theorem State.readCounts_kept {z s : State} (h : State.Kept z s) (c : Nat) (j : MJob) : State.Kept z (State.readCounts s c j) := by
  dsimp only [State.readCounts]
  repeat' (first | (with_reducible first | assumption | apply Kept.foldl | apply Kept.foldl1 | apply Kept.foldl2 | apply rcInc_kept | apply memUe_kept) | (simp only [Kept.mk_iff, Kept.tick_iff]) | split | intro _)

theorem State.rowReleases_kept {z s : State} (h : State.Kept z s) (c row : Nat) : State.Kept z (State.rowReleases s c row) := by
  dsimp only [State.rowReleases]
  repeat' (first | (with_reducible first | assumption | apply Kept.foldl | apply Kept.foldl1 | apply Kept.foldl2 | apply ownWrite_kept) | (simp only [Kept.mk_iff, Kept.tick_iff]) | split | intro _)

theorem State.finishJob_kept {z s : State} (h : State.Kept z s) (c : Nat) (j : MJob) : State.Kept z (State.finishJob s c j) := by
  dsimp only [State.finishJob]
  repeat' (first | (with_reducible first | assumption | apply Kept.foldl | apply Kept.foldl1 | apply Kept.foldl2 | apply fset_kept | apply fput_kept | apply post_kept | apply setJobs_kept | apply answerData_kept | apply ownDone_kept | apply readCounts_kept | apply rowReleases_kept) | (simp only [Kept.mk_iff, Kept.tick_iff]) | split | intro _)

theorem State.finishAll_kept {z s : State} (h : State.Kept z s) (c : Nat) : State.Kept z (State.finishAll s c) := by
  dsimp only [State.finishAll]
  repeat' (first | (with_reducible first | assumption | apply Kept.foldl | apply Kept.foldl1 | apply Kept.foldl2 | apply finishJob_kept) | (simp only [Kept.mk_iff, Kept.tick_iff]) | split | intro _)

theorem State.setCh_kept {z s : State} (h : State.Kept z s) (c toward : Nat) : State.Kept z (State.setCh s c toward) := by
  dsimp only [State.setCh]
  repeat' (first | (with_reducible first | assumption | apply Kept.foldl | apply Kept.foldl1 | apply Kept.foldl2 | apply fset_kept | apply sillage_kept) | (simp only [Kept.mk_iff, Kept.tick_iff]) | split | intro _)

theorem State.chLost_kept {z s : State} (h : State.Kept z s) (c cause : Nat) : State.Kept z (State.chLost s c cause) := by
  dsimp only [State.chLost]
  repeat' (first | (with_reducible first | assumption | apply Kept.foldl | apply Kept.foldl1 | apply Kept.foldl2 | apply intSet_kept | apply record_kept | apply setCh_kept) | (simp only [Kept.mk_iff, Kept.tick_iff]) | split | intro _)

theorem State.ueCount_kept {z s : State} (h : State.Kept z s) (c : Nat) : State.Kept z (State.ueCount s c) := by
  dsimp only [State.ueCount]
  repeat' (first | (with_reducible first | assumption | apply Kept.foldl | apply Kept.foldl1 | apply Kept.foldl2 | apply chLost_kept) | (simp only [Kept.mk_iff, Kept.tick_iff]) | split | intro _)

theorem State.atomSettle_kept {z s : State} (h : State.Kept z s) (c id : Nat) : State.Kept z (State.atomSettle s c id) := by
  dsimp only [State.atomSettle]
  repeat' (first | (with_reducible first | assumption | apply Kept.foldl | apply Kept.foldl1 | apply Kept.foldl2 | apply setJobs_kept) | (simp only [Kept.mk_iff, Kept.tick_iff]) | split | intro _)

theorem State.accOld_kept {z s : State} (h : State.Kept z s) (c : Nat) (j : MJob) (i : Nat) (a : MAcc) (old : Nat) : State.Kept z (State.accOld s c j i a old) := by
  dsimp only [State.accOld]
  repeat' (first | (with_reducible first | assumption | apply Kept.foldl | apply Kept.foldl1 | apply Kept.foldl2 | apply setAcc_kept | apply atomSettle_kept) | (simp only [Kept.mk_iff, Kept.tick_iff]) | split | intro _)

theorem State.accLost_kept {z s : State} (h : State.Kept z s) (c : Nat) (j : MJob) (i : Nat) (a : MAcc) : State.Kept z (State.accLost s c j i a) := by
  dsimp only [State.accLost]
  repeat' (first | (with_reducible first | assumption | apply Kept.foldl | apply Kept.foldl1 | apply Kept.foldl2 | apply setAcc_kept | apply atomSettle_kept) | (simp only [Kept.mk_iff, Kept.tick_iff]) | split | intro _)

theorem State.startWrite_kept {z s : State} (h : State.Kept z s) (c : Nat) (j : MJob) (i : Nat) (a : MAcc) : State.Kept z (State.startWrite s c j i a) := by
  dsimp only [State.startWrite]
  repeat' (first | (with_reducible first | assumption | apply Kept.foldl | apply Kept.foldl1 | apply Kept.foldl2 | apply setAcc_kept | apply sendDelta_kept) | (simp only [Kept.mk_iff, Kept.tick_iff]) | split | intro _)

theorem State.startAcc_kept {z s : State} (h : State.Kept z s) (c : Nat) (j : MJob) (i : Nat) (a : MAcc) : State.Kept z (State.startAcc s c j i a) := by
  dsimp only [State.startAcc]
  repeat' (first | (with_reducible first | assumption | apply Kept.foldl | apply Kept.foldl1 | apply Kept.foldl2 | apply setJobs_kept | apply setAcc_kept | apply rowReads_kept | apply startWrite_kept) | (simp only [Kept.mk_iff, Kept.tick_iff]) | split | intro _)

theorem State.memPump_kept {z s : State} (h : State.Kept z s) (c : Nat) (n : Nat) : State.Kept z (State.memPump s c n) := by
  induction n generalizing s with
  | zero =>
    dsimp only [State.memPump]
    repeat' (first | (with_reducible first | assumption | apply Kept.foldl | apply Kept.foldl1 | apply Kept.foldl2 | apply finishAll_kept | apply startAcc_kept) | (simp only [Kept.mk_iff, Kept.tick_iff]) | split | intro _)
  | succ n ih =>
    dsimp only [State.memPump]
    repeat' (first | with_reducible (apply ih) | (with_reducible first | assumption | apply Kept.foldl | apply Kept.foldl1 | apply Kept.foldl2 | apply finishAll_kept | apply startAcc_kept) | (simp only [Kept.mk_iff, Kept.tick_iff]) | split | intro _)

theorem State.countWaits_kept {z s : State} (h : State.Kept z s) (c : Nat) : State.Kept z (State.countWaits s c) := by
  dsimp only [State.countWaits]
  repeat' (first | (with_reducible first | assumption | apply Kept.foldl | apply Kept.foldl1 | apply Kept.foldl2 | apply rcInc_kept | apply setAcc_kept) | (simp only [Kept.mk_iff, Kept.tick_iff]) | split | intro _)

theorem State.pump_kept {z s : State} (h : State.Kept z s) (c : Nat) : State.Kept z (State.pump s c) := by
  dsimp only [State.pump]
  repeat' (first | (with_reducible first | assumption | apply Kept.foldl | apply Kept.foldl1 | apply Kept.foldl2 | apply memPump_kept | apply countWaits_kept) | (simp only [Kept.mk_iff, Kept.tick_iff]) | split | intro _)

theorem State.memResponse_kept {z s : State} (h : State.Kept z s) (c t : Nat) (d : Nat) (ue : Bool) : State.Kept z (State.memResponse s c t d ue) := by
  dsimp only [State.memResponse]
  repeat' (first | (with_reducible first | assumption | apply Kept.foldl | apply Kept.foldl1 | apply Kept.foldl2 | apply setAcc_kept | apply sendDelta_kept | apply ueCount_kept | apply accOld_kept | apply pump_kept) | (simp only [Kept.mk_iff, Kept.tick_iff]) | split | intro _)

theorem State.foldDeltas_kept {z s : State} (h : State.Kept z s) (c b : Nat) : State.Kept z (State.foldDeltas s c b) := by
  dsimp only [State.foldDeltas]
  repeat' (first | (with_reducible first | assumption | apply Kept.foldl | apply Kept.foldl1 | apply Kept.foldl2 | apply setJobs_kept) | (simp only [Kept.mk_iff, Kept.tick_iff]) | split | intro _)

theorem State.rowCame_kept {z s : State} (h : State.Kept z s) (c : Nat) (j : MJob) (a : MAcc) : State.Kept z (State.rowCame s c j a) := by
  dsimp only [State.rowCame]
  repeat' (first | (with_reducible first | assumption | apply Kept.foldl | apply Kept.foldl1 | apply Kept.foldl2 | apply setJobs_kept | apply memUe_kept | apply rowReleases_kept) | (simp only [Kept.mk_iff, Kept.tick_iff]) | split | intro _)

theorem State.rebuilt_kept {z s : State} (h : State.Kept z s) (c : Nat) (j : MJob) (i : Nat) (a : MAcc) : State.Kept z (State.rebuilt s c j i a) := by
  dsimp only [State.rebuilt]
  repeat' (first | (with_reducible first | assumption | apply Kept.foldl | apply Kept.foldl1 | apply Kept.foldl2 | apply setAcc_kept | apply memUe_kept | apply rowReleases_kept | apply accOld_kept | apply accLost_kept | apply foldDeltas_kept | apply rowCame_kept) | (simp only [Kept.mk_iff, Kept.tick_iff]) | split | intro _)

theorem State.spanCame_kept {z s : State} (h : State.Kept z s) (c : Nat) (j : MJob) (i : Nat) (a : MAcc) (ch v : Nat) (pois : Bool) : State.Kept z (State.spanCame s c j i a ch v pois) := by
  dsimp only [State.spanCame]
  repeat' (first | (with_reducible first | assumption | apply Kept.foldl | apply Kept.foldl1 | apply Kept.foldl2 | apply ownRead_kept | apply setAcc_kept | apply rebuilt_kept) | (simp only [Kept.mk_iff, Kept.tick_iff]) | split | intro _)

theorem State.takeSpans_kept {z s : State} (h : State.Kept z s) (c : Nat) (n : Nat) : State.Kept z (State.takeSpans s c n) := by
  induction n generalizing s with
  | zero =>
    dsimp only [State.takeSpans]
    repeat' (first | (with_reducible first | assumption | apply Kept.foldl | apply Kept.foldl1 | apply Kept.foldl2 | refine takeDone_kept ?_ _ _ (by assumption) | apply spanCame_kept) | (simp only [Kept.mk_iff, Kept.tick_iff]) | split | intro _)
  | succ n ih =>
    dsimp only [State.takeSpans]
    repeat' (first | with_reducible (apply ih) | (with_reducible first | assumption | apply Kept.foldl | apply Kept.foldl1 | apply Kept.foldl2 | refine takeDone_kept ?_ _ _ (by assumption) | apply spanCame_kept) | (simp only [Kept.mk_iff, Kept.tick_iff]) | split | intro _)

theorem State.fence_kept {z s : State} (h : State.Kept z s) (c : Nat) (f : Flit) (ring : Nat) : State.Kept z (State.fence s c f ring) := by
  dsimp only [State.fence]
  repeat' (first | (with_reducible first | assumption | apply Kept.foldl | apply Kept.foldl1 | apply Kept.foldl2 | apply record_kept | apply pgErrEvt_kept | apply answerStatus_kept) | (simp only [Kept.mk_iff, Kept.tick_iff]) | split | intro _)

theorem State.deltaJob_kept {z s : State} (h : State.Kept z s) (c : Nat) (f : Flit) (ring : Nat) : State.Kept z (State.deltaJob s c f ring) := by
  dsimp only [State.deltaJob]
  repeat' (first | (with_reducible first | assumption | apply Kept.foldl | apply Kept.foldl1 | apply Kept.foldl2 | apply post_kept | apply addJob_kept) | (simp only [Kept.mk_iff, Kept.tick_iff]) | split | intro _)

theorem State.memAccept_kept {z s : State} (h : State.Kept z s) (c : Nat) (x : Egr) : State.Kept z (State.memAccept s c x) := by
  dsimp only [State.memAccept]
  repeat' (first | (with_reducible first | assumption | apply Kept.foldl | apply Kept.foldl1 | apply Kept.foldl2 | apply post_kept | apply addJob_kept | apply fence_kept | apply deltaJob_kept) | (simp only [Kept.mk_iff, Kept.tick_iff]) | split | intro _)

theorem State.memTake_kept {z s : State} (h : State.Kept z s) (c : Nat) (p : Flit → Bool) : State.Kept z (State.memTake s c p) := by
  dsimp only [State.memTake]
  repeat' (first | (with_reducible first | assumption | apply Kept.foldl | apply Kept.foldl1 | apply Kept.foldl2 | apply egrTake_kept | apply pump_kept | apply memAccept_kept) | (simp only [Kept.mk_iff, Kept.tick_iff]) | split | intro _)

theorem State.rebuildAdvance_kept {z s : State} (h : State.Kept z s) (c : Nat) (n : Nat) : State.Kept z (State.rebuildAdvance s c n) := by
  induction n generalizing s with
  | zero =>
    dsimp only [State.rebuildAdvance]
    repeat' (first | (with_reducible first | assumption | apply Kept.foldl | apply Kept.foldl1 | apply Kept.foldl2 | apply fset_kept | apply finishJob_kept | apply setCh_kept | apply pump_kept) | (simp only [Kept.mk_iff, Kept.tick_iff]) | split | intro _)
  | succ n ih =>
    dsimp only [State.rebuildAdvance]
    repeat' (first | with_reducible (apply ih) | (with_reducible first | assumption | apply Kept.foldl | apply Kept.foldl1 | apply Kept.foldl2 | apply fset_kept | apply finishJob_kept | apply setCh_kept | apply pump_kept) | (simp only [Kept.mk_iff, Kept.tick_iff]) | split | intro _)

theorem State.rebuildTick_kept {z s : State} (h : State.Kept z s) (c : Nat) : State.Kept z (State.rebuildTick s c) := by
  dsimp only [State.rebuildTick]
  repeat' (first | (with_reducible first | assumption | apply Kept.foldl | apply Kept.foldl1 | apply Kept.foldl2 | apply take_kept | apply addJob_kept | apply pump_kept | apply rebuildAdvance_kept) | (simp only [Kept.mk_iff, Kept.tick_iff]) | split | intro _)

theorem State.chCtl_kept {z s : State} (h : State.Kept z s) (c : Nat) (w : Word) (cmd : Nat) : State.Kept z (State.chCtl s c w cmd) := by
  dsimp only [State.chCtl]
  repeat' (first | (with_reducible first | assumption | apply Kept.foldl | apply Kept.foldl1 | apply Kept.foldl2 | apply fset_kept | apply pgErr_kept | apply setCh_kept | apply chLost_kept | apply pump_kept) | (simp only [Kept.mk_iff, Kept.tick_iff]) | split | intro _)

theorem State.chFail_kept {z s : State} (h : State.Kept z s) (c : Nat) : State.Kept z (State.chFail s c) := by
  dsimp only [State.chFail]
  repeat' (first | (with_reducible first | assumption | apply Kept.foldl | apply Kept.foldl1 | apply Kept.foldl2 | apply setAcc_kept | apply sendDelta_kept | apply chLost_kept | apply pump_kept) | (simp only [Kept.mk_iff, Kept.tick_iff]) | split | intro _)

theorem State.directRead_kept {z s : State} (h : State.Kept z s) (c : Nat) : State.Kept z (State.directRead s c) := by
  dsimp only [State.directRead]
  repeat' (first | (with_reducible first | assumption | apply Kept.foldl | apply Kept.foldl1 | apply Kept.foldl2 | apply fput_kept | apply addJob_kept | apply pump_kept) | (simp only [Kept.mk_iff, Kept.tick_iff]) | split | intro _)

theorem State.directDone_kept {z s : State} (h : State.Kept z s) (c : Nat) : State.Kept z (State.directDone s c) := by
  dsimp only [State.directDone]
  repeat' (first | (with_reducible first | assumption | apply Kept.foldl | apply Kept.foldl1 | apply Kept.foldl2 | apply finishJob_kept) | (simp only [Kept.mk_iff, Kept.tick_iff]) | split | intro _)

theorem execMemRequest_kept (s : State) (c : Chan) : ∃ u9, execMemRequest c s = .next u9 ∧ State.Kept s u9 := by
  have h := State.Kept.refl s
  dsimp only [execMemRequest]
  repeat' (first | refine ⟨_, rfl, ?_⟩ | (with_reducible first | assumption | apply Kept.foldl | apply Kept.foldl1 | apply Kept.foldl2 | apply memTake_kept) | (simp only [Kept.mk_iff, Kept.tick_iff]) | split | intro _)

theorem execParityDelta_kept (s : State) (c : Chan) : ∃ u9, execParityDelta c s = .next u9 ∧ State.Kept s u9 := by
  have h := State.Kept.refl s
  dsimp only [execParityDelta]
  repeat' (first | refine ⟨_, rfl, ?_⟩ | (with_reducible first | assumption | apply Kept.foldl | apply Kept.foldl1 | apply Kept.foldl2 | apply memTake_kept) | (simp only [Kept.mk_iff, Kept.tick_iff]) | split | intro _)

theorem execRowRead_kept (s : State) (c : Chan) : ∃ u9, execRowRead c s = .next u9 ∧ State.Kept s u9 := by
  have h := State.Kept.refl s
  dsimp only [execRowRead]
  repeat' (first | refine ⟨_, rfl, ?_⟩ | (with_reducible first | assumption | apply Kept.foldl | apply Kept.foldl1 | apply Kept.foldl2 | apply memTake_kept) | (simp only [Kept.mk_iff, Kept.tick_iff]) | split | intro _)

theorem execRowRelease_kept (s : State) (c : Chan) : ∃ u9, execRowRelease c s = .next u9 ∧ State.Kept s u9 := by
  have h := State.Kept.refl s
  dsimp only [execRowRelease]
  repeat' (first | refine ⟨_, rfl, ?_⟩ | (with_reducible first | assumption | apply Kept.foldl | apply Kept.foldl1 | apply Kept.foldl2 | apply memTake_kept) | (simp only [Kept.mk_iff, Kept.tick_iff]) | split | intro _)

theorem execChCmdFail_kept (s : State) (c : Chan) (w : Word) : ∃ u9, execChCmdFail c w s = .next u9 ∧ State.Kept s u9 := by
  have h := State.Kept.refl s
  dsimp only [execChCmdFail]
  repeat' (first | refine ⟨_, rfl, ?_⟩ | (with_reducible first | assumption | apply Kept.foldl | apply Kept.foldl1 | apply Kept.foldl2 | apply touch_kept | apply chCtl_kept) | (simp only [Kept.mk_iff, Kept.tick_iff]) | split | intro _)

theorem execChCmdRebuild_kept (s : State) (c : Chan) (w : Word) : ∃ u9, execChCmdRebuild c w s = .next u9 ∧ State.Kept s u9 := by
  have h := State.Kept.refl s
  dsimp only [execChCmdRebuild]
  repeat' (first | refine ⟨_, rfl, ?_⟩ | (with_reducible first | assumption | apply Kept.foldl | apply Kept.foldl1 | apply Kept.foldl2 | apply touch_kept | apply chCtl_kept) | (simp only [Kept.mk_iff, Kept.tick_iff]) | split | intro _)

theorem execChCmdClear_kept (s : State) (c : Chan) (w : Word) : ∃ u9, execChCmdClear c w s = .next u9 ∧ State.Kept s u9 := by
  have h := State.Kept.refl s
  dsimp only [execChCmdClear]
  repeat' (first | refine ⟨_, rfl, ?_⟩ | (with_reducible first | assumption | apply Kept.foldl | apply Kept.foldl1 | apply Kept.foldl2 | apply touch_kept | apply chCtl_kept) | (simp only [Kept.mk_iff, Kept.tick_iff]) | split | intro _)

theorem execRebuildTick_kept (s : State) (c : Chan) : ∃ u9, execRebuildTick c s = .next u9 ∧ State.Kept s u9 := by
  have h := State.Kept.refl s
  dsimp only [execRebuildTick]
  repeat' (first | refine ⟨_, rfl, ?_⟩ | (with_reducible first | assumption | apply Kept.foldl | apply Kept.foldl1 | apply Kept.foldl2 | apply rebuildTick_kept) | (simp only [Kept.mk_iff, Kept.tick_iff]) | split | intro _)

theorem execCtrlReadyChange_kept (s : State) (c : Chan) (level : Bool) : ∃ u9, execCtrlReadyChange c level s = .next u9 ∧ State.Kept s u9 := by
  have h := State.Kept.refl s
  dsimp only [execCtrlReadyChange]
  repeat' (first | refine ⟨_, rfl, ?_⟩ | (with_reducible first | assumption | apply Kept.foldl | apply Kept.foldl1 | apply Kept.foldl2 | apply fput_kept) | (simp only [Kept.mk_iff, Kept.tick_iff]) | split | intro _)

theorem execDirectRead_kept (s : State) (c : Chan) : ∃ u9, execDirectRead c s = .next u9 ∧ State.Kept s u9 := by
  have h := State.Kept.refl s
  dsimp only [execDirectRead]
  repeat' (first | refine ⟨_, rfl, ?_⟩ | (with_reducible first | assumption | apply Kept.foldl | apply Kept.foldl1 | apply Kept.foldl2 | apply touch_kept | apply directRead_kept) | (simp only [Kept.mk_iff, Kept.tick_iff]) | split | intro _)

theorem execDirectReadDone_kept (s : State) (c : Chan) : ∃ u9, execDirectReadDone c s = .next u9 ∧ State.Kept s u9 := by
  have h := State.Kept.refl s
  dsimp only [execDirectReadDone]
  repeat' (first | refine ⟨_, rfl, ?_⟩ | (with_reducible first | assumption | apply Kept.foldl | apply Kept.foldl1 | apply Kept.foldl2 | apply directDone_kept) | (simp only [Kept.mk_iff, Kept.tick_iff]) | split | intro _)

end Sys2Proof.Machine
end

