-- ==== Sys2Proof/Laws/KeptRetain.lean ====
section
/-! SUPPORT. The operations of Retain.lean keep the queue and the canonical register file. -/

set_option linter.unusedSimpArgs false

namespace Sys2Proof.Machine

open State

theorem State.ovfWrite_kept {z s : State} (h : State.Kept z s) (k slot : Nat) (bytes : List (BitVec 8)) : State.Kept z (State.ovfWrite s k slot bytes) := by
  dsimp only [State.ovfWrite]
  repeat' (first | (with_reducible first | assumption | apply Kept.foldl | apply Kept.foldl1 | apply Kept.foldl2 | apply ownWrite_kept | apply addJob_kept | apply pump_kept) | (simp only [Kept.mk_iff, Kept.tick_iff]) | split | intro _)

theorem State.ovfRead_kept {z s : State} (h : State.Kept z s) (k : Nat) (c : Copy) : State.Kept z (State.ovfRead s k c) := by
  dsimp only [State.ovfRead]
  repeat' (first | (with_reducible first | assumption | apply Kept.foldl | apply Kept.foldl1 | apply Kept.foldl2 | apply ownRead_kept | apply addJob_kept | apply pump_kept) | (simp only [Kept.mk_iff, Kept.tick_iff]) | split | intro _)

theorem State.spillCopies_kept {z s : State} (h : State.Kept z s) (k : Nat) (n : Nat) : State.Kept z (State.spillCopies s k n) := by
  induction n generalizing s with
  | zero =>
    dsimp only [State.spillCopies]
    repeat' (first | (with_reducible first | assumption | apply Kept.foldl | apply Kept.foldl1 | apply Kept.foldl2 | apply setRet_kept | apply ovfWrite_kept | apply ovfRead_kept) | (simp only [Kept.mk_iff, Kept.tick_iff]) | split | intro _)
  | succ n ih =>
    dsimp only [State.spillCopies]
    repeat' (first | with_reducible (apply ih) | (with_reducible first | assumption | apply Kept.foldl | apply Kept.foldl1 | apply Kept.foldl2 | apply setRet_kept | apply ovfWrite_kept | apply ovfRead_kept) | (simp only [Kept.mk_iff, Kept.tick_iff]) | split | intro _)

theorem State.copyDue_kept {z s : State} (h : State.Kept z s) (k due : Nat) (p : Copy → Bool) : State.Kept z (State.copyDue s k due p) := by
  dsimp only [State.copyDue]
  repeat' (first | (with_reducible first | assumption | apply Kept.foldl | apply Kept.foldl1 | apply Kept.foldl2 | apply setRet_kept | apply ovfRead_kept) | (simp only [Kept.mk_iff, Kept.tick_iff]) | split | intro _)

theorem State.ackTimeout_kept {z s : State} (h : State.Kept z s) (k d : Nat) : State.Kept z (State.ackTimeout s k d) := by
  dsimp only [State.ackTimeout]
  repeat' (first | (with_reducible first | assumption | apply Kept.foldl | apply Kept.foldl1 | apply Kept.foldl2 | apply rcInc_kept | apply copyDue_kept) | (simp only [Kept.mk_iff, Kept.tick_iff]) | split | intro _)

theorem execAckTimeout_kept (s : State) (k : Stop) (d : Stop) : ∃ u9, execAckTimeout k d s = .next u9 ∧ State.Kept s u9 := by
  have h := State.Kept.refl s
  dsimp only [execAckTimeout]
  repeat' (first | refine ⟨_, rfl, ?_⟩ | (with_reducible first | assumption | apply Kept.foldl | apply Kept.foldl1 | apply Kept.foldl2 | apply ackTimeout_kept) | (simp only [Kept.mk_iff, Kept.tick_iff]) | split | intro _)

theorem execOverflowReadback_kept (s : State) (k : Stop) : ∃ u9, execOverflowReadback k s = .next u9 ∧ State.Kept s u9 := by
  have h := State.Kept.refl s
  dsimp only [execOverflowReadback]
  repeat' (first | refine ⟨_, rfl, ?_⟩ | (with_reducible first | assumption | apply Kept.foldl | apply Kept.foldl1 | apply Kept.foldl2 | apply stopUe_kept | refine takeDone_kept ?_ _ _ (by assumption) | apply setRet_kept) | (simp only [Kept.mk_iff, Kept.tick_iff]) | split | intro _)

end Sys2Proof.Machine
end

