-- ==== Sys2Proof/Laws/KeptArb.lean ====
section
/-! SUPPORT. The operations of Arb.lean keep the queue and the canonical register file. -/

set_option linter.unusedSimpArgs false

namespace Sys2Proof.Machine

open State

theorem State.setBridge_kept {z s : State} (h : State.Kept z s) (k r d v : Nat) : State.Kept z (State.setBridge s k r d v) := by
  dsimp only [State.setBridge]
  repeat' (first | (with_reducible first | assumption | apply Kept.foldl | apply Kept.foldl1 | apply Kept.foldl2) | (simp only [Kept.mk_iff, Kept.tick_iff]) | split | intro _)

theorem State.slotInc_kept {z s : State} (h : State.Kept z s) (k c cat : Nat) : State.Kept z (State.slotInc s k c cat) := by
  dsimp only [State.slotInc]
  repeat' (first | (with_reducible first | assumption | apply Kept.foldl | apply Kept.foldl1 | apply Kept.foldl2 | apply fset_kept | apply setWide_kept) | (simp only [Kept.mk_iff, Kept.tick_iff]) | split | intro _)

theorem State.settle_kept {z s : State} (h : State.Kept z s) (k c cat : Nat) : State.Kept z (State.settle s k c cat) := by
  dsimp only [State.settle]
  repeat' (first | (with_reducible first | assumption | apply Kept.foldl | apply Kept.foldl1 | apply Kept.foldl2 | apply countEvt_kept | apply slotInc_kept) | (simp only [Kept.mk_iff, Kept.tick_iff]) | split | intro _)

theorem State.waitSlot_kept {z s : State} (h : State.Kept z s) (k n : Nat) : State.Kept z (State.waitSlot s k n) := by
  dsimp only [State.waitSlot]
  repeat' (first | (with_reducible first | assumption | apply Kept.foldl | apply Kept.foldl1 | apply Kept.foldl2) | (simp only [Kept.mk_iff, Kept.tick_iff]) | split | intro _)

theorem State.passSlot_kept {z s : State} (h : State.Kept z s) (k : Nat) (crossed : Bool) : State.Kept z (State.passSlot s k crossed) := by
  dsimp only [State.passSlot]
  repeat' (first | (with_reducible first | assumption | apply Kept.foldl | apply Kept.foldl1 | apply Kept.foldl2 | apply fput_kept | apply setWide_kept | apply waitSlot_kept) | (simp only [Kept.mk_iff, Kept.tick_iff]) | split | intro _)

theorem State.noteEmpty_kept {z s : State} (h : State.Kept z s) (k : Nat) : State.Kept z (State.noteEmpty s k) := by
  dsimp only [State.noteEmpty]
  repeat' (first | (with_reducible first | assumption | apply Kept.foldl | apply Kept.foldl1 | apply Kept.foldl2) | (simp only [Kept.mk_iff, Kept.tick_iff]) | split | intro _)

theorem State.noteHead_kept {z s : State} (h : State.Kept z s) (k : Nat) (el : List FTxn) (next : Nat) (t : FTxn) (wait : Bool) : State.Kept z (State.noteHead s k el next t wait) := by
  dsimp only [State.noteHead]
  repeat' (first | (with_reducible first | assumption | apply Kept.foldl | apply Kept.foldl1 | apply Kept.foldl2) | (simp only [Kept.mk_iff, Kept.tick_iff]) | split | intro _)

theorem State.noteClass_kept {z s : State} (h : State.Kept z s) (k : Nat) (el : List FTxn) (c : Nat) : State.Kept z (State.noteClass s k el c) := by
  dsimp only [State.noteClass]
  repeat' (first | (with_reducible first | assumption | apply Kept.foldl | apply Kept.foldl1 | apply Kept.foldl2) | (simp only [Kept.mk_iff, Kept.tick_iff]) | split | intro _)

theorem State.noteEligible_kept {z s : State} (h : State.Kept z s) (k : Nat) (el : List FTxn) (busy : Option Nat) : State.Kept z (State.noteEligible s k el busy) := by
  dsimp only [State.noteEligible]
  repeat' (first | (with_reducible first | assumption | apply Kept.foldl | apply Kept.foldl1 | apply Kept.foldl2 | apply noteEmpty_kept | apply noteHead_kept | apply noteClass_kept) | (simp only [Kept.mk_iff, Kept.tick_iff]) | split | intro _)

theorem State.startBurst_kept {z s : State} (h : State.Kept z s) (k : Nat) (b : Burst) (fix : Bool) : State.Kept z (State.startBurst s k b fix) := by
  dsimp only [State.startBurst]
  repeat' (first | (with_reducible first | assumption | apply Kept.foldl | apply Kept.foldl1 | apply Kept.foldl2 | apply rcInc_kept | apply setBridge_kept) | (simp only [Kept.mk_iff, Kept.tick_iff]) | split | intro _)

theorem State.sample_kept {z s : State} (h : State.Kept z s) (k kind rq : Nat) : State.Kept z (State.sample s k kind rq) := by
  dsimp only [State.sample]
  repeat' (first | (with_reducible first | assumption | apply Kept.foldl | apply Kept.foldl1 | apply Kept.foldl2 | apply fset_kept | apply fput_kept | apply setWide_kept | apply intSet_kept) | (simp only [Kept.mk_iff, Kept.tick_iff]) | split | intro _)

theorem State.number_kept {z s : State} (h : State.Kept z s) (k : Nat) (t : FTxn) : State.Kept z (State.number s k t).1 := by
  dsimp only [State.number]
  repeat' (first | (with_reducible first | assumption | apply Kept.foldl | apply Kept.foldl1 | apply Kept.foldl2) | (simp only [Kept.mk_iff, Kept.tick_iff]) | split | intro _)

theorem State.setHead_kept {z s : State} (h : State.Kept z s) (k rq : Nat) (t : FTxn) : State.Kept z (State.setHead s k rq t) := by
  dsimp only [State.setHead]
  repeat' (first | (with_reducible first | assumption | apply Kept.foldl | apply Kept.foldl1 | apply Kept.foldl2 | apply setQueue_kept) | (simp only [Kept.mk_iff, Kept.tick_iff]) | split | intro _)

theorem State.grantTxn_kept {z s : State} (h : State.Kept z s) (k : Nat) (t : FTxn) (green nth : Bool) : State.Kept z (State.grantTxn s k t green nth) := by
  dsimp only [State.grantTxn]
  repeat' (first | (with_reducible first | assumption | apply Kept.foldl | apply Kept.foldl1 | apply Kept.foldl2 | apply take_kept | apply startBurst_kept | apply sample_kept | apply number_kept | apply setHead_kept) | (simp only [Kept.mk_iff, Kept.tick_iff]) | split | intro _)

theorem State.grantFlit_kept {z s : State} (h : State.Kept z s) (k : Nat) (f : Flit) (kind : Nat) (rc : Nat × Bool) (c : Copy) : State.Kept z (State.grantFlit s k f kind rc c) := by
  dsimp only [State.grantFlit]
  repeat' (first | (with_reducible first | assumption | apply Kept.foldl | apply Kept.foldl1 | apply Kept.foldl2 | apply startBurst_kept | apply sample_kept) | (simp only [Kept.mk_iff, Kept.tick_iff]) | split | intro _)

theorem State.noteWait_kept {z s : State} (h : State.Kept z s) (k : Nat) (t : FTxn) : State.Kept z (State.noteWait s k t) := by
  dsimp only [State.noteWait]
  repeat' (first | (with_reducible first | assumption | apply Kept.foldl | apply Kept.foldl1 | apply Kept.foldl2 | apply rcInc_kept | apply setHead_kept) | (simp only [Kept.mk_iff, Kept.tick_iff]) | split | intro _)

theorem State.noteWaits_kept {z s : State} (h : State.Kept z s) (k : Nat) : State.Kept z (State.noteWaits s k) := by
  dsimp only [State.noteWaits]
  repeat' (first | (with_reducible first | assumption | apply Kept.foldl | apply Kept.foldl1 | apply Kept.foldl2 | apply noteWait_kept) | (simp only [Kept.mk_iff, Kept.tick_iff]) | split | intro _)

theorem State.arbDecide_kept {z s : State} (h : State.Kept z s) (k : Nat) : State.Kept z (State.arbDecide s k).1 := by
  dsimp only [State.arbDecide]
  repeat' (first | (with_reducible first | assumption | apply Kept.foldl | apply Kept.foldl1 | apply Kept.foldl2 | apply fput_kept | apply noteEligible_kept | apply grantTxn_kept | apply grantFlit_kept | apply noteWaits_kept) | (simp only [Kept.mk_iff, Kept.tick_iff]) | split | intro _)

theorem State.settleIdle_kept {z s : State} (h : State.Kept z s) (k : Nat) (won : Option Nat) (refused : Bool) : State.Kept z (State.settleIdle s k won refused) := by
  dsimp only [State.settleIdle]
  repeat' (first | (with_reducible first | assumption | apply Kept.foldl | apply Kept.foldl1 | apply Kept.foldl2 | apply slotInc_kept | apply settle_kept) | (simp only [Kept.mk_iff, Kept.tick_iff]) | split | intro _)

theorem State.confirm_kept {z s : State} (h : State.Kept z s) (k : Nat) (b : Burst) : State.Kept z (State.confirm s k b) := by
  dsimp only [State.confirm]
  repeat' (first | (with_reducible first | assumption | apply Kept.foldl | apply Kept.foldl1 | apply Kept.foldl2 | apply fset_kept | apply fmax_kept | apply rcInc_kept) | (simp only [Kept.mk_iff, Kept.tick_iff]) | split | intro _)

theorem State.takeFromQueue_kept {z s : State} (h : State.Kept z s) (k : Nat) (b : Burst) : State.Kept z (State.takeFromQueue s k b) := by
  dsimp only [State.takeFromQueue]
  repeat' (first | (with_reducible first | assumption | apply Kept.foldl | apply Kept.foldl1 | apply Kept.foldl2 | apply setQueue_kept) | (simp only [Kept.mk_iff, Kept.tick_iff]) | split | intro _)

theorem State.piggy_kept {z s : State} (h : State.Kept z s) (k : Nat) (f : Flit) : State.Kept z (State.piggy s k f).1 := by
  dsimp only [State.piggy]
  repeat' (first | (with_reducible first | assumption | apply Kept.foldl | apply Kept.foldl1 | apply Kept.foldl2) | (simp only [Kept.mk_iff, Kept.tick_iff]) | split | intro _)

theorem State.overrun_kept {z s : State} (h : State.Kept z s) (k : Nat) (b : Burst) (f : Flit) : State.Kept z (State.overrun s k b f) := by
  dsimp only [State.overrun]
  repeat' (first | (with_reducible first | assumption | apply Kept.foldl | apply Kept.foldl1 | apply Kept.foldl2 | apply fmax_kept | apply rcInc_kept) | (simp only [Kept.mk_iff, Kept.tick_iff]) | split | intro _)

theorem State.beat_kept {z s : State} (h : State.Kept z s) (k : Nat) (b : Burst) : State.Kept z (State.beat s k b) := by
  dsimp only [State.beat]
  repeat' (first | (with_reducible first | assumption | apply Kept.foldl | apply Kept.foldl1 | apply Kept.foldl2 | apply countEvt_kept | apply xbOcc_kept | apply ejectTo_kept | apply setRet_kept | apply spillCopies_kept | apply settle_kept | apply passSlot_kept | apply piggy_kept | apply overrun_kept) | (simp only [Kept.mk_iff, Kept.tick_iff]) | split | intro _)

theorem State.decideFree_kept {z s : State} (h : State.Kept z s) (k : Nat) : State.Kept z (State.decideFree s k) := by
  dsimp only [State.decideFree]
  repeat' (first | (with_reducible first | assumption | apply Kept.foldl | apply Kept.foldl1 | apply Kept.foldl2 | apply arbDecide_kept) | (simp only [Kept.mk_iff, Kept.tick_iff]) | split | intro _)

theorem State.turnHeads_kept {z s : State} (h : State.Kept z s) (k : Nat) : State.Kept z (State.turnHeads s k) := by
  dsimp only [State.turnHeads]
  repeat' (first | (with_reducible first | assumption | apply Kept.foldl | apply Kept.foldl1 | apply Kept.foldl2 | apply take_kept | apply setQueue_kept) | (simp only [Kept.mk_iff, Kept.tick_iff]) | split | intro _)

theorem State.noteBeat_kept {z s : State} (h : State.Kept z s) (k : Nat) (b : Burst) : State.Kept z (State.noteBeat s k b) := by
  dsimp only [State.noteBeat]
  repeat' (first | (with_reducible first | assumption | apply Kept.foldl | apply Kept.foldl1 | apply Kept.foldl2 | apply noteEligible_kept) | (simp only [Kept.mk_iff, Kept.tick_iff]) | split | intro _)

theorem State.arbDecision_kept {z s : State} (h : State.Kept z s) (k : Nat) : State.Kept z (State.arbDecision s k) := by
  dsimp only [State.arbDecision]
  repeat' (first | (with_reducible first | assumption | apply Kept.foldl | apply Kept.foldl1 | apply Kept.foldl2 | apply passSlot_kept | apply arbDecide_kept | apply settleIdle_kept | apply beat_kept | apply decideFree_kept | apply turnHeads_kept | apply noteBeat_kept) | (simp only [Kept.mk_iff, Kept.tick_iff]) | split | intro _)

theorem State.grantRecheck_kept {z s : State} (h : State.Kept z s) (k : Nat) : State.Kept z (State.grantRecheck s k) := by
  dsimp only [State.grantRecheck]
  repeat' (first | (with_reducible first | assumption | apply Kept.foldl | apply Kept.foldl1 | apply Kept.foldl2 | apply rcInc_kept | apply resService_kept | apply setBridge_kept | apply settle_kept | apply passSlot_kept | apply confirm_kept | apply takeFromQueue_kept | apply beat_kept | apply noteBeat_kept) | (simp only [Kept.mk_iff, Kept.tick_iff]) | split | intro _)

theorem State.bridgeReturn_kept {z s : State} (h : State.Kept z s) (k r d : Nat) : State.Kept z (State.bridgeReturn s k r d) := by
  dsimp only [State.bridgeReturn]
  repeat' (first | (with_reducible first | assumption | apply Kept.foldl | apply Kept.foldl1 | apply Kept.foldl2 | apply setBridge_kept) | (simp only [Kept.mk_iff, Kept.tick_iff]) | split | intro _)

theorem State.dropUnset_kept {z s : State} (h : State.Kept z s) (k : Nat) (p : SlotRec → Bool) : State.Kept z (State.dropUnset s k p) := by
  dsimp only [State.dropUnset]
  repeat' (first | (with_reducible first | assumption | apply Kept.foldl | apply Kept.foldl1 | apply Kept.foldl2) | (simp only [Kept.mk_iff, Kept.tick_iff]) | split | intro _)

theorem State.slotMiss_kept {z s : State} (h : State.Kept z s) (k r d : Nat) : State.Kept z (State.slotMiss s k r d) := by
  dsimp only [State.slotMiss]
  repeat' (first | (with_reducible first | assumption | apply Kept.foldl | apply Kept.foldl1 | apply Kept.foldl2 | apply setRet_kept | apply copyDue_kept | apply settle_kept | apply dropUnset_kept) | (simp only [Kept.mk_iff, Kept.tick_iff]) | split | intro _)

theorem State.slotSettle_kept {z s : State} (h : State.Kept z s) (k : Nat) : State.Kept z (State.slotSettle s k) := by
  dsimp only [State.slotSettle]
  repeat' (first | (with_reducible first | assumption | apply Kept.foldl | apply Kept.foldl1 | apply Kept.foldl2 | apply settle_kept | apply dropUnset_kept) | (simp only [Kept.mk_iff, Kept.tick_iff]) | split | intro _)

theorem State.rqSel_kept {z s : State} (h : State.Kept z s) (k : Nat) (w : Word) : State.Kept z (State.rqSel s k w) := by
  dsimp only [State.rqSel]
  repeat' (first | (with_reducible first | assumption | apply Kept.foldl | apply Kept.foldl1 | apply Kept.foldl2 | apply fset_kept | apply fput_kept | apply setWide_kept) | (simp only [Kept.mk_iff, Kept.tick_iff]) | split | intro _)

theorem State.rqSelWrite_kept {z s : State} (h : State.Kept z s) (k : Nat) (w : Word) : State.Kept z (State.rqSelWrite s k w) := by
  dsimp only [State.rqSelWrite]
  repeat' (first | (with_reducible first | assumption | apply Kept.foldl | apply Kept.foldl1 | apply Kept.foldl2 | apply pgErr_kept | apply rqSel_kept) | (simp only [Kept.mk_iff, Kept.tick_iff]) | split | intro _)

theorem State.clearRq_kept {z s : State} (h : State.Kept z s) (x : Nat) : State.Kept z (State.clearRq s x) := by
  dsimp only [State.clearRq]
  repeat' (first | (with_reducible first | assumption | apply Kept.foldl | apply Kept.foldl1 | apply Kept.foldl2) | (simp only [Kept.mk_iff, Kept.tick_iff]) | split | intro _)

theorem execArbiterDecision_kept (s : State) (k : Stop) : ∃ u9, execArbiterDecision k s = .next u9 ∧ State.Kept s u9 := by
  have h := State.Kept.refl s
  dsimp only [execArbiterDecision]
  repeat' (first | refine ⟨_, rfl, ?_⟩ | (with_reducible first | assumption | apply Kept.foldl | apply Kept.foldl1 | apply Kept.foldl2 | apply arbDecision_kept) | (simp only [Kept.mk_iff, Kept.tick_iff]) | split | intro _)

theorem execGrantRecheck_kept (s : State) (k : Stop) : ∃ u9, execGrantRecheck k s = .next u9 ∧ State.Kept s u9 := by
  have h := State.Kept.refl s
  dsimp only [execGrantRecheck]
  repeat' (first | refine ⟨_, rfl, ?_⟩ | (with_reducible first | assumption | apply Kept.foldl | apply Kept.foldl1 | apply Kept.foldl2 | apply grantRecheck_kept) | (simp only [Kept.mk_iff, Kept.tick_iff]) | split | intro _)

theorem execBridgeCreditReturn_kept (s : State) (k : Stop) (r : RingNo) (d : Dir) : ∃ u9, execBridgeCreditReturn k r d s = .next u9 ∧ State.Kept s u9 := by
  have h := State.Kept.refl s
  dsimp only [execBridgeCreditReturn]
  repeat' (first | refine ⟨_, rfl, ?_⟩ | (with_reducible first | assumption | apply Kept.foldl | apply Kept.foldl1 | apply Kept.foldl2 | apply bridgeReturn_kept) | (simp only [Kept.mk_iff, Kept.tick_iff]) | split | intro _)

theorem execSlotMiss_kept (s : State) (k : Stop) (r : RingNo) (d : Dir) : ∃ u9, execSlotMiss k r d s = .next u9 ∧ State.Kept s u9 := by
  have h := State.Kept.refl s
  dsimp only [execSlotMiss]
  repeat' (first | refine ⟨_, rfl, ?_⟩ | (with_reducible first | assumption | apply Kept.foldl | apply Kept.foldl1 | apply Kept.foldl2 | apply slotMiss_kept) | (simp only [Kept.mk_iff, Kept.tick_iff]) | split | intro _)

theorem execSlotSettle_kept (s : State) (k : Stop) : ∃ u9, execSlotSettle k s = .next u9 ∧ State.Kept s u9 := by
  have h := State.Kept.refl s
  dsimp only [execSlotSettle]
  repeat' (first | refine ⟨_, rfl, ?_⟩ | (with_reducible first | assumption | apply Kept.foldl | apply Kept.foldl1 | apply Kept.foldl2 | apply slotSettle_kept) | (simp only [Kept.mk_iff, Kept.tick_iff]) | split | intro _)

theorem execRqSelWrite_kept (s : State) (k : Stop) (w : Word) : ∃ u9, execRqSelWrite k w s = .next u9 ∧ State.Kept s u9 := by
  have h := State.Kept.refl s
  dsimp only [execRqSelWrite]
  repeat' (first | refine ⟨_, rfl, ?_⟩ | (with_reducible first | assumption | apply Kept.foldl | apply Kept.foldl1 | apply Kept.foldl2 | apply touch_kept | apply rqSelWrite_kept) | (simp only [Kept.mk_iff, Kept.tick_iff]) | split | intro _)

end Sys2Proof.Machine
end

