-- ==== Sys2Proof/Laws/KeptClear.lean ====
section
/-! SUPPORT. The operations of Clear.lean keep the queue and the canonical register file. -/

set_option linter.unusedSimpArgs false

namespace Sys2Proof.Machine

open State

theorem State.stopLost_kept {z s : State} (h : State.Kept z s) (k : Nat) : State.Kept z (State.stopLost s k) := by
  dsimp only [State.stopLost]
  repeat' (first | (with_reducible first | assumption | apply Kept.foldl | apply Kept.foldl1 | apply Kept.foldl2 | apply fset_kept | apply fput_kept | apply xbReset_kept | apply setUsed_kept) | (simp only [Kept.mk_iff, Kept.tick_iff]) | split | intro _)

end Sys2Proof.Machine
end

