-- ==== Sys2Proof/Laws/KeptXb.lean ====
section
/-! SUPPORT. The operations of Xb.lean keep the queue and the canonical register file. -/

set_option linter.unusedSimpArgs false

namespace Sys2Proof.Machine

open State

theorem State.xbDiscard_kept {z s : State} (h : State.Kept z s) (g i : Nat) : State.Kept z (State.xbDiscard s g i) := by
  dsimp only [State.xbDiscard]
  repeat' (first | (with_reducible first | assumption | apply Kept.foldl | apply Kept.foldl1 | apply Kept.foldl2) | (simp only [Kept.mk_iff, Kept.tick_iff]) | split | intro _)

theorem State.bridgeResync_kept {z s : State} (h : State.Kept z s) (g i : Nat) : State.Kept z (State.bridgeResync s g i) := by
  dsimp only [State.bridgeResync]
  repeat' (first | (with_reducible first | assumption | apply Kept.foldl | apply Kept.foldl1 | apply Kept.foldl2 | apply record_kept | apply xbDiscard_kept) | (simp only [Kept.mk_iff, Kept.tick_iff]) | split | intro _)

theorem execBridgeResync_kept (s : State) (g : Fin 10) (i : Fin 64) : ∃ u9, execBridgeResync g i s = .next u9 ∧ State.Kept s u9 := by
  have h := State.Kept.refl s
  dsimp only [execBridgeResync]
  repeat' (first | refine ⟨_, rfl, ?_⟩ | (with_reducible first | assumption | apply Kept.foldl | apply Kept.foldl1 | apply Kept.foldl2 | apply bridgeResync_kept) | (simp only [Kept.mk_iff, Kept.tick_iff]) | split | intro _)

theorem execClockSwitch_kept (s : State)  : ∃ u9, execClockSwitch s = .next u9 ∧ State.Kept s u9 := by
  have h := State.Kept.refl s
  dsimp only [execClockSwitch]
  repeat' (first | refine ⟨_, rfl, ?_⟩ | (with_reducible first | assumption | apply Kept.foldl | apply Kept.foldl1 | apply Kept.foldl2) | (simp only [Kept.mk_iff, Kept.tick_iff]) | split | intro _)

theorem State.xbSel_kept {z s : State} (h : State.Kept z s) (b : Nat) (w : Word) : State.Kept z (State.xbSel s b w) := by
  dsimp only [State.xbSel]
  repeat' (first | (with_reducible first | assumption | apply Kept.foldl | apply Kept.foldl1 | apply Kept.foldl2 | apply fset_kept | apply fput_kept | apply fresh_kept) | (simp only [Kept.mk_iff, Kept.tick_iff]) | split | intro _)

theorem execXbSelWrite_kept (s : State) (b : Fin 10) (w : Word) : ∃ u9, execXbSelWrite b w s = .next u9 ∧ State.Kept s u9 := by
  have h := State.Kept.refl s
  dsimp only [execXbSelWrite]
  repeat' (first | refine ⟨_, rfl, ?_⟩ | (with_reducible first | assumption | apply Kept.foldl | apply Kept.foldl1 | apply Kept.foldl2 | apply touch_kept | apply xbSel_kept) | (simp only [Kept.mk_iff, Kept.tick_iff]) | split | intro _)

end Sys2Proof.Machine
end

