-- ==== Sys2Proof/Laws/KeptXlt.lean ====
section
/-! SUPPORT. The operations of Xlt.lean keep the queue and the canonical register file. -/

set_option linter.unusedSimpArgs false

namespace Sys2Proof.Machine

open State

theorem State.setCache_kept {z s : State} (h : State.Kept z s) (bind : Bool) (x key way : Nat) (e : Option CacheEnt) : State.Kept z (State.setCache s bind x key way e) := by
  dsimp only [State.setCache]
  repeat' (first | (with_reducible first | assumption | apply Kept.foldl | apply Kept.foldl1 | apply Kept.foldl2) | (simp only [Kept.mk_iff, Kept.tick_iff]) | split | intro _)

theorem State.dropKey_kept {z s : State} (h : State.Kept z s) (bind : Bool) (x key : Nat) : State.Kept z (State.dropKey s bind x key) := by
  dsimp only [State.dropKey]
  repeat' (first | (with_reducible first | assumption | apply Kept.foldl | apply Kept.foldl1 | apply Kept.foldl2 | apply setCache_kept) | (simp only [Kept.mk_iff, Kept.tick_iff]) | split | intro _)

theorem State.victim_kept {z s : State} (h : State.Kept z s) (bind : Bool) (x key : Nat) (ws : List Nat) : State.Kept z (State.victim s bind x key ws).2 := by
  dsimp only [State.victim]
  repeat' (first | (with_reducible first | assumption | apply Kept.foldl | apply Kept.foldl1 | apply Kept.foldl2 | apply fresh_kept) | (simp only [Kept.mk_iff, Kept.tick_iff]) | split | intro _)

theorem State.install_kept {z s : State} (h : State.Kept z s) (bind : Bool) (x key val : Nat) : State.Kept z (State.install s bind x key val) := by
  dsimp only [State.install]
  repeat' (first | (with_reducible first | assumption | apply Kept.foldl | apply Kept.foldl1 | apply Kept.foldl2 | apply setCache_kept | apply victim_kept) | (simp only [Kept.mk_iff, Kept.tick_iff]) | split | intro _)

theorem State.setFills_kept {z s : State} (h : State.Kept z s) (x : Nat) (l : List Fill) : State.Kept z (State.setFills s x l) := by
  dsimp only [State.setFills]
  repeat' (first | (with_reducible first | assumption | apply Kept.foldl | apply Kept.foldl1 | apply Kept.foldl2) | (simp only [Kept.mk_iff, Kept.tick_iff]) | split | intro _)

theorem State.sendFill_kept {z s : State} (h : State.Kept z s) (x : Nat) (f : Fill) : State.Kept z (State.sendFill s x f) := by
  dsimp only [State.sendFill]
  repeat' (first | (with_reducible first | assumption | apply Kept.foldl | apply Kept.foldl1 | apply Kept.foldl2 | apply ownRead_kept | apply setFills_kept) | (simp only [Kept.mk_iff, Kept.tick_iff]) | split | intro _)

theorem State.xcMiss_kept {z s : State} (h : State.Kept z s) (x : Nat) (bind : Bool) : State.Kept z (State.xcMiss s x bind) := by
  dsimp only [State.xcMiss]
  repeat' (first | (with_reducible first | assumption | apply Kept.foldl | apply Kept.foldl1 | apply Kept.foldl2 | apply countEvt_kept | apply rcInc_kept) | (simp only [Kept.mk_iff, Kept.tick_iff]) | split | intro _)

theorem State.lookUp_kept {z s : State} (h : State.Kept z s) (x : Nat) (bind : Bool) (key : Nat) : State.Kept z (State.lookUp s x bind key).1 := by
  dsimp only [State.lookUp]
  repeat' (first | (with_reducible first | assumption | apply Kept.foldl | apply Kept.foldl1 | apply Kept.foldl2 | apply countEvt_kept | apply rcInc_kept | apply setCache_kept | apply sendFill_kept | apply xcMiss_kept) | (simp only [Kept.mk_iff, Kept.tick_iff]) | split | intro _)

theorem State.answer_kept {z s : State} (h : State.Kept z s) (x : Nat) (bind : Bool) (key st val : Nat) : State.Kept z (State.answer s x bind key st val) := by
  dsimp only [State.answer]
  repeat' (first | (with_reducible first | assumption | apply Kept.foldl | apply Kept.foldl1 | apply Kept.foldl2) | (simp only [Kept.mk_iff, Kept.tick_iff]) | split | intro _)

theorem State.fillDone_kept {z s : State} (h : State.Kept z s) (x id : Nat) (r : RdDone) : State.Kept z (State.fillDone s x id r) := by
  dsimp only [State.fillDone]
  repeat' (first | (with_reducible first | assumption | apply Kept.foldl | apply Kept.foldl1 | apply Kept.foldl2 | apply rcInc_kept | apply record_kept | apply install_kept | apply setFills_kept | apply sendFill_kept | apply answer_kept) | (simp only [Kept.mk_iff, Kept.tick_iff]) | split | intro _)

theorem State.takeFill_kept {z s : State} (h : State.Kept z s) (x : Nat) (bind : Bool) : State.Kept z (State.takeFill s x bind) := by
  dsimp only [State.takeFill]
  repeat' (first | (with_reducible first | assumption | apply Kept.foldl | apply Kept.foldl1 | apply Kept.foldl2 | refine takeDone_kept ?_ _ _ (by assumption) | apply fillDone_kept) | (simp only [Kept.mk_iff, Kept.tick_iff]) | split | intro _)

theorem State.fillTimeout_kept {z s : State} (h : State.Kept z s) (x : Nat) : State.Kept z (State.fillTimeout s x) := by
  dsimp only [State.fillTimeout]
  repeat' (first | (with_reducible first | assumption | apply Kept.foldl | apply Kept.foldl1 | apply Kept.foldl2 | apply rcInc_kept | apply setFills_kept | apply sendFill_kept) | (simp only [Kept.mk_iff, Kept.tick_iff]) | split | intro _)

theorem State.staleFills_kept {z s : State} (h : State.Kept z s) (x : Nat) (bind : Bool) (p : Nat → Bool) : State.Kept z (State.staleFills s x bind p) := by
  dsimp only [State.staleFills]
  repeat' (first | (with_reducible first | assumption | apply Kept.foldl | apply Kept.foldl1 | apply Kept.foldl2 | apply setFills_kept) | (simp only [Kept.mk_iff, Kept.tick_iff]) | split | intro _)

theorem State.dropDomain_kept {z s : State} (h : State.Kept z s) (x dom : Nat) : State.Kept z (State.dropDomain s x dom) := by
  dsimp only [State.dropDomain]
  repeat' (first | (with_reducible first | assumption | apply Kept.foldl | apply Kept.foldl1 | apply Kept.foldl2) | (simp only [Kept.mk_iff, Kept.tick_iff]) | split | intro _)

theorem State.setDomain_kept {z s : State} (h : State.Kept z s) (x dom base cnt : Nat) : State.Kept z (State.setDomain s x dom base cnt) := by
  dsimp only [State.setDomain]
  repeat' (first | (with_reducible first | assumption | apply Kept.foldl | apply Kept.foldl1 | apply Kept.foldl2) | (simp only [Kept.mk_iff, Kept.tick_iff]) | split | intro _)

theorem State.invalidate_kept {z s : State} (h : State.Kept z s) (x : Nat) (bind : Bool) (key : Nat) : State.Kept z (State.invalidate s x bind key) := by
  dsimp only [State.invalidate]
  repeat' (first | (with_reducible first | assumption | apply Kept.foldl | apply Kept.foldl1 | apply Kept.foldl2 | apply take_kept | apply dropKey_kept | apply staleFills_kept | apply dropDomain_kept) | (simp only [Kept.mk_iff, Kept.tick_iff]) | split | intro _)

theorem State.emptyCache_kept {z s : State} (h : State.Kept z s) (x : Nat) (bind : Bool) : State.Kept z (State.emptyCache s x bind) := by
  dsimp only [State.emptyCache]
  repeat' (first | (with_reducible first | assumption | apply Kept.foldl | apply Kept.foldl1 | apply Kept.foldl2) | (simp only [Kept.mk_iff, Kept.tick_iff]) | split | intro _)

theorem State.wakeCaches_kept {z s : State} (h : State.Kept z s) (x : Nat) : State.Kept z (State.wakeCaches s x) := by
  dsimp only [State.wakeCaches]
  repeat' (first | (with_reducible first | assumption | apply Kept.foldl | apply Kept.foldl1 | apply Kept.foldl2 | apply dropKey_kept | apply emptyCache_kept) | (simp only [Kept.mk_iff, Kept.tick_iff]) | split | intro _)

theorem State.sendInvAck_kept {z s : State} (h : State.Kept z s) (n toward : Nat) (pb dom : Bool) (key : Nat) : State.Kept z (State.sendInvAck s n toward pb dom key) := by
  dsimp only [State.sendInvAck]
  repeat' (first | (with_reducible first | assumption | apply Kept.foldl | apply Kept.foldl1 | apply Kept.foldl2 | apply send_kept) | (simp only [Kept.mk_iff, Kept.tick_iff]) | split | intro _)

theorem State.xltInv_kept {z s : State} (h : State.Kept z s) (n : Nat) (m : Msg) : State.Kept z (State.xltInv s n m) := by
  dsimp only [State.xltInv]
  repeat' (first | (with_reducible first | assumption | apply Kept.foldl | apply Kept.foldl1 | apply Kept.foldl2 | apply take_kept | apply msgBad_kept | apply invalidate_kept | apply sendInvAck_kept) | (simp only [Kept.mk_iff, Kept.tick_iff]) | split | intro _)

theorem State.pbInv_kept {z s : State} (h : State.Kept z s) (n : Nat) (m : Msg) : State.Kept z (State.pbInv s n m) := by
  dsimp only [State.pbInv]
  repeat' (first | (with_reducible first | assumption | apply Kept.foldl | apply Kept.foldl1 | apply Kept.foldl2 | apply take_kept | apply msgBad_kept | apply setDomain_kept | apply invalidate_kept | apply sendInvAck_kept) | (simp only [Kept.mk_iff, Kept.tick_iff]) | split | intro _)

theorem State.localWrite_kept {z s : State} (h : State.Kept z s) (c what fma n v : Nat) : State.Kept z (State.localWrite s c what fma n v) := by
  dsimp only [State.localWrite]
  repeat' (first | (with_reducible first | assumption | apply Kept.foldl | apply Kept.foldl1 | apply Kept.foldl2 | apply addJob_kept | apply pump_kept) | (simp only [Kept.mk_iff, Kept.tick_iff]) | split | intro _)

theorem State.xltStart_kept {z s : State} (h : State.Kept z s) (c key val : Nat) (mir : Bool) : State.Kept z (State.xltStart s c key val mir) := by
  dsimp only [State.xltStart]
  repeat' (first | (with_reducible first | assumption | apply Kept.foldl | apply Kept.foldl1 | apply Kept.foldl2 | apply fset_kept | apply fput_kept | apply localWrite_kept) | (simp only [Kept.mk_iff, Kept.tick_iff]) | split | intro _)

theorem State.xltUpdate_kept {z s : State} (h : State.Kept z s) (c : Nat) : State.Kept z (State.xltUpdate s c) := by
  dsimp only [State.xltUpdate]
  repeat' (first | (with_reducible first | assumption | apply Kept.foldl | apply Kept.foldl1 | apply Kept.foldl2 | apply fset_kept | apply pgErr_kept | apply xltStart_kept) | (simp only [Kept.mk_iff, Kept.tick_iff]) | split | intro _)

theorem State.xltProgress_kept {z s : State} (h : State.Kept z s) (c : Nat) : State.Kept z (State.xltProgress s c) := by
  dsimp only [State.xltProgress]
  repeat' (first | (with_reducible first | assumption | apply Kept.foldl | apply Kept.foldl1 | apply Kept.foldl2 | apply bcast_kept | apply ownWrite_kept) | (simp only [Kept.mk_iff, Kept.tick_iff]) | split | intro _)

theorem State.xltProgressAll_kept {z s : State} (h : State.Kept z s)  : State.Kept z (State.xltProgressAll s) := by
  dsimp only [State.xltProgressAll]
  repeat' (first | (with_reducible first | assumption | apply Kept.foldl | apply Kept.foldl1 | apply Kept.foldl2 | apply xltProgress_kept) | (simp only [Kept.mk_iff, Kept.tick_iff]) | split | intro _)

theorem State.pbStart_kept {z s : State} (h : State.Kept z s) (i val : Nat) (mir : Bool) : State.Kept z (State.pbStart s i val mir) := by
  dsimp only [State.pbStart]
  repeat' (first | (with_reducible first | assumption | apply Kept.foldl | apply Kept.foldl1 | apply Kept.foldl2 | apply fset_kept | apply fput_kept | apply localWrite_kept) | (simp only [Kept.mk_iff, Kept.tick_iff]) | split | intro _)

theorem State.pbUpdate_kept {z s : State} (h : State.Kept z s)  : State.Kept z (State.pbUpdate s) := by
  dsimp only [State.pbUpdate]
  repeat' (first | (with_reducible first | assumption | apply Kept.foldl | apply Kept.foldl1 | apply Kept.foldl2 | apply fset_kept | apply pgErr_kept | apply pbStart_kept) | (simp only [Kept.mk_iff, Kept.tick_iff]) | split | intro _)

theorem State.pbProgress_kept {z s : State} (h : State.Kept z s)  : State.Kept z (State.pbProgress s) := by
  dsimp only [State.pbProgress]
  repeat' (first | (with_reducible first | assumption | apply Kept.foldl | apply Kept.foldl1 | apply Kept.foldl2 | apply bcast_kept) | (simp only [Kept.mk_iff, Kept.tick_iff]) | split | intro _)

theorem State.pbAck_kept {z s : State} (h : State.Kept z s)  : State.Kept z (State.pbAck s) := by
  dsimp only [State.pbAck]
  repeat' (first | (with_reducible first | assumption | apply Kept.foldl | apply Kept.foldl1 | apply Kept.foldl2 | apply fset_kept | apply fput_kept | apply mirror_kept) | (simp only [Kept.mk_iff, Kept.tick_iff]) | split | intro _)

theorem State.memSettle_kept {z s : State} (h : State.Kept z s)  : State.Kept z (State.memSettle s) := by
  dsimp only [State.memSettle]
  repeat' (first | (with_reducible first | assumption | apply Kept.foldl | apply Kept.foldl1 | apply Kept.foldl2 | apply xltProgressAll_kept | apply pbProgress_kept) | (simp only [Kept.mk_iff, Kept.tick_iff]) | split | intro _)

theorem State.invAck_kept {z s : State} (h : State.Kept z s) (n : Nat) (m : Msg) : State.Kept z (State.invAck s n m) := by
  dsimp only [State.invAck]
  repeat' (first | (with_reducible first | assumption | apply Kept.foldl | apply Kept.foldl1 | apply Kept.foldl2 | apply fset_kept | apply fput_kept | apply take_kept | apply msgBad_kept | apply mirror_kept | apply pbAck_kept) | (simp only [Kept.mk_iff, Kept.tick_iff]) | split | intro _)

theorem State.pbDcnt_kept {z s : State} (h : State.Kept z s) (w : Word) : State.Kept z (State.pbDcnt s w) := by
  dsimp only [State.pbDcnt]
  repeat' (first | (with_reducible first | assumption | apply Kept.foldl | apply Kept.foldl1 | apply Kept.foldl2 | apply fset_kept | apply bcast_kept | apply pgErr_kept) | (simp only [Kept.mk_iff, Kept.tick_iff]) | split | intro _)

theorem State.pbDbase_kept {z s : State} (h : State.Kept z s) (w : Word) : State.Kept z (State.pbDbase s w) := by
  dsimp only [State.pbDbase]
  repeat' (first | (with_reducible first | assumption | apply Kept.foldl | apply Kept.foldl1 | apply Kept.foldl2 | apply fset_kept | apply pgErr_kept) | (simp only [Kept.mk_iff, Kept.tick_iff]) | split | intro _)

theorem execMemResponse_kept (s : State) (c : Chan) (t : Fin 256) (d : Data) (ue : Bool) : ∃ u9, execMemResponse c t d ue s = .next u9 ∧ State.Kept s u9 := by
  have h := State.Kept.refl s
  dsimp only [execMemResponse]
  repeat' (first | refine ⟨_, rfl, ?_⟩ | (with_reducible first | assumption | apply Kept.foldl | apply Kept.foldl1 | apply Kept.foldl2 | apply memResponse_kept | apply rebuildAdvance_kept | apply memSettle_kept) | (simp only [Kept.mk_iff, Kept.tick_iff]) | split | intro _)

theorem execReconstructDone_kept (s : State) (c : Chan) : ∃ u9, execReconstructDone c s = .next u9 ∧ State.Kept s u9 := by
  have h := State.Kept.refl s
  dsimp only [execReconstructDone]
  repeat' (first | refine ⟨_, rfl, ?_⟩ | (with_reducible first | assumption | apply Kept.foldl | apply Kept.foldl1 | apply Kept.foldl2 | apply pump_kept | apply takeSpans_kept | apply rebuildAdvance_kept | apply memSettle_kept) | (simp only [Kept.mk_iff, Kept.tick_iff]) | split | intro _)

theorem execChFail_kept (s : State) (c : Chan) : ∃ u9, execChFail c s = .next u9 ∧ State.Kept s u9 := by
  have h := State.Kept.refl s
  dsimp only [execChFail]
  repeat' (first | refine ⟨_, rfl, ?_⟩ | (with_reducible first | assumption | apply Kept.foldl | apply Kept.foldl1 | apply Kept.foldl2 | apply chFail_kept | apply memSettle_kept) | (simp only [Kept.mk_iff, Kept.tick_iff]) | split | intro _)

theorem execXltFillDone_kept (s : State) (x : Sector) : ∃ u9, execXltFillDone x s = .next u9 ∧ State.Kept s u9 := by
  have h := State.Kept.refl s
  dsimp only [execXltFillDone]
  repeat' (first | refine ⟨_, rfl, ?_⟩ | (with_reducible first | assumption | apply Kept.foldl | apply Kept.foldl1 | apply Kept.foldl2 | apply takeFill_kept) | (simp only [Kept.mk_iff, Kept.tick_iff]) | split | intro _)

theorem execXltFillTimeout_kept (s : State) (x : Sector) : ∃ u9, execXltFillTimeout x s = .next u9 ∧ State.Kept s u9 := by
  have h := State.Kept.refl s
  dsimp only [execXltFillTimeout]
  repeat' (first | refine ⟨_, rfl, ?_⟩ | (with_reducible first | assumption | apply Kept.foldl | apply Kept.foldl1 | apply Kept.foldl2 | apply fillTimeout_kept) | (simp only [Kept.mk_iff, Kept.tick_iff]) | split | intro _)

theorem execBindFillDone_kept (s : State) (x : Sector) : ∃ u9, execBindFillDone x s = .next u9 ∧ State.Kept s u9 := by
  have h := State.Kept.refl s
  dsimp only [execBindFillDone]
  repeat' (first | refine ⟨_, rfl, ?_⟩ | (with_reducible first | assumption | apply Kept.foldl | apply Kept.foldl1 | apply Kept.foldl2 | apply takeFill_kept) | (simp only [Kept.mk_iff, Kept.tick_iff]) | split | intro _)

theorem execXltUpdate_kept (s : State) (c : Chan) : ∃ u9, execXltUpdate c s = .next u9 ∧ State.Kept s u9 := by
  have h := State.Kept.refl s
  dsimp only [execXltUpdate]
  repeat' (first | refine ⟨_, rfl, ?_⟩ | (with_reducible first | assumption | apply Kept.foldl | apply Kept.foldl1 | apply Kept.foldl2 | apply touch_kept | apply xltUpdate_kept) | (simp only [Kept.mk_iff, Kept.tick_iff]) | split | intro _)

theorem execXltInv_kept (s : State) (n : Node) (m : Msg) : ∃ u9, execXltInv n m s = .next u9 ∧ State.Kept s u9 := by
  have h := State.Kept.refl s
  dsimp only [execXltInv]
  repeat' (first | refine ⟨_, rfl, ?_⟩ | (with_reducible first | assumption | apply Kept.foldl | apply Kept.foldl1 | apply Kept.foldl2 | apply xltInv_kept) | (simp only [Kept.mk_iff, Kept.tick_iff]) | split | intro _)

theorem execInvAck_kept (s : State) (n : Node) (m : Msg) : ∃ u9, execInvAck n m s = .next u9 ∧ State.Kept s u9 := by
  have h := State.Kept.refl s
  dsimp only [execInvAck]
  repeat' (first | refine ⟨_, rfl, ?_⟩ | (with_reducible first | assumption | apply Kept.foldl | apply Kept.foldl1 | apply Kept.foldl2 | apply invAck_kept) | (simp only [Kept.mk_iff, Kept.tick_iff]) | split | intro _)

theorem execPbUpdate_kept (s : State)  : ∃ u9, execPbUpdate s = .next u9 ∧ State.Kept s u9 := by
  have h := State.Kept.refl s
  dsimp only [execPbUpdate]
  repeat' (first | refine ⟨_, rfl, ?_⟩ | (with_reducible first | assumption | apply Kept.foldl | apply Kept.foldl1 | apply Kept.foldl2 | apply touch_kept | apply pbUpdate_kept) | (simp only [Kept.mk_iff, Kept.tick_iff]) | split | intro _)

theorem execPbInv_kept (s : State) (n : Node) (m : Msg) : ∃ u9, execPbInv n m s = .next u9 ∧ State.Kept s u9 := by
  have h := State.Kept.refl s
  dsimp only [execPbInv]
  repeat' (first | refine ⟨_, rfl, ?_⟩ | (with_reducible first | assumption | apply Kept.foldl | apply Kept.foldl1 | apply Kept.foldl2 | apply pbInv_kept) | (simp only [Kept.mk_iff, Kept.tick_iff]) | split | intro _)

theorem execPbDcntWrite_kept (s : State) (w : Word) : ∃ u9, execPbDcntWrite w s = .next u9 ∧ State.Kept s u9 := by
  have h := State.Kept.refl s
  dsimp only [execPbDcntWrite]
  repeat' (first | refine ⟨_, rfl, ?_⟩ | (with_reducible first | assumption | apply Kept.foldl | apply Kept.foldl1 | apply Kept.foldl2 | apply touch_kept | apply pbDcnt_kept) | (simp only [Kept.mk_iff, Kept.tick_iff]) | split | intro _)

end Sys2Proof.Machine
end

