-- ==== Sys2Proof/Laws/KeptPower.lean ====
section
/-! SUPPORT. The operations of Power.lean keep the queue and the canonical register file. -/

set_option linter.unusedSimpArgs false

namespace Sys2Proof.Machine

open State

theorem State.setPhase_kept {z s : State} (h : State.Kept z s) (x p : Nat) : State.Kept z (State.setPhase s x p) := by
  dsimp only [State.setPhase]
  repeat' (first | (with_reducible first | assumption | apply Kept.foldl | apply Kept.foldl1 | apply Kept.foldl2 | apply fset_kept) | (simp only [Kept.mk_iff, Kept.tick_iff]) | split | intro _)

theorem State.pwrRes_kept {z s : State} (h : State.Kept z s) (x r : Nat) : State.Kept z (State.pwrRes s x r) := by
  dsimp only [State.pwrRes]
  repeat' (first | (with_reducible first | assumption | apply Kept.foldl | apply Kept.foldl1 | apply Kept.foldl2 | apply fset_kept) | (simp only [Kept.mk_iff, Kept.tick_iff]) | split | intro _)

theorem State.setTgt_kept {z s : State} (h : State.Kept z s) (x t : Nat) : State.Kept z (State.setTgt s x t) := by
  dsimp only [State.setTgt]
  repeat' (first | (with_reducible first | assumption | apply Kept.foldl | apply Kept.foldl1 | apply Kept.foldl2) | (simp only [Kept.mk_iff, Kept.tick_iff]) | split | intro _)

theorem State.pwrCmdAll_kept {z s : State} (h : State.Kept z s) (x op : Nat) (flag : Bool) (count : Nat) : State.Kept z (State.pwrCmdAll s x op flag count) := by
  dsimp only [State.pwrCmdAll]
  repeat' (first | (with_reducible first | assumption | apply Kept.foldl | apply Kept.foldl1 | apply Kept.foldl2 | apply send_kept) | (simp only [Kept.mk_iff, Kept.tick_iff]) | split | intro _)

theorem State.startTr_kept {z s : State} (h : State.Kept z s) (x t phase : Nat) : State.Kept z (State.startTr s x t phase) := by
  dsimp only [State.startTr]
  repeat' (first | (with_reducible first | assumption | apply Kept.foldl | apply Kept.foldl1 | apply Kept.foldl2 | apply fset_kept | apply setPhase_kept | apply setTgt_kept) | (simp only [Kept.mk_iff, Kept.tick_iff]) | split | intro _)

theorem State.wakeRecord_kept {z s : State} (h : State.Kept z s) (x code chan thr : Nat) (cancel : Bool) : State.Kept z (State.wakeRecord s x code chan thr cancel) := by
  dsimp only [State.wakeRecord]
  repeat' (first | (with_reducible first | assumption | apply Kept.foldl | apply Kept.foldl1 | apply Kept.foldl2 | apply fset_kept | apply fput_kept | apply setWide_kept) | (simp only [Kept.mk_iff, Kept.tick_iff]) | split | intro _)

theorem State.wakeCount_kept {z s : State} (h : State.Kept z s) (x code : Nat) : State.Kept z (State.wakeCount s x code) := by
  dsimp only [State.wakeCount]
  repeat' (first | (with_reducible first | assumption | apply Kept.foldl | apply Kept.foldl1 | apply Kept.foldl2 | apply rcInc_kept) | (simp only [Kept.mk_iff, Kept.tick_iff]) | split | intro _)

theorem State.takeAwake_kept {z s : State} (h : State.Kept z s) (x t : Nat) : State.Kept z (State.takeAwake s x t) := by
  dsimp only [State.takeAwake]
  repeat' (first | (with_reducible first | assumption | apply Kept.foldl | apply Kept.foldl1 | apply Kept.foldl2 | apply setPhase_kept | apply pwrRes_kept | apply setTgt_kept | apply pwrCmdAll_kept | apply startTr_kept) | (simp only [Kept.mk_iff, Kept.tick_iff]) | split | intro _)

theorem State.abandonClose_kept {z s : State} (h : State.Kept z s) (x res : Nat) : State.Kept z (State.abandonClose s x res) := by
  dsimp only [State.abandonClose]
  repeat' (first | (with_reducible first | assumption | apply Kept.foldl | apply Kept.foldl1 | apply Kept.foldl2 | apply setPhase_kept | apply pwrRes_kept | apply pwrCmdAll_kept | apply takeAwake_kept) | (simp only [Kept.mk_iff, Kept.tick_iff]) | split | intro _)

theorem State.startWake_kept {z s : State} (h : State.Kept z s) (x code chan thr toward : Nat) : State.Kept z (State.startWake s x code chan thr toward) := by
  dsimp only [State.startWake]
  repeat' (first | (with_reducible first | assumption | apply Kept.foldl | apply Kept.foldl1 | apply Kept.foldl2 | apply startTr_kept | apply wakeRecord_kept | apply wakeCount_kept) | (simp only [Kept.mk_iff, Kept.tick_iff]) | split | intro _)

theorem State.wakeEvent_kept {z s : State} (h : State.Kept z s) (x code chan thr toward : Nat) : State.Kept z (State.wakeEvent s x code chan thr toward) := by
  dsimp only [State.wakeEvent]
  repeat' (first | (with_reducible first | assumption | apply Kept.foldl | apply Kept.foldl1 | apply Kept.foldl2 | apply fput_kept | apply setPhase_kept | apply startTr_kept | apply wakeRecord_kept | apply wakeCount_kept | apply abandonClose_kept | apply startWake_kept) | (simp only [Kept.mk_iff, Kept.tick_iff]) | split | intro _)

theorem State.takeTarget_kept {z s : State} (h : State.Kept z s) (x t : Nat) : State.Kept z (State.takeTarget s x t) := by
  dsimp only [State.takeTarget]
  repeat' (first | (with_reducible first | assumption | apply Kept.foldl | apply Kept.foldl1 | apply Kept.foldl2 | apply pwrRes_kept | apply startTr_kept | apply takeAwake_kept | apply wakeEvent_kept) | (simp only [Kept.mk_iff, Kept.tick_iff]) | split | intro _)

theorem State.psTarget_kept {z s : State} (h : State.Kept z s) (x t : Nat) (w : Word) : State.Kept z (State.psTarget s x t w) := by
  dsimp only [State.psTarget]
  repeat' (first | (with_reducible first | assumption | apply Kept.foldl | apply Kept.foldl1 | apply Kept.foldl2 | apply fset_kept | apply wakeEvent_kept | apply takeTarget_kept) | (simp only [Kept.mk_iff, Kept.tick_iff]) | split | intro _)

theorem execPsTargetRun_kept (s : State) (x : Sector) (w : Word) : ∃ u9, execPsTargetRun x w s = .next u9 ∧ State.Kept s u9 := by
  have h := State.Kept.refl s
  dsimp only [execPsTargetRun]
  repeat' (first | refine ⟨_, rfl, ?_⟩ | (with_reducible first | assumption | apply Kept.foldl | apply Kept.foldl1 | apply Kept.foldl2 | apply touch_kept | apply psTarget_kept) | (simp only [Kept.mk_iff, Kept.tick_iff]) | split | intro _)

theorem execPsTargetTrim_kept (s : State) (x : Sector) (w : Word) : ∃ u9, execPsTargetTrim x w s = .next u9 ∧ State.Kept s u9 := by
  have h := State.Kept.refl s
  dsimp only [execPsTargetTrim]
  repeat' (first | refine ⟨_, rfl, ?_⟩ | (with_reducible first | assumption | apply Kept.foldl | apply Kept.foldl1 | apply Kept.foldl2 | apply touch_kept | apply psTarget_kept) | (simp only [Kept.mk_iff, Kept.tick_iff]) | split | intro _)

theorem execPsTargetDoze_kept (s : State) (x : Sector) (w : Word) : ∃ u9, execPsTargetDoze x w s = .next u9 ∧ State.Kept s u9 := by
  have h := State.Kept.refl s
  dsimp only [execPsTargetDoze]
  repeat' (first | refine ⟨_, rfl, ?_⟩ | (with_reducible first | assumption | apply Kept.foldl | apply Kept.foldl1 | apply Kept.foldl2 | apply touch_kept | apply psTarget_kept) | (simp only [Kept.mk_iff, Kept.tick_iff]) | split | intro _)

theorem execPsTargetOff_kept (s : State) (x : Sector) (w : Word) : ∃ u9, execPsTargetOff x w s = .next u9 ∧ State.Kept s u9 := by
  have h := State.Kept.refl s
  dsimp only [execPsTargetOff]
  repeat' (first | refine ⟨_, rfl, ?_⟩ | (with_reducible first | assumption | apply Kept.foldl | apply Kept.foldl1 | apply Kept.foldl2 | apply touch_kept | apply psTarget_kept) | (simp only [Kept.mk_iff, Kept.tick_iff]) | split | intro _)

theorem State.sectorEmpty_kept {z s : State} (h : State.Kept z s) (x : Nat) : State.Kept z (State.sectorEmpty s x) := by
  dsimp only [State.sectorEmpty]
  repeat' (first | (with_reducible first | assumption | apply Kept.foldl | apply Kept.foldl1 | apply Kept.foldl2 | apply startTr_kept) | (simp only [Kept.mk_iff, Kept.tick_iff]) | split | intro _)

theorem State.closeTimeout_kept {z s : State} (h : State.Kept z s) (x : Nat) : State.Kept z (State.closeTimeout s x) := by
  dsimp only [State.closeTimeout]
  repeat' (first | (with_reducible first | assumption | apply Kept.foldl | apply Kept.foldl1 | apply Kept.foldl2 | apply record_kept | apply abandonClose_kept) | (simp only [Kept.mk_iff, Kept.tick_iff]) | split | intro _)

theorem State.closeDue_kept {z s : State} (h : State.Kept z s) (k : Nat) : State.Kept z (State.closeDue s k) := by
  dsimp only [State.closeDue]
  repeat' (first | (with_reducible first | assumption | apply Kept.foldl | apply Kept.foldl1 | apply Kept.foldl2 | apply beginClose_kept) | (simp only [Kept.mk_iff, Kept.tick_iff]) | split | intro _)

theorem State.emptyReport_kept {z s : State} (h : State.Kept z s) (k : Nat) : State.Kept z (State.emptyReport s k) := by
  dsimp only [State.emptyReport]
  repeat' (first | (with_reducible first | assumption | apply Kept.foldl | apply Kept.foldl1 | apply Kept.foldl2 | apply send_kept) | (simp only [Kept.mk_iff, Kept.tick_iff]) | split | intro _)

theorem State.pwrCmd_kept {z s : State} (h : State.Kept z s) (n : Nat) (m : Msg) : State.Kept z (State.pwrCmd s n m) := by
  dsimp only [State.pwrCmd]
  repeat' (first | (with_reducible first | assumption | apply Kept.foldl | apply Kept.foldl1 | apply Kept.foldl2 | apply reopen_kept | apply sectorEmpty_kept) | (simp only [Kept.mk_iff, Kept.tick_iff]) | split | intro _)

theorem State.pwrCmdMsg_kept {z s : State} (h : State.Kept z s) (n : Nat) (m : Msg) : State.Kept z (State.pwrCmdMsg s n m) := by
  dsimp only [State.pwrCmdMsg]
  repeat' (first | (with_reducible first | assumption | apply Kept.foldl | apply Kept.foldl1 | apply Kept.foldl2 | apply take_kept | apply msgBad_kept | apply pwrCmd_kept) | (simp only [Kept.mk_iff, Kept.tick_iff]) | split | intro _)

theorem execPwrCmdClose_kept (s : State) (n : Stop) (m : Msg) : ∃ u9, execPwrCmdClose n m s = .next u9 ∧ State.Kept s u9 := by
  have h := State.Kept.refl s
  dsimp only [execPwrCmdClose]
  repeat' (first | refine ⟨_, rfl, ?_⟩ | (with_reducible first | assumption | apply Kept.foldl | apply Kept.foldl1 | apply Kept.foldl2 | apply pwrCmdMsg_kept) | (simp only [Kept.mk_iff, Kept.tick_iff]) | split | intro _)

theorem execPwrCmdReopen_kept (s : State) (n : Stop) (m : Msg) : ∃ u9, execPwrCmdReopen n m s = .next u9 ∧ State.Kept s u9 := by
  have h := State.Kept.refl s
  dsimp only [execPwrCmdReopen]
  repeat' (first | refine ⟨_, rfl, ?_⟩ | (with_reducible first | assumption | apply Kept.foldl | apply Kept.foldl1 | apply Kept.foldl2 | apply pwrCmdMsg_kept) | (simp only [Kept.mk_iff, Kept.tick_iff]) | split | intro _)

theorem execPwrCmdEmpty_kept (s : State) (n : Stop) (m : Msg) : ∃ u9, execPwrCmdEmpty n m s = .next u9 ∧ State.Kept s u9 := by
  have h := State.Kept.refl s
  dsimp only [execPwrCmdEmpty]
  repeat' (first | refine ⟨_, rfl, ?_⟩ | (with_reducible first | assumption | apply Kept.foldl | apply Kept.foldl1 | apply Kept.foldl2 | apply pwrCmdMsg_kept) | (simp only [Kept.mk_iff, Kept.tick_iff]) | split | intro _)

theorem execSectorEmpty_kept (s : State) (x : Sector) : ∃ u9, execSectorEmpty x s = .next u9 ∧ State.Kept s u9 := by
  have h := State.Kept.refl s
  dsimp only [execSectorEmpty]
  repeat' (first | refine ⟨_, rfl, ?_⟩ | (with_reducible first | assumption | apply Kept.foldl | apply Kept.foldl1 | apply Kept.foldl2 | apply sectorEmpty_kept) | (simp only [Kept.mk_iff, Kept.tick_iff]) | split | intro _)

theorem execCloseTimeout_kept (s : State) (x : Sector) : ∃ u9, execCloseTimeout x s = .next u9 ∧ State.Kept s u9 := by
  have h := State.Kept.refl s
  dsimp only [execCloseTimeout]
  repeat' (first | refine ⟨_, rfl, ?_⟩ | (with_reducible first | assumption | apply Kept.foldl | apply Kept.foldl1 | apply Kept.foldl2 | apply closeTimeout_kept) | (simp only [Kept.mk_iff, Kept.tick_iff]) | split | intro _)

theorem State.blankNow_kept {z s : State} (h : State.Kept z s) (x c : Nat) : State.Kept z (State.blankNow s x c) := by
  dsimp only [State.blankNow]
  repeat' (first | (with_reducible first | assumption | apply Kept.foldl | apply Kept.foldl1 | apply Kept.foldl2) | (simp only [Kept.mk_iff, Kept.tick_iff]) | split | intro _)

theorem execWakeDemand_kept (s : State) (x : Sector) : ∃ u9, execWakeDemand x s = .next u9 ∧ State.Kept s u9 := by
  have h := State.Kept.refl s
  dsimp only [execWakeDemand]
  repeat' (first | refine ⟨_, rfl, ?_⟩ | (with_reducible first | assumption | apply Kept.foldl | apply Kept.foldl1 | apply Kept.foldl2 | apply wakeEvent_kept) | (simp only [Kept.mk_iff, Kept.tick_iff]) | split | intro _)

theorem execWakeSigdet_kept (s : State) (x : Sector) (ch : Fin 32) : ∃ u9, execWakeSigdet x ch s = .next u9 ∧ State.Kept s u9 := by
  have h := State.Kept.refl s
  dsimp only [execWakeSigdet]
  repeat' (first | refine ⟨_, rfl, ?_⟩ | (with_reducible first | assumption | apply Kept.foldl | apply Kept.foldl1 | apply Kept.foldl2 | apply wakeEvent_kept) | (simp only [Kept.mk_iff, Kept.tick_iff]) | split | intro _)

theorem execWakeSupply_kept (s : State) (x : Sector) (c : Fin 2) : ∃ u9, execWakeSupply x c s = .next u9 ∧ State.Kept s u9 := by
  have h := State.Kept.refl s
  dsimp only [execWakeSupply]
  repeat' (first | refine ⟨_, rfl, ?_⟩ | (with_reducible first | assumption | apply Kept.foldl | apply Kept.foldl1 | apply Kept.foldl2 | apply wakeEvent_kept) | (simp only [Kept.mk_iff, Kept.tick_iff]) | split | intro _)

theorem execWakeTherm_kept (s : State) (x : Sector) (c : Fin 4) : ∃ u9, execWakeTherm x c s = .next u9 ∧ State.Kept s u9 := by
  have h := State.Kept.refl s
  dsimp only [execWakeTherm]
  repeat' (first | refine ⟨_, rfl, ?_⟩ | (with_reducible first | assumption | apply Kept.foldl | apply Kept.foldl1 | apply Kept.foldl2 | apply wakeEvent_kept) | (simp only [Kept.mk_iff, Kept.tick_iff]) | split | intro _)

theorem State.wakeTimer_kept {z s : State} (h : State.Kept z s) (x : Nat) : State.Kept z (State.wakeTimer s x) := by
  dsimp only [State.wakeTimer]
  repeat' (first | (with_reducible first | assumption | apply Kept.foldl | apply Kept.foldl1 | apply Kept.foldl2 | apply wakeEvent_kept) | (simp only [Kept.mk_iff, Kept.tick_iff]) | split | intro _)

theorem execWakeTimer_kept (s : State) (x : Sector) : ∃ u9, execWakeTimer x s = .next u9 ∧ State.Kept s u9 := by
  have h := State.Kept.refl s
  dsimp only [execWakeTimer]
  repeat' (first | refine ⟨_, rfl, ?_⟩ | (with_reducible first | assumption | apply Kept.foldl | apply Kept.foldl1 | apply Kept.foldl2 | apply wakeTimer_kept) | (simp only [Kept.mk_iff, Kept.tick_iff]) | split | intro _)

theorem execWakePair_kept (s : State) (x : Sector) : ∃ u9, execWakePair x s = .next u9 ∧ State.Kept s u9 := by
  have h := State.Kept.refl s
  dsimp only [execWakePair]
  repeat' (first | refine ⟨_, rfl, ?_⟩ | (with_reducible first | assumption | apply Kept.foldl | apply Kept.foldl1 | apply Kept.foldl2 | apply wakeEvent_kept) | (simp only [Kept.mk_iff, Kept.tick_iff]) | split | intro _)

theorem State.sectorLost_kept {z s : State} (h : State.Kept z s) (x : Nat) : State.Kept z (State.sectorLost s x) := by
  dsimp only [State.sectorLost]
  repeat' (first | (with_reducible first | assumption | apply Kept.foldl | apply Kept.foldl1 | apply Kept.foldl2 | apply stopLost_kept | apply emptyCache_kept) | (simp only [Kept.mk_iff, Kept.tick_iff]) | split | intro _)

theorem State.powerEntry_kept {z s : State} (h : State.Kept z s) (x a b : Nat) (wake : Bool) : State.Kept z (State.powerEntry s x a b wake) := by
  dsimp only [State.powerEntry]
  repeat' (first | (with_reducible first | assumption | apply Kept.foldl | apply Kept.foldl1 | apply Kept.foldl2 | apply sillage_kept) | (simp only [Kept.mk_iff, Kept.tick_iff]) | split | intro _)

theorem State.transitionDone_kept {z s : State} (h : State.Kept z s) (x : Nat) : State.Kept z (State.transitionDone s x) := by
  dsimp only [State.transitionDone]
  repeat' (first | (with_reducible first | assumption | apply Kept.foldl | apply Kept.foldl1 | apply Kept.foldl2 | apply fset_kept | apply unsyncAll_kept | apply metersFresh_kept | apply gateAdvance_kept | apply wakeCaches_kept | apply pwrCmdAll_kept | apply startWake_kept | apply takeTarget_kept | apply sectorLost_kept | apply powerEntry_kept) | (simp only [Kept.mk_iff, Kept.tick_iff]) | split | intro _)

theorem execTransitionDone_kept (s : State) (x : Sector) : ∃ u9, execTransitionDone x s = .next u9 ∧ State.Kept s u9 := by
  have h := State.Kept.refl s
  dsimp only [execTransitionDone]
  repeat' (first | refine ⟨_, rfl, ?_⟩ | (with_reducible first | assumption | apply Kept.foldl | apply Kept.foldl1 | apply Kept.foldl2 | apply transitionDone_kept) | (simp only [Kept.mk_iff, Kept.tick_iff]) | split | intro _)

theorem execSvokAsserted_kept (s : State) (x : Sector) : ∃ u9, execSvokAsserted x s = .next u9 ∧ State.Kept s u9 := by
  have h := State.Kept.refl s
  dsimp only [execSvokAsserted]
  repeat' (first | refine ⟨_, rfl, ?_⟩ | (with_reducible first | assumption | apply Kept.foldl | apply Kept.foldl1 | apply Kept.foldl2) | (simp only [Kept.mk_iff, Kept.tick_iff]) | split | intro _)

theorem State.spinePwr_kept {z s : State} (h : State.Kept z s) (w : Word) : State.Kept z (State.spinePwr s w) := by
  dsimp only [State.spinePwr]
  repeat' (first | (with_reducible first | assumption | apply Kept.foldl | apply Kept.foldl1 | apply Kept.foldl2 | apply fset_kept | apply fput_kept) | (simp only [Kept.mk_iff, Kept.tick_iff]) | split | intro _)

theorem State.corePwr_kept {z s : State} (h : State.Kept z s) (w : Word) : State.Kept z (State.corePwr s w) := by
  dsimp only [State.corePwr]
  repeat' (first | (with_reducible first | assumption | apply Kept.foldl | apply Kept.foldl1 | apply Kept.foldl2 | apply fset_kept | apply fput_kept) | (simp only [Kept.mk_iff, Kept.tick_iff]) | split | intro _)

theorem State.pwrSettle_kept {z s : State} (h : State.Kept z s)  : State.Kept z (State.pwrSettle s) := by
  dsimp only [State.pwrSettle]
  repeat' (first | (with_reducible first | assumption | apply Kept.foldl | apply Kept.foldl1 | apply Kept.foldl2 | apply fset_kept | apply fput_kept | apply sillage_kept) | (simp only [Kept.mk_iff, Kept.tick_iff]) | split | intro _)

theorem execSpinePwrWrite_kept (s : State) (w : Word) : ∃ u9, execSpinePwrWrite w s = .next u9 ∧ State.Kept s u9 := by
  have h := State.Kept.refl s
  dsimp only [execSpinePwrWrite]
  repeat' (first | refine ⟨_, rfl, ?_⟩ | (with_reducible first | assumption | apply Kept.foldl | apply Kept.foldl1 | apply Kept.foldl2 | apply touch_kept | apply spinePwr_kept) | (simp only [Kept.mk_iff, Kept.tick_iff]) | split | intro _)

theorem execCorePwrWrite_kept (s : State) (w : Word) : ∃ u9, execCorePwrWrite w s = .next u9 ∧ State.Kept s u9 := by
  have h := State.Kept.refl s
  dsimp only [execCorePwrWrite]
  repeat' (first | refine ⟨_, rfl, ?_⟩ | (with_reducible first | assumption | apply Kept.foldl | apply Kept.foldl1 | apply Kept.foldl2 | apply touch_kept | apply corePwr_kept) | (simp only [Kept.mk_iff, Kept.tick_iff]) | split | intro _)

theorem State.takePhases_kept {z s : State} (h : State.Kept z s) (ph budget : Nat) : State.Kept z (State.takePhases s ph budget).1 := by
  dsimp only [State.takePhases]
  repeat' (first | (with_reducible first | assumption | apply Kept.foldl | apply Kept.foldl1 | apply Kept.foldl2 | apply fset_kept | apply fsat_kept) | (simp only [Kept.mk_iff, Kept.tick_iff]) | split | intro _)

theorem State.sendLsg_kept {z s : State} (h : State.Kept z s) (cap ball : Tbl Nat) : State.Kept z (State.sendLsg s cap ball) := by
  dsimp only [State.sendLsg]
  repeat' (first | (with_reducible first | assumption | apply Kept.foldl | apply Kept.foldl1 | apply Kept.foldl2 | apply send_kept) | (simp only [Kept.mk_iff, Kept.tick_iff]) | split | intro _)

theorem State.governor_kept {z s : State} (h : State.Kept z s)  : State.Kept z (State.governor s) := by
  dsimp only [State.governor]
  repeat' (first | (with_reducible first | assumption | apply Kept.foldl | apply Kept.foldl1 | apply Kept.foldl2 | apply fset_kept | apply fput_kept | apply rcInc_kept | apply record_kept | apply takePhases_kept | apply sendLsg_kept) | (simp only [Kept.mk_iff, Kept.tick_iff]) | split | intro _)

theorem execGovernorInterval_kept (s : State)  : ∃ u9, execGovernorInterval s = .next u9 ∧ State.Kept s u9 := by
  have h := State.Kept.refl s
  dsimp only [execGovernorInterval]
  repeat' (first | refine ⟨_, rfl, ?_⟩ | (with_reducible first | assumption | apply Kept.foldl | apply Kept.foldl1 | apply Kept.foldl2 | apply governor_kept) | (simp only [Kept.mk_iff, Kept.tick_iff]) | split | intro _)

theorem execLsgSet_kept (s : State) (n : Stop) (m : Msg) : ∃ u9, execLsgSet n m s = .next u9 ∧ State.Kept s u9 := by
  have h := State.Kept.refl s
  dsimp only [execLsgSet]
  repeat' (first | refine ⟨_, rfl, ?_⟩ | (with_reducible first | assumption | apply Kept.foldl | apply Kept.foldl1 | apply Kept.foldl2 | apply take_kept | apply msgBad_kept) | (simp only [Kept.mk_iff, Kept.tick_iff]) | split | intro _)

end Sys2Proof.Machine
end

