-- ==== Sys2Proof/Laws/KeptPort.lean ====
section
/-! SUPPORT. The operations of Port.lean keep the queue and the canonical register file. -/

set_option linter.unusedSimpArgs false

namespace Sys2Proof.Machine

open State

theorem State.setRx_kept {z s : State} (h : State.Kept z s) (k l p : Nat) (q : List RxTlp) : State.Kept z (State.setRx s k l p q) := by
  dsimp only [State.setRx]
  repeat' (first | (with_reducible first | assumption | apply Kept.foldl | apply Kept.foldl1 | apply Kept.foldl2) | (simp only [Kept.mk_iff, Kept.tick_iff]) | split | intro _)

theorem State.xoffPart_kept {z s : State} (h : State.Kept z s) (k l p : Nat) : State.Kept z (State.xoffPart s k l p) := by
  dsimp only [State.xoffPart]
  repeat' (first | (with_reducible first | assumption | apply Kept.foldl | apply Kept.foldl1 | apply Kept.foldl2 | apply fset_kept) | (simp only [Kept.mk_iff, Kept.tick_iff]) | split | intro _)

theorem State.xoffAll_kept {z s : State} (h : State.Kept z s) (k : Nat) : State.Kept z (State.xoffAll s k) := by
  dsimp only [State.xoffAll]
  repeat' (first | (with_reducible first | assumption | apply Kept.foldl | apply Kept.foldl1 | apply Kept.foldl2 | apply xoffPart_kept) | (simp only [Kept.mk_iff, Kept.tick_iff]) | split | intro _)

theorem State.urAnswer_kept {z s : State} (h : State.Kept z s) (k l sgid : Nat) (hh : TlpHead) : State.Kept z (State.urAnswer s k l sgid hh) := by
  dsimp only [State.urAnswer]
  repeat' (first | (with_reducible first | assumption | apply Kept.foldl | apply Kept.foldl1 | apply Kept.foldl2 | apply rcInc_kept | apply toEgress_kept | apply discardFlit_kept) | (simp only [Kept.mk_iff, Kept.tick_iff]) | split | intro _)

theorem State.ingReport_kept {z s : State} (h : State.Kept z s) (k l reason sgid raw : Nat) : State.Kept z (State.ingReport s k l reason sgid raw) := by
  dsimp only [State.ingReport]
  repeat' (first | (with_reducible first | assumption | apply Kept.foldl | apply Kept.foldl1 | apply Kept.foldl2 | apply sendErq_kept) | (simp only [Kept.mk_iff, Kept.tick_iff]) | split | intro _)

theorem State.ingReject_kept {z s : State} (h : State.Kept z s) (k l reason sgid : Nat) (t : Tlp) (inj : Bool) : State.Kept z (State.ingReject s k l reason sgid t inj) := by
  dsimp only [State.ingReject]
  repeat' (first | (with_reducible first | assumption | apply Kept.foldl | apply Kept.foldl1 | apply Kept.foldl2 | apply rcInc_kept | apply record_kept | apply urAnswer_kept | apply ingReport_kept) | (simp only [Kept.mk_iff, Kept.tick_iff]) | split | intro _)

theorem State.lookFor_kept {z s : State} (h : State.Kept z s) (k l : Nat) (y : RxTlp) : State.Kept z (State.lookFor s k l y).1 := by
  dsimp only [State.lookFor]
  repeat' (first | (with_reducible first | assumption | apply Kept.foldl | apply Kept.foldl1 | apply Kept.foldl2 | apply lookUp_kept) | (simp only [Kept.mk_iff, Kept.tick_iff]) | split | intro _)

theorem State.lookAll_kept {z s : State} (h : State.Kept z s) (k l p : Nat) : State.Kept z (State.lookAll s k l p) := by
  dsimp only [State.lookAll]
  repeat' (first | (with_reducible first | assumption | apply Kept.foldl | apply Kept.foldl1 | apply Kept.foldl2 | apply take_kept | apply setRx_kept | apply lookFor_kept) | (simp only [Kept.mk_iff, Kept.tick_iff]) | split | intro _)

theorem State.postedReject_kept {z s : State} (h : State.Kept z s) (k l : Nat) (hh : TlpHead) : State.Kept z (State.postedReject s k l hh) := by
  dsimp only [State.postedReject]
  repeat' (first | (with_reducible first | assumption | apply Kept.foldl | apply Kept.foldl1 | apply Kept.foldl2 | apply rcInc_kept | apply record_kept | apply sendErq_kept) | (simp only [Kept.mk_iff, Kept.tick_iff]) | split | intro _)

theorem State.cplPassed_kept {z s : State} (h : State.Kept z s) (k l : Nat) (hh : TlpHead) : State.Kept z (State.cplPassed s k l hh) := by
  dsimp only [State.cplPassed]
  repeat' (first | (with_reducible first | assumption | apply Kept.foldl | apply Kept.foldl1 | apply Kept.foldl2 | apply fput_kept | apply setEgr_kept) | (simp only [Kept.mk_iff, Kept.tick_iff]) | split | intro _)

theorem State.emuCpl_kept {z s : State} (h : State.Kept z s) (k l : Nat) (t : Tlp) : State.Kept z (State.emuCpl s k l t) := by
  dsimp only [State.emuCpl]
  repeat' (first | (with_reducible first | assumption | apply Kept.foldl | apply Kept.foldl1 | apply Kept.foldl2) | (simp only [Kept.mk_iff, Kept.tick_iff]) | split | intro _)

theorem State.ingressCheck_kept {z s : State} (h : State.Kept z s) (k l p : Nat) : State.Kept z (State.ingressCheck s k l p) := by
  dsimp only [State.ingressCheck]
  repeat' (first | (with_reducible first | assumption | apply Kept.foldl | apply Kept.foldl1 | apply Kept.foldl2 | apply rcInc_kept | apply submit_kept | apply setRx_kept | apply xoffAll_kept | apply ingReject_kept | apply lookAll_kept | apply postedReject_kept | apply cplPassed_kept | apply emuCpl_kept) | (simp only [Kept.mk_iff, Kept.tick_iff]) | split | intro _)

theorem State.rejectWork_kept {z s : State} (h : State.Kept z s) (k reason : Nat) (p : FormReq → Bool) : State.Kept z (State.rejectWork s k reason p) := by
  dsimp only [State.rejectWork]
  repeat' (first | (with_reducible first | assumption | apply Kept.foldl | apply Kept.foldl1 | apply Kept.foldl2 | apply setFormQ_kept | apply xoffAll_kept | apply ingReject_kept) | (simp only [Kept.mk_iff, Kept.tick_iff]) | split | intro _)

theorem State.formCounts_kept {z s : State} (h : State.Kept z s) (k : Nat) (r : FormReq) : State.Kept z (State.formCounts s k r) := by
  dsimp only [State.formCounts]
  repeat' (first | (with_reducible first | assumption | apply Kept.foldl | apply Kept.foldl1 | apply Kept.foldl2 | apply countTlp_kept | apply xoffAll_kept) | (simp only [Kept.mk_iff, Kept.tick_iff]) | split | intro _)

theorem State.formNext_kept {z s : State} (h : State.Kept z s) (k : Nat) : State.Kept z (State.formNext s k) := by
  dsimp only [State.formNext]
  repeat' (first | (with_reducible first | assumption | apply Kept.foldl | apply Kept.foldl1 | apply Kept.foldl2 | apply transactionFormed_kept | apply formCounts_kept) | (simp only [Kept.mk_iff, Kept.tick_iff]) | split | intro _)

theorem State.setHeld_kept {z s : State} (h : State.Kept z s) (u : Nat) (hh : Option LciHeld) : State.Kept z (State.setHeld s u hh) := by
  dsimp only [State.setHeld]
  repeat' (first | (with_reducible first | assumption | apply Kept.foldl | apply Kept.foldl1 | apply Kept.foldl2) | (simp only [Kept.mk_iff, Kept.tick_iff]) | split | intro _)

theorem State.fiTlpFire_kept {z s : State} (h : State.Kept z s) (k u : Nat) (t : Tlp) : State.Kept z (State.fiTlpFire s k u t).2 := by
  dsimp only [State.fiTlpFire]
  repeat' (first | (with_reducible first | assumption | apply Kept.foldl | apply Kept.foldl1 | apply Kept.foldl2 | apply setHeld_kept) | (simp only [Kept.mk_iff, Kept.tick_iff]) | split | intro _)

theorem State.fiLci_kept {z s : State} (h : State.Kept z s) (k l d : Nat) (t : Tlp) : State.Kept z (State.fiLci s k l d t).2 := by
  dsimp only [State.fiLci]
  repeat' (first | (with_reducible first | assumption | apply Kept.foldl | apply Kept.foldl1 | apply Kept.foldl2 | apply fiSee_kept | apply setHeld_kept | apply fiTlpFire_kept) | (simp only [Kept.mk_iff, Kept.tick_iff]) | split | intro _)

theorem State.rxEnter_kept {z s : State} (h : State.Kept z s) (k l : Nat) (t : Tlp) (inj : Bool) : State.Kept z (State.rxEnter s k l t inj) := by
  dsimp only [State.rxEnter]
  repeat' (first | (with_reducible first | assumption | apply Kept.foldl | apply Kept.foldl1 | apply Kept.foldl2 | apply rcInc_kept | apply record_kept | apply setRx_kept | apply xoffPart_kept | apply ingReject_kept) | (simp only [Kept.mk_iff, Kept.tick_iff]) | split | intro _)

theorem State.lciProto_kept {z s : State} (h : State.Kept z s) (k l ev : Nat) (rec : Bool) : State.Kept z (State.lciProto s k l ev rec) := by
  dsimp only [State.lciProto]
  repeat' (first | (with_reducible first | assumption | apply Kept.foldl | apply Kept.foldl1 | apply Kept.foldl2 | apply rcInc_kept | apply record_kept) | (simp only [Kept.mk_iff, Kept.tick_iff]) | split | intro _)

theorem State.tlpReceived_kept {z s : State} (h : State.Kept z s) (k l : Nat) (t : Tlp) : State.Kept z (State.tlpReceived s k l t) := by
  dsimp only [State.tlpReceived]
  repeat' (first | (with_reducible first | assumption | apply Kept.foldl | apply Kept.foldl1 | apply Kept.foldl2 | apply fiLci_kept | apply rxEnter_kept | apply lciProto_kept) | (simp only [Kept.mk_iff, Kept.tick_iff]) | split | intro _)

theorem execTlpReceived_kept (s : State) (k : Stop) (l : Link) (t : Tlp) : ∃ u9, execTlpReceived k l t s = .next u9 ∧ State.Kept s u9 := by
  have h := State.Kept.refl s
  dsimp only [execTlpReceived]
  repeat' (first | refine ⟨_, rfl, ?_⟩ | (with_reducible first | assumption | apply Kept.foldl | apply Kept.foldl1 | apply Kept.foldl2 | apply tlpReceived_kept) | (simp only [Kept.mk_iff, Kept.tick_iff]) | split | intro _)

theorem execIngressCheck_kept (s : State) (k : Stop) (l : Link) (p : Fin 3) : ∃ u9, execIngressCheck k l p s = .next u9 ∧ State.Kept s u9 := by
  have h := State.Kept.refl s
  dsimp only [execIngressCheck]
  repeat' (first | refine ⟨_, rfl, ?_⟩ | (with_reducible first | assumption | apply Kept.foldl | apply Kept.foldl1 | apply Kept.foldl2 | apply ingressCheck_kept) | (simp only [Kept.mk_iff, Kept.tick_iff]) | split | intro _)

theorem execTransactionFormed_kept (s : State) (k : Stop) : ∃ u9, execTransactionFormed k s = .next u9 ∧ State.Kept s u9 := by
  have h := State.Kept.refl s
  dsimp only [execTransactionFormed]
  repeat' (first | refine ⟨_, rfl, ?_⟩ | (with_reducible first | assumption | apply Kept.foldl | apply Kept.foldl1 | apply Kept.foldl2 | apply formNext_kept) | (simp only [Kept.mk_iff, Kept.tick_iff]) | split | intro _)

end Sys2Proof.Machine
end

