-- ==== Sys2Proof/Laws/KeptPortOut.lean ====
section
/-! SUPPORT. The operations of PortOut.lean keep the queue and the canonical register file. -/

set_option linter.unusedSimpArgs false

namespace Sys2Proof.Machine

open State

theorem State.setAsm_kept {z s : State} (h : State.Kept z s) (k l q : Nat) (x : List Egr) : State.Kept z (State.setAsm s k l q x) := by
  dsimp only [State.setAsm]
  repeat' (first | (with_reducible first | assumption | apply Kept.foldl | apply Kept.foldl1 | apply Kept.foldl2) | (simp only [Kept.mk_iff, Kept.tick_iff]) | split | intro _)

theorem State.setSpill_kept {z s : State} (h : State.Kept z s) (k l : Nat) (x : List SpillEnt) : State.Kept z (State.setSpill s k l x) := by
  dsimp only [State.setSpill]
  repeat' (first | (with_reducible first | assumption | apply Kept.foldl | apply Kept.foldl1 | apply Kept.foldl2 | apply fset_kept) | (simp only [Kept.mk_iff, Kept.tick_iff]) | split | intro _)

theorem State.setMode_kept {z s : State} (h : State.Kept z s) (k l m : Nat) : State.Kept z (State.setMode s k l m) := by
  dsimp only [State.setMode]
  repeat' (first | (with_reducible first | assumption | apply Kept.foldl | apply Kept.foldl1 | apply Kept.foldl2 | apply fput_kept) | (simp only [Kept.mk_iff, Kept.tick_iff]) | split | intro _)

theorem State.spillOne_kept {z s : State} (h : State.Kept z s) (k l q : Nat) (x : Egr) : State.Kept z (State.spillOne s k l q x) := by
  dsimp only [State.spillOne]
  repeat' (first | (with_reducible first | assumption | apply Kept.foldl | apply Kept.foldl1 | apply Kept.foldl2 | apply rcInc_kept | apply ownWrite_kept | apply setSpill_kept) | (simp only [Kept.mk_iff, Kept.tick_iff]) | split | intro _)

theorem State.spillOut_kept {z s : State} (h : State.Kept z s) (k l : Nat) (n : Nat) : State.Kept z (State.spillOut s k l n) := by
  induction n generalizing s with
  | zero =>
    dsimp only [State.spillOut]
    repeat' (first | (with_reducible first | assumption | apply Kept.foldl | apply Kept.foldl1 | apply Kept.foldl2 | apply intSet_kept | apply rcInc_kept | apply record_kept | apply setEgr_kept | apply spillOne_kept) | (simp only [Kept.mk_iff, Kept.tick_iff]) | split | intro _)
  | succ n ih =>
    dsimp only [State.spillOut]
    repeat' (first | with_reducible (apply ih) | (with_reducible first | assumption | apply Kept.foldl | apply Kept.foldl1 | apply Kept.foldl2 | apply intSet_kept | apply rcInc_kept | apply record_kept | apply setEgr_kept | apply spillOne_kept) | (simp only [Kept.mk_iff, Kept.tick_iff]) | split | intro _)

theorem State.spillAll_kept {z s : State} (h : State.Kept z s) (k l : Nat) : State.Kept z (State.spillAll s k l) := by
  dsimp only [State.spillAll]
  repeat' (first | (with_reducible first | assumption | apply Kept.foldl | apply Kept.foldl1 | apply Kept.foldl2 | apply spillOut_kept) | (simp only [Kept.mk_iff, Kept.tick_iff]) | split | intro _)

theorem State.spillSettle_kept {z s : State} (h : State.Kept z s) (k l : Nat) : State.Kept z (State.spillSettle s k l) := by
  dsimp only [State.spillSettle]
  repeat' (first | (with_reducible first | assumption | apply Kept.foldl | apply Kept.foldl1 | apply Kept.foldl2 | apply setMode_kept) | (simp only [Kept.mk_iff, Kept.tick_iff]) | split | intro _)

theorem State.spillAge_kept {z s : State} (h : State.Kept z s) (k l : Nat) : State.Kept z (State.spillAge s k l) := by
  dsimp only [State.spillAge]
  repeat' (first | (with_reducible first | assumption | apply Kept.foldl | apply Kept.foldl1 | apply Kept.foldl2 | apply setMode_kept | apply spillAll_kept) | (simp only [Kept.mk_iff, Kept.tick_iff]) | split | intro _)

theorem State.spillUe_kept {z s : State} (h : State.Kept z s) (k : Nat) (r : RdDone) : State.Kept z (State.spillUe s k r) := by
  dsimp only [State.spillUe]
  repeat' (first | (with_reducible first | assumption | apply Kept.foldl | apply Kept.foldl1 | apply Kept.foldl2 | apply rcInc_kept | apply memUeAt_kept) | (simp only [Kept.mk_iff, Kept.tick_iff]) | split | intro _)

theorem State.spillLanded_kept {z s : State} (h : State.Kept z s) (k l : Nat) (n : Nat) : State.Kept z (State.spillLanded s k l n) := by
  induction n generalizing s with
  | zero =>
    dsimp only [State.spillLanded]
    repeat' (first | (with_reducible first | assumption | apply Kept.foldl | apply Kept.foldl1 | apply Kept.foldl2 | refine takeDone_kept ?_ _ _ (by assumption) | apply setSpill_kept | apply spillUe_kept) | (simp only [Kept.mk_iff, Kept.tick_iff]) | split | intro _)
  | succ n ih =>
    dsimp only [State.spillLanded]
    repeat' (first | with_reducible (apply ih) | (with_reducible first | assumption | apply Kept.foldl | apply Kept.foldl1 | apply Kept.foldl2 | refine takeDone_kept ?_ _ _ (by assumption) | apply setSpill_kept | apply spillUe_kept) | (simp only [Kept.mk_iff, Kept.tick_iff]) | split | intro _)

theorem State.spillReads_kept {z s : State} (h : State.Kept z s) (k l : Nat) (n : Nat) : State.Kept z (State.spillReads s k l n) := by
  induction n generalizing s with
  | zero =>
    dsimp only [State.spillReads]
    repeat' (first | (with_reducible first | assumption | apply Kept.foldl | apply Kept.foldl1 | apply Kept.foldl2 | apply ownRead_kept | apply setSpill_kept) | (simp only [Kept.mk_iff, Kept.tick_iff]) | split | intro _)
  | succ n ih =>
    dsimp only [State.spillReads]
    repeat' (first | with_reducible (apply ih) | (with_reducible first | assumption | apply Kept.foldl | apply Kept.foldl1 | apply Kept.foldl2 | apply ownRead_kept | apply setSpill_kept) | (simp only [Kept.mk_iff, Kept.tick_iff]) | split | intro _)

theorem State.spillReadback_kept {z s : State} (h : State.Kept z s) (k l : Nat) : State.Kept z (State.spillReadback s k l) := by
  dsimp only [State.spillReadback]
  repeat' (first | (with_reducible first | assumption | apply Kept.foldl | apply Kept.foldl1 | apply Kept.foldl2 | apply spillLanded_kept | apply spillReads_kept) | (simp only [Kept.mk_iff, Kept.tick_iff]) | split | intro _)

theorem State.portPop_kept {z s : State} (h : State.Kept z s) (k l q stamp : Nat) : State.Kept z (State.portPop s k l q stamp) := by
  dsimp only [State.portPop]
  repeat' (first | (with_reducible first | assumption | apply Kept.foldl | apply Kept.foldl1 | apply Kept.foldl2 | apply setEgr_kept | apply setSpill_kept | apply spillSettle_kept) | (simp only [Kept.mk_iff, Kept.tick_iff]) | split | intro _)

theorem State.releaseLock_kept {z s : State} (h : State.Kept z s) (k l : Nat) : State.Kept z (State.releaseLock s k l) := by
  dsimp only [State.releaseLock]
  repeat' (first | (with_reducible first | assumption | apply Kept.foldl | apply Kept.foldl1 | apply Kept.foldl2 | apply fput_kept | apply setEgr_kept) | (simp only [Kept.mk_iff, Kept.tick_iff]) | split | intro _)

theorem State.takeLock_kept {z s : State} (h : State.Kept z s) (k l : Nat) (f : Flit) (emu : Bool) : State.Kept z (State.takeLock s k l f emu) := by
  dsimp only [State.takeLock]
  repeat' (first | (with_reducible first | assumption | apply Kept.foldl | apply Kept.foldl1 | apply Kept.foldl2 | apply fput_kept) | (simp only [Kept.mk_iff, Kept.tick_iff]) | split | intro _)

theorem State.forceUnlock_kept {z s : State} (h : State.Kept z s) (k l : Nat) : State.Kept z (State.forceUnlock s k l) := by
  dsimp only [State.forceUnlock]
  repeat' (first | (with_reducible first | assumption | apply Kept.foldl | apply Kept.foldl1 | apply Kept.foldl2 | apply toEgress_kept | apply releaseLock_kept) | (simp only [Kept.mk_iff, Kept.tick_iff]) | split | intro _)

theorem State.deferHeads_kept {z s : State} (h : State.Kept z s) (k l : Nat) (n : Nat) : State.Kept z (State.deferHeads s k l n) := by
  induction n generalizing s with
  | zero =>
    dsimp only [State.deferHeads]
    repeat' (first | (with_reducible first | assumption | apply Kept.foldl | apply Kept.foldl1 | apply Kept.foldl2 | apply rcInc_kept | apply portPop_kept) | (simp only [Kept.mk_iff, Kept.tick_iff]) | split | intro _)
  | succ n ih =>
    dsimp only [State.deferHeads]
    repeat' (first | with_reducible (apply ih) | (with_reducible first | assumption | apply Kept.foldl | apply Kept.foldl1 | apply Kept.foldl2 | apply rcInc_kept | apply portPop_kept) | (simp only [Kept.mk_iff, Kept.tick_iff]) | split | intro _)

theorem State.lockTimeout_kept {z s : State} (h : State.Kept z s) (k l : Nat) : State.Kept z (State.lockTimeout s k l) := by
  dsimp only [State.lockTimeout]
  repeat' (first | (with_reducible first | assumption | apply Kept.foldl | apply Kept.foldl1 | apply Kept.foldl2 | apply rcInc_kept | apply record_kept | apply forceUnlock_kept) | (simp only [Kept.mk_iff, Kept.tick_iff]) | split | intro _)

theorem State.txUse_kept {z s : State} (h : State.Kept z s) (k l q : Nat) (t : Tlp) : State.Kept z (State.txUse s k l q t) := by
  dsimp only [State.txUse]
  repeat' (first | (with_reducible first | assumption | apply Kept.foldl | apply Kept.foldl1 | apply Kept.foldl2) | (simp only [Kept.mk_iff, Kept.tick_iff]) | split | intro _)

theorem State.txCross_kept {z s : State} (h : State.Kept z s) (k l : Nat) (t : Tlp) : State.Kept z (State.txCross s k l t) := by
  dsimp only [State.txCross]
  repeat' (first | (with_reducible first | assumption | apply Kept.foldl | apply Kept.foldl1 | apply Kept.foldl2) | (simp only [Kept.mk_iff, Kept.tick_iff]) | split | intro _)

theorem State.txHand_kept {z s : State} (h : State.Kept z s) (k l q : Nat) (t : Tlp) : State.Kept z (State.txHand s k l q t) := by
  dsimp only [State.txHand]
  repeat' (first | (with_reducible first | assumption | apply Kept.foldl | apply Kept.foldl1 | apply Kept.foldl2 | apply fiLci_kept | apply txUse_kept | apply txCross_kept) | (simp only [Kept.mk_iff, Kept.tick_iff]) | split | intro _)

theorem State.txCounts_kept {z s : State} (h : State.Kept z s) (k l : Nat) (xs : List Egr) : State.Kept z (State.txCounts s k l xs) := by
  dsimp only [State.txCounts]
  repeat' (first | (with_reducible first | assumption | apply Kept.foldl | apply Kept.foldl1 | apply Kept.foldl2 | apply rcInc_kept | apply countTlp_kept) | (simp only [Kept.mk_iff, Kept.tick_iff]) | split | intro _)

theorem State.useOutTag_kept {z s : State} (h : State.Kept z s) (k l t : Nat) : State.Kept z (State.useOutTag s k l t) := by
  dsimp only [State.useOutTag]
  repeat' (first | (with_reducible first | assumption | apply Kept.foldl | apply Kept.foldl1 | apply Kept.foldl2) | (simp only [Kept.mk_iff, Kept.tick_iff]) | split | intro _)

theorem State.addRec_kept {z s : State} (h : State.Kept z s) (k l t : Nat) (x : Egr) : State.Kept z (State.addRec s k l t x) := by
  dsimp only [State.addRec]
  repeat' (first | (with_reducible first | assumption | apply Kept.foldl | apply Kept.foldl1 | apply Kept.foldl2) | (simp only [Kept.mk_iff, Kept.tick_iff]) | split | intro _)

theorem State.addHist_kept {z s : State} (h : State.Kept z s) (k l : Nat) (f : Flit) : State.Kept z (State.addHist s k l f) := by
  dsimp only [State.addHist]
  repeat' (first | (with_reducible first | assumption | apply Kept.foldl | apply Kept.foldl1 | apply Kept.foldl2 | apply take_kept) | (simp only [Kept.mk_iff, Kept.tick_iff]) | split | intro _)

theorem State.txTxn_kept {z s : State} (h : State.Kept z s) (k l q : Nat) (xs : List Egr) (x : Egr) : State.Kept z (State.txTxn s k l q xs x) := by
  dsimp only [State.txTxn]
  repeat' (first | (with_reducible first | assumption | apply Kept.foldl | apply Kept.foldl1 | apply Kept.foldl2 | apply takeLock_kept | apply txHand_kept | apply txCounts_kept | apply useOutTag_kept | apply addRec_kept | apply addHist_kept) | (simp only [Kept.mk_iff, Kept.tick_iff]) | split | intro _)

theorem State.emuStart_kept {z s : State} (h : State.Kept z s) (k l : Nat) (x : Egr) (tag : Nat) : State.Kept z (State.emuStart s k l x tag) := by
  dsimp only [State.emuStart]
  repeat' (first | (with_reducible first | assumption | apply Kept.foldl | apply Kept.foldl1 | apply Kept.foldl2 | apply rcInc_kept | apply takeLock_kept | apply txHand_kept | apply txCounts_kept | apply useOutTag_kept) | (simp only [Kept.mk_iff, Kept.tick_iff]) | split | intro _)

theorem State.emuEnd_kept {z s : State} (h : State.Kept z s) (k l : Nat) (m : Emu) (status : Nat) (pois : Bool) : State.Kept z (State.emuEnd s k l m status pois) := by
  dsimp only [State.emuEnd]
  repeat' (first | (with_reducible first | assumption | apply Kept.foldl | apply Kept.foldl1 | apply Kept.foldl2 | apply answerData_kept | apply answerStatus_kept | apply releaseLock_kept) | (simp only [Kept.mk_iff, Kept.tick_iff]) | split | intro _)

theorem State.emuReadDone_kept {z s : State} (h : State.Kept z s) (k l : Nat) : State.Kept z (State.emuReadDone s k l) := by
  dsimp only [State.emuReadDone]
  repeat' (first | (with_reducible first | assumption | apply Kept.foldl | apply Kept.foldl1 | apply Kept.foldl2 | apply emuEnd_kept) | (simp only [Kept.mk_iff, Kept.tick_iff]) | split | intro _)

theorem State.emuWrite_kept {z s u9 : State} (h : State.Kept z s) (k l : Nat) (he : State.emuWrite s k l = some u9) : State.Kept z u9 := by
  revert he
  dsimp only [State.emuWrite]
  repeat' (first | (with_reducible first | refine Kept.of_some ?_ | refine Kept.of_none | refine Kept.of_pair ?_) | (with_reducible first | assumption | apply Kept.foldl | apply Kept.foldl1 | apply Kept.foldl2 | apply txHand_kept | apply txCounts_kept | apply addHist_kept | apply emuEnd_kept) | (simp only [Kept.mk_iff, Kept.tick_iff]) | split | intro _)

theorem State.strayUnlock_kept {z s : State} (h : State.Kept z s) (k l : Nat) (x : Egr) : State.Kept z (State.strayUnlock s k l x) := by
  dsimp only [State.strayUnlock]
  repeat' (first | (with_reducible first | assumption | apply Kept.foldl | apply Kept.foldl1 | apply Kept.foldl2 | apply freeEgr_kept | apply ingReject_kept | apply portPop_kept) | (simp only [Kept.mk_iff, Kept.tick_iff]) | split | intro _)

theorem State.dropQueued_kept {z s : State} (h : State.Kept z s) (k l : Nat) : State.Kept z (State.dropQueued s k l) := by
  dsimp only [State.dropQueued]
  repeat' (first | (with_reducible first | assumption | apply Kept.foldl | apply Kept.foldl1 | apply Kept.foldl2 | apply setEgr_kept | apply discardFlit_kept | apply freeEgr_kept) | (simp only [Kept.mk_iff, Kept.tick_iff]) | split | intro _)

theorem State.dropBroken_kept {z s : State} (h : State.Kept z s) (k l q : Nat) : State.Kept z (State.dropBroken s k l q) := by
  dsimp only [State.dropBroken]
  repeat' (first | (with_reducible first | assumption | apply Kept.foldl | apply Kept.foldl1 | apply Kept.foldl2 | apply discardFlit_kept | apply freeEgr_kept | apply setAsm_kept | apply portPop_kept) | (simp only [Kept.mk_iff, Kept.tick_iff]) | split | intro _)

theorem State.portLeave_kept {z s : State} (h : State.Kept z s) (k l q : Nat) (x : Egr) : State.Kept z (State.portLeave s k l q x) := by
  dsimp only [State.portLeave]
  repeat' (first | (with_reducible first | assumption | apply Kept.foldl | apply Kept.foldl1 | apply Kept.foldl2 | apply freeEgr_kept | apply setAsm_kept | apply portPop_kept | apply txTxn_kept) | (simp only [Kept.mk_iff, Kept.tick_iff]) | split | intro _)

theorem State.portSend_kept {z s : State} (h : State.Kept z s) (k l : Nat) : State.Kept z (State.portSend s k l) := by
  dsimp only [State.portSend]
  repeat' (first | (with_reducible first | assumption | apply Kept.foldl | apply Kept.foldl1 | apply Kept.foldl2 | apply freeEgr_kept | apply spillAll_kept | apply spillSettle_kept | apply portPop_kept | apply releaseLock_kept | apply deferHeads_kept | apply emuStart_kept | refine emuWrite_kept ?_ _ _ (by assumption) | apply strayUnlock_kept | apply dropQueued_kept | apply dropBroken_kept | apply portLeave_kept) | (simp only [Kept.mk_iff, Kept.tick_iff]) | split | intro _)

theorem execTxCreditUpdate_kept (s : State) (k : Stop) (l : Link) (p : Fin 3) (n : BitVec 16) : ∃ u9, execTxCreditUpdate k l p n s = .next u9 ∧ State.Kept s u9 := by
  have h := State.Kept.refl s
  dsimp only [execTxCreditUpdate]
  repeat' (first | refine ⟨_, rfl, ?_⟩ | (with_reducible first | assumption | apply Kept.foldl | apply Kept.foldl1 | apply Kept.foldl2) | (simp only [Kept.mk_iff, Kept.tick_iff]) | split | intro _)

theorem execStallChange_kept (s : State) (k : Stop) (l : Link) (level : Bool) : ∃ u9, execStallChange k l level s = .next u9 ∧ State.Kept s u9 := by
  have h := State.Kept.refl s
  dsimp only [execStallChange]
  repeat' (first | refine ⟨_, rfl, ?_⟩ | (with_reducible first | assumption | apply Kept.foldl | apply Kept.foldl1 | apply Kept.foldl2) | (simp only [Kept.mk_iff, Kept.tick_iff]) | split | intro _)

theorem execSpillAge_kept (s : State) (k : Stop) (l : Link) : ∃ u9, execSpillAge k l s = .next u9 ∧ State.Kept s u9 := by
  have h := State.Kept.refl s
  dsimp only [execSpillAge]
  repeat' (first | refine ⟨_, rfl, ?_⟩ | (with_reducible first | assumption | apply Kept.foldl | apply Kept.foldl1 | apply Kept.foldl2 | apply spillAge_kept) | (simp only [Kept.mk_iff, Kept.tick_iff]) | split | intro _)

theorem execSpillReadback_kept (s : State) (k : Stop) (l : Link) : ∃ u9, execSpillReadback k l s = .next u9 ∧ State.Kept s u9 := by
  have h := State.Kept.refl s
  dsimp only [execSpillReadback]
  repeat' (first | refine ⟨_, rfl, ?_⟩ | (with_reducible first | assumption | apply Kept.foldl | apply Kept.foldl1 | apply Kept.foldl2 | apply spillReadback_kept) | (simp only [Kept.mk_iff, Kept.tick_iff]) | split | intro _)

theorem execLockTimeout_kept (s : State) (k : Stop) (l : Link) : ∃ u9, execLockTimeout k l s = .next u9 ∧ State.Kept s u9 := by
  have h := State.Kept.refl s
  dsimp only [execLockTimeout]
  repeat' (first | refine ⟨_, rfl, ?_⟩ | (with_reducible first | assumption | apply Kept.foldl | apply Kept.foldl1 | apply Kept.foldl2 | apply lockTimeout_kept) | (simp only [Kept.mk_iff, Kept.tick_iff]) | split | intro _)

theorem execAtomEmuReadDone_kept (s : State) (k : Stop) (l : Link) : ∃ u9, execAtomEmuReadDone k l s = .next u9 ∧ State.Kept s u9 := by
  have h := State.Kept.refl s
  dsimp only [execAtomEmuReadDone]
  repeat' (first | refine ⟨_, rfl, ?_⟩ | (with_reducible first | assumption | apply Kept.foldl | apply Kept.foldl1 | apply Kept.foldl2 | apply emuReadDone_kept) | (simp only [Kept.mk_iff, Kept.tick_iff]) | split | intro _)

theorem State.lciDelay_kept {z s : State} (h : State.Kept z s) (k l d : Nat) : State.Kept z (State.lciDelay s k l d) := by
  dsimp only [State.lciDelay]
  repeat' (first | (with_reducible first | assumption | apply Kept.foldl | apply Kept.foldl1 | apply Kept.foldl2 | apply setHeld_kept | apply rxEnter_kept | apply txCross_kept) | (simp only [Kept.mk_iff, Kept.tick_iff]) | split | intro _)

theorem execFiLciDelayExpire_kept (s : State) (k : Stop) (l : Link) (d : Fin 2) : ∃ u9, execFiLciDelayExpire k l d s = .next u9 ∧ State.Kept s u9 := by
  have h := State.Kept.refl s
  dsimp only [execFiLciDelayExpire]
  repeat' (first | refine ⟨_, rfl, ?_⟩ | (with_reducible first | assumption | apply Kept.foldl | apply Kept.foldl1 | apply Kept.foldl2 | apply lciDelay_kept) | (simp only [Kept.mk_iff, Kept.tick_iff]) | split | intro _)

end Sys2Proof.Machine
end

