-- ==== Sys2Proof/Laws/KeptLinks.lean ====
section
/-! SUPPORT. The operations of Links.lean keep the queue and the canonical register file. -/

set_option linter.unusedSimpArgs false

namespace Sys2Proof.Machine

open State

theorem State.sendNotice_kept {z s : State} (h : State.Kept z s) (k l op nn : Nat) : State.Kept z (State.sendNotice s k l op nn) := by
  dsimp only [State.sendNotice]
  repeat' (first | (with_reducible first | assumption | apply Kept.foldl | apply Kept.foldl1 | apply Kept.foldl2 | apply bcast_kept) | (simp only [Kept.mk_iff, Kept.tick_iff]) | split | intro _)

theorem State.newNotice_kept {z s : State} (h : State.Kept z s) (k l op : Nat) : State.Kept z (State.newNotice s k l op) := by
  dsimp only [State.newNotice]
  repeat' (first | (with_reducible first | assumption | apply Kept.foldl | apply Kept.foldl1 | apply Kept.foldl2 | apply fset_kept | apply sendNotice_kept) | (simp only [Kept.mk_iff, Kept.tick_iff]) | split | intro _)

theorem State.noticeRepeat_kept {z s : State} (h : State.Kept z s) (k l : Nat) : State.Kept z (State.noticeRepeat s k l) := by
  dsimp only [State.noticeRepeat]
  repeat' (first | (with_reducible first | assumption | apply Kept.foldl | apply Kept.foldl1 | apply Kept.foldl2 | apply sendNotice_kept) | (simp only [Kept.mk_iff, Kept.tick_iff]) | split | intro _)

theorem State.noticeIn_kept {z s : State} (h : State.Kept z s) (n : Nat) (m : Msg) : State.Kept z (State.noticeIn s n m) := by
  dsimp only [State.noticeIn]
  repeat' (first | (with_reducible first | assumption | apply Kept.foldl | apply Kept.foldl1 | apply Kept.foldl2) | (simp only [Kept.mk_iff, Kept.tick_iff]) | split | intro _)

theorem State.noticeTag_kept {z s : State} (h : State.Kept z s) (k t op : Nat) : State.Kept z (State.noticeTag s k t op) := by
  dsimp only [State.noticeTag]
  repeat' (first | (with_reducible first | assumption | apply Kept.foldl | apply Kept.foldl1 | apply Kept.foldl2 | apply setTag_kept | apply expire_kept) | (simp only [Kept.mk_iff, Kept.tick_iff]) | split | intro _)

theorem State.noticeApply_kept {z s : State} (h : State.Kept z s) (n port l op nn : Nat) : State.Kept z (State.noticeApply s n port l op nn) := by
  dsimp only [State.noticeApply]
  repeat' (first | (with_reducible first | assumption | apply Kept.foldl | apply Kept.foldl1 | apply Kept.foldl2 | apply rejectWork_kept | apply noticeTag_kept) | (simp only [Kept.mk_iff, Kept.tick_iff]) | split | intro _)

theorem State.noticesApply_kept {z s : State} (h : State.Kept z s) (n : Nat) : State.Kept z (State.noticesApply s n) := by
  dsimp only [State.noticesApply]
  repeat' (first | (with_reducible first | assumption | apply Kept.foldl | apply Kept.foldl1 | apply Kept.foldl2 | apply noticeApply_kept) | (simp only [Kept.mk_iff, Kept.tick_iff]) | split | intro _)

theorem execLinkNotice_kept (s : State) (n : Stop) (m : Msg) : ∃ u9, execLinkNotice n m s = .next u9 ∧ State.Kept s u9 := by
  have h := State.Kept.refl s
  dsimp only [execLinkNotice]
  repeat' (first | refine ⟨_, rfl, ?_⟩ | (with_reducible first | assumption | apply Kept.foldl | apply Kept.foldl1 | apply Kept.foldl2 | apply take_kept | apply msgBad_kept | apply noticeIn_kept) | (simp only [Kept.mk_iff, Kept.tick_iff]) | split | intro _)

theorem execLinkNoticeApply_kept (s : State) (n : Stop) : ∃ u9, execLinkNoticeApply n s = .next u9 ∧ State.Kept s u9 := by
  have h := State.Kept.refl s
  dsimp only [execLinkNoticeApply]
  repeat' (first | refine ⟨_, rfl, ?_⟩ | (with_reducible first | assumption | apply Kept.foldl | apply Kept.foldl1 | apply Kept.foldl2 | apply noticesApply_kept) | (simp only [Kept.mk_iff, Kept.tick_iff]) | split | intro _)

theorem State.discardLink_kept {z s : State} (h : State.Kept z s) (k l : Nat) : State.Kept z (State.discardLink s k l).1 := by
  dsimp only [State.discardLink]
  repeat' (first | (with_reducible first | assumption | apply Kept.foldl | apply Kept.foldl1 | apply Kept.foldl2 | apply fput_kept | apply rcInc_kept | apply countDisc_kept | apply setEgr_kept | apply freeEgr_kept | apply setAsm_kept | apply setSpill_kept | apply setMode_kept) | (simp only [Kept.mk_iff, Kept.tick_iff]) | split | intro _)

theorem State.freshRecord_kept {z s : State} (h : State.Kept z s) (k l n : Nat) : State.Kept z (State.freshRecord s k l n) := by
  dsimp only [State.freshRecord]
  repeat' (first | (with_reducible first | assumption | apply Kept.foldl | apply Kept.foldl1 | apply Kept.foldl2 | apply fresh_kept | apply sendErq_kept) | (simp only [Kept.mk_iff, Kept.tick_iff]) | split | intro _)

theorem State.freshDiscard_kept {z s : State} (h : State.Kept z s) (k l : Nat) : State.Kept z (State.freshDiscard s k l) := by
  dsimp only [State.freshDiscard]
  repeat' (first | (with_reducible first | assumption | apply Kept.foldl | apply Kept.foldl1 | apply Kept.foldl2 | apply discardLink_kept | apply freshRecord_kept) | (simp only [Kept.mk_iff, Kept.tick_iff]) | split | intro _)

theorem State.linkEntry_kept {z s : State} (h : State.Kept z s) (k l ev : Nat) : State.Kept z (State.linkEntry s k l ev) := by
  dsimp only [State.linkEntry]
  repeat' (first | (with_reducible first | assumption | apply Kept.foldl | apply Kept.foldl1 | apply Kept.foldl2 | apply sillage_kept) | (simp only [Kept.mk_iff, Kept.tick_iff]) | split | intro _)

theorem State.setLink_kept {z s : State} (h : State.Kept z s) (k l toward : Nat) : State.Kept z (State.setLink s k l toward) := by
  dsimp only [State.setLink]
  repeat' (first | (with_reducible first | assumption | apply Kept.foldl | apply Kept.foldl1 | apply Kept.foldl2 | apply fset_kept) | (simp only [Kept.mk_iff, Kept.tick_iff]) | split | intro _)

theorem State.holdLink_kept {z s : State} (h : State.Kept z s) (k l : Nat) : State.Kept z (State.holdLink s k l) := by
  dsimp only [State.holdLink]
  repeat' (first | (with_reducible first | assumption | apply Kept.foldl | apply Kept.foldl1 | apply Kept.foldl2 | apply setMode_kept | apply spillAll_kept | apply newNotice_kept) | (simp only [Kept.mk_iff, Kept.tick_iff]) | split | intro _)

theorem State.dropLink_kept {z s : State} (h : State.Kept z s) (k l : Nat) : State.Kept z (State.dropLink s k l) := by
  dsimp only [State.dropLink]
  repeat' (first | (with_reducible first | assumption | apply Kept.foldl | apply Kept.foldl1 | apply Kept.foldl2 | apply newNotice_kept | apply discardLink_kept) | (simp only [Kept.mk_iff, Kept.tick_iff]) | split | intro _)

theorem State.linkDown_kept {z s : State} (h : State.Kept z s) (k l : Nat) : State.Kept z (State.linkDown s k l) := by
  dsimp only [State.linkDown]
  repeat' (first | (with_reducible first | assumption | apply Kept.foldl | apply Kept.foldl1 | apply Kept.foldl2 | apply rcInc_kept | apply linkEntry_kept | apply setLink_kept | apply holdLink_kept | apply dropLink_kept) | (simp only [Kept.mk_iff, Kept.tick_iff]) | split | intro _)

theorem State.freshAlive_kept {z s : State} (h : State.Kept z s) (k l : Nat) : State.Kept z (State.freshAlive s k l) := by
  dsimp only [State.freshAlive]
  repeat' (first | (with_reducible first | assumption | apply Kept.foldl | apply Kept.foldl1 | apply Kept.foldl2 | apply fset_kept | apply rcInc_kept | apply newNotice_kept | apply freshDiscard_kept | apply linkEntry_kept | apply setLink_kept) | (simp only [Kept.mk_iff, Kept.tick_iff]) | split | intro _)

theorem State.linkEvent_kept {z s : State} (h : State.Kept z s) (k l ev : Nat) : State.Kept z (State.linkEvent s k l ev) := by
  dsimp only [State.linkEvent]
  repeat' (first | (with_reducible first | assumption | apply Kept.foldl | apply Kept.foldl1 | apply Kept.foldl2 | apply fset_kept | apply rcInc_kept | apply lciProto_kept | apply spillSettle_kept | apply newNotice_kept | apply freshDiscard_kept | apply linkEntry_kept | apply setLink_kept | apply linkDown_kept | apply freshAlive_kept) | (simp only [Kept.mk_iff, Kept.tick_iff]) | split | intro _)

theorem execPause_kept (s : State) (k : Stop) (l : Link) : ∃ u9, execPause k l s = .next u9 ∧ State.Kept s u9 := by
  have h := State.Kept.refl s
  dsimp only [execPause]
  repeat' (first | refine ⟨_, rfl, ?_⟩ | (with_reducible first | assumption | apply Kept.foldl | apply Kept.foldl1 | apply Kept.foldl2 | apply linkEvent_kept) | (simp only [Kept.mk_iff, Kept.tick_iff]) | split | intro _)

theorem execResume_kept (s : State) (k : Stop) (l : Link) : ∃ u9, execResume k l s = .next u9 ∧ State.Kept s u9 := by
  have h := State.Kept.refl s
  dsimp only [execResume]
  repeat' (first | refine ⟨_, rfl, ?_⟩ | (with_reducible first | assumption | apply Kept.foldl | apply Kept.foldl1 | apply Kept.foldl2 | apply linkEvent_kept) | (simp only [Kept.mk_iff, Kept.tick_iff]) | split | intro _)

theorem execDown_kept (s : State) (k : Stop) (l : Link) : ∃ u9, execDown k l s = .next u9 ∧ State.Kept s u9 := by
  have h := State.Kept.refl s
  dsimp only [execDown]
  repeat' (first | refine ⟨_, rfl, ?_⟩ | (with_reducible first | assumption | apply Kept.foldl | apply Kept.foldl1 | apply Kept.foldl2 | apply linkEvent_kept) | (simp only [Kept.mk_iff, Kept.tick_iff]) | split | intro _)

theorem execReturnKept_kept (s : State) (k : Stop) (l : Link) : ∃ u9, execReturnKept k l s = .next u9 ∧ State.Kept s u9 := by
  have h := State.Kept.refl s
  dsimp only [execReturnKept]
  repeat' (first | refine ⟨_, rfl, ?_⟩ | (with_reducible first | assumption | apply Kept.foldl | apply Kept.foldl1 | apply Kept.foldl2 | apply linkEvent_kept) | (simp only [Kept.mk_iff, Kept.tick_iff]) | split | intro _)

theorem execReturnFresh_kept (s : State) (k : Stop) (l : Link) : ∃ u9, execReturnFresh k l s = .next u9 ∧ State.Kept s u9 := by
  have h := State.Kept.refl s
  dsimp only [execReturnFresh]
  repeat' (first | refine ⟨_, rfl, ?_⟩ | (with_reducible first | assumption | apply Kept.foldl | apply Kept.foldl1 | apply Kept.foldl2 | apply linkEvent_kept) | (simp only [Kept.mk_iff, Kept.tick_iff]) | split | intro _)

theorem execLciEvCodeUndefined_kept (s : State) (k : Stop) (x0 : Link) : ∃ u9, execLciEvCodeUndefined k x0 s = .next u9 ∧ State.Kept s u9 := by
  have h := State.Kept.refl s
  dsimp only [execLciEvCodeUndefined]
  repeat' (first | refine ⟨_, rfl, ?_⟩ | (with_reducible first | assumption | apply Kept.foldl | apply Kept.foldl1 | apply Kept.foldl2 | apply rcInc_kept) | (simp only [Kept.mk_iff, Kept.tick_iff]) | split | intro _)

theorem State.portModeWrite_kept {z s : State} (h : State.Kept z s) (k : Nat) (w : Word) : State.Kept z (State.portModeWrite s k w) := by
  dsimp only [State.portModeWrite]
  repeat' (first | (with_reducible first | assumption | apply Kept.foldl | apply Kept.foldl1 | apply Kept.foldl2 | apply fset_kept | apply pgErr_kept) | (simp only [Kept.mk_iff, Kept.tick_iff]) | split | intro _)

theorem State.portModeChange_kept {z s : State} (h : State.Kept z s) (k : Nat) : State.Kept z (State.portModeChange s k) := by
  dsimp only [State.portModeChange]
  repeat' (first | (with_reducible first | assumption | apply Kept.foldl | apply Kept.foldl1 | apply Kept.foldl2 | apply fset_kept | apply sillage_kept | apply holdLink_kept | apply dropLink_kept) | (simp only [Kept.mk_iff, Kept.tick_iff]) | split | intro _)

theorem execPortModeWrite_kept (s : State) (k : Stop) (w : Word) : ∃ u9, execPortModeWrite k w s = .next u9 ∧ State.Kept s u9 := by
  have h := State.Kept.refl s
  dsimp only [execPortModeWrite]
  repeat' (first | refine ⟨_, rfl, ?_⟩ | (with_reducible first | assumption | apply Kept.foldl | apply Kept.foldl1 | apply Kept.foldl2 | apply touch_kept | apply portModeWrite_kept) | (simp only [Kept.mk_iff, Kept.tick_iff]) | split | intro _)

theorem execPortModeChange_kept (s : State) (k : Stop) : ∃ u9, execPortModeChange k s = .next u9 ∧ State.Kept s u9 := by
  have h := State.Kept.refl s
  dsimp only [execPortModeChange]
  repeat' (first | refine ⟨_, rfl, ?_⟩ | (with_reducible first | assumption | apply Kept.foldl | apply Kept.foldl1 | apply Kept.foldl2 | apply portModeChange_kept) | (simp only [Kept.mk_iff, Kept.tick_iff]) | split | intro _)

theorem State.linkWatch_kept {z s : State} (h : State.Kept z s) (k l : Nat) : State.Kept z (State.linkWatch s k l) := by
  dsimp only [State.linkWatch]
  repeat' (first | (with_reducible first | assumption | apply Kept.foldl | apply Kept.foldl1 | apply Kept.foldl2 | apply intSet_kept | apply rcInc_kept | apply record_kept) | (simp only [Kept.mk_iff, Kept.tick_iff]) | split | intro _)

theorem State.watchMark_kept {z s : State} (h : State.Kept z s) (k l : Nat) : State.Kept z (State.watchMark s k l) := by
  dsimp only [State.watchMark]
  repeat' (first | (with_reducible first | assumption | apply Kept.foldl | apply Kept.foldl1 | apply Kept.foldl2) | (simp only [Kept.mk_iff, Kept.tick_iff]) | split | intro _)

theorem execLinkWatch_kept (s : State) (k : Stop) (l : Link) : ∃ u9, execLinkWatch k l s = .next u9 ∧ State.Kept s u9 := by
  have h := State.Kept.refl s
  dsimp only [execLinkWatch]
  repeat' (first | refine ⟨_, rfl, ?_⟩ | (with_reducible first | assumption | apply Kept.foldl | apply Kept.foldl1 | apply Kept.foldl2 | apply linkWatch_kept) | (simp only [Kept.mk_iff, Kept.tick_iff]) | split | intro _)

theorem State.portAge_kept {z s : State} (h : State.Kept z s) (k : Nat) : State.Kept z (State.portAge s k) := by
  dsimp only [State.portAge]
  repeat' (first | (with_reducible first | assumption | apply Kept.foldl | apply Kept.foldl1 | apply Kept.foldl2) | (simp only [Kept.mk_iff, Kept.tick_iff]) | split | intro _)

theorem State.linkTick_kept {z s : State} (h : State.Kept z s) (k l : Nat) : State.Kept z (State.linkTick s k l) := by
  dsimp only [State.linkTick]
  repeat' (first | (with_reducible first | assumption | apply Kept.foldl | apply Kept.foldl1 | apply Kept.foldl2 | apply spillAll_kept | apply spillAge_kept | apply lockTimeout_kept | apply emuReadDone_kept | apply dropQueued_kept | apply linkWatch_kept | apply watchMark_kept) | (simp only [Kept.mk_iff, Kept.tick_iff]) | split | intro _)

theorem State.noticesRepeat_kept {z s : State} (h : State.Kept z s) (k : Nat) : State.Kept z (State.noticesRepeat s k) := by
  dsimp only [State.noticesRepeat]
  repeat' (first | (with_reducible first | assumption | apply Kept.foldl | apply Kept.foldl1 | apply Kept.foldl2 | apply noticeRepeat_kept) | (simp only [Kept.mk_iff, Kept.tick_iff]) | split | intro _)

theorem State.portTick_kept {z s : State} (h : State.Kept z s) (k : Nat) : State.Kept z (State.portTick s k) := by
  dsimp only [State.portTick]
  repeat' (first | (with_reducible first | assumption | apply Kept.foldl | apply Kept.foldl1 | apply Kept.foldl2 | apply portModeChange_kept | apply portAge_kept | apply linkTick_kept | apply noticesRepeat_kept) | (simp only [Kept.mk_iff, Kept.tick_iff]) | split | intro _)

end Sys2Proof.Machine
end

