-- ==== Sys2Proof/Laws/KeptSpare.lean ====
section
/-! SUPPORT. The operations of Spare.lean keep the queue and the canonical register file. -/

set_option linter.unusedSimpArgs false

namespace Sys2Proof.Machine

open State

theorem State.setSpareRes_kept {z s : State} (h : State.Kept z s) (k r : Nat) : State.Kept z (State.setSpareRes s k r) := by
  dsimp only [State.setSpareRes]
  repeat' (first | (with_reducible first | assumption | apply Kept.foldl | apply Kept.foldl1 | apply Kept.foldl2 | apply fset_kept) | (simp only [Kept.mk_iff, Kept.tick_iff]) | split | intro _)

theorem State.spareRefuse_kept {z s : State} (h : State.Kept z s) (k r : Nat) : State.Kept z (State.spareRefuse s k r) := by
  dsimp only [State.spareRefuse]
  repeat' (first | (with_reducible first | assumption | apply Kept.foldl | apply Kept.foldl1 | apply Kept.foldl2 | apply pgErr_kept | apply setSpareRes_kept) | (simp only [Kept.mk_iff, Kept.tick_iff]) | split | intro _)

theorem State.spareStore_kept {z s : State} (h : State.Kept z s) (k v : Nat) : State.Kept z (State.spareStore s k v) := by
  dsimp only [State.spareStore]
  repeat' (first | (with_reducible first | assumption | apply Kept.foldl | apply Kept.foldl1 | apply Kept.foldl2 | apply fset_kept | apply setSpareRes_kept) | (simp only [Kept.mk_iff, Kept.tick_iff]) | split | intro _)

theorem State.spareStart_kept {z s : State} (h : State.Kept z s) (k : Nat) (back : Bool) : State.Kept z (State.spareStart s k back) := by
  dsimp only [State.spareStart]
  repeat' (first | (with_reducible first | assumption | apply Kept.foldl | apply Kept.foldl1 | apply Kept.foldl2 | apply fset_kept | apply fput_kept) | (simp only [Kept.mk_iff, Kept.tick_iff]) | split | intro _)

theorem State.spareRepair_kept {z s : State} (h : State.Kept z s) (k v : Nat) : State.Kept z (State.spareRepair s k v) := by
  dsimp only [State.spareRepair]
  repeat' (first | (with_reducible first | assumption | apply Kept.foldl | apply Kept.foldl1 | apply Kept.foldl2 | apply spareStore_kept | apply spareStart_kept) | (simp only [Kept.mk_iff, Kept.tick_iff]) | split | intro _)

theorem State.spareWrite_kept {z s : State} (h : State.Kept z s) (k : Nat) (w : Word) : State.Kept z (State.spareWrite s k w) := by
  dsimp only [State.spareWrite]
  repeat' (first | (with_reducible first | assumption | apply Kept.foldl | apply Kept.foldl1 | apply Kept.foldl2 | apply fset_kept | apply setSpareRes_kept | apply spareRefuse_kept | apply spareStore_kept | apply spareStart_kept | apply spareRepair_kept) | (simp only [Kept.mk_iff, Kept.tick_iff]) | split | intro _)

theorem State.dropTest_kept {z s : State} (h : State.Kept z s) (k : Nat) : State.Kept z (State.dropTest s k) := by
  dsimp only [State.dropTest]
  repeat' (first | (with_reducible first | assumption | apply Kept.foldl | apply Kept.foldl1 | apply Kept.foldl2 | apply setQueue_kept | apply refund_kept | apply setFormQ_kept | apply setRx_kept | apply discardLink_kept) | (simp only [Kept.mk_iff, Kept.tick_iff]) | split | intro _)

theorem State.linkCopy_kept {z s : State} (h : State.Kept z s) (a b l : Nat) : State.Kept z (State.linkCopy s a b l) := by
  dsimp only [State.linkCopy]
  repeat' (first | (with_reducible first | assumption | apply Kept.foldl | apply Kept.foldl1 | apply Kept.foldl2 | apply fset_kept) | (simp only [Kept.mk_iff, Kept.tick_iff]) | split | intro _)

theorem State.linkGone_kept {z s : State} (h : State.Kept z s) (a l : Nat) : State.Kept z (State.linkGone s a l) := by
  dsimp only [State.linkGone]
  repeat' (first | (with_reducible first | assumption | apply Kept.foldl | apply Kept.foldl1 | apply Kept.foldl2 | apply fset_kept) | (simp only [Kept.mk_iff, Kept.tick_iff]) | split | intro _)

theorem State.muxMove_kept {z s : State} (h : State.Kept z s) (sp : Nat) : State.Kept z (State.muxMove s sp) := by
  dsimp only [State.muxMove]
  repeat' (first | (with_reducible first | assumption | apply Kept.foldl | apply Kept.foldl1 | apply Kept.foldl2 | apply fset_kept | apply fput_kept | apply xoffAll_kept | apply linkEvent_kept | apply linkCopy_kept | apply linkGone_kept) | (simp only [Kept.mk_iff, Kept.tick_iff]) | split | intro _)

theorem State.spareTick_kept {z s : State} (h : State.Kept z s) (sp : Nat) : State.Kept z (State.spareTick s sp) := by
  dsimp only [State.spareTick]
  repeat' (first | (with_reducible first | assumption | apply Kept.foldl | apply Kept.foldl1 | apply Kept.foldl2 | apply fset_kept | apply xoffAll_kept | apply spareRepair_kept | apply dropTest_kept | apply muxMove_kept) | (simp only [Kept.mk_iff, Kept.tick_iff]) | split | intro _)

theorem execSpareClaimRepair_kept (s : State) (k : Stop) (sock : Fin 4) (forced : Bool) : ∃ u9, execSpareClaimRepair k sock forced s = .next u9 ∧ State.Kept s u9 := by
  have h := State.Kept.refl s
  dsimp only [execSpareClaimRepair]
  repeat' (first | refine ⟨_, rfl, ?_⟩ | (with_reducible first | assumption | apply Kept.foldl | apply Kept.foldl1 | apply Kept.foldl2 | apply touch_kept | apply spareWrite_kept) | (simp only [Kept.mk_iff, Kept.tick_iff]) | split | intro _)

theorem execSpareClaimTest_kept (s : State) (k : Stop) : ∃ u9, execSpareClaimTest k s = .next u9 ∧ State.Kept s u9 := by
  have h := State.Kept.refl s
  dsimp only [execSpareClaimTest]
  repeat' (first | refine ⟨_, rfl, ?_⟩ | (with_reducible first | assumption | apply Kept.foldl | apply Kept.foldl1 | apply Kept.foldl2 | apply touch_kept | apply spareWrite_kept) | (simp only [Kept.mk_iff, Kept.tick_iff]) | split | intro _)

theorem execSpareGo_kept (s : State) (k : Stop) (sock : Fin 4) (forced : Bool) : ∃ u9, execSpareGo k sock forced s = .next u9 ∧ State.Kept s u9 := by
  have h := State.Kept.refl s
  dsimp only [execSpareGo]
  repeat' (first | refine ⟨_, rfl, ?_⟩ | (with_reducible first | assumption | apply Kept.foldl | apply Kept.foldl1 | apply Kept.foldl2 | apply touch_kept | apply spareWrite_kept) | (simp only [Kept.mk_iff, Kept.tick_iff]) | split | intro _)

theorem execSpareReturn_kept (s : State) (k : Stop) (forced : Bool) : ∃ u9, execSpareReturn k forced s = .next u9 ∧ State.Kept s u9 := by
  have h := State.Kept.refl s
  dsimp only [execSpareReturn]
  repeat' (first | refine ⟨_, rfl, ?_⟩ | (with_reducible first | assumption | apply Kept.foldl | apply Kept.foldl1 | apply Kept.foldl2 | apply touch_kept | apply spareWrite_kept) | (simp only [Kept.mk_iff, Kept.tick_iff]) | split | intro _)

end Sys2Proof.Machine
end

