-- ==== Sys2Proof/Laws/KeptEngine.lean ====
section
/-! SUPPORT. The operations of Engine.lean keep the queue and the canonical register file. -/

set_option linter.unusedSimpArgs false

namespace Sys2Proof.Machine

open State

theorem State.setResident_kept {z s : State} (h : State.Kept z s) (e q : Nat) (r : Bool) : State.Kept z (State.setResident s e q r) := by
  dsimp only [State.setResident]
  repeat' (first | (with_reducible first | assumption | apply Kept.foldl | apply Kept.foldl1 | apply Kept.foldl2) | (simp only [Kept.mk_iff, Kept.tick_iff]) | split | intro _)

theorem State.setQctx_kept {z s : State} (h : State.Kept z s) (e q : Nat) (c : QCtx) : State.Kept z (State.setQctx s e q c) := by
  dsimp only [State.setQctx]
  repeat' (first | (with_reducible first | assumption | apply Kept.foldl | apply Kept.foldl1 | apply Kept.foldl2) | (simp only [Kept.mk_iff, Kept.tick_iff]) | split | intro _)

theorem State.setExec_kept {z s : State} (h : State.Kept z s) (e : Nat) (l : List Dsc) : State.Kept z (State.setExec s e l) := by
  dsimp only [State.setExec]
  repeat' (first | (with_reducible first | assumption | apply Kept.foldl | apply Kept.foldl1 | apply Kept.foldl2 | apply fset_kept) | (simp only [Kept.mk_iff, Kept.tick_iff]) | split | intro _)

theorem State.setAvail_kept {z s : State} (h : State.Kept z s) (q : Nat) (l : List (Nat × Nat)) : State.Kept z (State.setAvail s q l) := by
  dsimp only [State.setAvail]
  repeat' (first | (with_reducible first | assumption | apply Kept.foldl | apply Kept.foldl1 | apply Kept.foldl2) | (simp only [Kept.mk_iff, Kept.tick_iff]) | split | intro _)

theorem State.setFetch_kept {z s : State} (h : State.Kept z s) (e q : Nat) (f : Option (Nat × Nat × Nat)) : State.Kept z (State.setFetch s e q f) := by
  dsimp only [State.setFetch]
  repeat' (first | (with_reducible first | assumption | apply Kept.foldl | apply Kept.foldl1 | apply Kept.foldl2) | (simp only [Kept.mk_iff, Kept.tick_iff]) | split | intro _)

theorem State.engAsk_kept {z s : State} (h : State.Kept z s) (e kind q : Nat) (c : QCtx) (fn : Nat) (hdr : Flit) (chunks : List Data) (bytes : Nat) : State.Kept z (State.engAsk s e kind q c fn hdr chunks bytes).2 := by
  dsimp only [State.engAsk]
  repeat' (first | (with_reducible first | assumption | apply Kept.foldl | apply Kept.foldl1 | apply Kept.foldl2) | (simp only [Kept.mk_iff, Kept.tick_iff]) | split | intro _)

theorem State.engRead_kept {z s : State} (h : State.Kept z s) (e kind q : Nat) (c : QCtx) (fn a n : Nat) (pasid : Bool) : State.Kept z (State.engRead s e kind q c fn a n pasid).2 := by
  dsimp only [State.engRead]
  repeat' (first | (with_reducible first | assumption | apply Kept.foldl | apply Kept.foldl1 | apply Kept.foldl2 | apply engAsk_kept) | (simp only [Kept.mk_iff, Kept.tick_iff]) | split | intro _)

theorem State.engWrite_kept {z s : State} (h : State.Kept z s) (e kind q : Nat) (c : QCtx) (fn a : Nat) (bytes : List (BitVec 8)) (pasid ro pois : Bool) : State.Kept z (State.engWrite s e kind q c fn a bytes pasid ro pois).2 := by
  dsimp only [State.engWrite]
  repeat' (first | (with_reducible first | assumption | apply Kept.foldl | apply Kept.foldl1 | apply Kept.foldl2 | apply engAsk_kept) | (simp only [Kept.mk_iff, Kept.tick_iff]) | split | intro _)

theorem State.modChunk_kept {z s : State} (h : State.Kept z s) (e id : Nat) (f : EChunk → EChunk) : State.Kept z (State.modChunk s e id f) := by
  dsimp only [State.modChunk]
  repeat' (first | (with_reducible first | assumption | apply Kept.foldl | apply Kept.foldl1 | apply Kept.foldl2 | apply setExec_kept) | (simp only [Kept.mk_iff, Kept.tick_iff]) | split | intro _)

theorem State.flushEnd_kept {z s : State} (h : State.Kept z s) (e id status : Nat) : State.Kept z (State.flushEnd s e id status) := by
  dsimp only [State.flushEnd]
  repeat' (first | (with_reducible first | assumption | apply Kept.foldl | apply Kept.foldl1 | apply Kept.foldl2 | apply setExec_kept) | (simp only [Kept.mk_iff, Kept.tick_iff]) | split | intro _)

theorem State.fetchFail_kept {z s : State} (h : State.Kept z s) (e q id status : Nat) : State.Kept z (State.fetchFail s e q id status) := by
  dsimp only [State.fetchFail]
  repeat' (first | (with_reducible first | assumption | apply Kept.foldl | apply Kept.foldl1 | apply Kept.foldl2 | apply fresh_kept | apply setQctx_kept | apply setAvail_kept | apply setFetch_kept) | (simp only [Kept.mk_iff, Kept.tick_iff]) | split | intro _)

theorem State.engFail_kept {z s : State} (h : State.Kept z s) (e : Nat) (r : EReq) (status : Nat) : State.Kept z (State.engFail s e r status) := by
  dsimp only [State.engFail]
  repeat' (first | (with_reducible first | assumption | apply Kept.foldl | apply Kept.foldl1 | apply Kept.foldl2 | apply modChunk_kept | apply flushEnd_kept | apply fetchFail_kept) | (simp only [Kept.mk_iff, Kept.tick_iff]) | split | intro _)

theorem State.engForm_kept {z s : State} (h : State.Kept z s) (e : Nat) (r : EReq) (v : Nat) : State.Kept z (State.engForm s e r v) := by
  dsimp only [State.engForm]
  repeat' (first | (with_reducible first | assumption | apply Kept.foldl | apply Kept.foldl1 | apply Kept.foldl2 | apply countEvt_kept | apply submit_kept | apply engFail_kept) | (simp only [Kept.mk_iff, Kept.tick_iff]) | split | intro _)

theorem State.engTry_kept {z s : State} (h : State.Kept z s) (e : Nat) (r : EReq) : State.Kept z (State.engTry s e r).1 := by
  dsimp only [State.engTry]
  repeat' (first | (with_reducible first | assumption | apply Kept.foldl | apply Kept.foldl1 | apply Kept.foldl2 | apply lookUp_kept | apply engFail_kept | apply engForm_kept) | (simp only [Kept.mk_iff, Kept.tick_iff]) | split | intro _)

theorem State.engTryAll_kept {z s : State} (h : State.Kept z s) (e : Nat) : State.Kept z (State.engTryAll s e) := by
  dsimp only [State.engTryAll]
  repeat' (first | (with_reducible first | assumption | apply Kept.foldl | apply Kept.foldl1 | apply Kept.foldl2 | apply engTry_kept) | (simp only [Kept.mk_iff, Kept.tick_iff]) | split | intro _)

theorem State.fetchQueue_kept {z s : State} (h : State.Kept z s) (e q : Nat) : State.Kept z (State.fetchQueue s e q) := by
  dsimp only [State.fetchQueue]
  repeat' (first | (with_reducible first | assumption | apply Kept.foldl | apply Kept.foldl1 | apply Kept.foldl2 | apply setQctx_kept | apply setFetch_kept | apply engRead_kept) | (simp only [Kept.mk_iff, Kept.tick_iff]) | split | intro _)

theorem State.setBudget_kept {z s : State} (h : State.Kept z s) (e v : Nat) : State.Kept z (State.setBudget s e v) := by
  dsimp only [State.setBudget]
  repeat' (first | (with_reducible first | assumption | apply Kept.foldl | apply Kept.foldl1 | apply Kept.foldl2) | (simp only [Kept.mk_iff, Kept.tick_iff]) | split | intro _)

theorem State.setDsc_kept {z s : State} (h : State.Kept z s) (e i : Nat) (d : Dsc) : State.Kept z (State.setDsc s e i d) := by
  dsimp only [State.setDsc]
  repeat' (first | (with_reducible first | assumption | apply Kept.foldl | apply Kept.foldl1 | apply Kept.foldl2 | apply setExec_kept) | (simp only [Kept.mk_iff, Kept.tick_iff]) | split | intro _)

theorem State.chunkNext_kept {z s u9 : State} (h : State.Kept z s) (e i : Nat) (he : State.chunkNext s e i = some u9) : State.Kept z u9 := by
  revert he
  dsimp only [State.chunkNext]
  repeat' (first | (with_reducible first | refine Kept.of_some ?_ | refine Kept.of_none | refine Kept.of_pair ?_) | (with_reducible first | assumption | apply Kept.foldl | apply Kept.foldl1 | apply Kept.foldl2 | apply engRead_kept | apply engWrite_kept | apply setBudget_kept | apply setDsc_kept) | (simp only [Kept.mk_iff, Kept.tick_iff]) | split | intro _)

theorem State.writeNext_kept {z s u9 : State} (h : State.Kept z s) (e i : Nat) (he : State.writeNext s e i = some u9) : State.Kept z u9 := by
  revert he
  dsimp only [State.writeNext]
  repeat' (first | (with_reducible first | refine Kept.of_some ?_ | refine Kept.of_none | refine Kept.of_pair ?_) | (with_reducible first | assumption | apply Kept.foldl | apply Kept.foldl1 | apply Kept.foldl2 | apply engWrite_kept | apply setBudget_kept | apply setDsc_kept) | (simp only [Kept.mk_iff, Kept.tick_iff]) | split | intro _)

theorem State.settleWrites_kept {z s : State} (h : State.Kept z s) (e : Nat) : State.Kept z (State.settleWrites s e) := by
  dsimp only [State.settleWrites]
  repeat' (first | (with_reducible first | assumption | apply Kept.foldl | apply Kept.foldl1 | apply Kept.foldl2 | apply setExec_kept) | (simp only [Kept.mk_iff, Kept.tick_iff]) | split | intro _)

theorem State.flushNext_kept {z s u9 : State} (h : State.Kept z s) (e i : Nat) (he : State.flushNext s e i = some u9) : State.Kept z u9 := by
  revert he
  dsimp only [State.flushNext]
  repeat' (first | (with_reducible first | refine Kept.of_some ?_ | refine Kept.of_none | refine Kept.of_pair ?_) | (with_reducible first | assumption | apply Kept.foldl | apply Kept.foldl1 | apply Kept.foldl2 | apply engRead_kept | apply setDsc_kept) | (simp only [Kept.mk_iff, Kept.tick_iff]) | split | intro _)

theorem State.engStep_kept {z s u9 : State} (h : State.Kept z s) (e : Nat) (he : State.engStep s e = some u9) : State.Kept z u9 := by
  obtain ⟨i, _, he⟩ := List.exists_of_findSome?_eq_some he
  split at he
  · cases he; exact State.writeNext_kept h _ _ (by assumption)
  · split at he
    · cases he; exact State.flushNext_kept h _ _ (by assumption)
    · exact State.chunkNext_kept h _ _ he

theorem State.engSteps_kept {z s : State} (h : State.Kept z s) (e : Nat) (n : Nat) : State.Kept z (State.engSteps s e n) := by
  induction n generalizing s with
  | zero =>
    dsimp only [State.engSteps]
    repeat' (first | (with_reducible first | assumption | apply Kept.foldl | apply Kept.foldl1 | apply Kept.foldl2 | apply engTryAll_kept | refine engStep_kept ?_ _ (by assumption)) | (simp only [Kept.mk_iff, Kept.tick_iff]) | split | intro _)
  | succ n ih =>
    dsimp only [State.engSteps]
    repeat' (first | with_reducible (apply ih) | (with_reducible first | assumption | apply Kept.foldl | apply Kept.foldl1 | apply Kept.foldl2 | apply engTryAll_kept | refine engStep_kept ?_ _ (by assumption)) | (simp only [Kept.mk_iff, Kept.tick_iff]) | split | intro _)

theorem State.vtActivate_kept {z s : State} (h : State.Kept z s) (e : Nat) : State.Kept z (State.vtActivate s e) := by
  dsimp only [State.vtActivate]
  repeat' (first | (with_reducible first | assumption | apply Kept.foldl | apply Kept.foldl1 | apply Kept.foldl2) | (simp only [Kept.mk_iff, Kept.tick_iff]) | split | intro _)

theorem State.engPump_kept {z s : State} (h : State.Kept z s) (e : Nat) : State.Kept z (State.engPump s e) := by
  dsimp only [State.engPump]
  repeat' (first | (with_reducible first | assumption | apply Kept.foldl | apply Kept.foldl1 | apply Kept.foldl2 | apply engTryAll_kept | apply fetchQueue_kept | apply settleWrites_kept | apply engSteps_kept | apply vtActivate_kept) | (simp only [Kept.mk_iff, Kept.tick_iff]) | split | intro _)

theorem State.startDsc_kept {z s : State} (h : State.Kept z s) (e q : Nat) : State.Kept z (State.startDsc s e q) := by
  dsimp only [State.startDsc]
  repeat' (first | (with_reducible first | assumption | apply Kept.foldl | apply Kept.foldl1 | apply Kept.foldl2 | apply countEvt_kept | apply rcInc_kept | apply record_kept | apply setExec_kept | apply setAvail_kept) | (simp only [Kept.mk_iff, Kept.tick_iff]) | split | intro _)

theorem State.vtStart_kept {z s : State} (h : State.Kept z s) (e x : Nat) (mine : List Nat) : State.Kept z (State.vtStart s e x mine) := by
  dsimp only [State.vtStart]
  repeat' (first | (with_reducible first | assumption | apply Kept.foldl | apply Kept.foldl1 | apply Kept.foldl2 | apply engPump_kept | apply startDsc_kept) | (simp only [Kept.mk_iff, Kept.tick_iff]) | split | intro _)

theorem State.descStart_kept {z s : State} (h : State.Kept z s) (e : Nat) : State.Kept z (State.descStart s e) := by
  dsimp only [State.descStart]
  repeat' (first | (with_reducible first | assumption | apply Kept.foldl | apply Kept.foldl1 | apply Kept.foldl2 | apply engPump_kept | apply vtStart_kept) | (simp only [Kept.mk_iff, Kept.tick_iff]) | split | intro _)

theorem State.fetchDone_kept {z s : State} (h : State.Kept z s) (e : Nat) : State.Kept z (State.fetchDone s e) := by
  dsimp only [State.fetchDone]
  repeat' (first | (with_reducible first | assumption | apply Kept.foldl | apply Kept.foldl1 | apply Kept.foldl2 | apply take_kept | refine takeDone_kept ?_ _ _ (by assumption) | apply setAvail_kept | apply setFetch_kept | apply fetchFail_kept | apply engPump_kept) | (simp only [Kept.mk_iff, Kept.tick_iff]) | split | intro _)

theorem State.chunkDone_kept {z s : State} (h : State.Kept z s) (e : Nat) : State.Kept z (State.chunkDone s e) := by
  dsimp only [State.chunkDone]
  repeat' (first | (with_reducible first | assumption | apply Kept.foldl | apply Kept.foldl1 | apply Kept.foldl2 | apply countEvt_kept | refine takeDone_kept ?_ _ _ (by assumption) | apply modChunk_kept | apply flushEnd_kept | apply engPump_kept) | (simp only [Kept.mk_iff, Kept.tick_iff]) | split | intro _)

theorem State.engSample_kept {z s : State} (h : State.Kept z s) (e q index : Nat) : State.Kept z (State.engSample s e q index) := by
  dsimp only [State.engSample]
  repeat' (first | (with_reducible first | assumption | apply Kept.foldl | apply Kept.foldl1 | apply Kept.foldl2 | apply fset_kept | apply fput_kept | apply setWide_kept | apply intSet_kept) | (simp only [Kept.mk_iff, Kept.tick_iff]) | split | intro _)

theorem State.retireCounted_kept {z s : State} (h : State.Kept z s) (e q index x : Nat) : State.Kept z (State.retireCounted s e q index x) := by
  dsimp only [State.retireCounted]
  repeat' (first | (with_reducible first | assumption | apply Kept.foldl | apply Kept.foldl1 | apply Kept.foldl2 | apply countEvt_kept | apply engSample_kept) | (simp only [Kept.mk_iff, Kept.tick_iff]) | split | intro _)

theorem State.engSampleLost_kept {z s : State} (h : State.Kept z s) (e : Nat) : State.Kept z (State.engSampleLost s e) := by
  dsimp only [State.engSampleLost]
  repeat' (first | (with_reducible first | assumption | apply Kept.foldl | apply Kept.foldl1 | apply Kept.foldl2 | apply rcInc_kept) | (simp only [Kept.mk_iff, Kept.tick_iff]) | split | intro _)

theorem State.haltQueue_kept {z s : State} (h : State.Kept z s) (e q : Nat) : State.Kept z (State.haltQueue s e q) := by
  dsimp only [State.haltQueue]
  repeat' (first | (with_reducible first | assumption | apply Kept.foldl | apply Kept.foldl1 | apply Kept.foldl2 | apply setAvail_kept | apply setFetch_kept) | (simp only [Kept.mk_iff, Kept.tick_iff]) | split | intro _)

theorem State.stopQueue_kept {z s : State} (h : State.Kept z s) (e q : Nat) : State.Kept z (State.stopQueue s e q) := by
  dsimp only [State.stopQueue]
  repeat' (first | (with_reducible first | assumption | apply Kept.foldl | apply Kept.foldl1 | apply Kept.foldl2 | apply setQctx_kept | apply setExec_kept | apply haltQueue_kept) | (simp only [Kept.mk_iff, Kept.tick_iff]) | split | intro _)

theorem State.copyRetired_kept {z s : State} (h : State.Kept z s) (q st : Nat) : State.Kept z (State.copyRetired s q st) := by
  dsimp only [State.copyRetired]
  repeat' (first | (with_reducible first | assumption | apply Kept.foldl | apply Kept.foldl1 | apply Kept.foldl2) | (simp only [Kept.mk_iff, Kept.tick_iff]) | split | intro _)

theorem State.retire_kept {z s : State} (h : State.Kept z s) (e : Nat) (d : Dsc) : State.Kept z (State.retire s e d) := by
  dsimp only [State.retire]
  repeat' (first | (with_reducible first | assumption | apply Kept.foldl | apply Kept.foldl1 | apply Kept.foldl2 | apply rcInc_kept | apply setQctx_kept | apply setExec_kept | apply engRead_kept | apply engWrite_kept | apply engPump_kept | apply retireCounted_kept | apply stopQueue_kept | apply copyRetired_kept) | (simp only [Kept.mk_iff, Kept.tick_iff]) | split | intro _)

theorem State.descRetire_kept {z s : State} (h : State.Kept z s) (e : Nat) : State.Kept z (State.descRetire s e) := by
  dsimp only [State.descRetire]
  repeat' (first | (with_reducible first | assumption | apply Kept.foldl | apply Kept.foldl1 | apply Kept.foldl2 | apply engPump_kept | apply retire_kept) | (simp only [Kept.mk_iff, Kept.tick_iff]) | split | intro _)

theorem execDescFetchDone_kept (s : State) (e : EngNo) : ∃ u9, execDescFetchDone e s = .next u9 ∧ State.Kept s u9 := by
  have h := State.Kept.refl s
  dsimp only [execDescFetchDone]
  repeat' (first | refine ⟨_, rfl, ?_⟩ | (with_reducible first | assumption | apply Kept.foldl | apply Kept.foldl1 | apply Kept.foldl2 | apply fetchDone_kept) | (simp only [Kept.mk_iff, Kept.tick_iff]) | split | intro _)

theorem execDescStart_kept (s : State) (e : EngNo) : ∃ u9, execDescStart e s = .next u9 ∧ State.Kept s u9 := by
  have h := State.Kept.refl s
  dsimp only [execDescStart]
  repeat' (first | refine ⟨_, rfl, ?_⟩ | (with_reducible first | assumption | apply Kept.foldl | apply Kept.foldl1 | apply Kept.foldl2 | apply descStart_kept) | (simp only [Kept.mk_iff, Kept.tick_iff]) | split | intro _)

theorem execChunkReadDone_kept (s : State) (e : EngNo) : ∃ u9, execChunkReadDone e s = .next u9 ∧ State.Kept s u9 := by
  have h := State.Kept.refl s
  dsimp only [execChunkReadDone]
  repeat' (first | refine ⟨_, rfl, ?_⟩ | (with_reducible first | assumption | apply Kept.foldl | apply Kept.foldl1 | apply Kept.foldl2 | apply chunkDone_kept) | (simp only [Kept.mk_iff, Kept.tick_iff]) | split | intro _)

theorem execDescRetire_kept (s : State) (e : EngNo) : ∃ u9, execDescRetire e s = .next u9 ∧ State.Kept s u9 := by
  have h := State.Kept.refl s
  dsimp only [execDescRetire]
  repeat' (first | refine ⟨_, rfl, ?_⟩ | (with_reducible first | assumption | apply Kept.foldl | apply Kept.foldl1 | apply Kept.foldl2 | apply descRetire_kept) | (simp only [Kept.mk_iff, Kept.tick_iff]) | split | intro _)

theorem State.budgetRefill_kept {z s : State} (h : State.Kept z s) (e : Nat) : State.Kept z (State.budgetRefill s e) := by
  dsimp only [State.budgetRefill]
  repeat' (first | (with_reducible first | assumption | apply Kept.foldl | apply Kept.foldl1 | apply Kept.foldl2 | apply setBudget_kept) | (simp only [Kept.mk_iff, Kept.tick_iff]) | split | intro _)

end Sys2Proof.Machine
end

