-- ==== Sys2Proof/Laws/KeptEngQ.lean ====
section
/-! SUPPORT. The operations of EngQ.lean keep the queue and the canonical register file. -/

set_option linter.unusedSimpArgs false

namespace Sys2Proof.Machine

open State

theorem State.setEngRes_kept {z s : State} (h : State.Kept z s) (e n : Nat) : State.Kept z (State.setEngRes s e n) := by
  dsimp only [State.setEngRes]
  repeat' (first | (with_reducible first | assumption | apply Kept.foldl | apply Kept.foldl1 | apply Kept.foldl2 | apply fset_kept) | (simp only [Kept.mk_iff, Kept.tick_iff]) | split | intro _)

theorem State.setStub_kept {z s : State} (h : State.Kept z s) (e q : Nat) (x : Option Stub) : State.Kept z (State.setStub s e q x) := by
  dsimp only [State.setStub]
  repeat' (first | (with_reducible first | assumption | apply Kept.foldl | apply Kept.foldl1 | apply Kept.foldl2) | (simp only [Kept.mk_iff, Kept.tick_iff]) | split | intro _)

theorem State.setQmapCopy_kept {z s : State} (h : State.Kept z s) (q e : Nat) : State.Kept z (State.setQmapCopy s q e) := by
  dsimp only [State.setQmapCopy]
  repeat' (first | (with_reducible first | assumption | apply Kept.foldl | apply Kept.foldl1 | apply Kept.foldl2) | (simp only [Kept.mk_iff, Kept.tick_iff]) | split | intro _)

theorem State.queueTo_kept {z s : State} (h : State.Kept z s) (e q n : Nat) : State.Kept z (State.queueTo s e q n) := by
  dsimp only [State.queueTo]
  repeat' (first | (with_reducible first | assumption | apply Kept.foldl | apply Kept.foldl1 | apply Kept.foldl2 | apply setQctx_kept) | (simp only [Kept.mk_iff, Kept.tick_iff]) | split | intro _)

theorem State.dbReject_kept {z s : State} (h : State.Kept z s) (e q tail why : Nat) : State.Kept z (State.dbReject s e q tail why) := by
  dsimp only [State.dbReject]
  repeat' (first | (with_reducible first | assumption | apply Kept.foldl | apply Kept.foldl1 | apply Kept.foldl2 | apply record_kept) | (simp only [Kept.mk_iff, Kept.tick_iff]) | split | intro _)

theorem State.doorbell_kept {z s : State} (h : State.Kept z s) (e q tail sgen : Nat) : State.Kept z (State.doorbell s e q tail sgen) := by
  dsimp only [State.doorbell]
  repeat' (first | (with_reducible first | assumption | apply Kept.foldl | apply Kept.foldl1 | apply Kept.foldl2 | apply send_kept | apply rcInc_kept | apply setQctx_kept | apply engPump_kept | apply haltQueue_kept | apply queueTo_kept | apply dbReject_kept) | (simp only [Kept.mk_iff, Kept.tick_iff]) | split | intro _)

theorem execDoorbell_kept (s : State) (n : Node) (m : Msg) : ∃ u9, execDoorbell n m s = .next u9 ∧ State.Kept s u9 := by
  have h := State.Kept.refl s
  dsimp only [execDoorbell]
  repeat' (first | refine ⟨_, rfl, ?_⟩ | (with_reducible first | assumption | apply Kept.foldl | apply Kept.foldl1 | apply Kept.foldl2 | apply take_kept | apply msgBad_kept | apply doorbell_kept) | (simp only [Kept.mk_iff, Kept.tick_iff]) | split | intro _)

theorem State.sliceIrq_kept {z s : State} (h : State.Kept z s) (x : Nat) : State.Kept z (State.sliceIrq s x) := by
  dsimp only [State.sliceIrq]
  repeat' (first | (with_reducible first | assumption | apply Kept.foldl | apply Kept.foldl1 | apply Kept.foldl2 | apply fput_kept) | (simp only [Kept.mk_iff, Kept.tick_iff]) | split | intro _)

theorem State.evtPend_kept {z s : State} (h : State.Kept z s) (x q : Nat) : State.Kept z (State.evtPend s x q) := by
  dsimp only [State.evtPend]
  repeat' (first | (with_reducible first | assumption | apply Kept.foldl | apply Kept.foldl1 | apply Kept.foldl2 | apply fset_kept | apply sliceIrq_kept) | (simp only [Kept.mk_iff, Kept.tick_iff]) | split | intro _)

theorem State.completionEvent_kept {z s : State} (h : State.Kept z s) (e : Nat) : State.Kept z (State.completionEvent s e) := by
  dsimp only [State.completionEvent]
  repeat' (first | (with_reducible first | assumption | apply Kept.foldl | apply Kept.foldl1 | apply Kept.foldl2 | refine takeDone_kept ?_ _ _ (by assumption) | apply evtPend_kept) | (simp only [Kept.mk_iff, Kept.tick_iff]) | split | intro _)

theorem execCompletionEvent_kept (s : State) (e : EngNo) : ∃ u9, execCompletionEvent e s = .next u9 ∧ State.Kept s u9 := by
  have h := State.Kept.refl s
  dsimp only [execCompletionEvent]
  repeat' (first | refine ⟨_, rfl, ?_⟩ | (with_reducible first | assumption | apply Kept.foldl | apply Kept.foldl1 | apply Kept.foldl2 | apply completionEvent_kept) | (simp only [Kept.mk_iff, Kept.tick_iff]) | split | intro _)

theorem State.qcRes_kept {z s : State} (h : State.Kept z s) (e r : Nat) : State.Kept z (State.qcRes s e r) := by
  dsimp only [State.qcRes]
  repeat' (first | (with_reducible first | assumption | apply Kept.foldl | apply Kept.foldl1 | apply Kept.foldl2 | apply fset_kept) | (simp only [Kept.mk_iff, Kept.tick_iff]) | split | intro _)

theorem State.setQcData_kept {z s : State} (h : State.Kept z s) (e b : Nat) : State.Kept z (State.setQcData s e b) := by
  dsimp only [State.setQcData]
  repeat' (first | (with_reducible first | assumption | apply Kept.foldl | apply Kept.foldl1 | apply Kept.foldl2 | apply fset_kept) | (simp only [Kept.mk_iff, Kept.tick_iff]) | split | intro _)

theorem State.qcRead_kept {z s : State} (h : State.Kept z s) (e : Nat) : State.Kept z (State.qcRead s e) := by
  dsimp only [State.qcRead]
  repeat' (first | (with_reducible first | assumption | apply Kept.foldl | apply Kept.foldl1 | apply Kept.foldl2 | apply qcRes_kept | apply setQcData_kept) | (simp only [Kept.mk_iff, Kept.tick_iff]) | split | intro _)

theorem State.qcWrite_kept {z s : State} (h : State.Kept z s) (e : Nat) : State.Kept z (State.qcWrite s e) := by
  dsimp only [State.qcWrite]
  repeat' (first | (with_reducible first | assumption | apply Kept.foldl | apply Kept.foldl1 | apply Kept.foldl2 | apply setResident_kept | apply setAvail_kept | apply setQctx_kept | apply setEngRes_kept | apply qcRes_kept) | (simp only [Kept.mk_iff, Kept.tick_iff]) | split | intro _)

theorem State.qcEnable_kept {z s : State} (h : State.Kept z s) (e : Nat) : State.Kept z (State.qcEnable s e) := by
  dsimp only [State.qcEnable]
  repeat' (first | (with_reducible first | assumption | apply Kept.foldl | apply Kept.foldl1 | apply Kept.foldl2 | apply setQctx_kept | apply engPump_kept | apply haltQueue_kept | apply qcRes_kept) | (simp only [Kept.mk_iff, Kept.tick_iff]) | split | intro _)

theorem State.qcDisable_kept {z s : State} (h : State.Kept z s) (e : Nat) : State.Kept z (State.qcDisable s e) := by
  dsimp only [State.qcDisable]
  repeat' (first | (with_reducible first | assumption | apply Kept.foldl | apply Kept.foldl1 | apply Kept.foldl2 | apply setQctx_kept | apply haltQueue_kept | apply qcRes_kept) | (simp only [Kept.mk_iff, Kept.tick_iff]) | split | intro _)

theorem State.qcRestart_kept {z s : State} (h : State.Kept z s) (e : Nat) : State.Kept z (State.qcRestart s e) := by
  dsimp only [State.qcRestart]
  repeat' (first | (with_reducible first | assumption | apply Kept.foldl | apply Kept.foldl1 | apply Kept.foldl2 | apply setQctx_kept | apply engPump_kept | apply haltQueue_kept | apply qcRes_kept) | (simp only [Kept.mk_iff, Kept.tick_iff]) | split | intro _)

theorem State.qcCmd_kept {z s : State} (h : State.Kept z s) (e op : Nat) : State.Kept z (State.qcCmd s e op) := by
  dsimp only [State.qcCmd]
  repeat' (first | (with_reducible first | assumption | apply Kept.foldl | apply Kept.foldl1 | apply Kept.foldl2 | apply pgErr_kept | apply qcRead_kept | apply qcWrite_kept | apply qcEnable_kept | apply qcDisable_kept | apply qcRestart_kept) | (simp only [Kept.mk_iff, Kept.tick_iff]) | split | intro _)

theorem execQcRead_kept (s : State) (e : EngNo) : ∃ u9, execQcRead e s = .next u9 ∧ State.Kept s u9 := by
  have h := State.Kept.refl s
  dsimp only [execQcRead]
  repeat' (first | refine ⟨_, rfl, ?_⟩ | (with_reducible first | assumption | apply Kept.foldl | apply Kept.foldl1 | apply Kept.foldl2 | apply touch_kept | apply qcCmd_kept) | (simp only [Kept.mk_iff, Kept.tick_iff]) | split | intro _)

theorem execQcWrite_kept (s : State) (e : EngNo) : ∃ u9, execQcWrite e s = .next u9 ∧ State.Kept s u9 := by
  have h := State.Kept.refl s
  dsimp only [execQcWrite]
  repeat' (first | refine ⟨_, rfl, ?_⟩ | (with_reducible first | assumption | apply Kept.foldl | apply Kept.foldl1 | apply Kept.foldl2 | apply touch_kept | apply qcCmd_kept) | (simp only [Kept.mk_iff, Kept.tick_iff]) | split | intro _)

theorem execQcEnable_kept (s : State) (e : EngNo) : ∃ u9, execQcEnable e s = .next u9 ∧ State.Kept s u9 := by
  have h := State.Kept.refl s
  dsimp only [execQcEnable]
  repeat' (first | refine ⟨_, rfl, ?_⟩ | (with_reducible first | assumption | apply Kept.foldl | apply Kept.foldl1 | apply Kept.foldl2 | apply touch_kept | apply qcCmd_kept) | (simp only [Kept.mk_iff, Kept.tick_iff]) | split | intro _)

theorem execQcDisable_kept (s : State) (e : EngNo) : ∃ u9, execQcDisable e s = .next u9 ∧ State.Kept s u9 := by
  have h := State.Kept.refl s
  dsimp only [execQcDisable]
  repeat' (first | refine ⟨_, rfl, ?_⟩ | (with_reducible first | assumption | apply Kept.foldl | apply Kept.foldl1 | apply Kept.foldl2 | apply touch_kept | apply qcCmd_kept) | (simp only [Kept.mk_iff, Kept.tick_iff]) | split | intro _)

theorem execQcRestart_kept (s : State) (e : EngNo) : ∃ u9, execQcRestart e s = .next u9 ∧ State.Kept s u9 := by
  have h := State.Kept.refl s
  dsimp only [execQcRestart]
  repeat' (first | refine ⟨_, rfl, ?_⟩ | (with_reducible first | assumption | apply Kept.foldl | apply Kept.foldl1 | apply Kept.foldl2 | apply touch_kept | apply qcCmd_kept) | (simp only [Kept.mk_iff, Kept.tick_iff]) | split | intro _)

theorem State.setEng_kept {z s : State} (h : State.Kept z s) (e st : Nat) : State.Kept z (State.setEng s e st) := by
  dsimp only [State.setEng]
  repeat' (first | (with_reducible first | assumption | apply Kept.foldl | apply Kept.foldl1 | apply Kept.foldl2 | apply fset_kept) | (simp only [Kept.mk_iff, Kept.tick_iff]) | split | intro _)

theorem State.engCmdRes_kept {z s : State} (h : State.Kept z s) (e r : Nat) : State.Kept z (State.engCmdRes s e r) := by
  dsimp only [State.engCmdRes]
  repeat' (first | (with_reducible first | assumption | apply Kept.foldl | apply Kept.foldl1 | apply Kept.foldl2 | apply fset_kept) | (simp only [Kept.mk_iff, Kept.tick_iff]) | split | intro _)

theorem State.engEmpty_kept {z s : State} (h : State.Kept z s) (e : Nat) : State.Kept z (State.engEmpty s e) := by
  dsimp only [State.engEmpty]
  repeat' (first | (with_reducible first | assumption | apply Kept.foldl | apply Kept.foldl1 | apply Kept.foldl2) | (simp only [Kept.mk_iff, Kept.tick_iff]) | split | intro _)

theorem State.engSettle_kept {z s : State} (h : State.Kept z s) (e : Nat) : State.Kept z (State.engSettle s e) := by
  dsimp only [State.engSettle]
  repeat' (first | (with_reducible first | assumption | apply Kept.foldl | apply Kept.foldl1 | apply Kept.foldl2 | apply engSampleLost_kept | apply setEngRes_kept | apply setEng_kept | apply engEmpty_kept) | (simp only [Kept.mk_iff, Kept.tick_iff]) | split | intro _)

theorem State.setMoveTo_kept {z s : State} (h : State.Kept z s) (q v : Nat) : State.Kept z (State.setMoveTo s q v) := by
  dsimp only [State.setMoveTo]
  repeat' (first | (with_reducible first | assumption | apply Kept.foldl | apply Kept.foldl1 | apply Kept.foldl2) | (simp only [Kept.mk_iff, Kept.tick_iff]) | split | intro _)

theorem State.engLeave_kept {z s : State} (h : State.Kept z s) (e dest : Nat) : State.Kept z (State.engLeave s e dest) := by
  dsimp only [State.engLeave]
  repeat' (first | (with_reducible first | assumption | apply Kept.foldl | apply Kept.foldl1 | apply Kept.foldl2 | apply setEng_kept | apply engCmdRes_kept | apply engSettle_kept | apply setMoveTo_kept) | (simp only [Kept.mk_iff, Kept.tick_iff]) | split | intro _)

theorem State.engJoin_kept {z s : State} (h : State.Kept z s) (e : Nat) : State.Kept z (State.engJoin s e) := by
  dsimp only [State.engJoin]
  repeat' (first | (with_reducible first | assumption | apply Kept.foldl | apply Kept.foldl1 | apply Kept.foldl2 | apply setEng_kept | apply engCmdRes_kept | apply engEmpty_kept) | (simp only [Kept.mk_iff, Kept.tick_iff]) | split | intro _)

theorem State.engClear_kept {z s : State} (h : State.Kept z s) (e : Nat) : State.Kept z (State.engClear s e) := by
  dsimp only [State.engClear]
  repeat' (first | (with_reducible first | assumption | apply Kept.foldl | apply Kept.foldl1 | apply Kept.foldl2 | apply setEng_kept | apply engCmdRes_kept | apply engEmpty_kept) | (simp only [Kept.mk_iff, Kept.tick_iff]) | split | intro _)

theorem State.engMoveq_kept {z s : State} (h : State.Kept z s) (e dest : Nat) : State.Kept z (State.engMoveq s e dest) := by
  dsimp only [State.engMoveq]
  repeat' (first | (with_reducible first | assumption | apply Kept.foldl | apply Kept.foldl1 | apply Kept.foldl2 | apply setQctx_kept | apply engCmdRes_kept | apply setMoveTo_kept) | (simp only [Kept.mk_iff, Kept.tick_iff]) | split | intro _)

theorem State.engCtl_kept {z s : State} (h : State.Kept z s) (e cmd dest : Nat) : State.Kept z (State.engCtl s e cmd dest) := by
  dsimp only [State.engCtl]
  repeat' (first | (with_reducible first | assumption | apply Kept.foldl | apply Kept.foldl1 | apply Kept.foldl2 | apply fset_kept | apply engLeave_kept | apply engJoin_kept | apply engClear_kept | apply engMoveq_kept) | (simp only [Kept.mk_iff, Kept.tick_iff]) | split | intro _)

theorem execEngLeave_kept (s : State) (e : EngNo) (dest : BitVec 8) : ∃ u9, execEngLeave e dest s = .next u9 ∧ State.Kept s u9 := by
  have h := State.Kept.refl s
  dsimp only [execEngLeave]
  repeat' (first | refine ⟨_, rfl, ?_⟩ | (with_reducible first | assumption | apply Kept.foldl | apply Kept.foldl1 | apply Kept.foldl2 | apply touch_kept | apply engCtl_kept) | (simp only [Kept.mk_iff, Kept.tick_iff]) | split | intro _)

theorem execEngJoin_kept (s : State) (e : EngNo) (dest : BitVec 8) : ∃ u9, execEngJoin e dest s = .next u9 ∧ State.Kept s u9 := by
  have h := State.Kept.refl s
  dsimp only [execEngJoin]
  repeat' (first | refine ⟨_, rfl, ?_⟩ | (with_reducible first | assumption | apply Kept.foldl | apply Kept.foldl1 | apply Kept.foldl2 | apply touch_kept | apply engCtl_kept) | (simp only [Kept.mk_iff, Kept.tick_iff]) | split | intro _)

theorem execEngClear_kept (s : State) (e : EngNo) (dest : BitVec 8) : ∃ u9, execEngClear e dest s = .next u9 ∧ State.Kept s u9 := by
  have h := State.Kept.refl s
  dsimp only [execEngClear]
  repeat' (first | refine ⟨_, rfl, ?_⟩ | (with_reducible first | assumption | apply Kept.foldl | apply Kept.foldl1 | apply Kept.foldl2 | apply touch_kept | apply engCtl_kept) | (simp only [Kept.mk_iff, Kept.tick_iff]) | split | intro _)

theorem execEngMoveq_kept (s : State) (e : EngNo) (dest : BitVec 8) : ∃ u9, execEngMoveq e dest s = .next u9 ∧ State.Kept s u9 := by
  have h := State.Kept.refl s
  dsimp only [execEngMoveq]
  repeat' (first | refine ⟨_, rfl, ?_⟩ | (with_reducible first | assumption | apply Kept.foldl | apply Kept.foldl1 | apply Kept.foldl2 | apply touch_kept | apply engCtl_kept) | (simp only [Kept.mk_iff, Kept.tick_iff]) | split | intro _)

theorem State.sendOff_kept {z s : State} (h : State.Kept z s) (e d q : Nat) : State.Kept z (State.sendOff s e d q) := by
  dsimp only [State.sendOff]
  repeat' (first | (with_reducible first | assumption | apply Kept.foldl | apply Kept.foldl1 | apply Kept.foldl2 | apply setResident_kept | apply haltQueue_kept | apply setStub_kept | apply setMoveTo_kept) | (simp only [Kept.mk_iff, Kept.tick_iff]) | split | intro _)

theorem State.contextSend_kept {z s : State} (h : State.Kept z s) (e : Nat) : State.Kept z (State.contextSend s e) := by
  dsimp only [State.contextSend]
  repeat' (first | (with_reducible first | assumption | apply Kept.foldl | apply Kept.foldl1 | apply Kept.foldl2 | apply submit_kept | apply engSettle_kept | apply sendOff_kept) | (simp only [Kept.mk_iff, Kept.tick_iff]) | split | intro _)

theorem execContextSend_kept (s : State) (e : EngNo) : ∃ u9, execContextSend e s = .next u9 ∧ State.Kept s u9 := by
  have h := State.Kept.refl s
  dsimp only [execContextSend]
  repeat' (first | refine ⟨_, rfl, ?_⟩ | (with_reducible first | assumption | apply Kept.foldl | apply Kept.foldl1 | apply Kept.foldl2 | apply contextSend_kept) | (simp only [Kept.mk_iff, Kept.tick_iff]) | split | intro _)

theorem State.descReject_kept {z s : State} (h : State.Kept z s) (e : Nat) (f : Flit) (why : Nat) : State.Kept z (State.descReject s e f why) := by
  dsimp only [State.descReject]
  repeat' (first | (with_reducible first | assumption | apply Kept.foldl | apply Kept.foldl1 | apply Kept.foldl2 | apply rcInc_kept | apply record_kept) | (simp only [Kept.mk_iff, Kept.tick_iff]) | split | intro _)

theorem State.install1_kept {z s : State} (h : State.Kept z s) (e q b : Nat) : State.Kept z (State.install1 s e q b) := by
  dsimp only [State.install1]
  repeat' (first | (with_reducible first | assumption | apply Kept.foldl | apply Kept.foldl1 | apply Kept.foldl2 | apply bcast_kept | apply setResident_kept | apply setQctx_kept | apply setEngRes_kept | apply setStub_kept) | (simp only [Kept.mk_iff, Kept.tick_iff]) | split | intro _)

theorem State.contextIn_kept {z s : State} (h : State.Kept z s) (e : Nat) (f : Flit) : State.Kept z (State.contextIn s e f) := by
  dsimp only [State.contextIn]
  repeat' (first | (with_reducible first | assumption | apply Kept.foldl | apply Kept.foldl1 | apply Kept.foldl2 | apply engPump_kept | apply descReject_kept | apply install1_kept) | (simp only [Kept.mk_iff, Kept.tick_iff]) | split | intro _)

theorem State.pushIn_kept {z s : State} (h : State.Kept z s) (e : Nat) (f : Flit) : State.Kept z (State.pushIn s e f) := by
  dsimp only [State.pushIn]
  repeat' (first | (with_reducible first | assumption | apply Kept.foldl | apply Kept.foldl1 | apply Kept.foldl2 | apply setQctx_kept | apply setAvail_kept | apply engPump_kept | apply descReject_kept) | (simp only [Kept.mk_iff, Kept.tick_iff]) | split | intro _)

theorem State.descTake_kept {z s : State} (h : State.Kept z s) (e : Nat) (x : Egr) : State.Kept z (State.descTake s e x) := by
  dsimp only [State.descTake]
  repeat' (first | (with_reducible first | assumption | apply Kept.foldl | apply Kept.foldl1 | apply Kept.foldl2 | apply egrTake_kept) | (simp only [Kept.mk_iff, Kept.tick_iff]) | split | intro _)

theorem execContextLand_kept (s : State) (e : EngNo) : ∃ u9, execContextLand e s = .next u9 ∧ State.Kept s u9 := by
  have h := State.Kept.refl s
  dsimp only [execContextLand]
  repeat' (first | refine ⟨_, rfl, ?_⟩ | (with_reducible first | assumption | apply Kept.foldl | apply Kept.foldl1 | apply Kept.foldl2 | apply contextIn_kept | apply descTake_kept) | (simp only [Kept.mk_iff, Kept.tick_iff]) | split | intro _)

theorem execPush_kept (s : State) (e : EngNo) : ∃ u9, execPush e s = .next u9 ∧ State.Kept s u9 := by
  have h := State.Kept.refl s
  dsimp only [execPush]
  repeat' (first | refine ⟨_, rfl, ?_⟩ | (with_reducible first | assumption | apply Kept.foldl | apply Kept.foldl1 | apply Kept.foldl2 | apply pushIn_kept | apply descTake_kept) | (simp only [Kept.mk_iff, Kept.tick_iff]) | split | intro _)

theorem State.qmapUpd_kept {z s : State} (h : State.Kept z s) (n q e : Nat) : State.Kept z (State.qmapUpd s n q e) := by
  dsimp only [State.qmapUpd]
  repeat' (first | (with_reducible first | assumption | apply Kept.foldl | apply Kept.foldl1 | apply Kept.foldl2 | apply fset_kept | apply setStub_kept | apply setQmapCopy_kept) | (simp only [Kept.mk_iff, Kept.tick_iff]) | split | intro _)

theorem execQmapUpd_kept (s : State) (n : Node) (m : Msg) : ∃ u9, execQmapUpd n m s = .next u9 ∧ State.Kept s u9 := by
  have h := State.Kept.refl s
  dsimp only [execQmapUpd]
  repeat' (first | refine ⟨_, rfl, ?_⟩ | (with_reducible first | assumption | apply Kept.foldl | apply Kept.foldl1 | apply Kept.foldl2 | apply take_kept | apply msgBad_kept | apply qmapUpd_kept) | (simp only [Kept.mk_iff, Kept.tick_iff]) | split | intro _)

theorem State.stubExpire_kept {z s : State} (h : State.Kept z s) (e : Nat) : State.Kept z (State.stubExpire s e) := by
  dsimp only [State.stubExpire]
  repeat' (first | (with_reducible first | assumption | apply Kept.foldl | apply Kept.foldl1 | apply Kept.foldl2) | (simp only [Kept.mk_iff, Kept.tick_iff]) | split | intro _)

theorem execStubExpire_kept (s : State) (e : EngNo) : ∃ u9, execStubExpire e s = .next u9 ∧ State.Kept s u9 := by
  have h := State.Kept.refl s
  dsimp only [execStubExpire]
  repeat' (first | refine ⟨_, rfl, ?_⟩ | (with_reducible first | assumption | apply Kept.foldl | apply Kept.foldl1 | apply Kept.foldl2 | apply stubExpire_kept) | (simp only [Kept.mk_iff, Kept.tick_iff]) | split | intro _)

theorem State.engCtxUe_kept {z s : State} (h : State.Kept z s) (e q : Nat) : State.Kept z (State.engCtxUe s e q) := by
  dsimp only [State.engCtxUe]
  repeat' (first | (with_reducible first | assumption | apply Kept.foldl | apply Kept.foldl1 | apply Kept.foldl2 | apply intSet_kept | apply record_kept | apply setExec_kept | apply engSampleLost_kept | apply setEngRes_kept | apply setEng_kept | apply engEmpty_kept) | (simp only [Kept.mk_iff, Kept.tick_iff]) | split | intro _)

theorem execEngCtxUe_kept (s : State) (e : EngNo) (q : QueueNo) : ∃ u9, execEngCtxUe e q s = .next u9 ∧ State.Kept s u9 := by
  have h := State.Kept.refl s
  dsimp only [execEngCtxUe]
  repeat' (first | refine ⟨_, rfl, ?_⟩ | (with_reducible first | assumption | apply Kept.foldl | apply Kept.foldl1 | apply Kept.foldl2 | apply engCtxUe_kept) | (simp only [Kept.mk_iff, Kept.tick_iff]) | split | intro _)

theorem State.dropWork_kept {z s : State} (h : State.Kept z s) (e x : Nat) : State.Kept z (State.dropWork s e x) := by
  dsimp only [State.dropWork]
  repeat' (first | (with_reducible first | assumption | apply Kept.foldl | apply Kept.foldl1 | apply Kept.foldl2 | apply setFormQ_kept | apply modChunk_kept) | (simp only [Kept.mk_iff, Kept.tick_iff]) | split | intro _)

theorem State.queueAbort_kept {z s : State} (h : State.Kept z s) (e q sgen : Nat) : State.Kept z (State.queueAbort s e q sgen) := by
  dsimp only [State.queueAbort]
  repeat' (first | (with_reducible first | assumption | apply Kept.foldl | apply Kept.foldl1 | apply Kept.foldl2 | apply setQctx_kept | apply setExec_kept | apply haltQueue_kept) | (simp only [Kept.mk_iff, Kept.tick_iff]) | split | intro _)

theorem State.dropFetches_kept {z s : State} (h : State.Kept z s) (e x : Nat) : State.Kept z (State.dropFetches s e x) := by
  dsimp only [State.dropFetches]
  repeat' (first | (with_reducible first | assumption | apply Kept.foldl | apply Kept.foldl1 | apply Kept.foldl2 | apply setFormQ_kept | apply setQctx_kept | apply setFetch_kept) | (simp only [Kept.mk_iff, Kept.tick_iff]) | split | intro _)

theorem State.forwardAbort_kept {z s : State} (h : State.Kept z s) (e q x sgen : Nat) (n : Nat) : State.Kept z (State.forwardAbort s e q x sgen n) := by
  induction n generalizing s e with
  | zero => exact h
  | succ n ih =>
    dsimp only [State.forwardAbort]
    repeat' (first | with_reducible (apply ih) | (with_reducible first | assumption | apply queueAbort_kept) | (simp only [Kept.mk_iff, Kept.tick_iff]) | split | intro _)

theorem State.queueReset_kept {z s : State} (h : State.Kept z s) (e q sgen : Nat) : State.Kept z (State.queueReset s e q sgen) := by
  dsimp only [State.queueReset]
  repeat' (first | (with_reducible first | assumption | apply Kept.foldl | apply Kept.foldl1 | apply Kept.foldl2 | apply setAvail_kept | apply setQctx_kept | apply haltQueue_kept) | (simp only [Kept.mk_iff, Kept.tick_iff]) | split | intro _)

theorem State.sliceAtEngine_kept {z s : State} (h : State.Kept z s) (e x op sgen : Nat) (qreset : Bool) : State.Kept z (State.sliceAtEngine s e x op sgen qreset) := by
  dsimp only [State.sliceAtEngine]
  repeat' (first | (with_reducible first | assumption | apply Kept.foldl | apply Kept.foldl1 | apply Kept.foldl2 | apply engPump_kept | apply queueTo_kept | apply dropWork_kept | apply queueAbort_kept | apply dropFetches_kept | apply forwardAbort_kept | apply queueReset_kept) | (simp only [Kept.mk_iff, Kept.tick_iff]) | split | intro _)

end Sys2Proof.Machine
end

