-- ==== Sys2Proof/Laws/KeptIso.lean ====
section
/-! SUPPORT. The operations of Iso.lean keep the queue and the canonical register file. -/

set_option linter.unusedSimpArgs false

namespace Sys2Proof.Machine

open State

theorem State.setErq_kept {z s : State} (h : State.Kept z s) (q : List Nat) : State.Kept z (State.setErq s q) := by
  dsimp only [State.setErq]
  repeat' (first | (with_reducible first | assumption | apply Kept.foldl | apply Kept.foldl1 | apply Kept.foldl2 | apply fset_kept) | (simp only [Kept.mk_iff, Kept.tick_iff]) | split | intro _)

theorem State.erqLost_kept {z s : State} (h : State.Kept z s) (reporter why : Nat) : State.Kept z (State.erqLost s reporter why) := by
  dsimp only [State.erqLost]
  repeat' (first | (with_reducible first | assumption | apply Kept.foldl | apply Kept.foldl1 | apply Kept.foldl2 | apply rcInc_kept | apply record_kept) | (simp only [Kept.mk_iff, Kept.tick_iff]) | split | intro _)

theorem State.erqFrag_kept {z s : State} (h : State.Kept z s) (m : Msg) : State.Kept z (State.erqFrag s m) := by
  dsimp only [State.erqFrag]
  repeat' (first | (with_reducible first | assumption | apply Kept.foldl | apply Kept.foldl1 | apply Kept.foldl2 | apply setErq_kept | apply erqLost_kept) | (simp only [Kept.mk_iff, Kept.tick_iff]) | split | intro _)

theorem execErqFrag_kept (s : State) (m : Msg) : ∃ u9, execErqFrag m s = .next u9 ∧ State.Kept s u9 := by
  have h := State.Kept.refl s
  dsimp only [execErqFrag]
  repeat' (first | refine ⟨_, rfl, ?_⟩ | (with_reducible first | assumption | apply Kept.foldl | apply Kept.foldl1 | apply Kept.foldl2 | apply take_kept | apply msgBad_kept | apply erqFrag_kept) | (simp only [Kept.mk_iff, Kept.tick_iff]) | split | intro _)

theorem execErqFragTimeout_kept (s : State) (r : Node) (rnum : Fin 64) : ∃ u9, execErqFragTimeout r rnum s = .next u9 ∧ State.Kept s u9 := by
  have h := State.Kept.refl s
  dsimp only [execErqFragTimeout]
  repeat' (first | refine ⟨_, rfl, ?_⟩ | (with_reducible first | assumption | apply Kept.foldl | apply Kept.foldl1 | apply Kept.foldl2 | apply erqLost_kept) | (simp only [Kept.mk_iff, Kept.tick_iff]) | split | intro _)

theorem State.erqPop_kept {z s : State} (h : State.Kept z s)  : State.Kept z (State.erqPop s) := by
  dsimp only [State.erqPop]
  repeat' (first | (with_reducible first | assumption | apply Kept.foldl | apply Kept.foldl1 | apply Kept.foldl2 | apply setErq_kept) | (simp only [Kept.mk_iff, Kept.tick_iff]) | split | intro _)

theorem execErqPop_kept (s : State)  : ∃ u9, execErqPop s = .next u9 ∧ State.Kept s u9 := by
  have h := State.Kept.refl s
  dsimp only [execErqPop]
  repeat' (first | refine ⟨_, rfl, ?_⟩ | (with_reducible first | assumption | apply Kept.foldl | apply Kept.foldl1 | apply Kept.foldl2 | apply touch_kept | apply erqPop_kept) | (simp only [Kept.mk_iff, Kept.tick_iff]) | split | intro _)

theorem State.isoStart_kept {z s : State} (h : State.Kept z s) (kind id cause : Nat) : State.Kept z (State.isoStart s kind id cause) := by
  dsimp only [State.isoStart]
  repeat' (first | (with_reducible first | assumption | apply Kept.foldl | apply Kept.foldl1 | apply Kept.foldl2 | apply fput_kept | apply bcast_kept | apply newNotice_kept) | (simp only [Kept.mk_iff, Kept.tick_iff]) | split | intro _)

theorem State.isoAsk_kept {z s : State} (h : State.Kept z s) (kind id cause : Nat) : State.Kept z (State.isoAsk s kind id cause) := by
  dsimp only [State.isoAsk]
  repeat' (first | (with_reducible first | assumption | apply Kept.foldl | apply Kept.foldl1 | apply Kept.foldl2 | apply isoStart_kept) | (simp only [Kept.mk_iff, Kept.tick_iff]) | split | intro _)

theorem State.isolate_kept {z s : State} (h : State.Kept z s) (kind id : Nat) : State.Kept z (State.isolate s kind id) := by
  dsimp only [State.isolate]
  repeat' (first | (with_reducible first | assumption | apply Kept.foldl | apply Kept.foldl1 | apply Kept.foldl2 | apply fset_kept | apply isoStart_kept) | (simp only [Kept.mk_iff, Kept.tick_iff]) | split | intro _)

theorem execIsolate_kept (s : State) (kind : Fin 2) (id : Fin 64) : ∃ u9, execIsolate kind id s = .next u9 ∧ State.Kept s u9 := by
  have h := State.Kept.refl s
  dsimp only [execIsolate]
  repeat' (first | refine ⟨_, rfl, ?_⟩ | (with_reducible first | assumption | apply Kept.foldl | apply Kept.foldl1 | apply Kept.foldl2 | apply touch_kept | apply isolate_kept) | (simp only [Kept.mk_iff, Kept.tick_iff]) | split | intro _)

theorem State.isoIn_kept {z s : State} (h : State.Kept z s) (n : Nat) (m : Msg) : State.Kept z (State.isoIn s n m) := by
  dsimp only [State.isoIn]
  repeat' (first | (with_reducible first | assumption | apply Kept.foldl | apply Kept.foldl1 | apply Kept.foldl2) | (simp only [Kept.mk_iff, Kept.tick_iff]) | split | intro _)

theorem execIsolateMsg_kept (s : State) (n : Node) (m : Msg) : ∃ u9, execIsolateMsg n m s = .next u9 ∧ State.Kept s u9 := by
  have h := State.Kept.refl s
  dsimp only [execIsolateMsg]
  repeat' (first | refine ⟨_, rfl, ?_⟩ | (with_reducible first | assumption | apply Kept.foldl | apply Kept.foldl1 | apply Kept.foldl2 | apply take_kept | apply msgBad_kept | apply isoIn_kept) | (simp only [Kept.mk_iff, Kept.tick_iff]) | split | intro _)

theorem State.isoFree_kept {z s : State} (h : State.Kept z s) (k x : Nat) : State.Kept z (State.isoFree s k x) := by
  dsimp only [State.isoFree]
  repeat' (first | (with_reducible first | assumption | apply Kept.foldl | apply Kept.foldl1 | apply Kept.foldl2 | apply rcInc_kept | apply setCredit_kept | apply setQueue_kept | apply withdrawCredits_kept | apply setRet_kept | apply setBridge_kept) | (simp only [Kept.mk_iff, Kept.tick_iff]) | split | intro _)

theorem State.isoDrop_kept {z s : State} (h : State.Kept z s) (k x : Nat) : State.Kept z (State.isoDrop s k x) := by
  dsimp only [State.isoDrop]
  repeat' (first | (with_reducible first | assumption | apply Kept.foldl | apply Kept.foldl1 | apply Kept.foldl2 | apply fset_kept | apply setCharge_kept | apply setUsed_kept | apply setPendQ_kept) | (simp only [Kept.mk_iff, Kept.tick_iff]) | split | intro _)

theorem State.isoEject_kept {z s : State} (h : State.Kept z s) (k x : Nat) : State.Kept z (State.isoEject s k x) := by
  dsimp only [State.isoEject]
  repeat' (first | (with_reducible first | assumption | apply Kept.foldl | apply Kept.foldl1 | apply Kept.foldl2 | apply rcInc_kept) | (simp only [Kept.mk_iff, Kept.tick_iff]) | split | intro _)

theorem State.isoRelease_kept {z s : State} (h : State.Kept z s) (k x : Nat) : State.Kept z (State.isoRelease s k x) := by
  dsimp only [State.isoRelease]
  repeat' (first | (with_reducible first | assumption | apply Kept.foldl | apply Kept.foldl1 | apply Kept.foldl2 | apply rcInc_kept | apply record_kept | apply releaseOne_kept) | (simp only [Kept.mk_iff, Kept.tick_iff]) | split | intro _)

theorem State.isoHolds_kept {z s : State} (h : State.Kept z s) (k x : Nat) : State.Kept z (State.isoHolds s k x) := by
  dsimp only [State.isoHolds]
  repeat' (first | (with_reducible first | assumption | apply Kept.foldl | apply Kept.foldl1 | apply Kept.foldl2 | apply pump_kept) | (simp only [Kept.mk_iff, Kept.tick_iff]) | split | intro _)

theorem State.isoOther_kept {z s : State} (h : State.Kept z s) (k x : Nat) : State.Kept z (State.isoOther s k x) := by
  dsimp only [State.isoOther]
  repeat' (first | (with_reducible first | assumption | apply Kept.foldl | apply Kept.foldl1 | apply Kept.foldl2 | apply restartPair_kept | apply isoFree_kept | apply isoDrop_kept | apply isoEject_kept | apply isoRelease_kept | apply isoHolds_kept) | (simp only [Kept.mk_iff, Kept.tick_iff]) | split | intro _)

theorem State.isoMem_kept {z s : State} (h : State.Kept z s) (c : Nat) : State.Kept z (State.isoMem s c) := by
  dsimp only [State.isoMem]
  repeat' (first | (with_reducible first | assumption | apply Kept.foldl | apply Kept.foldl1 | apply Kept.foldl2 | apply take_kept | apply sillage_kept | apply setJobs_kept | apply chLost_kept) | (simp only [Kept.mk_iff, Kept.tick_iff]) | split | intro _)

theorem State.isoSelf_kept {z s : State} (h : State.Kept z s) (x : Nat) : State.Kept z (State.isoSelf s x) := by
  dsimp only [State.isoSelf]
  repeat' (first | (with_reducible first | assumption | apply Kept.foldl | apply Kept.foldl1 | apply Kept.foldl2 | apply fset_kept | apply stopLost_kept | apply isoMem_kept) | (simp only [Kept.mk_iff, Kept.tick_iff]) | split | intro _)

theorem State.sectorOff_kept {z s : State} (h : State.Kept z s) (x : Nat) : State.Kept z (State.sectorOff s x) := by
  dsimp only [State.sectorOff]
  repeat' (first | (with_reducible first | assumption | apply Kept.foldl | apply Kept.foldl1 | apply Kept.foldl2 | apply fset_kept | apply setPhase_kept | apply sectorLost_kept | apply powerEntry_kept) | (simp only [Kept.mk_iff, Kept.tick_iff]) | split | intro _)

theorem State.isoSector_kept {z s : State} (h : State.Kept z s) (x : Nat) : State.Kept z (State.isoSector s x) := by
  dsimp only [State.isoSector]
  repeat' (first | (with_reducible first | assumption | apply Kept.foldl | apply Kept.foldl1 | apply Kept.foldl2 | apply engCtxUe_kept | apply sectorOff_kept) | (simp only [Kept.mk_iff, Kept.tick_iff]) | split | intro _)

theorem State.isoApply_kept {z s : State} (h : State.Kept z s) (n : Nat) : State.Kept z (State.isoApply s n) := by
  dsimp only [State.isoApply]
  repeat' (first | (with_reducible first | assumption | apply Kept.foldl | apply Kept.foldl1 | apply Kept.foldl2 | apply isoOther_kept | apply isoSelf_kept | apply isoSector_kept) | (simp only [Kept.mk_iff, Kept.tick_iff]) | split | intro _)

theorem execIsolateApply_kept (s : State) (n : Node) : ∃ u9, execIsolateApply n s = .next u9 ∧ State.Kept s u9 := by
  have h := State.Kept.refl s
  dsimp only [execIsolateApply]
  repeat' (first | refine ⟨_, rfl, ?_⟩ | (with_reducible first | assumption | apply Kept.foldl | apply Kept.foldl1 | apply Kept.foldl2 | apply isoApply_kept) | (simp only [Kept.mk_iff, Kept.tick_iff]) | split | intro _)

theorem State.isoComplete_kept {z s : State} (h : State.Kept z s)  : State.Kept z (State.isoComplete s) := by
  dsimp only [State.isoComplete]
  repeat' (first | (with_reducible first | assumption | apply Kept.foldl | apply Kept.foldl1 | apply Kept.foldl2 | apply fput_kept | apply record_kept | apply sendErq_kept | apply isoAsk_kept) | (simp only [Kept.mk_iff, Kept.tick_iff]) | split | intro _)

theorem execIsolationComplete_kept (s : State)  : ∃ u9, execIsolationComplete s = .next u9 ∧ State.Kept s u9 := by
  have h := State.Kept.refl s
  dsimp only [execIsolationComplete]
  repeat' (first | refine ⟨_, rfl, ?_⟩ | (with_reducible first | assumption | apply Kept.foldl | apply Kept.foldl1 | apply Kept.foldl2 | apply isoComplete_kept) | (simp only [Kept.mk_iff, Kept.tick_iff]) | split | intro _)

theorem State.isoAgain_kept {z s : State} (h : State.Kept z s)  : State.Kept z (State.isoAgain s) := by
  dsimp only [State.isoAgain]
  repeat' (first | (with_reducible first | assumption | apply Kept.foldl | apply Kept.foldl1 | apply Kept.foldl2 | apply bcast_kept | apply noticesRepeat_kept) | (simp only [Kept.mk_iff, Kept.tick_iff]) | split | intro _)

theorem State.rejoinUnit_kept {z s : State} (h : State.Kept z s) (kind id : Nat) : State.Kept z (State.rejoinUnit s kind id) := by
  dsimp only [State.rejoinUnit]
  repeat' (first | (with_reducible first | assumption | apply Kept.foldl | apply Kept.foldl1 | apply Kept.foldl2 | apply fset_kept | apply reopen_kept | apply syncAll_kept) | (simp only [Kept.mk_iff, Kept.tick_iff]) | split | intro _)

theorem execRejoin_kept (s : State) (kind : Fin 2) (id : Fin 64) : ∃ u9, execRejoin kind id s = .next u9 ∧ State.Kept s u9 := by
  have h := State.Kept.refl s
  dsimp only [execRejoin]
  repeat' (first | refine ⟨_, rfl, ?_⟩ | (with_reducible first | assumption | apply Kept.foldl | apply Kept.foldl1 | apply Kept.foldl2 | apply touch_kept | apply rejoinUnit_kept) | (simp only [Kept.mk_iff, Kept.tick_iff]) | split | intro _)

theorem State.isoCtl_kept {z s : State} (h : State.Kept z s) (w : Word) : State.Kept z (State.isoCtl s w) := by
  dsimp only [State.isoCtl]
  repeat' (first | (with_reducible first | assumption | apply Kept.foldl | apply Kept.foldl1 | apply Kept.foldl2 | apply fset_kept | apply isolate_kept | apply rejoinUnit_kept) | (simp only [Kept.mk_iff, Kept.tick_iff]) | split | intro _)

theorem State.isoReroute_kept {z s : State} (h : State.Kept z s) (k : Nat) : State.Kept z (State.isoReroute s k) := by
  dsimp only [State.isoReroute]
  repeat' (first | (with_reducible first | assumption | apply Kept.foldl | apply Kept.foldl1 | apply Kept.foldl2 | apply setQueue_kept | apply resService_kept) | (simp only [Kept.mk_iff, Kept.tick_iff]) | split | intro _)

theorem State.supplyFault_kept {z s : State} (h : State.Kept z s) (x why : Nat) : State.Kept z (State.supplyFault s x why) := by
  dsimp only [State.supplyFault]
  repeat' (first | (with_reducible first | assumption | apply Kept.foldl | apply Kept.foldl1 | apply Kept.foldl2 | apply intSet_kept | apply rcInc_kept | apply record_kept | apply isoAsk_kept | apply sectorOff_kept) | (simp only [Kept.mk_iff, Kept.tick_iff]) | split | intro _)

theorem execSvokTimeout_kept (s : State) (x : Sector) : ∃ u9, execSvokTimeout x s = .next u9 ∧ State.Kept s u9 := by
  have h := State.Kept.refl s
  dsimp only [execSvokTimeout]
  repeat' (first | refine ⟨_, rfl, ?_⟩ | (with_reducible first | assumption | apply Kept.foldl | apply Kept.foldl1 | apply Kept.foldl2 | apply supplyFault_kept) | (simp only [Kept.mk_iff, Kept.tick_iff]) | split | intro _)

theorem execSvokLost_kept (s : State) (x : Sector) : ∃ u9, execSvokLost x s = .next u9 ∧ State.Kept s u9 := by
  have h := State.Kept.refl s
  dsimp only [execSvokLost]
  repeat' (first | refine ⟨_, rfl, ?_⟩ | (with_reducible first | assumption | apply Kept.foldl | apply Kept.foldl1 | apply Kept.foldl2 | apply supplyFault_kept) | (simp only [Kept.mk_iff, Kept.tick_iff]) | split | intro _)

theorem State.causeCheck_kept {z s : State} (h : State.Kept z s) (c : Nat) : State.Kept z (State.causeCheck s c) := by
  dsimp only [State.causeCheck]
  repeat' (first | (with_reducible first | assumption | apply Kept.foldl | apply Kept.foldl1 | apply Kept.foldl2 | apply recoveryCause_kept) | (simp only [Kept.mk_iff, Kept.tick_iff]) | split | intro _)

theorem execRecoveryCause_kept (s : State) (c : Fin 5) : ∃ u9, execRecoveryCause c s = .next u9 ∧ State.Kept s u9 := by
  have h := State.Kept.refl s
  dsimp only [execRecoveryCause]
  repeat' (first | refine ⟨_, rfl, ?_⟩ | (with_reducible first | assumption | apply Kept.foldl | apply Kept.foldl1 | apply Kept.foldl2 | apply causeCheck_kept) | (simp only [Kept.mk_iff, Kept.tick_iff]) | split | intro _)

theorem State.maintSeg_kept {z s : State} (h : State.Kept z s) (n d : Nat) : State.Kept z (State.maintSeg s n d) := by
  dsimp only [State.maintSeg]
  repeat' (first | (with_reducible first | assumption | apply Kept.foldl | apply Kept.foldl1 | apply Kept.foldl2 | apply record_kept | apply causeCheck_kept) | (simp only [Kept.mk_iff, Kept.tick_iff]) | split | intro _)

theorem execMaintSeg_kept (s : State) (n : Node) (d : Dir) : ∃ u9, execMaintSeg n d s = .next u9 ∧ State.Kept s u9 := by
  have h := State.Kept.refl s
  dsimp only [execMaintSeg]
  repeat' (first | refine ⟨_, rfl, ?_⟩ | (with_reducible first | assumption | apply Kept.foldl | apply Kept.foldl1 | apply Kept.foldl2 | apply maintSeg_kept) | (simp only [Kept.mk_iff, Kept.tick_iff]) | split | intro _)

theorem execStopUe_kept (s : State) (k : Stop) (which : Fin 9) (idx : Word) : ∃ u9, execStopUe k which idx s = .next u9 ∧ State.Kept s u9 := by
  have h := State.Kept.refl s
  dsimp only [execStopUe]
  repeat' (first | refine ⟨_, rfl, ?_⟩ | (with_reducible first | assumption | apply Kept.foldl | apply Kept.foldl1 | apply Kept.foldl2 | apply stopUe_kept) | (simp only [Kept.mk_iff, Kept.tick_iff]) | split | intro _)

theorem State.testKey_kept {z s : State} (h : State.Kept z s) (w : Word) : State.Kept z (State.testKey s w) := by
  dsimp only [State.testKey]
  split
  · exact State.fput_kept h _ _ _ _ _ _
  · apply State.fput_kept
    refine h.updRegs rfl rfl rfl (fun r => ?_)
    unfold State.RegsOk
    dsimp only
    exact twf_tdrop 0 _ _ r

theorem execTestKeyWrite_kept (s : State) (w : Word) : ∃ u9, execTestKeyWrite w s = .next u9 ∧ State.Kept s u9 := by
  have h := State.Kept.refl s
  dsimp only [execTestKeyWrite]
  repeat' (first | refine ⟨_, rfl, ?_⟩ | (with_reducible first | assumption | apply Kept.foldl | apply Kept.foldl1 | apply Kept.foldl2 | apply touch_kept | apply testKey_kept) | (simp only [Kept.mk_iff, Kept.tick_iff]) | split | intro _)

end Sys2Proof.Machine
end

