-- ==== Sys2Proof/Laws/KeptRepl.lean ====
section
/-! SUPPORT. The operations of Repl.lean keep the queue and the canonical register file. -/

set_option linter.unusedSimpArgs false

namespace Sys2Proof.Machine

open State

theorem State.setFan_kept {z s : State} (h : State.Kept z s) (l : List Fan) : State.Kept z (State.setFan s l) := by
  dsimp only [State.setFan]
  repeat' (first | (with_reducible first | assumption | apply Kept.foldl | apply Kept.foldl1 | apply Kept.foldl2 | apply fset_kept) | (simp only [Kept.mk_iff, Kept.tick_iff]) | split | intro _)

theorem State.replTakeOne_kept {z s u9 : State} (h : State.Kept z s)  (he : State.replTakeOne s = some u9) : State.Kept z u9 := by
  revert he
  dsimp only [State.replTakeOne]
  repeat' (first | (with_reducible first | refine Kept.of_some ?_ | refine Kept.of_none | refine Kept.of_pair ?_) | (with_reducible first | assumption | apply Kept.foldl | apply Kept.foldl1 | apply Kept.foldl2 | apply setEgr_kept | apply freeEgr_kept | apply poisTake_kept | apply setFan_kept) | (simp only [Kept.mk_iff, Kept.tick_iff]) | split | intro _)

theorem State.replTakeAll_kept {z s : State} (h : State.Kept z s)  (n : Nat) : State.Kept z (State.replTakeAll s n) := by
  induction n generalizing s with
  | zero =>
    dsimp only [State.replTakeAll]
    repeat' (first | (with_reducible first | assumption | apply Kept.foldl | apply Kept.foldl1 | apply Kept.foldl2 | refine replTakeOne_kept ?_ (by assumption)) | (simp only [Kept.mk_iff, Kept.tick_iff]) | split | intro _)
  | succ n ih =>
    dsimp only [State.replTakeAll]
    repeat' (first | with_reducible (apply ih) | (with_reducible first | assumption | apply Kept.foldl | apply Kept.foldl1 | apply Kept.foldl2 | refine replTakeOne_kept ?_ (by assumption)) | (simp only [Kept.mk_iff, Kept.tick_iff]) | split | intro _)

theorem State.replTake_kept {z s : State} (h : State.Kept z s) (k : Nat) : State.Kept z (State.replTake s k) := by
  dsimp only [State.replTake]
  repeat' (first | (with_reducible first | assumption | apply Kept.foldl | apply Kept.foldl1 | apply Kept.foldl2 | apply replTakeAll_kept) | (simp only [Kept.mk_iff, Kept.tick_iff]) | split | intro _)

theorem State.served_kept {z s : State} (h : State.Kept z s) (n i : Nat) (x : Fan) : State.Kept z (State.served s n i x) := by
  dsimp only [State.served]
  repeat' (first | (with_reducible first | assumption | apply Kept.foldl | apply Kept.foldl1 | apply Kept.foldl2 | apply freeEgr_kept | apply setFan_kept | apply replTake_kept) | (simp only [Kept.mk_iff, Kept.tick_iff]) | split | intro _)

theorem State.copyFlit_kept {z s : State} (h : State.Kept z s) (n i : Nat) (x : Fan) : State.Kept z (State.copyFlit s n i x) := by
  dsimp only [State.copyFlit]
  repeat' (first | (with_reducible first | assumption | apply Kept.foldl | apply Kept.foldl1 | apply Kept.foldl2 | apply fsat_kept | apply formOne_kept | apply setFan_kept | apply served_kept) | (simp only [Kept.mk_iff, Kept.tick_iff]) | split | intro _)

theorem State.copyHolds_kept {z s : State} (h : State.Kept z s)  : State.Kept z (State.copyHolds s) := by
  dsimp only [State.copyHolds]
  repeat' (first | (with_reducible first | assumption | apply Kept.foldl | apply Kept.foldl1 | apply Kept.foldl2 | apply rcInc_kept | apply setFan_kept) | (simp only [Kept.mk_iff, Kept.tick_iff]) | split | intro _)

theorem State.replCopy_kept {z s : State} (h : State.Kept z s)  : State.Kept z (State.replCopy s) := by
  dsimp only [State.replCopy]
  repeat' (first | (with_reducible first | assumption | apply Kept.foldl | apply Kept.foldl1 | apply Kept.foldl2 | apply fsat_kept | apply replTake_kept | apply served_kept | apply copyFlit_kept | apply copyHolds_kept) | (simp only [Kept.mk_iff, Kept.tick_iff]) | split | intro _)

theorem execReplCopy_kept (s : State)  : ∃ u9, execReplCopy s = .next u9 ∧ State.Kept s u9 := by
  have h := State.Kept.refl s
  dsimp only [execReplCopy]
  repeat' (first | refine ⟨_, rfl, ?_⟩ | (with_reducible first | assumption | apply Kept.foldl | apply Kept.foldl1 | apply Kept.foldl2 | apply replCopy_kept) | (simp only [Kept.mk_iff, Kept.tick_iff]) | split | intro _)

end Sys2Proof.Machine
end

