-- ==== Sys2Proof/Laws/KeptLanding.lean ====
section
/-! SUPPORT. The operations of Landing.lean keep the queue and the canonical register file. -/

set_option linter.unusedSimpArgs false

namespace Sys2Proof.Machine

open State

theorem State.settled_kept {z s : State} (h : State.Kept z s) (k : Nat) : State.Kept z (State.settled s k) := by
  dsimp only [State.settled]
  repeat' (first | (with_reducible first | assumption | apply Kept.foldl | apply Kept.foldl1 | apply Kept.foldl2 | apply pump_kept | apply memSettle_kept | apply engSettle_kept | apply replTake_kept) | (simp only [Kept.mk_iff, Kept.tick_iff]) | split | intro _)

theorem State.landLane_kept {z s : State} (h : State.Kept z s) (k lane : Nat) : State.Kept z (State.landLane s k lane) := by
  dsimp only [State.landLane]
  repeat' (first | (with_reducible first | assumption | apply Kept.foldl | apply Kept.foldl1 | apply Kept.foldl2 | apply ackOne_kept | apply landFilter_kept | apply ejectPop_kept | apply e2eFail_kept | apply settled_kept) | (simp only [Kept.mk_iff, Kept.tick_iff]) | split | intro _)

theorem execFlitLanding_kept (s : State) (k : Stop) (lane : Fin 19) : ∃ u9, execFlitLanding k lane s = .next u9 ∧ State.Kept s u9 := by
  have h := State.Kept.refl s
  dsimp only [execFlitLanding]
  repeat' (first | refine ⟨_, rfl, ?_⟩ | (with_reducible first | assumption | apply Kept.foldl | apply Kept.foldl1 | apply Kept.foldl2 | apply landLane_kept) | (simp only [Kept.mk_iff, Kept.tick_iff]) | split | intro _)

theorem execCplLanding_kept (s : State) (k : Stop) : ∃ u9, execCplLanding k s = .next u9 ∧ State.Kept s u9 := by
  have h := State.Kept.refl s
  dsimp only [execCplLanding]
  repeat' (first | refine ⟨_, rfl, ?_⟩ | (with_reducible first | assumption | apply Kept.foldl | apply Kept.foldl1 | apply Kept.foldl2 | apply landLane_kept) | (simp only [Kept.mk_iff, Kept.tick_iff]) | split | intro _)

theorem execAckFlit_kept (s : State) (k : Stop) (lane : Fin 19) : ∃ u9, execAckFlit k lane s = .next u9 ∧ State.Kept s u9 := by
  have h := State.Kept.refl s
  dsimp only [execAckFlit]
  repeat' (first | refine ⟨_, rfl, ?_⟩ | (with_reducible first | assumption | apply Kept.foldl | apply Kept.foldl1 | apply Kept.foldl2 | apply ackOne_kept | apply ejectPop_kept | apply e2eFail_kept | apply settled_kept) | (simp only [Kept.mk_iff, Kept.tick_iff]) | split | intro _)

end Sys2Proof.Machine
end

