-- ==== Sys2Proof/Laws/KeptSlices.lean ====
section
/-! SUPPORT. The operations of Slices.lean keep the queue and the canonical register file. -/

set_option linter.unusedSimpArgs false

namespace Sys2Proof.Machine

open State

theorem State.sliceRes_kept {z s : State} (h : State.Kept z s) (x r : Nat) : State.Kept z (State.sliceRes s x r) := by
  dsimp only [State.sliceRes]
  repeat' (first | (with_reducible first | assumption | apply Kept.foldl | apply Kept.foldl1 | apply Kept.foldl2 | apply fset_kept) | (simp only [Kept.mk_iff, Kept.tick_iff]) | split | intro _)

theorem State.setSlice_kept {z s : State} (h : State.Kept z s) (x toward : Nat) : State.Kept z (State.setSlice s x toward) := by
  dsimp only [State.setSlice]
  repeat' (first | (with_reducible first | assumption | apply Kept.foldl | apply Kept.foldl1 | apply Kept.foldl2 | apply fset_kept | apply sillage_kept) | (simp only [Kept.mk_iff, Kept.tick_iff]) | split | intro _)

theorem State.sliceUpd_kept {z s : State} (h : State.Kept z s) (x op : Nat) (qreset : Bool) : State.Kept z (State.sliceUpd s x op qreset) := by
  dsimp only [State.sliceUpd]
  repeat' (first | (with_reducible first | assumption | apply Kept.foldl | apply Kept.foldl1 | apply Kept.foldl2 | apply bcast_kept) | (simp only [Kept.mk_iff, Kept.tick_iff]) | split | intro _)

theorem State.sliceAgain_kept {z s : State} (h : State.Kept z s)  : State.Kept z (State.sliceAgain s) := by
  dsimp only [State.sliceAgain]
  repeat' (first | (with_reducible first | assumption | apply Kept.foldl | apply Kept.foldl1 | apply Kept.foldl2 | apply bcast_kept) | (simp only [Kept.mk_iff, Kept.tick_iff]) | split | intro _)

theorem State.bump_kept {z s : State} (h : State.Kept z s) (x : Nat) : State.Kept z (State.bump s x) := by
  dsimp only [State.bump]
  repeat' (first | (with_reducible first | assumption | apply Kept.foldl | apply Kept.foldl1 | apply Kept.foldl2 | apply fset_kept) | (simp only [Kept.mk_iff, Kept.tick_iff]) | split | intro _)

theorem State.track_kept {z s : State} (h : State.Kept z s) (x i : Nat) : State.Kept z (State.track s x i) := by
  dsimp only [State.track]
  repeat' (first | (with_reducible first | assumption | apply Kept.foldl | apply Kept.foldl1 | apply Kept.foldl2 | apply fset_kept | apply fput_kept) | (simp only [Kept.mk_iff, Kept.tick_iff]) | split | intro _)

theorem State.trackRemoved_kept {z s : State} (h : State.Kept z s) (x : Nat) : State.Kept z (State.trackRemoved s x) := by
  dsimp only [State.trackRemoved]
  repeat' (first | (with_reducible first | assumption | apply Kept.foldl | apply Kept.foldl1 | apply Kept.foldl2 | apply fset_kept | apply track_kept) | (simp only [Kept.mk_iff, Kept.tick_iff]) | split | intro _)

theorem State.untrack_kept {z s : State} (h : State.Kept z s) (x : Nat) : State.Kept z (State.untrack s x) := by
  dsimp only [State.untrack]
  repeat' (first | (with_reducible first | assumption | apply Kept.foldl | apply Kept.foldl1 | apply Kept.foldl2 | apply fset_kept | apply fput_kept | apply track_kept) | (simp only [Kept.mk_iff, Kept.tick_iff]) | split | intro _)

theorem State.sendUnits_kept {z s : State} (h : State.Kept z s) (x : Nat) : State.Kept z (State.sendUnits s x) := by
  dsimp only [State.sendUnits]
  repeat' (first | (with_reducible first | assumption | apply Kept.foldl | apply Kept.foldl1 | apply Kept.foldl2 | apply send_kept) | (simp only [Kept.mk_iff, Kept.tick_iff]) | split | intro _)

theorem State.metersFull_kept {z s : State} (h : State.Kept z s) (x : Nat) : State.Kept z (State.metersFull s x) := by
  dsimp only [State.metersFull]
  repeat' (first | (with_reducible first | assumption | apply Kept.foldl | apply Kept.foldl1 | apply Kept.foldl2 | apply setMeter_kept) | (simp only [Kept.mk_iff, Kept.tick_iff]) | split | intro _)

theorem State.createStart_kept {z s : State} (h : State.Kept z s) (x : Nat) : State.Kept z (State.createStart s x) := by
  dsimp only [State.createStart]
  repeat' (first | (with_reducible first | assumption | apply Kept.foldl | apply Kept.foldl1 | apply Kept.foldl2 | apply fset_kept | apply fput_kept | apply sliceRes_kept | apply sendUnits_kept | apply metersFull_kept) | (simp only [Kept.mk_iff, Kept.tick_iff]) | split | intro _)

theorem State.flSourceLost_kept {z s : State} (h : State.Kept z s) (x : Nat) : State.Kept z (State.flSourceLost s x) := by
  dsimp only [State.flSourceLost]
  repeat' (first | (with_reducible first | assumption | apply Kept.foldl | apply Kept.foldl1 | apply Kept.foldl2) | (simp only [Kept.mk_iff, Kept.tick_iff]) | split | intro _)

theorem State.forceNow_kept {z s : State} (h : State.Kept z s) (x : Nat) : State.Kept z (State.forceNow s x) := by
  dsimp only [State.forceNow]
  repeat' (first | (with_reducible first | assumption | apply Kept.foldl | apply Kept.foldl1 | apply Kept.foldl2 | apply fset_kept | apply sliceRes_kept | apply setSlice_kept | apply sliceUpd_kept | apply bump_kept | apply trackRemoved_kept | apply flSourceLost_kept) | (simp only [Kept.mk_iff, Kept.tick_iff]) | split | intro _)

theorem State.forceHeld_kept {z s : State} (h : State.Kept z s) (x : Nat) : State.Kept z (State.forceHeld s x) := by
  dsimp only [State.forceHeld]
  repeat' (first | (with_reducible first | assumption | apply Kept.foldl | apply Kept.foldl1 | apply Kept.foldl2 | apply sliceRes_kept | apply forceNow_kept) | (simp only [Kept.mk_iff, Kept.tick_iff]) | split | intro _)

theorem State.createEnd_kept {z s : State} (h : State.Kept z s) (x : Nat) : State.Kept z (State.createEnd s x) := by
  dsimp only [State.createEnd]
  repeat' (first | (with_reducible first | assumption | apply Kept.foldl | apply Kept.foldl1 | apply Kept.foldl2 | apply fput_kept | apply mirror_kept | apply clearRq_kept | apply setSlice_kept | apply sliceUpd_kept | apply forceHeld_kept) | (simp only [Kept.mk_iff, Kept.tick_iff]) | split | intro _)

theorem State.createTick_kept {z s : State} (h : State.Kept z s)  : State.Kept z (State.createTick s) := by
  dsimp only [State.createTick]
  repeat' (first | (with_reducible first | assumption | apply Kept.foldl | apply Kept.foldl1 | apply Kept.foldl2 | apply createEnd_kept) | (simp only [Kept.mk_iff, Kept.tick_iff]) | split | intro _)

theorem State.doCreate_kept {z s : State} (h : State.Kept z s) (x : Nat) : State.Kept z (State.doCreate s x) := by
  dsimp only [State.doCreate]
  repeat' (first | (with_reducible first | assumption | apply Kept.foldl | apply Kept.foldl1 | apply Kept.foldl2 | apply sliceRes_kept | apply createStart_kept) | (simp only [Kept.mk_iff, Kept.tick_iff]) | split | intro _)

theorem State.doDrydown_kept {z s : State} (h : State.Kept z s) (x : Nat) : State.Kept z (State.doDrydown s x) := by
  dsimp only [State.doDrydown]
  repeat' (first | (with_reducible first | assumption | apply Kept.foldl | apply Kept.foldl1 | apply Kept.foldl2 | apply fset_kept | apply fput_kept | apply sliceRes_kept | apply setSlice_kept | apply sliceUpd_kept | apply track_kept) | (simp only [Kept.mk_iff, Kept.tick_iff]) | split | intro _)

theorem State.doOpen_kept {z s : State} (h : State.Kept z s) (x : Nat) : State.Kept z (State.doOpen s x) := by
  dsimp only [State.doOpen]
  repeat' (first | (with_reducible first | assumption | apply Kept.foldl | apply Kept.foldl1 | apply Kept.foldl2 | apply sliceRes_kept | apply setSlice_kept | apply sliceUpd_kept | apply untrack_kept) | (simp only [Kept.mk_iff, Kept.tick_iff]) | split | intro _)

theorem State.doReset_kept {z s : State} (h : State.Kept z s) (x : Nat) : State.Kept z (State.doReset s x) := by
  dsimp only [State.doReset]
  repeat' (first | (with_reducible first | assumption | apply Kept.foldl | apply Kept.foldl1 | apply Kept.foldl2 | apply fset_kept | apply fput_kept | apply sliceRes_kept | apply setSlice_kept | apply sliceUpd_kept | apply bump_kept | apply metersFull_kept) | (simp only [Kept.mk_iff, Kept.tick_iff]) | split | intro _)

theorem State.doRemove_kept {z s : State} (h : State.Kept z s) (x : Nat) : State.Kept z (State.doRemove s x) := by
  dsimp only [State.doRemove]
  repeat' (first | (with_reducible first | assumption | apply Kept.foldl | apply Kept.foldl1 | apply Kept.foldl2 | apply fset_kept | apply sliceRes_kept | apply setSlice_kept | apply sliceUpd_kept | apply bump_kept | apply trackRemoved_kept) | (simp only [Kept.mk_iff, Kept.tick_iff]) | split | intro _)

theorem State.doFreeze_kept {z s : State} (h : State.Kept z s) (x : Nat) : State.Kept z (State.doFreeze s x) := by
  dsimp only [State.doFreeze]
  repeat' (first | (with_reducible first | assumption | apply Kept.foldl | apply Kept.foldl1 | apply Kept.foldl2 | apply fput_kept | apply setFreezeOwner_kept | apply sliceRes_kept | apply setSlice_kept) | (simp only [Kept.mk_iff, Kept.tick_iff]) | split | intro _)

theorem State.doThaw_kept {z s : State} (h : State.Kept z s) (x : Nat) : State.Kept z (State.doThaw s x) := by
  dsimp only [State.doThaw]
  repeat' (first | (with_reducible first | assumption | apply Kept.foldl | apply Kept.foldl1 | apply Kept.foldl2 | apply fput_kept | apply flSourceLost_kept | apply doOpen_kept) | (simp only [Kept.mk_iff, Kept.tick_iff]) | split | intro _)

theorem State.sliceCmd_kept {z s : State} (h : State.Kept z s) (x op : Nat) : State.Kept z (State.sliceCmd s x op) := by
  dsimp only [State.sliceCmd]
  repeat' (first | (with_reducible first | assumption | apply Kept.foldl | apply Kept.foldl1 | apply Kept.foldl2 | apply pgErr_kept | apply sliceRes_kept | apply forceNow_kept | apply doCreate_kept | apply doDrydown_kept | apply doOpen_kept | apply doReset_kept | apply doRemove_kept | apply doFreeze_kept | apply doThaw_kept) | (simp only [Kept.mk_iff, Kept.tick_iff]) | split | intro _)

theorem execSliceCreate_kept (s : State) (x : SliceNo) : ∃ u9, execSliceCreate x s = .next u9 ∧ State.Kept s u9 := by
  have h := State.Kept.refl s
  dsimp only [execSliceCreate]
  repeat' (first | refine ⟨_, rfl, ?_⟩ | (with_reducible first | assumption | apply Kept.foldl | apply Kept.foldl1 | apply Kept.foldl2 | apply touch_kept | apply sliceCmd_kept) | (simp only [Kept.mk_iff, Kept.tick_iff]) | split | intro _)

theorem execSliceDrydown_kept (s : State) (x : SliceNo) : ∃ u9, execSliceDrydown x s = .next u9 ∧ State.Kept s u9 := by
  have h := State.Kept.refl s
  dsimp only [execSliceDrydown]
  repeat' (first | refine ⟨_, rfl, ?_⟩ | (with_reducible first | assumption | apply Kept.foldl | apply Kept.foldl1 | apply Kept.foldl2 | apply touch_kept | apply sliceCmd_kept) | (simp only [Kept.mk_iff, Kept.tick_iff]) | split | intro _)

theorem execSliceOpen_kept (s : State) (x : SliceNo) : ∃ u9, execSliceOpen x s = .next u9 ∧ State.Kept s u9 := by
  have h := State.Kept.refl s
  dsimp only [execSliceOpen]
  repeat' (first | refine ⟨_, rfl, ?_⟩ | (with_reducible first | assumption | apply Kept.foldl | apply Kept.foldl1 | apply Kept.foldl2 | apply touch_kept | apply sliceCmd_kept) | (simp only [Kept.mk_iff, Kept.tick_iff]) | split | intro _)

theorem execSliceReset_kept (s : State) (x : SliceNo) : ∃ u9, execSliceReset x s = .next u9 ∧ State.Kept s u9 := by
  have h := State.Kept.refl s
  dsimp only [execSliceReset]
  repeat' (first | refine ⟨_, rfl, ?_⟩ | (with_reducible first | assumption | apply Kept.foldl | apply Kept.foldl1 | apply Kept.foldl2 | apply touch_kept | apply sliceCmd_kept) | (simp only [Kept.mk_iff, Kept.tick_iff]) | split | intro _)

theorem execSliceRemove_kept (s : State) (x : SliceNo) : ∃ u9, execSliceRemove x s = .next u9 ∧ State.Kept s u9 := by
  have h := State.Kept.refl s
  dsimp only [execSliceRemove]
  repeat' (first | refine ⟨_, rfl, ?_⟩ | (with_reducible first | assumption | apply Kept.foldl | apply Kept.foldl1 | apply Kept.foldl2 | apply touch_kept | apply sliceCmd_kept) | (simp only [Kept.mk_iff, Kept.tick_iff]) | split | intro _)

theorem execSliceFreeze_kept (s : State) (x : SliceNo) : ∃ u9, execSliceFreeze x s = .next u9 ∧ State.Kept s u9 := by
  have h := State.Kept.refl s
  dsimp only [execSliceFreeze]
  repeat' (first | refine ⟨_, rfl, ?_⟩ | (with_reducible first | assumption | apply Kept.foldl | apply Kept.foldl1 | apply Kept.foldl2 | apply touch_kept | apply sliceCmd_kept) | (simp only [Kept.mk_iff, Kept.tick_iff]) | split | intro _)

theorem execSliceThaw_kept (s : State) (x : SliceNo) : ∃ u9, execSliceThaw x s = .next u9 ∧ State.Kept s u9 := by
  have h := State.Kept.refl s
  dsimp only [execSliceThaw]
  repeat' (first | refine ⟨_, rfl, ?_⟩ | (with_reducible first | assumption | apply Kept.foldl | apply Kept.foldl1 | apply Kept.foldl2 | apply touch_kept | apply sliceCmd_kept) | (simp only [Kept.mk_iff, Kept.tick_iff]) | split | intro _)

theorem execSliceForce_kept (s : State) (x : SliceNo) : ∃ u9, execSliceForce x s = .next u9 ∧ State.Kept s u9 := by
  have h := State.Kept.refl s
  dsimp only [execSliceForce]
  repeat' (first | refine ⟨_, rfl, ?_⟩ | (with_reducible first | assumption | apply Kept.foldl | apply Kept.foldl1 | apply Kept.foldl2 | apply touch_kept | apply sliceCmd_kept) | (simp only [Kept.mk_iff, Kept.tick_iff]) | split | intro _)

theorem State.sliceUpdIn_kept {z s : State} (h : State.Kept z s) (n : Nat) (m : Msg) : State.Kept z (State.sliceUpdIn s n m) := by
  dsimp only [State.sliceUpdIn]
  repeat' (first | (with_reducible first | assumption | apply Kept.foldl | apply Kept.foldl1 | apply Kept.foldl2) | (simp only [Kept.mk_iff, Kept.tick_iff]) | split | intro _)

theorem execSliceUpd_kept (s : State) (n : Node) (m : Msg) : ∃ u9, execSliceUpd n m s = .next u9 ∧ State.Kept s u9 := by
  have h := State.Kept.refl s
  dsimp only [execSliceUpd]
  repeat' (first | refine ⟨_, rfl, ?_⟩ | (with_reducible first | assumption | apply Kept.foldl | apply Kept.foldl1 | apply Kept.foldl2 | apply take_kept | apply msgBad_kept | apply sliceUpdIn_kept) | (simp only [Kept.mk_iff, Kept.tick_iff]) | split | intro _)

theorem State.removeTag_kept {z s : State} (h : State.Kept z s) (k t : Nat) : State.Kept z (State.removeTag s k t) := by
  dsimp only [State.removeTag]
  repeat' (first | (with_reducible first | assumption | apply Kept.foldl | apply Kept.foldl1 | apply Kept.foldl2 | apply setTag_kept | apply rdEnd_kept) | (simp only [Kept.mk_iff, Kept.tick_iff]) | split | intro _)

theorem State.rejoin_kept {z s : State} (h : State.Kept z s) (k l x : Nat) : State.Kept z (State.rejoin s k l x) := by
  dsimp only [State.rejoin]
  repeat' (first | (with_reducible first | assumption | apply Kept.foldl | apply Kept.foldl1 | apply Kept.foldl2 | apply setEgr_kept) | (simp only [Kept.mk_iff, Kept.tick_iff]) | split | intro _)

theorem State.rejectAdmitted_kept {z s : State} (h : State.Kept z s) (k x : Nat) : State.Kept z (State.rejectAdmitted s k x) := by
  dsimp only [State.rejectAdmitted]
  repeat' (first | (with_reducible first | assumption | apply Kept.foldl | apply Kept.foldl1 | apply Kept.foldl2 | apply rejectWork_kept) | (simp only [Kept.mk_iff, Kept.tick_iff]) | split | intro _)

theorem State.abortAt_kept {z s : State} (h : State.Kept z s) (k x : Nat) : State.Kept z (State.abortAt s k x) := by
  dsimp only [State.abortAt]
  repeat' (first | (with_reducible first | assumption | apply Kept.foldl | apply Kept.foldl1 | apply Kept.foldl2 | apply forceUnlock_kept | apply removeTag_kept | apply rejoin_kept | apply rejectAdmitted_kept) | (simp only [Kept.mk_iff, Kept.tick_iff]) | split | intro _)

theorem State.sliceApply_kept {z s : State} (h : State.Kept z s) (k x : Nat) (u : SliceUpd) : State.Kept z (State.sliceApply s k x u) := by
  dsimp only [State.sliceApply]
  repeat' (first | (with_reducible first | assumption | apply Kept.foldl | apply Kept.foldl1 | apply Kept.foldl2 | apply sliceAtEngine_kept | apply abortAt_kept) | (simp only [Kept.mk_iff, Kept.tick_iff]) | split | intro _)

theorem State.sliceApplyAll_kept {z s : State} (h : State.Kept z s) (k : Nat) : State.Kept z (State.sliceApplyAll s k) := by
  dsimp only [State.sliceApplyAll]
  repeat' (first | (with_reducible first | assumption | apply Kept.foldl | apply Kept.foldl1 | apply Kept.foldl2 | apply sliceApply_kept) | (simp only [Kept.mk_iff, Kept.tick_iff]) | split | intro _)

theorem execSliceUpdApply_kept (s : State) (k : Stop) : ∃ u9, execSliceUpdApply k s = .next u9 ∧ State.Kept s u9 := by
  have h := State.Kept.refl s
  dsimp only [execSliceUpdApply]
  repeat' (first | refine ⟨_, rfl, ?_⟩ | (with_reducible first | assumption | apply Kept.foldl | apply Kept.foldl1 | apply Kept.foldl2 | apply sliceApplyAll_kept) | (simp only [Kept.mk_iff, Kept.tick_iff]) | split | intro _)

theorem State.unitRng_kept {z s : State} (h : State.Kept z s) (c : Nat) (m : Msg) : State.Kept z (State.unitRng s c m) := by
  dsimp only [State.unitRng]
  repeat' (first | (with_reducible first | assumption | apply Kept.foldl | apply Kept.foldl1 | apply Kept.foldl2) | (simp only [Kept.mk_iff, Kept.tick_iff]) | split | intro _)

theorem execUnitRng_kept (s : State) (n : Node) (m : Msg) : ∃ u9, execUnitRng n m s = .next u9 ∧ State.Kept s u9 := by
  have h := State.Kept.refl s
  dsimp only [execUnitRng]
  repeat' (first | refine ⟨_, rfl, ?_⟩ | (with_reducible first | assumption | apply Kept.foldl | apply Kept.foldl1 | apply Kept.foldl2 | apply take_kept | apply msgBad_kept | apply unitRng_kept) | (simp only [Kept.mk_iff, Kept.tick_iff]) | split | intro _)

theorem State.sendCensus_kept {z s : State} (h : State.Kept z s) (k : Nat) (oldEp : Bool) : State.Kept z (State.sendCensus s k oldEp) := by
  dsimp only [State.sendCensus]
  repeat' (first | (with_reducible first | assumption | apply Kept.foldl | apply Kept.foldl1 | apply Kept.foldl2 | apply send_kept) | (simp only [Kept.mk_iff, Kept.tick_iff]) | split | intro _)

theorem State.censusEnd_kept {z s : State} (h : State.Kept z s) (b : Nat) : State.Kept z (State.censusEnd s b) := by
  dsimp only [State.censusEnd]
  repeat' (first | (with_reducible first | assumption | apply Kept.foldl | apply Kept.foldl1 | apply Kept.foldl2 | apply fset_kept) | (simp only [Kept.mk_iff, Kept.tick_iff]) | split | intro _)

theorem State.census62_kept {z s : State} (h : State.Kept z s) (k low bits : Nat) : State.Kept z (State.census62 s k low bits) := by
  dsimp only [State.census62]
  repeat' (first | (with_reducible first | assumption | apply Kept.foldl | apply Kept.foldl1 | apply Kept.foldl2 | apply censusEnd_kept) | (simp only [Kept.mk_iff, Kept.tick_iff]) | split | intro _)

theorem execCensus_kept (s : State) (n : Node) (m : Msg) : ∃ u9, execCensus n m s = .next u9 ∧ State.Kept s u9 := by
  have h := State.Kept.refl s
  dsimp only [execCensus]
  repeat' (first | refine ⟨_, rfl, ?_⟩ | (with_reducible first | assumption | apply Kept.foldl | apply Kept.foldl1 | apply Kept.foldl2 | apply take_kept | apply msgBad_kept | apply census60_kept | apply census62_kept) | (simp only [Kept.mk_iff, Kept.tick_iff]) | split | intro _)

theorem State.dryReached_kept {z s : State} (h : State.Kept z s) (x : Nat) : State.Kept z (State.dryReached s x) := by
  dsimp only [State.dryReached]
  repeat' (first | (with_reducible first | assumption | apply Kept.foldl | apply Kept.foldl1 | apply Kept.foldl2 | apply setSlice_kept | apply untrack_kept) | (simp only [Kept.mk_iff, Kept.tick_iff]) | split | intro _)

theorem State.releaseSlice_kept {z s : State} (h : State.Kept z s) (x : Nat) : State.Kept z (State.releaseSlice s x) := by
  dsimp only [State.releaseSlice]
  repeat' (first | (with_reducible first | assumption | apply Kept.foldl | apply Kept.foldl1 | apply Kept.foldl2 | apply fset_kept | apply clearSet_kept) | (simp only [Kept.mk_iff, Kept.tick_iff]) | split | intro _)

theorem State.cleared_kept {z s : State} (h : State.Kept z s) (x : Nat) : State.Kept z (State.cleared s x) := by
  dsimp only [State.cleared]
  repeat' (first | (with_reducible first | assumption | apply Kept.foldl | apply Kept.foldl1 | apply Kept.foldl2 | apply mirror_kept | apply setSlice_kept | apply untrack_kept | apply releaseSlice_kept) | (simp only [Kept.mk_iff, Kept.tick_iff]) | split | intro _)

theorem execDryReached_kept (s : State) (x : SliceNo) : ∃ u9, execDryReached x s = .next u9 ∧ State.Kept s u9 := by
  have h := State.Kept.refl s
  dsimp only [execDryReached]
  repeat' (first | refine ⟨_, rfl, ?_⟩ | (with_reducible first | assumption | apply Kept.foldl | apply Kept.foldl1 | apply Kept.foldl2 | apply dryReached_kept) | (simp only [Kept.mk_iff, Kept.tick_iff]) | split | intro _)

theorem execCleared_kept (s : State) (x : SliceNo) : ∃ u9, execCleared x s = .next u9 ∧ State.Kept s u9 := by
  have h := State.Kept.refl s
  dsimp only [execCleared]
  repeat' (first | refine ⟨_, rfl, ?_⟩ | (with_reducible first | assumption | apply Kept.foldl | apply Kept.foldl1 | apply Kept.foldl2 | apply cleared_kept) | (simp only [Kept.mk_iff, Kept.tick_iff]) | split | intro _)

theorem State.sliceTick_kept {z s : State} (h : State.Kept z s)  : State.Kept z (State.sliceTick s) := by
  dsimp only [State.sliceTick]
  repeat' (first | (with_reducible first | assumption | apply Kept.foldl | apply Kept.foldl1 | apply Kept.foldl2 | apply fsat_kept | apply sliceAgain_kept | apply createTick_kept | apply dryReached_kept | apply cleared_kept) | (simp only [Kept.mk_iff, Kept.tick_iff]) | split | intro _)

theorem State.flushLink_kept {z s : State} (h : State.Kept z s) (k l x : Nat) : State.Kept z (State.flushLink s k l x) := by
  dsimp only [State.flushLink]
  repeat' (first | (with_reducible first | assumption | apply Kept.foldl | apply Kept.foldl1 | apply Kept.foldl2 | apply fput_kept | apply setEgr_kept | apply spillOne_kept) | (simp only [Kept.mk_iff, Kept.tick_iff]) | split | intro _)

theorem State.drydownFlush_kept {z s : State} (h : State.Kept z s) (k x : Nat) : State.Kept z (State.drydownFlush s k x) := by
  dsimp only [State.drydownFlush]
  repeat' (first | (with_reducible first | assumption | apply Kept.foldl | apply Kept.foldl1 | apply Kept.foldl2 | apply flushLink_kept) | (simp only [Kept.mk_iff, Kept.tick_iff]) | split | intro _)

theorem execDrydownFlush_kept (s : State) (k : Stop) (x : SliceNo) : ∃ u9, execDrydownFlush k x s = .next u9 ∧ State.Kept s u9 := by
  have h := State.Kept.refl s
  dsimp only [execDrydownFlush]
  repeat' (first | refine ⟨_, rfl, ?_⟩ | (with_reducible first | assumption | apply Kept.foldl | apply Kept.foldl1 | apply Kept.foldl2 | apply drydownFlush_kept) | (simp only [Kept.mk_iff, Kept.tick_iff]) | split | intro _)

theorem State.doorbellWrite_kept {z s : State} (h : State.Kept z s) (x tail qoff : Nat) : State.Kept z (State.doorbellWrite s x tail qoff) := by
  dsimp only [State.doorbellWrite]
  repeat' (first | (with_reducible first | assumption | apply Kept.foldl | apply Kept.foldl1 | apply Kept.foldl2 | apply fset_kept | apply send_kept | apply record_kept | apply pgErr_kept) | (simp only [Kept.mk_iff, Kept.tick_iff]) | split | intro _)

theorem execDoorbellWrite_kept (s : State) (x : SliceNo) (tail : BitVec 16) (qoff : BitVec 8) : ∃ u9, execDoorbellWrite x tail qoff s = .next u9 ∧ State.Kept s u9 := by
  have h := State.Kept.refl s
  dsimp only [execDoorbellWrite]
  repeat' (first | refine ⟨_, rfl, ?_⟩ | (with_reducible first | assumption | apply Kept.foldl | apply Kept.foldl1 | apply Kept.foldl2 | apply touch_kept | apply doorbellWrite_kept) | (simp only [Kept.mk_iff, Kept.tick_iff]) | split | intro _)

theorem State.evtRearm_kept {z s : State} (h : State.Kept z s) (x : Nat) : State.Kept z (State.evtRearm s x) := by
  dsimp only [State.evtRearm]
  repeat' (first | (with_reducible first | assumption | apply Kept.foldl | apply Kept.foldl1 | apply Kept.foldl2 | apply fput_kept | apply sliceIrq_kept) | (simp only [Kept.mk_iff, Kept.tick_iff]) | split | intro _)

theorem execEvtRearm_kept (s : State) (x : SliceNo) : ∃ u9, execEvtRearm x s = .next u9 ∧ State.Kept s u9 := by
  have h := State.Kept.refl s
  dsimp only [execEvtRearm]
  repeat' (first | refine ⟨_, rfl, ?_⟩ | (with_reducible first | assumption | apply Kept.foldl | apply Kept.foldl1 | apply Kept.foldl2 | apply touch_kept | apply evtRearm_kept) | (simp only [Kept.mk_iff, Kept.tick_iff]) | split | intro _)

theorem State.mtrSel_kept {z s : State} (h : State.Kept z s) (x g : Nat) : State.Kept z (State.mtrSel s x g) := by
  dsimp only [State.mtrSel]
  repeat' (first | (with_reducible first | assumption | apply Kept.foldl | apply Kept.foldl1 | apply Kept.foldl2 | apply fset_kept | apply fput_kept) | (simp only [Kept.mk_iff, Kept.tick_iff]) | split | intro _)

theorem execMtrSelWrite_kept (s : State) (x : SliceNo) (g : Fin 16384) : ∃ u9, execMtrSelWrite x g s = .next u9 ∧ State.Kept s u9 := by
  have h := State.Kept.refl s
  dsimp only [execMtrSelWrite]
  repeat' (first | refine ⟨_, rfl, ?_⟩ | (with_reducible first | assumption | apply Kept.foldl | apply Kept.foldl1 | apply Kept.foldl2 | apply touch_kept | apply mtrSel_kept) | (simp only [Kept.mk_iff, Kept.tick_iff]) | split | intro _)

end Sys2Proof.Machine
end

