-- ==== Sys2Proof/Laws/KeptFlacon.lean ====
section
/-! SUPPORT. The operations of Flacon.lean keep the queue and the canonical register file. -/

set_option linter.unusedSimpArgs false

namespace Sys2Proof.Machine

open State

theorem State.setFl_kept {z s : State} (h : State.Kept z s) (f : FlSt) : State.Kept z (State.setFl s f) := by
  dsimp only [State.setFl]
  repeat' (first | (with_reducible first | assumption | apply Kept.foldl | apply Kept.foldl1 | apply Kept.foldl2) | (simp only [Kept.mk_iff, Kept.tick_iff]) | split | intro _)

theorem State.flWrite_kept {z s : State} (h : State.Kept z s) (fma first last : Nat) (bytes : List (BitVec 8)) : State.Kept z (State.flWrite s fma first last bytes) := by
  dsimp only [State.flWrite]
  repeat' (first | (with_reducible first | assumption | apply Kept.foldl | apply Kept.foldl1 | apply Kept.foldl2 | apply submit_kept) | (simp only [Kept.mk_iff, Kept.tick_iff]) | split | intro _)

theorem State.flRead_kept {z s : State} (h : State.Kept z s) (fma n id : Nat) : State.Kept z (State.flRead s fma n id) := by
  dsimp only [State.flRead]
  repeat' (first | (with_reducible first | assumption | apply Kept.foldl | apply Kept.foldl1 | apply Kept.foldl2 | apply submit_kept) | (simp only [Kept.mk_iff, Kept.tick_iff]) | split | intro _)

theorem State.writeValid_kept {z s : State} (h : State.Kept z s) (v : Nat) : State.Kept z (State.writeValid s v) := by
  dsimp only [State.writeValid]
  repeat' (first | (with_reducible first | assumption | apply Kept.foldl | apply Kept.foldl1 | apply Kept.foldl2 | apply flWrite_kept) | (simp only [Kept.mk_iff, Kept.tick_iff]) | split | intro _)

theorem State.writeBody_kept {z s : State} (h : State.Kept z s) (v : Nat) : State.Kept z (State.writeBody s v) := by
  dsimp only [State.writeBody]
  repeat' (first | (with_reducible first | assumption | apply Kept.foldl | apply Kept.foldl1 | apply Kept.foldl2 | apply flWrite_kept) | (simp only [Kept.mk_iff, Kept.tick_iff]) | split | intro _)

theorem State.flTake_kept {z s : State} (h : State.Kept z s)  (n : Nat) : State.Kept z (State.flTake s n) := by
  induction n generalizing s with
  | zero =>
    dsimp only [State.flTake]
    repeat' (first | (with_reducible first | assumption | apply Kept.foldl | apply Kept.foldl1 | apply Kept.foldl2 | refine takeDone_kept ?_ _ _ (by assumption) | apply setFl_kept) | (simp only [Kept.mk_iff, Kept.tick_iff]) | split | intro _)
  | succ n ih =>
    dsimp only [State.flTake]
    repeat' (first | with_reducible (apply ih) | (with_reducible first | assumption | apply Kept.foldl | apply Kept.foldl1 | apply Kept.foldl2 | refine takeDone_kept ?_ _ _ (by assumption) | apply setFl_kept) | (simp only [Kept.mk_iff, Kept.tick_iff]) | split | intro _)

theorem State.readSlot_kept {z s : State} (h : State.Kept z s)  : State.Kept z (State.readSlot s) := by
  dsimp only [State.readSlot]
  repeat' (first | (with_reducible first | assumption | apply Kept.foldl | apply Kept.foldl1 | apply Kept.foldl2 | apply flRead_kept) | (simp only [Kept.mk_iff, Kept.tick_iff]) | split | intro _)

theorem State.flEnd_kept {z s : State} (h : State.Kept z s) (res : Nat) : State.Kept z (State.flEnd s res) := by
  dsimp only [State.flEnd]
  repeat' (first | (with_reducible first | assumption | apply Kept.foldl | apply Kept.foldl1 | apply Kept.foldl2 | apply fset_kept | apply fput_kept | apply setFl_kept) | (simp only [Kept.mk_iff, Kept.tick_iff]) | split | intro _)

theorem State.flMirror_kept {z s : State} (h : State.Kept z s) (v : Nat) : State.Kept z (State.flMirror s v) := by
  dsimp only [State.flMirror]
  repeat' (first | (with_reducible first | assumption | apply Kept.foldl | apply Kept.foldl1 | apply Kept.foldl2 | apply mirror_kept | apply fresh_kept) | (simp only [Kept.mk_iff, Kept.tick_iff]) | split | intro _)

theorem State.flBad_kept {z s : State} (h : State.Kept z s) (v check : Nat) : State.Kept z (State.flBad s v check) := by
  dsimp only [State.flBad]
  repeat' (first | (with_reducible first | assumption | apply Kept.foldl | apply Kept.foldl1 | apply Kept.foldl2 | apply record_kept | apply flEnd_kept) | (simp only [Kept.mk_iff, Kept.tick_iff]) | split | intro _)

theorem State.loadAccord_kept {z s : State} (h : State.Kept z s) (t v q m c u : Nat) : State.Kept z (State.loadAccord s t v q m c u) := by
  dsimp only [State.loadAccord]
  repeat' (first | (with_reducible first | assumption | apply Kept.foldl | apply Kept.foldl1 | apply Kept.foldl2 | apply fset_kept | apply setWord_kept) | (simp only [Kept.mk_iff, Kept.tick_iff]) | split | intro _)

theorem State.loadQueue_kept {z s : State} (h : State.Kept z s) (t v b : Nat) : State.Kept z (State.loadQueue s t v b) := by
  dsimp only [State.loadQueue]
  repeat' (first | (with_reducible first | assumption | apply Kept.foldl | apply Kept.foldl1 | apply Kept.foldl2 | apply setQctx_kept) | (simp only [Kept.mk_iff, Kept.tick_iff]) | split | intro _)

theorem State.loadMeter_kept {z s : State} (h : State.Kept z s) (t v i b : Nat) : State.Kept z (State.loadMeter s t v i b) := by
  dsimp only [State.loadMeter]
  repeat' (first | (with_reducible first | assumption | apply Kept.foldl | apply Kept.foldl1 | apply Kept.foldl2 | apply fset_kept | apply setBinding_kept) | (simp only [Kept.mk_iff, Kept.tick_iff]) | split | intro _)

theorem State.loadSet_kept {z s : State} (h : State.Kept z s) (t v j : Nat) : State.Kept z (State.loadSet s t v j) := by
  dsimp only [State.loadSet]
  repeat' (first | (with_reducible first | assumption | apply Kept.foldl | apply Kept.foldl1 | apply Kept.foldl2 | apply setWord_kept | apply setCpart_kept) | (simp only [Kept.mk_iff, Kept.tick_iff]) | split | intro _)

theorem State.loadAll_kept {z s : State} (h : State.Kept z s) (t v q m c u : Nat) : State.Kept z (State.loadAll s t v q m c u) := by
  dsimp only [State.loadAll]
  repeat' (first | (with_reducible first | assumption | apply Kept.foldl | apply Kept.foldl1 | apply Kept.foldl2 | apply fset_kept | apply setWord_kept | apply loadAccord_kept | apply loadQueue_kept | apply loadMeter_kept | apply loadSet_kept) | (simp only [Kept.mk_iff, Kept.tick_iff]) | split | intro _)

theorem State.loadCreate_kept {z s : State} (h : State.Kept z s) (t : Nat) : State.Kept z (State.loadCreate s t) := by
  dsimp only [State.loadCreate]
  repeat' (first | (with_reducible first | assumption | apply Kept.foldl | apply Kept.foldl1 | apply Kept.foldl2 | apply doCreate_kept | apply setFl_kept | apply flEnd_kept) | (simp only [Kept.mk_iff, Kept.tick_iff]) | split | intro _)

theorem State.rebindSource_kept {z s : State} (h : State.Kept z s) (x : Nat) : State.Kept z (State.rebindSource s x) := by
  dsimp only [State.rebindSource]
  repeat' (first | (with_reducible first | assumption | apply Kept.foldl | apply Kept.foldl1 | apply Kept.foldl2 | apply setQctx_kept | apply haltQueue_kept) | (simp only [Kept.mk_iff, Kept.tick_iff]) | split | intro _)

theorem State.rebindAll_kept {z s : State} (h : State.Kept z s) (x t v : Nat) : State.Kept z (State.rebindAll s x t v) := by
  dsimp only [State.rebindAll]
  repeat' (first | (with_reducible first | assumption | apply Kept.foldl | apply Kept.foldl1 | apply Kept.foldl2 | apply doRemove_kept | apply loadAll_kept | apply loadCreate_kept | apply rebindSource_kept) | (simp only [Kept.mk_iff, Kept.tick_iff]) | split | intro _)

theorem State.freeSource_kept {z s : State} (h : State.Kept z s) (x : Nat) : State.Kept z (State.freeSource s x) := by
  dsimp only [State.freeSource]
  repeat' (first | (with_reducible first | assumption | apply Kept.foldl | apply Kept.foldl1 | apply Kept.foldl2 | apply fput_kept | apply forceHeld_kept) | (simp only [Kept.mk_iff, Kept.tick_iff]) | split | intro _)

theorem State.cpyPush_kept {z s : State} (h : State.Kept z s)  : State.Kept z (State.cpyPush s) := by
  dsimp only [State.cpyPush]
  repeat' (first | (with_reducible first | assumption | apply Kept.foldl | apply Kept.foldl1 | apply Kept.foldl2 | apply submit_kept | apply setFl_kept) | (simp only [Kept.mk_iff, Kept.tick_iff]) | split | intro _)

theorem State.cpyPushes_kept {z s : State} (h : State.Kept z s) (cnt : Nat) (n : Nat) : State.Kept z (State.cpyPushes s cnt n) := by
  induction n generalizing s with
  | zero =>
    dsimp only [State.cpyPushes]
    repeat' (first | (with_reducible first | assumption | apply Kept.foldl | apply Kept.foldl1 | apply Kept.foldl2 | apply cpyPush_kept) | (simp only [Kept.mk_iff, Kept.tick_iff]) | split | intro _)
  | succ n ih =>
    dsimp only [State.cpyPushes]
    repeat' (first | with_reducible (apply ih) | (with_reducible first | assumption | apply Kept.foldl | apply Kept.foldl1 | apply Kept.foldl2 | apply cpyPush_kept) | (simp only [Kept.mk_iff, Kept.tick_iff]) | split | intro _)

theorem State.cpyStep_kept {z s : State} (h : State.Kept z s)  : State.Kept z (State.cpyStep s) := by
  dsimp only [State.cpyStep]
  repeat' (first | (with_reducible first | assumption | apply Kept.foldl | apply Kept.foldl1 | apply Kept.foldl2 | apply fset_kept | apply record_kept | apply setFl_kept | apply flEnd_kept | apply cpyPushes_kept) | (simp only [Kept.mk_iff, Kept.tick_iff]) | split | intro _)

theorem State.flStep_kept {z s : State} (h : State.Kept z s)  : State.Kept z (State.flStep s) := by
  dsimp only [State.flStep]
  repeat' (first | (with_reducible first | assumption | apply Kept.foldl | apply Kept.foldl1 | apply Kept.foldl2 | apply setFl_kept | apply writeValid_kept | apply writeBody_kept | apply flTake_kept | apply flEnd_kept | apply flMirror_kept | apply flBad_kept | apply loadAll_kept | apply loadCreate_kept | apply rebindAll_kept | apply freeSource_kept | apply cpyStep_kept) | (simp only [Kept.mk_iff, Kept.tick_iff]) | split | intro _)

theorem State.flStart_kept {z s : State} (h : State.Kept z s) (op : Nat) : State.Kept z (State.flStart s op) := by
  dsimp only [State.flStart]
  repeat' (first | (with_reducible first | assumption | apply Kept.foldl | apply Kept.foldl1 | apply Kept.foldl2 | apply fset_kept | apply fput_kept | apply setFl_kept) | (simp only [Kept.mk_iff, Kept.tick_iff]) | split | intro _)

theorem State.flCmd_kept {z s : State} (h : State.Kept z s) (op : Nat) : State.Kept z (State.flCmd s op) := by
  dsimp only [State.flCmd]
  repeat' (first | (with_reducible first | assumption | apply Kept.foldl | apply Kept.foldl1 | apply Kept.foldl2 | apply fset_kept | apply fput_kept | apply flRead_kept | apply writeValid_kept | apply readSlot_kept | apply flEnd_kept | apply flStart_kept) | (simp only [Kept.mk_iff, Kept.tick_iff]) | split | intro _)

theorem execFlSave_kept (s : State)  : ∃ u9, execFlSave s = .next u9 ∧ State.Kept s u9 := by
  have h := State.Kept.refl s
  dsimp only [execFlSave]
  repeat' (first | refine ⟨_, rfl, ?_⟩ | (with_reducible first | assumption | apply Kept.foldl | apply Kept.foldl1 | apply Kept.foldl2 | apply touch_kept | apply flCmd_kept) | (simp only [Kept.mk_iff, Kept.tick_iff]) | split | intro _)

theorem execFlLoad_kept (s : State)  : ∃ u9, execFlLoad s = .next u9 ∧ State.Kept s u9 := by
  have h := State.Kept.refl s
  dsimp only [execFlLoad]
  repeat' (first | refine ⟨_, rfl, ?_⟩ | (with_reducible first | assumption | apply Kept.foldl | apply Kept.foldl1 | apply Kept.foldl2 | apply touch_kept | apply flCmd_kept) | (simp only [Kept.mk_iff, Kept.tick_iff]) | split | intro _)

theorem execFlRebind_kept (s : State)  : ∃ u9, execFlRebind s = .next u9 ∧ State.Kept s u9 := by
  have h := State.Kept.refl s
  dsimp only [execFlRebind]
  repeat' (first | refine ⟨_, rfl, ?_⟩ | (with_reducible first | assumption | apply Kept.foldl | apply Kept.foldl1 | apply Kept.foldl2 | apply touch_kept | apply flCmd_kept) | (simp only [Kept.mk_iff, Kept.tick_iff]) | split | intro _)

theorem execFlCopy_kept (s : State)  : ∃ u9, execFlCopy s = .next u9 ∧ State.Kept s u9 := by
  have h := State.Kept.refl s
  dsimp only [execFlCopy]
  repeat' (first | refine ⟨_, rfl, ?_⟩ | (with_reducible first | assumption | apply Kept.foldl | apply Kept.foldl1 | apply Kept.foldl2 | apply touch_kept | apply flCmd_kept) | (simp only [Kept.mk_iff, Kept.tick_iff]) | split | intro _)

theorem execFlDrop_kept (s : State)  : ∃ u9, execFlDrop s = .next u9 ∧ State.Kept s u9 := by
  have h := State.Kept.refl s
  dsimp only [execFlDrop]
  repeat' (first | refine ⟨_, rfl, ?_⟩ | (with_reducible first | assumption | apply Kept.foldl | apply Kept.foldl1 | apply Kept.foldl2 | apply touch_kept | apply flCmd_kept) | (simp only [Kept.mk_iff, Kept.tick_iff]) | split | intro _)

theorem State.slotCore_kept {z s : State} (h : State.Kept z s)  : State.Kept z (State.slotCore s) := by
  dsimp only [State.slotCore]
  repeat' (first | (with_reducible first | assumption | apply Kept.foldl | apply Kept.foldl1 | apply Kept.foldl2 | apply setFl_kept) | (simp only [Kept.mk_iff, Kept.tick_iff]) | split | intro _)

theorem State.flOffWrite_kept {z s : State} (h : State.Kept z s) (w : Word) : State.Kept z (State.flOffWrite s w) := by
  dsimp only [State.flOffWrite]
  repeat' (first | (with_reducible first | assumption | apply Kept.foldl | apply Kept.foldl1 | apply Kept.foldl2 | apply fset_kept | apply fput_kept | apply pgErr_kept | apply flRead_kept | apply slotCore_kept) | (simp only [Kept.mk_iff, Kept.tick_iff]) | split | intro _)

theorem State.flOffDone_kept {z s : State} (h : State.Kept z s)  : State.Kept z (State.flOffDone s) := by
  dsimp only [State.flOffDone]
  split
  · exact h
  · rename_i heq
    have ht := (Option.or_eq_some_iff.mp heq).elim (fun e => State.takeDone_kept h _ _ e) (fun e => State.takeDone_kept h _ _ e.2)
    split
    · exact ht
    · exact State.fput_kept (State.fset_kept ht _ _ _ _ _ _) _ _ _ _ _ _

theorem State.flDataWrite_kept {z s : State} (h : State.Kept z s) (w : Word) : State.Kept z (State.flDataWrite s w) := by
  dsimp only [State.flDataWrite]
  repeat' (first | (with_reducible first | assumption | apply Kept.foldl | apply Kept.foldl1 | apply Kept.foldl2 | apply fset_kept | apply fput_kept | apply pgErr_kept | apply flWrite_kept | apply slotCore_kept) | (simp only [Kept.mk_iff, Kept.tick_iff]) | split | intro _)

theorem execFlOffWrite_kept (s : State) (w : Word) : ∃ u9, execFlOffWrite w s = .next u9 ∧ State.Kept s u9 := by
  have h := State.Kept.refl s
  dsimp only [execFlOffWrite]
  repeat' (first | refine ⟨_, rfl, ?_⟩ | (with_reducible first | assumption | apply Kept.foldl | apply Kept.foldl1 | apply Kept.foldl2 | apply touch_kept | apply flOffWrite_kept) | (simp only [Kept.mk_iff, Kept.tick_iff]) | split | intro _)

theorem execFlDataWrite_kept (s : State) (w : Word) : ∃ u9, execFlDataWrite w s = .next u9 ∧ State.Kept s u9 := by
  have h := State.Kept.refl s
  dsimp only [execFlDataWrite]
  repeat' (first | refine ⟨_, rfl, ?_⟩ | (with_reducible first | assumption | apply Kept.foldl | apply Kept.foldl1 | apply Kept.foldl2 | apply touch_kept | apply flDataWrite_kept) | (simp only [Kept.mk_iff, Kept.tick_iff]) | split | intro _)

end Sys2Proof.Machine
end

