-- ==== Sys2Proof/Laws/KeptBoot.lean ====
section
/-! SUPPORT. The operations of Boot.lean keep the queue and the canonical register file. -/

set_option linter.unusedSimpArgs false

namespace Sys2Proof.Machine

open State

theorem State.setCore_kept {z s : State} (h : State.Kept z s) (c st : Nat) : State.Kept z (State.setCore s c st) := by
  dsimp only [State.setCore]
  repeat' (first | (with_reducible first | assumption | apply Kept.foldl | apply Kept.foldl1 | apply Kept.foldl2 | apply fset_kept) | (simp only [Kept.mk_iff, Kept.tick_iff]) | split | intro _)

theorem State.setLdr_kept {z s : State} (h : State.Kept z s) (c r : Nat) : State.Kept z (State.setLdr s c r) := by
  dsimp only [State.setLdr]
  repeat' (first | (with_reducible first | assumption | apply Kept.foldl | apply Kept.foldl1 | apply Kept.foldl2 | apply fset_kept) | (simp only [Kept.mk_iff, Kept.tick_iff]) | split | intro _)

theorem State.dropImage_kept {z s : State} (h : State.Kept z s) (c : Nat) : State.Kept z (State.dropImage s c) := by
  dsimp only [State.dropImage]
  repeat' (first | (with_reducible first | assumption | apply Kept.foldl | apply Kept.foldl1 | apply Kept.foldl2 | apply fset_kept) | (simp only [Kept.mk_iff, Kept.tick_iff]) | split | intro _)

theorem State.coreReset_kept {z s : State} (h : State.Kept z s) (c : Nat) : State.Kept z (State.coreReset s c) := by
  dsimp only [State.coreReset]
  repeat' (first | (with_reducible first | assumption | apply Kept.foldl | apply Kept.foldl1 | apply Kept.foldl2 | apply setCore_kept | apply dropImage_kept) | (simp only [Kept.mk_iff, Kept.tick_iff]) | split | intro _)

theorem State.mbOwners_kept {z s : State} (h : State.Kept z s)  : State.Kept z (State.mbOwners s) := by
  dsimp only [State.mbOwners]
  repeat' (first | (with_reducible first | assumption | apply Kept.foldl | apply Kept.foldl1 | apply Kept.foldl2 | apply fput_kept) | (simp only [Kept.mk_iff, Kept.tick_iff]) | split | intro _)

theorem State.coreFailed_kept {z s : State} (h : State.Kept z s) (c how : Nat) : State.Kept z (State.coreFailed s c how) := by
  dsimp only [State.coreFailed]
  repeat' (first | (with_reducible first | assumption | apply Kept.foldl | apply Kept.foldl1 | apply Kept.foldl2 | apply intSet_kept | apply record_kept | apply setCore_kept) | (simp only [Kept.mk_iff, Kept.tick_iff]) | split | intro _)

theorem State.coreExit_kept {z s : State} (h : State.Kept z s) (c : Nat) (ok : Bool) : State.Kept z (State.coreExit s c ok) := by
  dsimp only [State.coreExit]
  repeat' (first | (with_reducible first | assumption | apply Kept.foldl | apply Kept.foldl1 | apply Kept.foldl2 | apply setCore_kept | apply coreFailed_kept) | (simp only [Kept.mk_iff, Kept.tick_iff]) | split | intro _)

theorem execCoreResetExit_kept (s : State) (c : Fin 2) (ok : Bool) : ∃ u9, execCoreResetExit c ok s = .next u9 ∧ State.Kept s u9 := by
  have h := State.Kept.refl s
  dsimp only [execCoreResetExit]
  repeat' (first | refine ⟨_, rfl, ?_⟩ | (with_reducible first | assumption | apply Kept.foldl | apply Kept.foldl1 | apply Kept.foldl2 | apply coreExit_kept) | (simp only [Kept.mk_iff, Kept.tick_iff]) | split | intro _)

theorem State.coreRst_kept {z s : State} (h : State.Kept z s) (c : Nat) : State.Kept z (State.coreRst s c) := by
  dsimp only [State.coreRst]
  repeat' (first | (with_reducible first | assumption | apply Kept.foldl | apply Kept.foldl1 | apply Kept.foldl2 | apply fset_kept | apply coreReset_kept | apply mbOwners_kept) | (simp only [Kept.mk_iff, Kept.tick_iff]) | split | intro _)

theorem execCoreRst_kept (s : State) (c : Fin 2) : ∃ u9, execCoreRst c s = .next u9 ∧ State.Kept s u9 := by
  have h := State.Kept.refl s
  dsimp only [execCoreRst]
  repeat' (first | refine ⟨_, rfl, ?_⟩ | (with_reducible first | assumption | apply Kept.foldl | apply Kept.foldl1 | apply Kept.foldl2 | apply touch_kept | apply coreRst_kept) | (simp only [Kept.mk_iff, Kept.tick_iff]) | split | intro _)

theorem State.mbRestart_kept {z s : State} (h : State.Kept z s) (m : Nat) : State.Kept z (State.mbRestart s m) := by
  dsimp only [State.mbRestart]
  repeat' (first | (with_reducible first | assumption | apply Kept.foldl | apply Kept.foldl1 | apply Kept.foldl2 | apply dropImage_kept | apply mbOwners_kept) | (simp only [Kept.mk_iff, Kept.tick_iff]) | split | intro _)

theorem State.mbPost_kept {z s : State} (h : State.Kept z s) (m : Nat) : State.Kept z (State.mbPost s m) := by
  dsimp only [State.mbPost]
  repeat' (first | (with_reducible first | assumption | apply Kept.foldl | apply Kept.foldl1 | apply Kept.foldl2 | apply fset_kept | apply fput_kept | apply setCore_kept) | (simp only [Kept.mk_iff, Kept.tick_iff]) | split | intro _)

theorem State.mbCtl_kept {z s : State} (h : State.Kept z s) (m : Nat) (w : Word) : State.Kept z (State.mbCtl s m w) := by
  dsimp only [State.mbCtl]
  repeat' (first | (with_reducible first | assumption | apply Kept.foldl | apply Kept.foldl1 | apply Kept.foldl2 | apply fset_kept | apply mbRestart_kept | apply mbPost_kept) | (simp only [Kept.mk_iff, Kept.tick_iff]) | split | intro _)

theorem execMbPost_kept (s : State) (m : Fin 2) (w : Word) : ∃ u9, execMbPost m w s = .next u9 ∧ State.Kept s u9 := by
  have h := State.Kept.refl s
  dsimp only [execMbPost]
  repeat' (first | refine ⟨_, rfl, ?_⟩ | (with_reducible first | assumption | apply Kept.foldl | apply Kept.foldl1 | apply Kept.foldl2 | apply touch_kept | apply mbCtl_kept) | (simp only [Kept.mk_iff, Kept.tick_iff]) | split | intro _)

theorem execMbRestart_kept (s : State) (m : Fin 2) (w : Word) : ∃ u9, execMbRestart m w s = .next u9 ∧ State.Kept s u9 := by
  have h := State.Kept.refl s
  dsimp only [execMbRestart]
  repeat' (first | refine ⟨_, rfl, ?_⟩ | (with_reducible first | assumption | apply Kept.foldl | apply Kept.foldl1 | apply Kept.foldl2 | apply touch_kept | apply mbCtl_kept) | (simp only [Kept.mk_iff, Kept.tick_iff]) | split | intro _)

theorem State.mbCopied_kept {z s : State} (h : State.Kept z s) (m : Nat) : State.Kept z (State.mbCopied s m) := by
  dsimp only [State.mbCopied]
  repeat' (first | (with_reducible first | assumption | apply Kept.foldl | apply Kept.foldl1 | apply Kept.foldl2 | apply mbOwners_kept) | (simp only [Kept.mk_iff, Kept.tick_iff]) | split | intro _)

theorem execMbCopyDone_kept (s : State) (m : Fin 2) : ∃ u9, execMbCopyDone m s = .next u9 ∧ State.Kept s u9 := by
  have h := State.Kept.refl s
  dsimp only [execMbCopyDone]
  repeat' (first | refine ⟨_, rfl, ?_⟩ | (with_reducible first | assumption | apply Kept.foldl | apply Kept.foldl1 | apply Kept.foldl2 | apply mbCopied_kept) | (simp only [Kept.mk_iff, Kept.tick_iff]) | split | intro _)

theorem State.flTakeover_kept {z s : State} (h : State.Kept z s) (core : Nat) : State.Kept z (State.flTakeover s core) := by
  dsimp only [State.flTakeover]
  repeat' (first | (with_reducible first | assumption | apply Kept.foldl | apply Kept.foldl1 | apply Kept.foldl2 | apply setFl_kept | apply flRead_kept | apply writeValid_kept | apply readSlot_kept) | (simp only [Kept.mk_iff, Kept.tick_iff]) | split | intro _)

theorem State.coreTakes_kept {z s : State} (h : State.Kept z s) (c : Nat) : State.Kept z (State.coreTakes s c) := by
  dsimp only [State.coreTakes]
  repeat' (first | (with_reducible first | assumption | apply Kept.foldl | apply Kept.foldl1 | apply Kept.foldl2 | apply setFormQ_kept | apply flTakeover_kept) | (simp only [Kept.mk_iff, Kept.tick_iff]) | split | intro _)

theorem State.coreStarts_kept {z s : State} (h : State.Kept z s) (c : Nat) : State.Kept z (State.coreStarts s c) := by
  dsimp only [State.coreStarts]
  repeat' (first | (with_reducible first | assumption | apply Kept.foldl | apply Kept.foldl1 | apply Kept.foldl2 | apply fset_kept | apply setCore_kept | apply coreTakes_kept) | (simp only [Kept.mk_iff, Kept.tick_iff]) | split | intro _)

theorem State.verifyDone_kept {z s : State} (h : State.Kept z s) (c : Nat) : State.Kept z (State.verifyDone s c) := by
  dsimp only [State.verifyDone]
  repeat' (first | (with_reducible first | assumption | apply Kept.foldl | apply Kept.foldl1 | apply Kept.foldl2 | apply fset_kept | apply record_kept | apply setCore_kept | apply setLdr_kept | apply dropImage_kept | apply coreStarts_kept) | (simp only [Kept.mk_iff, Kept.tick_iff]) | split | intro _)

theorem execImageVerifyDone_kept (s : State) (c : Fin 2) : ∃ u9, execImageVerifyDone c s = .next u9 ∧ State.Kept s u9 := by
  have h := State.Kept.refl s
  dsimp only [execImageVerifyDone]
  repeat' (first | refine ⟨_, rfl, ?_⟩ | (with_reducible first | assumption | apply Kept.foldl | apply Kept.foldl1 | apply Kept.foldl2 | apply verifyDone_kept) | (simp only [Kept.mk_iff, Kept.tick_iff]) | split | intro _)

theorem State.standbyDone_kept {z s : State} (h : State.Kept z s) (c : Nat) : State.Kept z (State.standbyDone s c) := by
  dsimp only [State.standbyDone]
  repeat' (first | (with_reducible first | assumption | apply Kept.foldl | apply Kept.foldl1 | apply Kept.foldl2 | apply setCore_kept | apply coreStarts_kept) | (simp only [Kept.mk_iff, Kept.tick_iff]) | split | intro _)

theorem execStandbyStateCopyDone_kept (s : State) (c : Fin 2) : ∃ u9, execStandbyStateCopyDone c s = .next u9 ∧ State.Kept s u9 := by
  have h := State.Kept.refl s
  dsimp only [execStandbyStateCopyDone]
  repeat' (first | refine ⟨_, rfl, ?_⟩ | (with_reducible first | assumption | apply Kept.foldl | apply Kept.foldl1 | apply Kept.foldl2 | apply standbyDone_kept) | (simp only [Kept.mk_iff, Kept.tick_iff]) | split | intro _)

theorem State.hoStart_kept {z s : State} (h : State.Kept z s) (at' : Nat) (auto : Bool) : State.Kept z (State.hoStart s at' auto) := by
  dsimp only [State.hoStart]
  repeat' (first | (with_reducible first | assumption | apply Kept.foldl | apply Kept.foldl1 | apply Kept.foldl2 | apply fput_kept | apply bcast_kept) | (simp only [Kept.mk_iff, Kept.tick_iff]) | split | intro _)

theorem State.hoWrite_kept {z s : State} (h : State.Kept z s) (w : Word) : State.Kept z (State.hoWrite s w) := by
  dsimp only [State.hoWrite]
  repeat' (first | (with_reducible first | assumption | apply Kept.foldl | apply Kept.foldl1 | apply Kept.foldl2 | apply fset_kept | apply hoStart_kept) | (simp only [Kept.mk_iff, Kept.tick_iff]) | split | intro _)

theorem execHandoverReq_kept (s : State) (w : Word) : ∃ u9, execHandoverReq w s = .next u9 ∧ State.Kept s u9 := by
  have h := State.Kept.refl s
  dsimp only [execHandoverReq]
  repeat' (first | refine ⟨_, rfl, ?_⟩ | (with_reducible first | assumption | apply Kept.foldl | apply Kept.foldl1 | apply Kept.foldl2 | apply touch_kept | apply hoWrite_kept) | (simp only [Kept.mk_iff, Kept.tick_iff]) | split | intro _)

theorem execHandoverMessage_kept (s : State) (n : Node) (m : Msg) : ∃ u9, execHandoverMessage n m s = .next u9 ∧ State.Kept s u9 := by
  have h := State.Kept.refl s
  dsimp only [execHandoverMessage]
  repeat' (first | refine ⟨_, rfl, ?_⟩ | (with_reducible first | assumption | apply Kept.foldl | apply Kept.foldl1 | apply Kept.foldl2 | apply take_kept | apply msgBad_kept) | (simp only [Kept.mk_iff, Kept.tick_iff]) | split | intro _)

theorem State.handover_kept {z s : State} (h : State.Kept z s)  : State.Kept z (State.handover s) := by
  dsimp only [State.handover]
  repeat' (first | (with_reducible first | assumption | apply Kept.foldl | apply Kept.foldl1 | apply Kept.foldl2 | apply fset_kept | apply fput_kept | apply sillage_kept | apply setCore_kept | apply coreTakes_kept) | (simp only [Kept.mk_iff, Kept.tick_iff]) | split | intro _)

theorem execHandover_kept (s : State)  : ∃ u9, execHandover s = .next u9 ∧ State.Kept s u9 := by
  have h := State.Kept.refl s
  dsimp only [execHandover]
  repeat' (first | refine ⟨_, rfl, ?_⟩ | (with_reducible first | assumption | apply Kept.foldl | apply Kept.foldl1 | apply Kept.foldl2 | apply handover_kept) | (simp only [Kept.mk_iff, Kept.tick_iff]) | split | intro _)

theorem State.oldSettled_kept {z s : State} (h : State.Kept z s) (c : Nat) : State.Kept z (State.oldSettled s c) := by
  dsimp only [State.oldSettled]
  repeat' (first | (with_reducible first | assumption | apply Kept.foldl | apply Kept.foldl1 | apply Kept.foldl2 | apply setCore_kept) | (simp only [Kept.mk_iff, Kept.tick_iff]) | split | intro _)

theorem execOldCoreSettled_kept (s : State) (c : Fin 2) : ∃ u9, execOldCoreSettled c s = .next u9 ∧ State.Kept s u9 := by
  have h := State.Kept.refl s
  dsimp only [execOldCoreSettled]
  repeat' (first | refine ⟨_, rfl, ?_⟩ | (with_reducible first | assumption | apply Kept.foldl | apply Kept.foldl1 | apply Kept.foldl2 | apply oldSettled_kept) | (simp only [Kept.mk_iff, Kept.tick_iff]) | split | intro _)

theorem State.coreFail_kept {z s : State} (h : State.Kept z s) (c : Nat) : State.Kept z (State.coreFail s c) := by
  dsimp only [State.coreFail]
  repeat' (first | (with_reducible first | assumption | apply Kept.foldl | apply Kept.foldl1 | apply Kept.foldl2 | apply coreFailed_kept | apply hoStart_kept) | (simp only [Kept.mk_iff, Kept.tick_iff]) | split | intro _)

theorem execCoreFail_kept (s : State) (c : Fin 2) : ∃ u9, execCoreFail c s = .next u9 ∧ State.Kept s u9 := by
  have h := State.Kept.refl s
  dsimp only [execCoreFail]
  repeat' (first | refine ⟨_, rfl, ?_⟩ | (with_reducible first | assumption | apply Kept.foldl | apply Kept.foldl1 | apply Kept.foldl2 | apply coreFail_kept) | (simp only [Kept.mk_iff, Kept.tick_iff]) | split | intro _)

theorem State.heartbeat_kept {z s : State} (h : State.Kept z s) (c : Nat) (beat : Bool) : State.Kept z (State.heartbeat s c beat) := by
  dsimp only [State.heartbeat]
  repeat' (first | (with_reducible first | assumption | apply Kept.foldl | apply Kept.foldl1 | apply Kept.foldl2 | apply beat_kept | apply coreFail_kept) | (simp only [Kept.mk_iff, Kept.tick_iff]) | split | intro _)

theorem State.memepCfg_kept {z s : State} (h : State.Kept z s) (c : Nat) : State.Kept z (State.memepCfg s c) := by
  dsimp only [State.memepCfg]
  repeat' (first | (with_reducible first | assumption | apply Kept.foldl | apply Kept.foldl1 | apply Kept.foldl2 | apply answerData_kept | apply answerStatus_kept) | (simp only [Kept.mk_iff, Kept.tick_iff]) | split | intro _)

theorem execMemepCfg_kept (s : State) (c : Fin 2) : ∃ u9, execMemepCfg c s = .next u9 ∧ State.Kept s u9 := by
  have h := State.Kept.refl s
  dsimp only [execMemepCfg]
  repeat' (first | refine ⟨_, rfl, ?_⟩ | (with_reducible first | assumption | apply Kept.foldl | apply Kept.foldl1 | apply Kept.foldl2 | apply memepCfg_kept) | (simp only [Kept.mk_iff, Kept.tick_iff]) | split | intro _)

theorem execMemInitDone_kept (s : State)  : ∃ u9, execMemInitDone s = .next u9 ∧ State.Kept s u9 := by
  have h := State.Kept.refl s
  dsimp only [execMemInitDone]
  repeat' (first | refine ⟨_, rfl, ?_⟩ | (with_reducible first | assumption | apply Kept.foldl | apply Kept.foldl1 | apply Kept.foldl2 | apply fput_kept) | (simp only [Kept.mk_iff, Kept.tick_iff]) | split | intro _)

theorem State.goService_kept {z s : State} (h : State.Kept z s)  : State.Kept z (State.goService s) := by
  dsimp only [State.goService]
  repeat' (first | (with_reducible first | assumption | apply Kept.foldl | apply Kept.foldl1 | apply Kept.foldl2 | apply fset_kept) | (simp only [Kept.mk_iff, Kept.tick_iff]) | split | intro _)

theorem execGoService_kept (s : State)  : ∃ u9, execGoService s = .next u9 ∧ State.Kept s u9 := by
  have h := State.Kept.refl s
  dsimp only [execGoService]
  repeat' (first | refine ⟨_, rfl, ?_⟩ | (with_reducible first | assumption | apply Kept.foldl | apply Kept.foldl1 | apply Kept.foldl2 | apply touch_kept | apply goService_kept) | (simp only [Kept.mk_iff, Kept.tick_iff]) | split | intro _)

theorem State.goTake_kept {z s : State} (h : State.Kept z s)  : State.Kept z (State.goTake s) := by
  dsimp only [State.goTake]
  repeat' (first | (with_reducible first | assumption | apply Kept.foldl | apply Kept.foldl1 | apply Kept.foldl2 | apply fset_kept | apply setFab_kept) | (simp only [Kept.mk_iff, Kept.tick_iff]) | split | intro _)

theorem State.failOutDuty_kept {z s : State} (h : State.Kept z s)  : State.Kept z (State.failOutDuty s) := by
  dsimp only [State.failOutDuty]
  repeat' (first | (with_reducible first | assumption | apply Kept.foldl | apply Kept.foldl1 | apply Kept.foldl2 | apply sliceUpd_kept) | (simp only [Kept.mk_iff, Kept.tick_iff]) | split | intro _)

theorem State.keepInputs_kept {z s : State} (h : State.Kept z s) (old : State) : State.Kept z (State.keepInputs s old) := by
  dsimp only [State.keepInputs]
  repeat' (first | (with_reducible first | assumption | apply Kept.foldl | apply Kept.foldl1 | apply Kept.foldl2 | apply fput_kept) | (simp only [Kept.mk_iff, Kept.tick_iff]) | split | intro _)

theorem execColdReset_kept (s : State) : ∃ u9, execColdReset s = .next u9 ∧ State.Kept0 s u9 :=
  have k := State.keepInputs_kept
    (State.Kept.refl ({ State.reset with pending := s.pending, freeNext := s.freeNext, cycle := s.cycle } : State)) s
  ⟨_, rfl, k.queue, fun _ => k.regs rfl⟩

theorem execColdResetRelease_kept (s : State) (keyHash : BitVec 384) (instId : BitVec 16) : ∃ u9, execColdResetRelease keyHash instId s = .next u9 ∧ State.Kept s u9 := by
  have h := State.Kept.refl s
  dsimp only [execColdResetRelease]
  repeat' (first | refine ⟨_, rfl, ?_⟩ | (with_reducible first | assumption | apply Kept.foldl | apply Kept.foldl1 | apply Kept.foldl2) | (simp only [Kept.mk_iff, Kept.tick_iff]) | split | intro _)

theorem State.fabricResetAsk_kept {z s : State} (h : State.Kept z s)  : State.Kept z (State.fabricResetAsk s) := by
  dsimp only [State.fabricResetAsk]
  repeat' (first | (with_reducible first | assumption | apply Kept.foldl | apply Kept.foldl1 | apply Kept.foldl2 | apply fput_kept | apply bcast_kept) | (simp only [Kept.mk_iff, Kept.tick_iff]) | split | intro _)

theorem execFabricResetRequest_kept (s : State) (x0 : Origin) : ∃ u9, execFabricResetRequest x0 s = .next u9 ∧ State.Kept s u9 := by
  have h := State.Kept.refl s
  dsimp only [execFabricResetRequest]
  repeat' (first | refine ⟨_, rfl, ?_⟩ | (with_reducible first | assumption | apply Kept.foldl | apply Kept.foldl1 | apply Kept.foldl2 | apply touch_kept | apply fabricResetAsk_kept) | (simp only [Kept.mk_iff, Kept.tick_iff]) | split | intro _)

theorem execResetMessage_kept (s : State) (n : Node) (m : Msg) : ∃ u9, execResetMessage n m s = .next u9 ∧ State.Kept s u9 := by
  have h := State.Kept.refl s
  dsimp only [execResetMessage]
  repeat' (first | refine ⟨_, rfl, ?_⟩ | (with_reducible first | assumption | apply Kept.foldl | apply Kept.foldl1 | apply Kept.foldl2 | apply take_kept | apply msgBad_kept) | (simp only [Kept.mk_iff, Kept.tick_iff]) | split | intro _)

theorem State.fabricClear_kept {z s : State} (h : State.Kept z s) : State.Kept z (State.fabricClear s) := by
  refine h.updRegs rfl rfl rfl (fun r => ?_)
  unfold State.RegsOk
  exact twf_filter 0 _ s.regs r

theorem State.fabricEnter_kept {z s : State} (h : State.Kept z s)  : State.Kept z (State.fabricEnter s) := by
  dsimp only [State.fabricEnter]
  repeat' (first | (with_reducible first | assumption | apply Kept.foldl | apply Kept.foldl1 | apply Kept.foldl2 | apply fset_kept | apply coreReset_kept | apply fabricClear_kept) | (simp only [Kept.mk_iff, Kept.tick_iff]) | split | intro _)

theorem execFabricResetEnter_kept (s : State)  : ∃ u9, execFabricResetEnter s = .next u9 ∧ State.Kept s u9 := by
  have h := State.Kept.refl s
  dsimp only [execFabricResetEnter]
  repeat' (first | refine ⟨_, rfl, ?_⟩ | (with_reducible first | assumption | apply Kept.foldl | apply Kept.foldl1 | apply Kept.foldl2 | apply fabricEnter_kept) | (simp only [Kept.mk_iff, Kept.tick_iff]) | split | intro _)

theorem State.fabricExit_kept {z s : State} (h : State.Kept z s)  : State.Kept z (State.fabricExit s) := by
  dsimp only [State.fabricExit]
  repeat' (first | (with_reducible first | assumption | apply Kept.foldl | apply Kept.foldl1 | apply Kept.foldl2 | apply setFab_kept) | (simp only [Kept.mk_iff, Kept.tick_iff]) | split | intro _)

theorem execFabricResetExit_kept (s : State)  : ∃ u9, execFabricResetExit s = .next u9 ∧ State.Kept s u9 := by
  have h := State.Kept.refl s
  dsimp only [execFabricResetExit]
  repeat' (first | refine ⟨_, rfl, ?_⟩ | (with_reducible first | assumption | apply Kept.foldl | apply Kept.foldl1 | apply Kept.foldl2 | apply fabricExit_kept) | (simp only [Kept.mk_iff, Kept.tick_iff]) | split | intro _)

end Sys2Proof.Machine
end

