-- ==== Sys2Proof/Laws/KeptLeave.lean ====
section
/-! SUPPORT. The operations of Leave.lean keep the queue and the canonical register file. -/

set_option linter.unusedSimpArgs false

namespace Sys2Proof.Machine

open State

theorem State.consumeHead_kept {z s : State} (h : State.Kept z s) (k : Nat) : State.Kept z (State.consumeHead s k) := by
  dsimp only [State.consumeHead]
  repeat' (first | (with_reducible first | assumption | apply Kept.foldl | apply Kept.foldl1 | apply Kept.foldl2 | apply egrTake_kept) | (simp only [Kept.mk_iff, Kept.tick_iff]) | split | intro _)

theorem State.coreTake_kept {z s : State} (h : State.Kept z s) (c : Nat) : State.Kept z (State.coreTake s c) := by
  dsimp only [State.coreTake]
  repeat' (first | (with_reducible first | assumption | apply Kept.foldl | apply Kept.foldl1 | apply Kept.foldl2 | apply egrTake_kept) | (simp only [Kept.mk_iff, Kept.tick_iff]) | split | intro _)

theorem State.engTake_kept {z s : State} (h : State.Kept z s) (e : Nat) : State.Kept z (State.engTake s e) := by
  dsimp only [State.engTake]
  repeat' (first | (with_reducible first | assumption | apply Kept.foldl | apply Kept.foldl1 | apply Kept.foldl2 | apply contextIn_kept | apply pushIn_kept | apply descTake_kept | apply consumeHead_kept) | (simp only [Kept.mk_iff, Kept.tick_iff]) | split | intro _)

theorem State.egressSend_kept {z s : State} (h : State.Kept z s) (k l : Nat) : State.Kept z (State.egressSend s k l) := by
  dsimp only [State.egressSend]
  repeat' (first | (with_reducible first | assumption | apply Kept.foldl | apply Kept.foldl1 | apply Kept.foldl2 | apply memTake_kept | apply portSend_kept | apply replTake_kept | apply consumeHead_kept | apply coreTake_kept | apply engTake_kept) | (simp only [Kept.mk_iff, Kept.tick_iff]) | split | intro _)

theorem execEgressSend_kept (s : State) (k : Stop) (l : Link) : ∃ u9, execEgressSend k l s = .next u9 ∧ State.Kept s u9 := by
  have h := State.Kept.refl s
  dsimp only [execEgressSend]
  repeat' (first | refine ⟨_, rfl, ?_⟩ | (with_reducible first | assumption | apply Kept.foldl | apply Kept.foldl1 | apply Kept.foldl2 | apply egressSend_kept) | (simp only [Kept.mk_iff, Kept.tick_iff]) | split | intro _)

end Sys2Proof.Machine
end

