-- ==== Sys2Proof/Laws/KeptTelem.lean ====
section
/-! SUPPORT. The operations of Telem.lean keep the queue and the canonical register file. -/

set_option linter.unusedSimpArgs false

namespace Sys2Proof.Machine

open State

theorem execSnapReq_kept (s : State)  : ∃ u9, execSnapReq s = .next u9 ∧ State.Kept s u9 := by
  have h := State.Kept.refl s
  dsimp only [execSnapReq]
  repeat' (first | refine ⟨_, rfl, ?_⟩ | (with_reducible first | assumption | apply Kept.foldl | apply Kept.foldl1 | apply Kept.foldl2 | apply fput_kept | apply touch_kept) | (simp only [Kept.mk_iff, Kept.tick_iff]) | split | intro _)

theorem State.freezeArm_kept {z s : State} (h : State.Kept z s)  : State.Kept z (State.freezeArm s) := by
  dsimp only [State.freezeArm]
  repeat' (first | (with_reducible first | assumption | apply Kept.foldl | apply Kept.foldl1 | apply Kept.foldl2 | apply fput_kept | apply pgErr_kept | apply setFreezeOwner_kept) | (simp only [Kept.mk_iff, Kept.tick_iff]) | split | intro _)

theorem State.freezeRelease_kept {z s : State} (h : State.Kept z s)  : State.Kept z (State.freezeRelease s) := by
  dsimp only [State.freezeRelease]
  repeat' (first | (with_reducible first | assumption | apply Kept.foldl | apply Kept.foldl1 | apply Kept.foldl2) | (simp only [Kept.mk_iff, Kept.tick_iff]) | split | intro _)

theorem execFreezeArm_kept (s : State)  : ∃ u9, execFreezeArm s = .next u9 ∧ State.Kept s u9 := by
  have h := State.Kept.refl s
  dsimp only [execFreezeArm]
  repeat' (first | refine ⟨_, rfl, ?_⟩ | (with_reducible first | assumption | apply Kept.foldl | apply Kept.foldl1 | apply Kept.foldl2 | apply touch_kept | apply freezeArm_kept) | (simp only [Kept.mk_iff, Kept.tick_iff]) | split | intro _)

theorem execFreezeRelease_kept (s : State)  : ∃ u9, execFreezeRelease s = .next u9 ∧ State.Kept s u9 := by
  have h := State.Kept.refl s
  dsimp only [execFreezeRelease]
  repeat' (first | refine ⟨_, rfl, ?_⟩ | (with_reducible first | assumption | apply Kept.foldl | apply Kept.foldl1 | apply Kept.foldl2 | apply touch_kept | apply freezeRelease_kept) | (simp only [Kept.mk_iff, Kept.tick_iff]) | split | intro _)

theorem State.freezeWrite_kept {z s : State} (h : State.Kept z s) (w : Word) : State.Kept z (State.freezeWrite s w) := by
  dsimp only [State.freezeWrite]
  repeat' (first | (with_reducible first | assumption | apply Kept.foldl | apply Kept.foldl1 | apply Kept.foldl2 | apply freezeArm_kept | apply freezeRelease_kept) | (simp only [Kept.mk_iff, Kept.tick_iff]) | split | intro _)

theorem State.latchBlock_kept {z s : State} (h : State.Kept z s) (c : Cls) (inst now : Nat) (hold : Bool) : State.Kept z (State.latchBlock s c inst now hold) := by
  dsimp only [State.latchBlock]
  repeat' (first | (with_reducible first | assumption | apply Kept.foldl | apply Kept.foldl1 | apply Kept.foldl2 | apply fput_kept | apply setWide_kept) | (simp only [Kept.mk_iff, Kept.tick_iff]) | split | intro _)

theorem State.latchSlots_kept {z s : State} (h : State.Kept z s) (k : Nat) : State.Kept z (State.latchSlots s k) := by
  dsimp only [State.latchSlots]
  repeat' (first | (with_reducible first | assumption | apply Kept.foldl | apply Kept.foldl1 | apply Kept.foldl2 | apply fset_kept | apply setWide_kept) | (simp only [Kept.mk_iff, Kept.tick_iff]) | split | intro _)

theorem State.latchSets_kept {z s : State} (h : State.Kept z s) (x : Nat) : State.Kept z (State.latchSets s x) := by
  dsimp only [State.latchSets]
  repeat' (first | (with_reducible first | assumption | apply Kept.foldl | apply Kept.foldl1 | apply Kept.foldl2 | apply setCpart_kept) | (simp only [Kept.mk_iff, Kept.tick_iff]) | split | intro _)

theorem State.latchNow_kept {z s : State} (h : State.Kept z s) (n : Nat) : State.Kept z (State.latchNow s n) := by
  dsimp only [State.latchNow]
  repeat' (first | (with_reducible first | assumption | apply Kept.foldl | apply Kept.foldl1 | apply Kept.foldl2 | apply fset_kept | apply fput_kept | apply setWide_kept | apply sillage_kept | apply latchBlock_kept | apply latchSlots_kept | apply latchSets_kept) | (simp only [Kept.mk_iff, Kept.tick_iff]) | split | intro _)

theorem State.releaseHold_kept {z s : State} (h : State.Kept z s) (n : Nat) : State.Kept z (State.releaseHold s n) := by
  dsimp only [State.releaseHold]
  repeat' (first | (with_reducible first | assumption | apply Kept.foldl | apply Kept.foldl1 | apply Kept.foldl2 | apply fput_kept) | (simp only [Kept.mk_iff, Kept.tick_iff]) | split | intro _)

theorem State.latchDuty_kept {z s : State} (h : State.Kept z s) (n : Nat) : State.Kept z (State.latchDuty s n) := by
  dsimp only [State.latchDuty]
  repeat' (first | (with_reducible first | assumption | apply Kept.foldl | apply Kept.foldl1 | apply Kept.foldl2 | apply latchNow_kept | apply releaseHold_kept) | (simp only [Kept.mk_iff, Kept.tick_iff]) | split | intro _)

theorem State.ticksDuty_kept {z s : State} (h : State.Kept z s) (n : Nat) : State.Kept z (State.ticksDuty s n) := by
  dsimp only [State.ticksDuty]
  repeat' (first | (with_reducible first | assumption | apply Kept.foldl | apply Kept.foldl1 | apply Kept.foldl2 | apply fput_kept | apply setWide_kept) | (simp only [Kept.mk_iff, Kept.tick_iff]) | split | intro _)

theorem State.cntLoWrite_kept {z s : State} (h : State.Kept z s) (c : Cls) (inst i : Nat) (w : Word) : State.Kept z (State.cntLoWrite s c inst i w) := by
  dsimp only [State.cntLoWrite]
  repeat' (first | (with_reducible first | assumption | apply Kept.foldl | apply Kept.foldl1 | apply Kept.foldl2) | (simp only [Kept.mk_iff, Kept.tick_iff]) | split | intro _)

theorem State.cntHiWrite_kept {z s : State} (h : State.Kept z s) (c : Cls) (inst i : Nat) (w : Word) : State.Kept z (State.cntHiWrite s c inst i w) := by
  dsimp only [State.cntHiWrite]
  repeat' (first | (with_reducible first | assumption | apply Kept.foldl | apply Kept.foldl1 | apply Kept.foldl2 | apply setWide_kept) | (simp only [Kept.mk_iff, Kept.tick_iff]) | split | intro _)

theorem execCntHiWrite_kept (s : State) (c : Cls) (inst : Fin 60) (i : Fin 8) (w : Word) : ∃ u9, execCntHiWrite c inst i w s = .next u9 ∧ State.Kept s u9 := by
  have h := State.Kept.refl s
  dsimp only [execCntHiWrite]
  repeat' (first | refine ⟨_, rfl, ?_⟩ | (with_reducible first | assumption | apply Kept.foldl | apply Kept.foldl1 | apply Kept.foldl2 | apply touch_kept | apply cntHiWrite_kept) | (simp only [Kept.mk_iff, Kept.tick_iff]) | split | intro _)

theorem State.sbSample_kept {z s : State} (h : State.Kept z s)  : State.Kept z (State.sbSample s) := by
  dsimp only [State.sbSample]
  repeat' (first | (with_reducible first | assumption | apply Kept.foldl | apply Kept.foldl1 | apply Kept.foldl2) | (simp only [Kept.mk_iff, Kept.tick_iff]) | split | intro _)

theorem execSbSelect_kept (s : State) (sel : Fin 16) : ∃ u9, execSbSelect sel s = .next u9 ∧ State.Kept s u9 := by
  have h := State.Kept.refl s
  dsimp only [execSbSelect]
  repeat' (first | refine ⟨_, rfl, ?_⟩ | (with_reducible first | assumption | apply Kept.foldl | apply Kept.foldl1 | apply Kept.foldl2) | (simp only [Kept.mk_iff, Kept.tick_iff]) | split | intro _)

theorem State.setSilStg_kept {z s : State} (h : State.Kept z s) (x : Nat) (l : List SilEnt) : State.Kept z (State.setSilStg s x l) := by
  dsimp only [State.setSilStg]
  repeat' (first | (with_reducible first | assumption | apply Kept.foldl | apply Kept.foldl1 | apply Kept.foldl2 | apply fset_kept) | (simp only [Kept.mk_iff, Kept.tick_iff]) | split | intro _)

theorem State.silPut_kept {z s : State} (h : State.Kept z s) (x tick src code inj supp info : Nat) : State.Kept z (State.silPut s x tick src code inj supp info) := by
  dsimp only [State.silPut]
  repeat' (first | (with_reducible first | assumption | apply Kept.foldl | apply Kept.foldl1 | apply Kept.foldl2 | apply fset_kept | apply setSilStg_kept) | (simp only [Kept.mk_iff, Kept.tick_iff]) | split | intro _)

theorem State.silTell_kept {z s : State} (h : State.Kept z s) (x : Nat) : State.Kept z (State.silTell s x) := by
  dsimp only [State.silTell]
  repeat' (first | (with_reducible first | assumption | apply Kept.foldl | apply Kept.foldl1 | apply Kept.foldl2 | apply silPut_kept) | (simp only [Kept.mk_iff, Kept.tick_iff]) | split | intro _)

theorem State.silEntry_kept {z s : State} (h : State.Kept z s) (x node payload : Nat) : State.Kept z (State.silEntry s x node payload) := by
  dsimp only [State.silEntry]
  repeat' (first | (with_reducible first | assumption | apply Kept.foldl | apply Kept.foldl1 | apply Kept.foldl2 | apply fsat_kept | apply silPut_kept) | (simp only [Kept.mk_iff, Kept.tick_iff]) | split | intro _)

theorem State.silFrag_kept {z s : State} (h : State.Kept z s) (x : Nat) (m : Msg) : State.Kept z (State.silFrag s x m) := by
  dsimp only [State.silFrag]
  repeat' (first | (with_reducible first | assumption | apply Kept.foldl | apply Kept.foldl1 | apply Kept.foldl2 | apply silEntry_kept) | (simp only [Kept.mk_iff, Kept.tick_iff]) | split | intro _)

theorem execSilFrag_kept (s : State) (n : Stop) (m : Msg) : ∃ u9, execSilFrag n m s = .next u9 ∧ State.Kept s u9 := by
  have h := State.Kept.refl s
  dsimp only [execSilFrag]
  repeat' (first | refine ⟨_, rfl, ?_⟩ | (with_reducible first | assumption | apply Kept.foldl | apply Kept.foldl1 | apply Kept.foldl2 | apply take_kept | apply msgBad_kept | apply silFrag_kept) | (simp only [Kept.mk_iff, Kept.tick_iff]) | split | intro _)

theorem execSilFragTimeout_kept (s : State) (r : Node) (e : Fin 128) : ∃ u9, execSilFragTimeout r e s = .next u9 ∧ State.Kept s u9 := by
  have h := State.Kept.refl s
  dsimp only [execSilFragTimeout]
  repeat' (first | refine ⟨_, rfl, ?_⟩ | (with_reducible first | assumption | apply Kept.foldl | apply Kept.foldl1 | apply Kept.foldl2 | apply fsat_kept) | (simp only [Kept.mk_iff, Kept.tick_iff]) | split | intro _)

theorem State.silWrite_kept {z s : State} (h : State.Kept z s) (x : Nat) : State.Kept z (State.silWrite s x) := by
  dsimp only [State.silWrite]
  repeat' (first | (with_reducible first | assumption | apply Kept.foldl | apply Kept.foldl1 | apply Kept.foldl2 | apply submit_kept | apply setSilStg_kept) | (simp only [Kept.mk_iff, Kept.tick_iff]) | split | intro _)

theorem execSilLineWrite_kept (s : State) (x : Sector) : ∃ u9, execSilLineWrite x s = .next u9 ∧ State.Kept s u9 := by
  have h := State.Kept.refl s
  dsimp only [execSilLineWrite]
  repeat' (first | refine ⟨_, rfl, ?_⟩ | (with_reducible first | assumption | apply Kept.foldl | apply Kept.foldl1 | apply Kept.foldl2 | apply silWrite_kept) | (simp only [Kept.mk_iff, Kept.tick_iff]) | split | intro _)

theorem State.silAck_kept {z s : State} (h : State.Kept z s) (x : Nat) : State.Kept z (State.silAck s x) := by
  dsimp only [State.silAck]
  repeat' (first | (with_reducible first | assumption | apply Kept.foldl | apply Kept.foldl1 | apply Kept.foldl2 | apply setSilStg_kept | apply silTell_kept) | (simp only [Kept.mk_iff, Kept.tick_iff]) | split | intro _)

theorem execSilLineAck_kept (s : State) (x : Sector) : ∃ u9, execSilLineAck x s = .next u9 ∧ State.Kept s u9 := by
  have h := State.Kept.refl s
  dsimp only [execSilLineAck]
  repeat' (first | refine ⟨_, rfl, ?_⟩ | (with_reducible first | assumption | apply Kept.foldl | apply Kept.foldl1 | apply Kept.foldl2 | apply silAck_kept) | (simp only [Kept.mk_iff, Kept.tick_iff]) | split | intro _)

end Sys2Proof.Machine
end

