-- ==== Sys2Proof/Laws/KeptPair.lean ====
section
/-! SUPPORT. The operations of Pair.lean keep the queue and the canonical register file. -/

set_option linter.unusedSimpArgs false

namespace Sys2Proof.Machine

open State

theorem State.setMs_kept {z s : State} (h : State.Kept z s) (n : Nat) : State.Kept z (State.setMs s n) := by
  dsimp only [State.setMs]
  repeat' (first | (with_reducible first | assumption | apply Kept.foldl | apply Kept.foldl1 | apply Kept.foldl2 | apply fset_kept) | (simp only [Kept.mk_iff, Kept.tick_iff]) | split | intro _)

theorem State.setKept_kept {z s : State} (h : State.Kept z s) (l : List PairFrame) : State.Kept z (State.setKept s l) := by
  dsimp only [State.setKept]
  repeat' (first | (with_reducible first | assumption | apply Kept.foldl | apply Kept.foldl1 | apply Kept.foldl2 | apply fset_kept) | (simp only [Kept.mk_iff, Kept.tick_iff]) | split | intro _)

theorem State.markDown_kept {z s : State} (h : State.Kept z s) (n : Nat) : State.Kept z (State.markDown s n) := by
  dsimp only [State.markDown]
  repeat' (first | (with_reducible first | assumption | apply Kept.foldl | apply Kept.foldl1 | apply Kept.foldl2 | apply fput_kept) | (simp only [Kept.mk_iff, Kept.tick_iff]) | split | intro _)

theorem State.dropRet_kept {z s : State} (h : State.Kept z s)  : State.Kept z (State.dropRet s) := by
  dsimp only [State.dropRet]
  repeat' (first | (with_reducible first | assumption | apply Kept.foldl | apply Kept.foldl1 | apply Kept.foldl2 | apply setKept_kept | apply markDown_kept) | (simp only [Kept.mk_iff, Kept.tick_iff]) | split | intro _)

theorem State.toDesync_kept {z s : State} (h : State.Kept z s) (cause : Nat) : State.Kept z (State.toDesync s cause) := by
  dsimp only [State.toDesync]
  repeat' (first | (with_reducible first | assumption | apply Kept.foldl | apply Kept.foldl1 | apply Kept.foldl2 | apply record_kept | apply setMs_kept) | (simp only [Kept.mk_iff, Kept.tick_iff]) | split | intro _)

theorem State.pairForm_kept {z s : State} (h : State.Kept z s)  (n : Nat) : State.Kept z (State.pairForm s n) := by
  induction n generalizing s with
  | zero =>
    dsimp only [State.pairForm]
    repeat' (first | (with_reducible first | assumption | apply Kept.foldl | apply Kept.foldl1 | apply Kept.foldl2 | apply rcInc_kept | apply xbOcc_kept | apply setKept_kept | apply markDown_kept | apply toDesync_kept) | (simp only [Kept.mk_iff, Kept.tick_iff]) | split | intro _)
  | succ n ih =>
    dsimp only [State.pairForm]
    repeat' (first | with_reducible (apply ih) | (with_reducible first | assumption | apply Kept.foldl | apply Kept.foldl1 | apply Kept.foldl2 | apply rcInc_kept | apply xbOcc_kept | apply setKept_kept | apply markDown_kept | apply toDesync_kept) | (simp only [Kept.mk_iff, Kept.tick_iff]) | split | intro _)

theorem State.pairSend_kept {z s : State} (h : State.Kept z s)  (n : Nat) : State.Kept z (State.pairSend s n) := by
  induction n generalizing s with
  | zero =>
    dsimp only [State.pairSend]
    repeat' (first | (with_reducible first | assumption | apply Kept.foldl | apply Kept.foldl1 | apply Kept.foldl2) | (simp only [Kept.mk_iff, Kept.tick_iff]) | split | intro _)
  | succ n ih =>
    dsimp only [State.pairSend]
    repeat' (first | with_reducible (apply ih) | (with_reducible first | assumption | apply Kept.foldl | apply Kept.foldl1 | apply Kept.foldl2) | (simp only [Kept.mk_iff, Kept.tick_iff]) | split | intro _)

theorem State.pairPump_kept {z s : State} (h : State.Kept z s)  : State.Kept z (State.pairPump s) := by
  dsimp only [State.pairPump]
  repeat' (first | (with_reducible first | assumption | apply Kept.foldl | apply Kept.foldl1 | apply Kept.foldl2 | apply pairForm_kept | apply pairSend_kept) | (simp only [Kept.mk_iff, Kept.tick_iff]) | split | intro _)

theorem State.pairReplay_kept {z s : State} (h : State.Kept z s)  : State.Kept z (State.pairReplay s) := by
  dsimp only [State.pairReplay]
  repeat' (first | (with_reducible first | assumption | apply Kept.foldl | apply Kept.foldl1 | apply Kept.foldl2 | apply rcInc_kept | apply setKept_kept | apply pairPump_kept) | (simp only [Kept.mk_iff, Kept.tick_iff]) | split | intro _)

theorem execPairReplay_kept (s : State)  : ∃ u9, execPairReplay s = .next u9 ∧ State.Kept s u9 := by
  have h := State.Kept.refl s
  dsimp only [execPairReplay]
  repeat' (first | refine ⟨_, rfl, ?_⟩ | (with_reducible first | assumption | apply Kept.foldl | apply Kept.foldl1 | apply Kept.foldl2 | apply pairReplay_kept) | (simp only [Kept.mk_iff, Kept.tick_iff]) | split | intro _)

theorem State.sendHb_kept {z s : State} (h : State.Kept z s)  : State.Kept z (State.sendHb s) := by
  dsimp only [State.sendHb]
  repeat' (first | (with_reducible first | assumption | apply Kept.foldl | apply Kept.foldl1 | apply Kept.foldl2 | apply pairPump_kept) | (simp only [Kept.mk_iff, Kept.tick_iff]) | split | intro _)

theorem State.fullRead_kept {z s : State} (h : State.Kept z s) (p : Nat) : State.Kept z (State.fullRead s p) := by
  dsimp only [State.fullRead]
  repeat' (first | (with_reducible first | assumption | apply Kept.foldl | apply Kept.foldl1 | apply Kept.foldl2 | apply ownRead_kept) | (simp only [Kept.mk_iff, Kept.tick_iff]) | split | intro _)

theorem State.addItems_kept {z s : State} (h : State.Kept z s) (l : List MirItem) : State.Kept z (State.addItems s l) := by
  dsimp only [State.addItems]
  repeat' (first | (with_reducible first | assumption | apply Kept.foldl | apply Kept.foldl1 | apply Kept.foldl2) | (simp only [Kept.mk_iff, Kept.tick_iff]) | split | intro _)

theorem State.fullTake_kept {z s : State} (h : State.Kept z s)  (n : Nat) : State.Kept z (State.fullTake s n) := by
  induction n generalizing s with
  | zero =>
    dsimp only [State.fullTake]
    repeat' (first | (with_reducible first | assumption | apply Kept.foldl | apply Kept.foldl1 | apply Kept.foldl2 | refine takeDone_kept ?_ _ _ (by assumption) | apply fullRead_kept | apply addItems_kept) | (simp only [Kept.mk_iff, Kept.tick_iff]) | split | intro _)
  | succ n ih =>
    dsimp only [State.fullTake]
    repeat' (first | with_reducible (apply ih) | (with_reducible first | assumption | apply Kept.foldl | apply Kept.foldl1 | apply Kept.foldl2 | refine takeDone_kept ?_ _ _ (by assumption) | apply fullRead_kept | apply addItems_kept) | (simp only [Kept.mk_iff, Kept.tick_iff]) | split | intro _)

theorem State.fullNext_kept {z s : State} (h : State.Kept z s)  (n : Nat) : State.Kept z (State.fullNext s n) := by
  induction n generalizing s with
  | zero =>
    dsimp only [State.fullNext]
    repeat' (first | (with_reducible first | assumption | apply Kept.foldl | apply Kept.foldl1 | apply Kept.foldl2 | apply fullRead_kept | apply addItems_kept) | (simp only [Kept.mk_iff, Kept.tick_iff]) | split | intro _)
  | succ n ih =>
    dsimp only [State.fullNext]
    repeat' (first | with_reducible (apply ih) | (with_reducible first | assumption | apply Kept.foldl | apply Kept.foldl1 | apply Kept.foldl2 | apply fullRead_kept | apply addItems_kept) | (simp only [Kept.mk_iff, Kept.tick_iff]) | split | intro _)

theorem State.fullStep_kept {z s : State} (h : State.Kept z s)  : State.Kept z (State.fullStep s) := by
  dsimp only [State.fullStep]
  repeat' (first | (with_reducible first | assumption | apply Kept.foldl | apply Kept.foldl1 | apply Kept.foldl2 | apply pairPump_kept | apply fullTake_kept | apply fullNext_kept) | (simp only [Kept.mk_iff, Kept.tick_iff]) | split | intro _)

theorem State.startResync_kept {z s : State} (h : State.Kept z s)  : State.Kept z (State.startResync s) := by
  dsimp only [State.startResync]
  repeat' (first | (with_reducible first | assumption | apply Kept.foldl | apply Kept.foldl1 | apply Kept.foldl2 | apply setMs_kept | apply fullStep_kept) | (simp only [Kept.mk_iff, Kept.tick_iff]) | split | intro _)

theorem State.resyncDone_kept {z s : State} (h : State.Kept z s)  : State.Kept z (State.resyncDone s) := by
  dsimp only [State.resyncDone]
  repeat' (first | (with_reducible first | assumption | apply Kept.foldl | apply Kept.foldl1 | apply Kept.foldl2 | apply setMs_kept) | (simp only [Kept.mk_iff, Kept.tick_iff]) | split | intro _)

theorem execResyncDone_kept (s : State)  : ∃ u9, execResyncDone s = .next u9 ∧ State.Kept s u9 := by
  have h := State.Kept.refl s
  dsimp only [execResyncDone]
  repeat' (first | refine ⟨_, rfl, ?_⟩ | (with_reducible first | assumption | apply Kept.foldl | apply Kept.foldl1 | apply Kept.foldl2 | apply resyncDone_kept) | (simp only [Kept.mk_iff, Kept.tick_iff]) | split | intro _)

theorem State.rsyncGo_kept {z s : State} (h : State.Kept z s)  : State.Kept z (State.rsyncGo s) := by
  dsimp only [State.rsyncGo]
  repeat' (first | (with_reducible first | assumption | apply Kept.foldl | apply Kept.foldl1 | apply Kept.foldl2 | apply startResync_kept) | (simp only [Kept.mk_iff, Kept.tick_iff]) | split | intro _)

theorem execRsyncGo_kept (s : State)  : ∃ u9, execRsyncGo s = .next u9 ∧ State.Kept s u9 := by
  have h := State.Kept.refl s
  dsimp only [execRsyncGo]
  repeat' (first | refine ⟨_, rfl, ?_⟩ | (with_reducible first | assumption | apply Kept.foldl | apply Kept.foldl1 | apply Kept.foldl2 | apply touch_kept | apply rsyncGo_kept) | (simp only [Kept.mk_iff, Kept.tick_iff]) | split | intro _)

theorem State.autoResync_kept {z s : State} (h : State.Kept z s)  : State.Kept z (State.autoResync s) := by
  dsimp only [State.autoResync]
  repeat' (first | (with_reducible first | assumption | apply Kept.foldl | apply Kept.foldl1 | apply Kept.foldl2 | apply rsyncGo_kept) | (simp only [Kept.mk_iff, Kept.tick_iff]) | split | intro _)

theorem State.tkoMeets_kept {z s : State} (h : State.Kept z s)  : State.Kept z (State.tkoMeets s) := by
  dsimp only [State.tkoMeets]
  repeat' (first | (with_reducible first | assumption | apply Kept.foldl | apply Kept.foldl1 | apply Kept.foldl2 | apply setMs_kept) | (simp only [Kept.mk_iff, Kept.tick_iff]) | split | intro _)

theorem State.linkMove_kept {z s : State} (h : State.Kept z s)  : State.Kept z (State.linkMove s) := by
  dsimp only [State.linkMove]
  repeat' (first | (with_reducible first | assumption | apply Kept.foldl | apply Kept.foldl1 | apply Kept.foldl2 | apply fput_kept | apply setMs_kept | apply toDesync_kept | apply autoResync_kept | apply tkoMeets_kept) | (simp only [Kept.mk_iff, Kept.tick_iff]) | split | intro _)

theorem execPlUpChange_kept (s : State) (up : Bool) : ∃ u9, execPlUpChange up s = .next u9 ∧ State.Kept s u9 := by
  have h := State.Kept.refl s
  dsimp only [execPlUpChange]
  repeat' (first | refine ⟨_, rfl, ?_⟩ | (with_reducible first | assumption | apply Kept.foldl | apply Kept.foldl1 | apply Kept.foldl2 | apply linkMove_kept) | (simp only [Kept.mk_iff, Kept.tick_iff]) | split | intro _)

theorem State.mirrorSet_kept {z s : State} (h : State.Kept z s) (on : Bool) : State.Kept z (State.mirrorSet s on) := by
  dsimp only [State.mirrorSet]
  repeat' (first | (with_reducible first | assumption | apply Kept.foldl | apply Kept.foldl1 | apply Kept.foldl2 | apply fput_kept | apply setMs_kept | apply markDown_kept | apply dropRet_kept | apply startResync_kept) | (simp only [Kept.mk_iff, Kept.tick_iff]) | split | intro _)

theorem State.pairCtl_kept {z s : State} (h : State.Kept z s) (w : Word) : State.Kept z (State.pairCtl s w) := by
  dsimp only [State.pairCtl]
  repeat' (first | (with_reducible first | assumption | apply Kept.foldl | apply Kept.foldl1 | apply Kept.foldl2 | apply fput_kept | apply pgErr_kept | apply linkMove_kept | apply mirrorSet_kept) | (simp only [Kept.mk_iff, Kept.tick_iff]) | split | intro _)

theorem execMirrorWrite_kept (s : State) (w : Word) : ∃ u9, execMirrorWrite w s = .next u9 ∧ State.Kept s u9 := by
  have h := State.Kept.refl s
  dsimp only [execMirrorWrite]
  repeat' (first | refine ⟨_, rfl, ?_⟩ | (with_reducible first | assumption | apply Kept.foldl | apply Kept.foldl1 | apply Kept.foldl2 | apply touch_kept | apply pairCtl_kept) | (simp only [Kept.mk_iff, Kept.tick_iff]) | split | intro _)

theorem State.mirRefuse_kept {z s : State} (h : State.Kept z s) (f : PairFrame) : State.Kept z (State.mirRefuse s f) := by
  dsimp only [State.mirRefuse]
  repeat' (first | (with_reducible first | assumption | apply Kept.foldl | apply Kept.foldl1 | apply Kept.foldl2 | apply rcInc_kept | apply record_kept | apply toDesync_kept) | (simp only [Kept.mk_iff, Kept.tick_iff]) | split | intro _)

theorem State.shadowClear_kept {z s : State} (h : State.Kept z s) (x : Nat) : State.Kept z (State.shadowClear s x) := by
  dsimp only [State.shadowClear]
  repeat' (first | (with_reducible first | assumption | apply Kept.foldl | apply Kept.foldl1 | apply Kept.foldl2 | apply setWord_kept) | (simp only [Kept.mk_iff, Kept.tick_iff]) | split | intro _)

theorem State.clearShadows_kept {z s : State} (h : State.Kept z s)  : State.Kept z (State.clearShadows s) := by
  dsimp only [State.clearShadows]
  repeat' (first | (with_reducible first | assumption | apply Kept.foldl | apply Kept.foldl1 | apply Kept.foldl2 | apply shadowClear_kept) | (simp only [Kept.mk_iff, Kept.tick_iff]) | split | intro _)

theorem State.applyXlt_kept {z s u9 : State} (h : State.Kept z s) (f : PairFrame) (he : State.applyXlt s f = some u9) : State.Kept z u9 := by
  revert he
  dsimp only [State.applyXlt]
  repeat' (first | (with_reducible first | refine Kept.of_some ?_ | refine Kept.of_none | refine Kept.of_pair ?_) | (with_reducible first | assumption | apply Kept.foldl | apply Kept.foldl1 | apply Kept.foldl2 | apply rcInc_kept | apply xltStart_kept) | (simp only [Kept.mk_iff, Kept.tick_iff]) | split | intro _)

theorem State.applyPb_kept {z s u9 : State} (h : State.Kept z s) (f : PairFrame) (he : State.applyPb s f = some u9) : State.Kept z u9 := by
  revert he
  dsimp only [State.applyPb]
  repeat' (first | (with_reducible first | refine Kept.of_some ?_ | refine Kept.of_none | refine Kept.of_pair ?_) | (with_reducible first | assumption | apply Kept.foldl | apply Kept.foldl1 | apply Kept.foldl2 | apply pbStart_kept | apply mirRefuse_kept) | (simp only [Kept.mk_iff, Kept.tick_iff]) | split | intro _)

theorem State.applyAcc_kept {z s : State} (h : State.Kept z s) (f : PairFrame) : State.Kept z (State.applyAcc s f) := by
  dsimp only [State.applyAcc]
  repeat' (first | (with_reducible first | assumption | apply Kept.foldl | apply Kept.foldl1 | apply Kept.foldl2 | apply setWord_kept | apply mirRefuse_kept) | (simp only [Kept.mk_iff, Kept.tick_iff]) | split | intro _)

theorem State.applyQctx_kept {z s : State} (h : State.Kept z s) (f : PairFrame) : State.Kept z (State.applyQctx s f) := by
  dsimp only [State.applyQctx]
  repeat' (first | (with_reducible first | assumption | apply Kept.foldl | apply Kept.foldl1 | apply Kept.foldl2 | apply setQctx_kept | apply mirRefuse_kept) | (simp only [Kept.mk_iff, Kept.tick_iff]) | split | intro _)

theorem State.applyMtr_kept {z s : State} (h : State.Kept z s) (f : PairFrame) : State.Kept z (State.applyMtr s f) := by
  dsimp only [State.applyMtr]
  repeat' (first | (with_reducible first | assumption | apply Kept.foldl | apply Kept.foldl1 | apply Kept.foldl2 | apply loadMeter_kept | apply mirRefuse_kept) | (simp only [Kept.mk_iff, Kept.tick_iff]) | split | intro _)

theorem State.applySlc_kept {z s : State} (h : State.Kept z s) (f : PairFrame) : State.Kept z (State.applySlc s f) := by
  dsimp only [State.applySlc]
  repeat' (first | (with_reducible first | assumption | apply Kept.foldl | apply Kept.foldl1 | apply Kept.foldl2 | apply mirRefuse_kept | apply shadowClear_kept) | (simp only [Kept.mk_iff, Kept.tick_iff]) | split | intro _)

theorem State.applyCkpt_kept {z s : State} (h : State.Kept z s) (f : PairFrame) : State.Kept z (State.applyCkpt s f) := by
  dsimp only [State.applyCkpt]
  repeat' (first | (with_reducible first | assumption | apply Kept.foldl | apply Kept.foldl1 | apply Kept.foldl2 | apply setQctx_kept | apply mirRefuse_kept) | (simp only [Kept.mk_iff, Kept.tick_iff]) | split | intro _)

theorem State.applyWake_kept {z s : State} (h : State.Kept z s) (f : PairFrame) : State.Kept z (State.applyWake s f) := by
  dsimp only [State.applyWake]
  repeat' (first | (with_reducible first | assumption | apply Kept.foldl | apply Kept.foldl1 | apply Kept.foldl2 | apply wakeEvent_kept) | (simp only [Kept.mk_iff, Kept.tick_iff]) | split | intro _)

theorem State.pairWrite_kept {z s : State} (h : State.Kept z s) (fma first last : Nat) (bytes : List (BitVec 8)) : State.Kept z (State.pairWrite s fma first last bytes) := by
  dsimp only [State.pairWrite]
  repeat' (first | (with_reducible first | assumption | apply Kept.foldl | apply Kept.foldl1 | apply Kept.foldl2 | apply submit_kept) | (simp only [Kept.mk_iff, Kept.tick_iff]) | split | intro _)

theorem State.curTo_kept {z s : State} (h : State.Kept z s) (n : Nat) : State.Kept z (State.curTo s n) := by
  dsimp only [State.curTo]
  repeat' (first | (with_reducible first | assumption | apply Kept.foldl | apply Kept.foldl1 | apply Kept.foldl2) | (simp only [Kept.mk_iff, Kept.tick_iff]) | split | intro _)

theorem State.applyFlc_kept {z s u9 : State} (h : State.Kept z s) (f : PairFrame) (he : State.applyFlc s f = some u9) : State.Kept z u9 := by
  revert he
  dsimp only [State.applyFlc]
  repeat' (first | (with_reducible first | refine Kept.of_some ?_ | refine Kept.of_none | refine Kept.of_pair ?_) | (with_reducible first | assumption | apply Kept.foldl | apply Kept.foldl1 | apply Kept.foldl2 | apply pairWrite_kept | apply curTo_kept) | (simp only [Kept.mk_iff, Kept.tick_iff]) | split | intro _)

theorem State.applyStep_kept {z s u9 : State} (h : State.Kept z s) (f : PairFrame) (he : State.applyStep s f = some u9) : State.Kept z u9 := by
  revert he
  dsimp only [State.applyStep]
  repeat' (first | (with_reducible first | refine Kept.of_some ?_ | refine Kept.of_none | refine Kept.of_pair ?_) | (with_reducible first | assumption | apply Kept.foldl | apply Kept.foldl1 | apply Kept.foldl2 | apply rcInc_kept | refine applyXlt_kept ?_ _ (by assumption) | refine applyPb_kept ?_ _ (by assumption) | apply applyAcc_kept | apply applyQctx_kept | apply applyMtr_kept | apply applySlc_kept | apply applyCkpt_kept | apply applyWake_kept | refine applyFlc_kept ?_ _ (by assumption)) | (simp only [Kept.mk_iff, Kept.tick_iff]) | split | intro _)

theorem State.packIn_kept {z s : State} (h : State.Kept z s) (p : Nat) : State.Kept z (State.packIn s p) := by
  dsimp only [State.packIn]
  repeat' (first | (with_reducible first | assumption | apply Kept.foldl | apply Kept.foldl1 | apply Kept.foldl2 | apply setKept_kept | apply markDown_kept | apply pairPump_kept) | (simp only [Kept.mk_iff, Kept.tick_iff]) | split | intro _)

theorem State.restartIn_kept {z s : State} (h : State.Kept z s)  : State.Kept z (State.restartIn s) := by
  dsimp only [State.restartIn]
  repeat' (first | (with_reducible first | assumption | apply Kept.foldl | apply Kept.foldl1 | apply Kept.foldl2 | apply dropRet_kept | apply toDesync_kept) | (simp only [Kept.mk_iff, Kept.tick_iff]) | split | intro _)

theorem State.hbIn_kept {z s : State} (h : State.Kept z s) (f : PairFrame) (refused : Bool) : State.Kept z (State.hbIn s f refused) := by
  dsimp only [State.hbIn]
  repeat' (first | (with_reducible first | assumption | apply Kept.foldl | apply Kept.foldl1 | apply Kept.foldl2 | apply setMs_kept | apply toDesync_kept | apply pairReplay_kept | apply packIn_kept | apply restartIn_kept) | (simp only [Kept.mk_iff, Kept.tick_iff]) | split | intro _)

theorem State.frameTake_kept {z s : State} (h : State.Kept z s) (f : PairFrame) (flag : Bool) : State.Kept z (State.frameTake s f flag) := by
  dsimp only [State.frameTake]
  repeat' (first | (with_reducible first | assumption | apply Kept.foldl | apply Kept.foldl1 | apply Kept.foldl2 | apply rcInc_kept | apply clearShadows_kept | apply packIn_kept | apply hbIn_kept) | (simp only [Kept.mk_iff, Kept.tick_iff]) | split | intro _)

theorem State.pairRun_kept {z s : State} (h : State.Kept z s)  (n : Nat) : State.Kept z (State.pairRun s n) := by
  induction n generalizing s with
  | zero =>
    dsimp only [State.pairRun]
    repeat' (first | (with_reducible first | assumption | apply Kept.foldl | apply Kept.foldl1 | apply Kept.foldl2 | refine applyStep_kept ?_ _ (by assumption) | apply frameTake_kept) | (simp only [Kept.mk_iff, Kept.tick_iff]) | split | intro _)
  | succ n ih =>
    dsimp only [State.pairRun]
    repeat' (first | with_reducible (apply ih) | (with_reducible first | assumption | apply Kept.foldl | apply Kept.foldl1 | apply Kept.foldl2 | refine applyStep_kept ?_ _ (by assumption) | apply frameTake_kept) | (simp only [Kept.mk_iff, Kept.tick_iff]) | split | intro _)

theorem State.pairGo_kept {z s : State} (h : State.Kept z s)  : State.Kept z (State.pairGo s) := by
  dsimp only [State.pairGo]
  repeat' (first | (with_reducible first | assumption | apply Kept.foldl | apply Kept.foldl1 | apply Kept.foldl2 | apply pairRun_kept) | (simp only [Kept.mk_iff, Kept.tick_iff]) | split | intro _)

theorem State.pairOverflow_kept {z s : State} (h : State.Kept z s)  : State.Kept z (State.pairOverflow s) := by
  dsimp only [State.pairOverflow]
  repeat' (first | (with_reducible first | assumption | apply Kept.foldl | apply Kept.foldl1 | apply Kept.foldl2 | apply record_kept) | (simp only [Kept.mk_iff, Kept.tick_iff]) | split | intro _)

theorem State.frameIn_kept {z s : State} (h : State.Kept z s) (type : Nat) (raw : BitVec 1344) (flag : Bool) : State.Kept z (State.frameIn s type raw flag) := by
  dsimp only [State.frameIn]
  repeat' (first | (with_reducible first | assumption | apply Kept.foldl | apply Kept.foldl1 | apply Kept.foldl2 | apply tkoMeets_kept | apply fset_kept | apply rcInc_kept | apply xbOcc_kept | apply setMs_kept | apply pairGo_kept | apply pairOverflow_kept) | (simp only [Kept.mk_iff, Kept.tick_iff]) | split | intro _)

theorem execPairFrameXlt_kept (s : State) (raw : BitVec 1344) (full : Bool) : ∃ u9, execPairFrameXlt raw full s = .next u9 ∧ State.Kept s u9 := by
  have h := State.Kept.refl s
  dsimp only [execPairFrameXlt]
  repeat' (first | refine ⟨_, rfl, ?_⟩ | (with_reducible first | assumption | apply Kept.foldl | apply Kept.foldl1 | apply Kept.foldl2 | apply frameIn_kept) | (simp only [Kept.mk_iff, Kept.tick_iff]) | split | intro _)

theorem execPairFramePb_kept (s : State) (raw : BitVec 1344) (full : Bool) : ∃ u9, execPairFramePb raw full s = .next u9 ∧ State.Kept s u9 := by
  have h := State.Kept.refl s
  dsimp only [execPairFramePb]
  repeat' (first | refine ⟨_, rfl, ?_⟩ | (with_reducible first | assumption | apply Kept.foldl | apply Kept.foldl1 | apply Kept.foldl2 | apply frameIn_kept) | (simp only [Kept.mk_iff, Kept.tick_iff]) | split | intro _)

theorem execPairFrameAcc_kept (s : State) (raw : BitVec 1344) (full : Bool) : ∃ u9, execPairFrameAcc raw full s = .next u9 ∧ State.Kept s u9 := by
  have h := State.Kept.refl s
  dsimp only [execPairFrameAcc]
  repeat' (first | refine ⟨_, rfl, ?_⟩ | (with_reducible first | assumption | apply Kept.foldl | apply Kept.foldl1 | apply Kept.foldl2 | apply frameIn_kept) | (simp only [Kept.mk_iff, Kept.tick_iff]) | split | intro _)

theorem execPairFrameQctx_kept (s : State) (raw : BitVec 1344) : ∃ u9, execPairFrameQctx raw s = .next u9 ∧ State.Kept s u9 := by
  have h := State.Kept.refl s
  dsimp only [execPairFrameQctx]
  repeat' (first | refine ⟨_, rfl, ?_⟩ | (with_reducible first | assumption | apply Kept.foldl | apply Kept.foldl1 | apply Kept.foldl2 | apply frameIn_kept) | (simp only [Kept.mk_iff, Kept.tick_iff]) | split | intro _)

theorem execPairFrameMtr_kept (s : State) (raw : BitVec 1344) : ∃ u9, execPairFrameMtr raw s = .next u9 ∧ State.Kept s u9 := by
  have h := State.Kept.refl s
  dsimp only [execPairFrameMtr]
  repeat' (first | refine ⟨_, rfl, ?_⟩ | (with_reducible first | assumption | apply Kept.foldl | apply Kept.foldl1 | apply Kept.foldl2 | apply frameIn_kept) | (simp only [Kept.mk_iff, Kept.tick_iff]) | split | intro _)

theorem execPairFrameSlc_kept (s : State) (raw : BitVec 1344) : ∃ u9, execPairFrameSlc raw s = .next u9 ∧ State.Kept s u9 := by
  have h := State.Kept.refl s
  dsimp only [execPairFrameSlc]
  repeat' (first | refine ⟨_, rfl, ?_⟩ | (with_reducible first | assumption | apply Kept.foldl | apply Kept.foldl1 | apply Kept.foldl2 | apply frameIn_kept) | (simp only [Kept.mk_iff, Kept.tick_iff]) | split | intro _)

theorem execPairFrameFlc_kept (s : State) (raw : BitVec 1344) : ∃ u9, execPairFrameFlc raw s = .next u9 ∧ State.Kept s u9 := by
  have h := State.Kept.refl s
  dsimp only [execPairFrameFlc]
  repeat' (first | refine ⟨_, rfl, ?_⟩ | (with_reducible first | assumption | apply Kept.foldl | apply Kept.foldl1 | apply Kept.foldl2 | apply frameIn_kept) | (simp only [Kept.mk_iff, Kept.tick_iff]) | split | intro _)

theorem execPairFrameCkpt_kept (s : State) (raw : BitVec 1344) : ∃ u9, execPairFrameCkpt raw s = .next u9 ∧ State.Kept s u9 := by
  have h := State.Kept.refl s
  dsimp only [execPairFrameCkpt]
  repeat' (first | refine ⟨_, rfl, ?_⟩ | (with_reducible first | assumption | apply Kept.foldl | apply Kept.foldl1 | apply Kept.foldl2 | apply frameIn_kept) | (simp only [Kept.mk_iff, Kept.tick_iff]) | split | intro _)

theorem execPairFrameWake_kept (s : State) (raw : BitVec 1344) : ∃ u9, execPairFrameWake raw s = .next u9 ∧ State.Kept s u9 := by
  have h := State.Kept.refl s
  dsimp only [execPairFrameWake]
  repeat' (first | refine ⟨_, rfl, ?_⟩ | (with_reducible first | assumption | apply Kept.foldl | apply Kept.foldl1 | apply Kept.foldl2 | apply frameIn_kept) | (simp only [Kept.mk_iff, Kept.tick_iff]) | split | intro _)

theorem execPairFrameHb_kept (s : State) (raw : BitVec 1344) (refused : Bool) : ∃ u9, execPairFrameHb raw refused s = .next u9 ∧ State.Kept s u9 := by
  have h := State.Kept.refl s
  dsimp only [execPairFrameHb]
  repeat' (first | refine ⟨_, rfl, ?_⟩ | (with_reducible first | assumption | apply Kept.foldl | apply Kept.foldl1 | apply Kept.foldl2 | apply frameIn_kept) | (simp only [Kept.mk_iff, Kept.tick_iff]) | split | intro _)

theorem execPairCreditUpdate_kept (s : State) (c : BitVec 16) : ∃ u9, execPairCreditUpdate c s = .next u9 ∧ State.Kept s u9 := by
  have h := State.Kept.refl s
  dsimp only [execPairCreditUpdate]
  repeat' (first | refine ⟨_, rfl, ?_⟩ | (with_reducible first | assumption | apply Kept.foldl | apply Kept.foldl1 | apply Kept.foldl2 | apply pairPump_kept) | (simp only [Kept.mk_iff, Kept.tick_iff]) | split | intro _)

theorem State.pairMark_kept {z s : State} (h : State.Kept z s)  : State.Kept z (State.pairMark s) := by
  dsimp only [State.pairMark]
  repeat' (first | (with_reducible first | assumption | apply Kept.foldl | apply Kept.foldl1 | apply Kept.foldl2 | apply fput_kept) | (simp only [Kept.mk_iff, Kept.tick_iff]) | split | intro _)

theorem execPairMark_kept (s : State)  : ∃ u9, execPairMark s = .next u9 ∧ State.Kept s u9 := by
  have h := State.Kept.refl s
  dsimp only [execPairMark]
  repeat' (first | refine ⟨_, rfl, ?_⟩ | (with_reducible first | assumption | apply Kept.foldl | apply Kept.foldl1 | apply Kept.foldl2 | apply touch_kept | apply pairMark_kept) | (simp only [Kept.mk_iff, Kept.tick_iff]) | split | intro _)

theorem State.pwake_kept {z s : State} (h : State.Kept z s) (m : Nat) : State.Kept z (State.pwake s m) := by
  dsimp only [State.pwake]
  repeat' (first | (with_reducible first | assumption | apply Kept.foldl | apply Kept.foldl1 | apply Kept.foldl2 | apply pairPump_kept | apply addItems_kept) | (simp only [Kept.mk_iff, Kept.tick_iff]) | split | intro _)

theorem execPwake_kept (s : State) (m : BitVec 8) : ∃ u9, execPwake m s = .next u9 ∧ State.Kept s u9 := by
  have h := State.Kept.refl s
  dsimp only [execPwake]
  repeat' (first | refine ⟨_, rfl, ?_⟩ | (with_reducible first | assumption | apply Kept.foldl | apply Kept.foldl1 | apply Kept.foldl2 | apply touch_kept | apply pwake_kept) | (simp only [Kept.mk_iff, Kept.tick_iff]) | split | intro _)

theorem State.tkoFill_kept {z s : State} (h : State.Kept z s)  (n : Nat) : State.Kept z (State.tkoFill s n) := by
  induction n generalizing s with
  | zero =>
    dsimp only [State.tkoFill]
    repeat' (first | (with_reducible first | assumption | apply Kept.foldl | apply Kept.foldl1 | apply Kept.foldl2 | apply fset_kept | apply sliceCmd_kept) | (simp only [Kept.mk_iff, Kept.tick_iff]) | split | intro _)
  | succ n ih =>
    dsimp only [State.tkoFill]
    repeat' (first | with_reducible (apply ih) | (with_reducible first | assumption | apply Kept.foldl | apply Kept.foldl1 | apply Kept.foldl2 | apply fset_kept | apply sliceCmd_kept) | (simp only [Kept.mk_iff, Kept.tick_iff]) | split | intro _)

theorem State.tkoGo_kept {z s : State} (h : State.Kept z s)  : State.Kept z (State.tkoGo s) := by
  dsimp only [State.tkoGo]
  repeat' (first | (with_reducible first | assumption | apply Kept.foldl | apply Kept.foldl1 | apply Kept.foldl2 | apply fset_kept | apply fput_kept | apply tkoFill_kept) | (simp only [Kept.mk_iff, Kept.tick_iff]) | split | intro _)

theorem State.tkoWrite_kept {z s : State} (h : State.Kept z s) (w : Word) : State.Kept z (State.tkoWrite s w) := by
  dsimp only [State.tkoWrite]
  repeat' (first | (with_reducible first | assumption | apply Kept.foldl | apply Kept.foldl1 | apply Kept.foldl2 | apply fput_kept | apply pgErr_kept | apply tkoGo_kept) | (simp only [Kept.mk_iff, Kept.tick_iff]) | split | intro _)

theorem execTakeover_kept (s : State) (w : Word) : ∃ u9, execTakeover w s = .next u9 ∧ State.Kept s u9 := by
  have h := State.Kept.refl s
  dsimp only [execTakeover]
  repeat' (first | refine ⟨_, rfl, ?_⟩ | (with_reducible first | assumption | apply Kept.foldl | apply Kept.foldl1 | apply Kept.foldl2 | apply touch_kept | apply tkoWrite_kept) | (simp only [Kept.mk_iff, Kept.tick_iff]) | split | intro _)

theorem State.homeAbsorb_kept {z s : State} (h : State.Kept z s)  : State.Kept z (State.homeAbsorb s) := by
  dsimp only [State.homeAbsorb]
  repeat' (first | (with_reducible first | assumption | apply Kept.foldl | apply Kept.foldl1 | apply Kept.foldl2 | apply fset_kept) | (simp only [Kept.mk_iff, Kept.tick_iff]) | split | intro _)

theorem State.tkoStep_kept {z s : State} (h : State.Kept z s)  : State.Kept z (State.tkoStep s) := by
  dsimp only [State.tkoStep]
  repeat' (first | (with_reducible first | assumption | apply Kept.foldl | apply Kept.foldl1 | apply Kept.foldl2 | apply fset_kept | apply fput_kept | apply tkoFill_kept | apply homeAbsorb_kept) | (simp only [Kept.mk_iff, Kept.tick_iff]) | split | intro _)

theorem execTakeoverDone_kept (s : State)  : ∃ u9, execTakeoverDone s = .next u9 ∧ State.Kept s u9 := by
  have h := State.Kept.refl s
  dsimp only [execTakeoverDone]
  repeat' (first | refine ⟨_, rfl, ?_⟩ | (with_reducible first | assumption | apply Kept.foldl | apply Kept.foldl1 | apply Kept.foldl2 | apply tkoStep_kept) | (simp only [Kept.mk_iff, Kept.tick_iff]) | split | intro _)

theorem State.peerLost_kept {z s : State} (h : State.Kept z s)  : State.Kept z (State.peerLost s) := by
  dsimp only [State.peerLost]
  repeat' (first | (with_reducible first | assumption | apply Kept.foldl | apply Kept.foldl1 | apply Kept.foldl2 | apply fset_kept | apply intSet_kept | apply record_kept | apply setMs_kept | apply tkoGo_kept) | (simp only [Kept.mk_iff, Kept.tick_iff]) | split | intro _)

theorem execPeerLost_kept (s : State)  : ∃ u9, execPeerLost s = .next u9 ∧ State.Kept s u9 := by
  have h := State.Kept.refl s
  dsimp only [execPeerLost]
  repeat' (first | refine ⟨_, rfl, ?_⟩ | (with_reducible first | assumption | apply Kept.foldl | apply Kept.foldl1 | apply Kept.foldl2 | apply peerLost_kept) | (simp only [Kept.mk_iff, Kept.tick_iff]) | split | intro _)

theorem execPartnerFailChange_kept (s : State) (level : Bool) : ∃ u9, execPartnerFailChange level s = .next u9 ∧ State.Kept s u9 := by
  have h := State.Kept.refl s
  dsimp only [execPartnerFailChange]
  repeat' (first | refine ⟨_, rfl, ?_⟩ | (with_reducible first | assumption | apply Kept.foldl | apply Kept.foldl1 | apply Kept.foldl2 | apply fput_kept) | (simp only [Kept.mk_iff, Kept.tick_iff]) | split | intro _)

theorem State.pairCkpt_kept {z s : State} (h : State.Kept z s)  : State.Kept z (State.pairCkpt s) := by
  dsimp only [State.pairCkpt]
  repeat' (first | (with_reducible first | assumption | apply Kept.foldl | apply Kept.foldl1 | apply Kept.foldl2 | apply mirror_kept | apply pairPump_kept) | (simp only [Kept.mk_iff, Kept.tick_iff]) | split | intro _)

theorem execPairCkpt_kept (s : State)  : ∃ u9, execPairCkpt s = .next u9 ∧ State.Kept s u9 := by
  have h := State.Kept.refl s
  dsimp only [execPairCkpt]
  repeat' (first | refine ⟨_, rfl, ?_⟩ | (with_reducible first | assumption | apply Kept.foldl | apply Kept.foldl1 | apply Kept.foldl2 | apply pairCkpt_kept) | (simp only [Kept.mk_iff, Kept.tick_iff]) | split | intro _)

theorem State.pairTick_kept {z s : State} (h : State.Kept z s) (swapped : Bool) : State.Kept z (State.pairTick s swapped) := by
  dsimp only [State.pairTick]
  repeat' (first | (with_reducible first | assumption | apply Kept.foldl | apply Kept.foldl1 | apply Kept.foldl2 | apply mirror_kept | apply pairPump_kept | apply pairReplay_kept | apply sendHb_kept | apply fullStep_kept | apply resyncDone_kept | apply autoResync_kept | apply pairGo_kept | apply tkoStep_kept | apply peerLost_kept | apply pairCkpt_kept) | (simp only [Kept.mk_iff, Kept.tick_iff]) | split | intro _)

end Sys2Proof.Machine
end

