-- ==== Sys2Proof/Laws/KeptBoundary.lean ====
section
/-! SUPPORT. The operations of Boundary.lean keep the queue and the canonical register file. -/

set_option linter.unusedSimpArgs false

namespace Sys2Proof.Machine

open State

theorem State.timerScan_kept {z s : State} (h : State.Kept z s) (k : Nat) : State.Kept z (State.timerScan s k) := by
  dsimp only [State.timerScan]
  repeat' (first | (with_reducible first | assumption | apply Kept.foldl | apply Kept.foldl1 | apply Kept.foldl2 | apply tagScan_kept) | (simp only [Kept.mk_iff, Kept.tick_iff]) | split | intro _)

theorem State.ackScan_kept {z s : State} (h : State.Kept z s) (k : Nat) : State.Kept z (State.ackScan s k) := by
  dsimp only [State.ackScan]
  repeat' (first | (with_reducible first | assumption | apply Kept.foldl | apply Kept.foldl1 | apply Kept.foldl2 | apply ackTimeout_kept) | (simp only [Kept.mk_iff, Kept.tick_iff]) | split | intro _)

theorem State.retryScan_kept {z s : State} (h : State.Kept z s) (k : Nat) : State.Kept z (State.retryScan s k) := by
  dsimp only [State.retryScan]
  repeat' (first | (with_reducible first | assumption | apply Kept.foldl | apply Kept.foldl1 | apply Kept.foldl2 | apply resRetry_kept) | (simp only [Kept.mk_iff, Kept.tick_iff]) | split | intro _)

theorem State.flushScan_kept {z s : State} (h : State.Kept z s) (k : Nat) : State.Kept z (State.flushScan s k) := by
  dsimp only [State.flushScan]
  repeat' (first | (with_reducible first | assumption | apply Kept.foldl | apply Kept.foldl1 | apply Kept.foldl2 | apply drydownFlush_kept) | (simp only [Kept.mk_iff, Kept.tick_iff]) | split | intro _)

theorem State.applyArrived_kept {z s : State} (h : State.Kept z s) (n : Nat) : State.Kept z (State.applyArrived s n) := by
  dsimp only [State.applyArrived]
  repeat' (first | (with_reducible first | assumption | apply Kept.foldl | apply Kept.foldl1 | apply Kept.foldl2 | apply noticesApply_kept | apply isoApply_kept | apply sliceApplyAll_kept) | (simp only [Kept.mk_iff, Kept.tick_iff]) | split | intro _)

theorem State.newFrame_kept {z s : State} (h : State.Kept z s) (k : Nat) : State.Kept z (State.newFrame s k) := by
  dsimp only [State.newFrame]
  repeat' (first | (with_reducible first | assumption | apply Kept.foldl | apply Kept.foldl1 | apply Kept.foldl2) | (simp only [Kept.mk_iff, Kept.tick_iff]) | split | intro _)

theorem State.roleDuty_kept {z s : State} (h : State.Kept z s) (k : Nat) (swapped : Bool) : State.Kept z (State.roleDuty s k swapped) := by
  dsimp only [State.roleDuty]
  repeat' (first | (with_reducible first | assumption | apply Kept.foldl | apply Kept.foldl1 | apply Kept.foldl2 | apply fillTimeout_kept | apply portTick_kept | apply spareTick_kept | apply engPump_kept | apply budgetRefill_kept | apply engSettle_kept | apply stubExpire_kept | apply pairTick_kept | apply flushScan_kept) | (simp only [Kept.mk_iff, Kept.tick_iff]) | split | intro _)

theorem State.stopDuties_kept {z s : State} (h : State.Kept z s) (k : Nat) (swapped : Bool) : State.Kept z (State.stopDuties s k swapped) := by
  dsimp only [State.stopDuties]
  repeat' (first | (with_reducible first | assumption | apply Kept.foldl | apply Kept.foldl1 | apply Kept.foldl2 | apply effTake_kept | apply reroute_kept | apply redRecolour_kept | apply gateAdvance_kept | apply closeDue_kept | apply emptyReport_kept | apply isoReroute_kept | apply sendCensus_kept | apply timerScan_kept | apply ackScan_kept | apply retryScan_kept | apply newFrame_kept | apply roleDuty_kept) | (simp only [Kept.mk_iff, Kept.tick_iff]) | split | intro _)

theorem State.sleepDuties_kept {z s : State} (h : State.Kept z s) (k : Nat) : State.Kept z (State.sleepDuties s k) := by
  dsimp only [State.sleepDuties]
  repeat' (first | (with_reducible first | assumption | apply Kept.foldl | apply Kept.foldl1 | apply Kept.foldl2 | apply effTake_kept | apply portModeChange_kept | apply noticesRepeat_kept | apply sendCensus_kept) | (simp only [Kept.mk_iff, Kept.tick_iff]) | split | intro _)

theorem State.glbDuties_kept {z s : State} (h : State.Kept z s)  : State.Kept z (State.glbDuties s) := by
  dsimp only [State.glbDuties]
  repeat' (first | (with_reducible first | assumption | apply Kept.foldl | apply Kept.foldl1 | apply Kept.foldl2 | apply windowClose_kept | apply pwrSettle_kept | apply isoAgain_kept | apply causeCheck_kept | apply flStep_kept | apply flOffDone_kept | apply goTake_kept | apply failOutDuty_kept | apply sbSample_kept) | (simp only [Kept.mk_iff, Kept.tick_iff]) | split | intro _)

theorem State.ringDuties_kept {z s : State} (h : State.Kept z s)  : State.Kept z (State.ringDuties s) := by
  dsimp only [State.ringDuties]
  repeat' (first | (with_reducible first | assumption | apply Kept.foldl | apply Kept.foldl1 | apply Kept.foldl2 | apply ringCommit_kept | apply ringTestStart_kept | apply ringTestEnd_kept | apply windowRoll_kept) | (simp only [Kept.mk_iff, Kept.tick_iff]) | split | intro _)

theorem State.pwrDuties_kept {z s : State} (h : State.Kept z s) (x : Nat) : State.Kept z (State.pwrDuties s x) := by
  dsimp only [State.pwrDuties]
  repeat' (first | (with_reducible first | assumption | apply Kept.foldl | apply Kept.foldl1 | apply Kept.foldl2 | apply closeTimeout_kept | apply wakeTimer_kept) | (simp only [Kept.mk_iff, Kept.tick_iff]) | split | intro _)

theorem State.ctlDuties_kept {z s : State} (h : State.Kept z s) (beats : BitVec 2) : State.Kept z (State.ctlDuties s beats) := by
  dsimp only [State.ctlDuties]
  repeat' (first | (with_reducible first | assumption | apply Kept.foldl | apply Kept.foldl1 | apply Kept.foldl2 | apply handover_kept | apply heartbeat_kept) | (simp only [Kept.mk_iff, Kept.tick_iff]) | split | intro _)

theorem State.nodeDuties_kept {z s : State} (h : State.Kept z s) (n : Nat) (swapped : Bool) (beats : BitVec 2) : State.Kept z (State.nodeDuties s n swapped beats) := by
  dsimp only [State.nodeDuties]
  repeat' (first | (with_reducible first | assumption | apply Kept.foldl | apply Kept.foldl1 | apply Kept.foldl2 | apply sliceTick_kept | apply stopDuties_kept | apply sleepDuties_kept | apply glbDuties_kept | apply ringDuties_kept | apply pwrDuties_kept | apply ctlDuties_kept) | (simp only [Kept.mk_iff, Kept.tick_iff]) | split | intro _)

theorem State.slipNote_kept {z s : State} (h : State.Kept z s) (n c : Nat) : State.Kept z (State.slipNote s n c) := by
  dsimp only [State.slipNote]
  repeat' (first | (with_reducible first | assumption | apply Kept.foldl | apply Kept.foldl1 | apply Kept.foldl2 | apply rcInc_kept | apply record_kept) | (simp only [Kept.mk_iff, Kept.tick_iff]) | split | intro _)

theorem State.windowFlags_kept {z s : State} (h : State.Kept z s) (n c slips : Nat) (hold : Bool) : State.Kept z (State.windowFlags s n c slips hold) := by
  dsimp only [State.windowFlags]
  repeat' (first | (with_reducible first | assumption | apply Kept.foldl | apply Kept.foldl1 | apply Kept.foldl2 | apply windowFlag_kept) | (simp only [Kept.mk_iff, Kept.tick_iff]) | split | intro _)

theorem State.overrunNote_kept {z s : State} (h : State.Kept z s) (n c : Nat) (unfinished : Option (Fin 8)) : State.Kept z (State.overrunNote s n c unfinished) := by
  dsimp only [State.overrunNote]
  repeat' (first | (with_reducible first | assumption | apply Kept.foldl | apply Kept.foldl1 | apply Kept.foldl2 | apply record_kept | apply pgErrEvt_kept) | (simp only [Kept.mk_iff, Kept.tick_iff]) | split | intro _)

theorem State.hoClear_kept {z s : State} (h : State.Kept z s) (n : Nat) : State.Kept z (State.hoClear s n) := by
  dsimp only [State.hoClear]
  repeat' (first | (with_reducible first | assumption | apply Kept.foldl | apply Kept.foldl1 | apply Kept.foldl2) | (simp only [Kept.mk_iff, Kept.tick_iff]) | split | intro _)

theorem State.fences_kept {z s : State} (h : State.Kept z s) (n : Nat) : State.Kept z (State.fences s n) := by
  dsimp only [State.fences]
  repeat' (first | (with_reducible first | assumption | apply Kept.foldl | apply Kept.foldl1 | apply Kept.foldl2 | apply fenceApply_kept) | (simp only [Kept.mk_iff, Kept.tick_iff]) | split | intro _)

-- takeMark: boundary_kept

theorem State.atBoundary_kept {z s : State} (h : State.Kept z s) (s0 : State) (n : Nat) (u : Option (Fin 8)) (b : BitVec 2) :
    State.Kept z (s.atBoundary s0 n u b) := by
  dsimp only [State.atBoundary]
  repeat' (first | (with_reducible first | assumption | apply Kept.foldl | apply Kept.foldl1 | apply Kept.foldl2 | apply fabricEnter_kept | apply fabricExit_kept | apply latchDuty_kept | apply ticksDuty_kept | apply applyArrived_kept | apply nodeDuties_kept | apply slipNote_kept | apply windowFlags_kept | apply overrunNote_kept | apply hoClear_kept | apply fences_kept) | (simp only [Kept.mk_iff, Kept.tick_iff]) | split | intro _)

/-- The node takes its mark; what follows leaves every node's count and mark alone. -/
theorem State.boundary_kept (s : State) (n : Nat) (u : Option (Fin 8)) (b : BitVec 2) (hm : tget 0 s.tick.nodeMark n ≠ 0) :
    State.Kept (s.takeMark n) (s.boundary n u b) := by
  dsimp only [State.boundary]
  rw [if_neg hm]
  exact State.atBoundary_kept (State.Kept.refl _) _ _ _ _

theorem State.boundary_kept0 (s : State) (n : Nat) (u : Option (Fin 8)) (b : BitVec 2) : State.Kept0 s (s.boundary n u b) := by
  by_cases hm : tget 0 s.tick.nodeMark n = 0
  · dsimp only [State.boundary]
    rw [if_pos hm]
    exact ⟨rfl, id⟩
  · exact State.Kept0.trans (b := s.takeMark n) ⟨rfl, id⟩ (State.boundary_kept s n u b hm).base

theorem execLocalTickBoundary_kept (s : State) (n : Node) (u : Option (Fin 8)) (b : BitVec 2) : ∃ u9, execLocalTickBoundary n u b s = .next u9 ∧ State.Kept0 s u9 :=
  ⟨_, rfl, State.boundary_kept0 s n u b⟩

end Sys2Proof.Machine
end

