-- ==== Sys2Proof/Laws/KeptRegRead.lean ====
section
/-! SUPPORT. The operations of RegRead.lean keep the queue and the canonical register file. -/

set_option linter.unusedSimpArgs false

namespace Sys2Proof.Machine

open State

theorem State.latchHigh_kept {z s : State} (h : State.Kept z s) (c : Cls) (i off : Nat) : State.Kept z (State.latchHigh s c i off) := by
  dsimp only [State.latchHigh]
  repeat' (first | (with_reducible first | assumption | apply Kept.foldl | apply Kept.foldl1 | apply Kept.foldl2) | (simp only [Kept.mk_iff, Kept.tick_iff]) | split | intro _)

theorem State.clearRc_kept {z s : State} (h : State.Kept z s) (c : Cls) (i off : Nat) : State.Kept z (State.clearRc s c i off) := by
  dsimp only [State.clearRc]
  repeat' (first | (with_reducible first | assumption | apply Kept.foldl | apply Kept.foldl1 | apply Kept.foldl2 | apply fset_kept) | (simp only [Kept.mk_iff, Kept.tick_iff]) | split | intro _)

theorem State.readEffect_kept {z s : State} (h : State.Kept z s) (c : Cls) (i off : Nat) (o : Origin) : State.Kept z (State.readEffect s c i off o) := by
  dsimp only [State.readEffect]
  repeat' (first | (with_reducible first | assumption | apply Kept.foldl | apply Kept.foldl1 | apply Kept.foldl2 | apply fset_kept | apply latchHigh_kept | apply clearRc_kept) | (simp only [Kept.mk_iff, Kept.tick_iff]) | split | intro _)

theorem State.regRead_kept {z s : State} (h : State.Kept z s) (a : Nat) (o : Origin) : State.Kept z (State.regRead s a o).1 := by
  dsimp only [State.regRead]
  repeat' (first | (with_reducible first | assumption | apply Kept.foldl | apply Kept.foldl1 | apply Kept.foldl2 | apply readEffect_kept) | (simp only [Kept.mk_iff, Kept.tick_iff]) | split | intro _)

end Sys2Proof.Machine
end

