-- ==== Sys2Proof/Laws/KeptRegWrite.lean ====
section
/-! SUPPORT. The operations of RegWrite.lean keep the queue and the canonical register file. -/

set_option linter.unusedSimpArgs false

namespace Sys2Proof.Machine

open State

theorem State.ifOk_kept {z s : State} (h : State.Kept z s) (ok : Bool) (c : Cls) (i off : Nat) {t : State} (h2 : State.Kept z t) : State.Kept z (State.ifOk s ok c i off t) := by
  unfold State.ifOk
  split
  · exact h2
  · exact State.pgErr_kept h _ _ _

theorem State.fieldWrite_kept {z s : State} (h : State.Kept z s) (off : Nat) (w : Word) (hh sel : Nat) (x : Fld × Nat) : State.Kept z (State.fieldWrite s off w hh sel x) := by
  dsimp only [State.fieldWrite]
  repeat' (first | (with_reducible first | assumption | apply Kept.foldl | apply Kept.foldl1 | apply Kept.foldl2 | apply fset_kept | apply pgErr_kept) | (simp only [Kept.mk_iff, Kept.tick_iff]) | split | intro _)

theorem State.plainWrite_kept {z s : State} (h : State.Kept z s) (c : Cls) (i off : Nat) (w : Word) : State.Kept z (State.plainWrite s c i off w) := by
  dsimp only [State.plainWrite]
  repeat' (first | (with_reducible first | assumption | apply Kept.foldl | apply Kept.foldl1 | apply Kept.foldl2 | apply fieldWrite_kept) | (simp only [Kept.mk_iff, Kept.tick_iff]) | split | intro _)

theorem State.pgCtl_kept {z s : State} (h : State.Kept z s) (c : Cls) (i : Nat) (w : Word) : State.Kept z (State.pgCtl s c i w) := by
  dsimp only [State.pgCtl]
  repeat' (first | (with_reducible first | assumption | apply Kept.foldl | apply Kept.foldl1 | apply Kept.foldl2 | apply fset_kept | apply fput_kept | apply drain_kept) | (simp only [Kept.mk_iff, Kept.tick_iff]) | split | intro _)

theorem State.pgIntSet_kept {z s : State} (h : State.Kept z s) (c : Cls) (i : Nat) (w : Word) : State.Kept z (State.pgIntSet s c i w) := by
  dsimp only [State.pgIntSet]
  repeat' (first | (with_reducible first | assumption | apply Kept.foldl | apply Kept.foldl1 | apply Kept.foldl2 | apply fset_kept) | (simp only [Kept.mk_iff, Kept.tick_iff]) | split | intro _)

theorem State.pgErrClear_kept {z s : State} (h : State.Kept z s) (c : Cls) (i : Nat) (w : Word) : State.Kept z (State.pgErrClear s c i w) := by
  dsimp only [State.pgErrClear]
  repeat' (first | (with_reducible first | assumption | apply Kept.foldl | apply Kept.foldl1 | apply Kept.foldl2 | apply fset_kept) | (simp only [Kept.mk_iff, Kept.tick_iff]) | split | intro _)

theorem State.pgLock_kept {z s : State} (h : State.Kept z s) (c : Cls) (i : Nat) (w : Word) : State.Kept z (State.pgLock s c i w) := by
  dsimp only [State.pgLock]
  repeat' (first | (with_reducible first | assumption | apply Kept.foldl | apply Kept.foldl1 | apply Kept.foldl2 | apply fput_kept) | (simp only [Kept.mk_iff, Kept.tick_iff]) | split | intro _)

theorem State.hdrWrite_kept {z s : State} (h : State.Kept z s) (c : Cls) (i off : Nat) (w : Word) : State.Kept z (State.hdrWrite s c i off w) := by
  dsimp only [State.hdrWrite]
  repeat' (first | (with_reducible first | assumption | apply Kept.foldl | apply Kept.foldl1 | apply Kept.foldl2 | apply plainWrite_kept | apply pgCtl_kept | apply pgIntSet_kept | apply pgErrClear_kept | apply pgLock_kept) | (simp only [Kept.mk_iff, Kept.tick_iff]) | split | intro _)

theorem State.syncNote_kept {z s : State} (h : State.Kept z s) (ks : List Nat) : State.Kept z (State.syncNote s ks) := by
  dsimp only [State.syncNote]
  repeat' (first | (with_reducible first | assumption | apply Kept.foldl | apply Kept.foldl1 | apply Kept.foldl2) | (simp only [Kept.mk_iff, Kept.tick_iff]) | split | intro _)

theorem State.weWrite_kept {z s : State} (h : State.Kept z s) (c : Cls) (i off : Nat) (w : Word) (o : Origin) : State.Kept z (State.weWrite s c i off w o) := by
  dsimp only [State.weWrite]
  repeat' (first | (with_reducible first | assumption | apply Kept.foldl | apply Kept.foldl1 | apply Kept.foldl2 | apply fset_kept | apply pgErr_kept | apply weIssue_kept | apply gateRecompute_kept | apply syncNote_kept) | (simp only [Kept.mk_iff, Kept.tick_iff]) | split | intro _)

theorem State.qmapWrite_kept {z s : State} (h : State.Kept z s) (w : Word) : State.Kept z (State.qmapWrite s w) := by
  dsimp only [State.qmapWrite]
  repeat' (first | (with_reducible first | assumption | apply Kept.foldl | apply Kept.foldl1 | apply Kept.foldl2 | apply fset_kept | apply setQmapCopy_kept | apply ifOk_kept) | (simp only [Kept.mk_iff, Kept.tick_iff]) | split | intro _)

theorem State.wsCtl_kept {z s : State} (h : State.Kept z s) (w : Word) : State.Kept z (State.wsCtl s w) := by
  dsimp only [State.wsCtl]
  repeat' (first | (with_reducible first | assumption | apply Kept.foldl | apply Kept.foldl1 | apply Kept.foldl2 | apply ifOk_kept | apply plainWrite_kept) | (simp only [Kept.mk_iff, Kept.tick_iff]) | split | intro _)

theorem State.csCfgWrite_kept {z s : State} (h : State.Kept z s) (w : Word) : State.Kept z (State.csCfgWrite s w) := by
  dsimp only [State.csCfgWrite]
  repeat' (first | (with_reducible first | assumption | apply Kept.foldl | apply Kept.foldl1 | apply Kept.foldl2 | apply pgErr_kept | apply fresh_kept | apply plainWrite_kept) | (simp only [Kept.mk_iff, Kept.tick_iff]) | split | intro _)

theorem State.glbWrite_kept {z s : State} (h : State.Kept z s) (off : Nat) (w : Word) (o : Origin) : State.Kept z (State.glbWrite s off w o) := by
  dsimp only [State.glbWrite]
  repeat' (first | (with_reducible first | assumption | apply Kept.foldl | apply Kept.foldl1 | apply Kept.foldl2 | apply epochCtlWrite_kept | apply bankSync_kept | apply csSel_kept | apply pbUpdate_kept | apply pbDcnt_kept | apply pbDbase_kept | apply spinePwr_kept | apply corePwr_kept | apply erqPop_kept | apply isoCtl_kept | apply testKey_kept | apply flCmd_kept | apply flOffWrite_kept | apply flDataWrite_kept | apply goService_kept | apply fabricResetAsk_kept | apply freezeWrite_kept | apply ifOk_kept | apply plainWrite_kept | apply qmapWrite_kept | apply wsCtl_kept | apply csCfgWrite_kept) | (simp only [Kept.mk_iff, Kept.tick_iff]) | split | intro _)

theorem State.tickWrite_kept {z s : State} (h : State.Kept z s) (off : Nat) (w : Word) : State.Kept z (State.tickWrite s off w) := by
  dsimp only [State.tickWrite]
  repeat' (first | (with_reducible first | assumption | apply Kept.foldl | apply Kept.foldl1 | apply Kept.foldl2 | apply fset_kept | apply tickEnable_kept | apply ifOk_kept | apply plainWrite_kept) | (simp only [Kept.mk_iff, Kept.tick_iff]) | split | intro _)

theorem State.ringWrite_kept {z s : State} (h : State.Kept z s) (r off : Nat) (w : Word) : State.Kept z (State.ringWrite s r off w) := by
  dsimp only [State.ringWrite]
  repeat' (first | (with_reducible first | assumption | apply Kept.foldl | apply Kept.foldl1 | apply Kept.foldl2 | apply fset_kept | apply ringKeep_kept | apply ringCmd_kept | apply ifOk_kept | apply plainWrite_kept) | (simp only [Kept.mk_iff, Kept.tick_iff]) | split | intro _)

theorem State.stopWrite_kept {z s : State} (h : State.Kept z s) (k off : Nat) (w : Word) : State.Kept z (State.stopWrite s k off w) := by
  dsimp only [State.stopWrite]
  repeat' (first | (with_reducible first | assumption | apply Kept.foldl | apply Kept.foldl1 | apply Kept.foldl2 | apply fset_kept | apply resService_kept | apply bindWrite_kept | apply meterSelWrite_kept | apply xoffAll_kept | apply portModeWrite_kept | apply spareWrite_kept | apply ifOk_kept | apply plainWrite_kept) | (simp only [Kept.mk_iff, Kept.tick_iff]) | split | intro _)

theorem State.cbWrite_kept {z s : State} (h : State.Kept z s) (c : Cls) (i off : Nat) (w : Word) : State.Kept z (State.cbWrite s c i off w) := by
  dsimp only [State.cbWrite]
  repeat' (first | (with_reducible first | assumption | apply Kept.foldl | apply Kept.foldl1 | apply Kept.foldl2 | apply cntLoWrite_kept | apply cntHiWrite_kept | apply ifOk_kept | apply plainWrite_kept) | (simp only [Kept.mk_iff, Kept.tick_iff]) | split | intro _)

theorem State.memWrite_kept {z s : State} (h : State.Kept z s) (c off : Nat) (w : Word) : State.Kept z (State.memWrite s c off w) := by
  dsimp only [State.memWrite]
  repeat' (first | (with_reducible first | assumption | apply Kept.foldl | apply Kept.foldl1 | apply Kept.foldl2 | apply fset_kept | apply chCtl_kept | apply directRead_kept | apply xltUpdate_kept | apply ifOk_kept | apply plainWrite_kept) | (simp only [Kept.mk_iff, Kept.tick_iff]) | split | intro _)

theorem State.engWriteReg_kept {z s : State} (h : State.Kept z s) (e off : Nat) (w : Word) : State.Kept z (State.engWriteReg s e off w) := by
  dsimp only [State.engWriteReg]
  repeat' (first | (with_reducible first | assumption | apply Kept.foldl | apply Kept.foldl1 | apply Kept.foldl2 | apply qcCmd_kept | apply engCtl_kept | apply ifOk_kept | apply plainWrite_kept) | (simp only [Kept.mk_iff, Kept.tick_iff]) | split | intro _)

theorem State.sliceWrite_kept {z s : State} (h : State.Kept z s) (x off : Nat) (w : Word) : State.Kept z (State.sliceWrite s x off w) := by
  dsimp only [State.sliceWrite]
  repeat' (first | (with_reducible first | assumption | apply Kept.foldl | apply Kept.foldl1 | apply Kept.foldl2 | apply fset_kept | apply tcSel_kept | apply sliceCmd_kept | apply doorbellWrite_kept | apply evtRearm_kept | apply mtrSel_kept | apply ifOk_kept | apply plainWrite_kept) | (simp only [Kept.mk_iff, Kept.tick_iff]) | split | intro _)

theorem State.pwrWrite_kept {z s : State} (h : State.Kept z s) (x off : Nat) (w : Word) : State.Kept z (State.pwrWrite s x off w) := by
  dsimp only [State.pwrWrite]
  repeat' (first | (with_reducible first | assumption | apply Kept.foldl | apply Kept.foldl1 | apply Kept.foldl2 | apply psTarget_kept | apply blankNow_kept | apply ifOk_kept | apply plainWrite_kept) | (simp only [Kept.mk_iff, Kept.tick_iff]) | split | intro _)

theorem State.fiArm_kept {z s : State} (h : State.Kept z s) (pg u : Nat) : State.Kept z (State.fiArm s pg u) := by
  dsimp only [State.fiArm]
  repeat' (first | (with_reducible first | assumption | apply Kept.foldl | apply Kept.foldl1 | apply Kept.foldl2 | apply fiSet_kept) | (simp only [Kept.mk_iff, Kept.tick_iff]) | split | intro _)

theorem State.fiWrite_kept {z s : State} (h : State.Kept z s) (pg off : Nat) (w : Word) : State.Kept z (State.fiWrite s pg off w) := by
  dsimp only [State.fiWrite]
  repeat' (first | (with_reducible first | assumption | apply Kept.foldl | apply Kept.foldl1 | apply Kept.foldl2 | apply pgErr_kept | apply plainWrite_kept | apply fiArm_kept) | (simp only [Kept.mk_iff, Kept.tick_iff]) | split | intro _)

theorem State.ctlWrite_kept {z s : State} (h : State.Kept z s) (off : Nat) (w : Word) : State.Kept z (State.ctlWrite s off w) := by
  dsimp only [State.ctlWrite]
  repeat' (first | (with_reducible first | assumption | apply Kept.foldl | apply Kept.foldl1 | apply Kept.foldl2 | apply fset_kept | apply pgErr_kept | apply coreRst_kept | apply hoWrite_kept | apply ifOk_kept | apply plainWrite_kept) | (simp only [Kept.mk_iff, Kept.tick_iff]) | split | intro _)

theorem State.mboxWrite_kept {z s : State} (h : State.Kept z s) (m off : Nat) (w : Word) : State.Kept z (State.mboxWrite s m off w) := by
  dsimp only [State.mboxWrite]
  repeat' (first | (with_reducible first | assumption | apply Kept.foldl | apply Kept.foldl1 | apply Kept.foldl2 | apply mbCtl_kept | apply ifOk_kept | apply plainWrite_kept) | (simp only [Kept.mk_iff, Kept.tick_iff]) | split | intro _)

theorem State.pairWriteReg_kept {z s : State} (h : State.Kept z s) (off : Nat) (w : Word) : State.Kept z (State.pairWriteReg s off w) := by
  dsimp only [State.pairWriteReg]
  repeat' (first | (with_reducible first | assumption | apply Kept.foldl | apply Kept.foldl1 | apply Kept.foldl2 | apply rsyncGo_kept | apply pairCtl_kept | apply pairMark_kept | apply pwake_kept | apply tkoWrite_kept | apply ifOk_kept | apply plainWrite_kept) | (simp only [Kept.mk_iff, Kept.tick_iff]) | split | intro _)

theorem State.ownWriteReg_kept {z s : State} (h : State.Kept z s) (c : Cls) (i off : Nat) (w : Word) (o : Origin) : State.Kept z (State.ownWriteReg s c i off w o) := by
  dsimp only [State.ownWriteReg]
  repeat' (first | (with_reducible first | assumption | apply Kept.foldl | apply Kept.foldl1 | apply Kept.foldl2 | apply rqSelWrite_kept | apply xbSel_kept | apply ifOk_kept | apply plainWrite_kept | apply glbWrite_kept | apply tickWrite_kept | apply ringWrite_kept | apply stopWrite_kept | apply cbWrite_kept | apply memWrite_kept | apply engWriteReg_kept | apply sliceWrite_kept | apply pwrWrite_kept | apply fiWrite_kept | apply ctlWrite_kept | apply mboxWrite_kept | apply pairWriteReg_kept) | (simp only [Kept.mk_iff, Kept.tick_iff]) | split | intro _)

theorem State.pageWrite_kept {z s : State} (h : State.Kept z s) (c : Cls) (i off : Nat) (w : Word) (o : Origin) : State.Kept z (State.pageWrite s c i off w o) := by
  dsimp only [State.pageWrite]
  repeat' (first | (with_reducible first | assumption | apply Kept.foldl | apply Kept.foldl1 | apply Kept.foldl2 | apply touch_kept | apply hdrWrite_kept | apply weWrite_kept | apply ownWriteReg_kept) | (simp only [Kept.mk_iff, Kept.tick_iff]) | split | intro _)

theorem State.regWrite_kept {z s : State} (h : State.Kept z s) (a : Nat) (w : Word) (o : Origin) : State.Kept z (State.regWrite s a w o) := by
  dsimp only [State.regWrite]
  repeat' (first | (with_reducible first | assumption | apply Kept.foldl | apply Kept.foldl1 | apply Kept.foldl2 | apply pageWrite_kept) | (simp only [Kept.mk_iff, Kept.tick_iff]) | split | intro _)

theorem State.regWriteSts_kept {z s : State} (h : State.Kept z s) (a : Nat) (w : Word) (o : Origin) : State.Kept z (State.regWriteSts s a w o).1 := by
  dsimp only [State.regWriteSts]
  repeat' (first | (with_reducible first | assumption | apply Kept.foldl | apply Kept.foldl1 | apply Kept.foldl2 | apply fset_kept | apply pageWrite_kept) | (simp only [Kept.mk_iff, Kept.tick_iff]) | split | intro _)

end Sys2Proof.Machine
end

