-- ==== Sys2Proof/Laws/KeptRegBus.lean ====
section
/-! SUPPORT. The operations of RegBus.lean keep the queue and the canonical register file. -/

set_option linter.unusedSimpArgs false

namespace Sys2Proof.Machine

open State

theorem State.regRsp_kept {z s : State} (h : State.Kept z s) (n dst tag : Nat) (ok : Bool) (data : Nat) : State.Kept z (State.regRsp s n dst tag ok data) := by
  dsimp only [State.regRsp]
  repeat' (first | (with_reducible first | assumption | apply Kept.foldl | apply Kept.foldl1 | apply Kept.foldl2 | apply send_kept) | (simp only [Kept.mk_iff, Kept.tick_iff]) | split | intro _)

theorem execRegRd_kept (s : State) (n : Node) (m : Msg) : ∃ u9, execRegRd n m s = .next u9 ∧ State.Kept s u9 := by
  have h := State.Kept.refl s
  dsimp only [execRegRd]
  repeat' (first | refine ⟨_, rfl, ?_⟩ | (with_reducible first | assumption | apply Kept.foldl | apply Kept.foldl1 | apply Kept.foldl2 | apply take_kept | apply msgBad_kept | apply regRead_kept | apply regRsp_kept) | (simp only [Kept.mk_iff, Kept.tick_iff]) | split | intro _)

theorem State.setHalves_kept {z s : State} (h : State.Kept z s) (l : List Half) : State.Kept z (State.setHalves s l) := by
  dsimp only [State.setHalves]
  repeat' (first | (with_reducible first | assumption | apply Kept.foldl | apply Kept.foldl1 | apply Kept.foldl2) | (simp only [Kept.mk_iff, Kept.tick_iff]) | split | intro _)

theorem State.performWrite_kept {z s : State} (h : State.Kept z s) (n : Nat) (a d : Msg) : State.Kept z (State.performWrite s n a d) := by
  dsimp only [State.performWrite]
  repeat' (first | (with_reducible first | assumption | apply Kept.foldl | apply Kept.foldl1 | apply Kept.foldl2 | apply regWriteSts_kept | apply regRsp_kept) | (simp only [Kept.mk_iff, Kept.tick_iff]) | split | intro _)

theorem State.halfIn_kept {z s : State} (h : State.Kept z s) (n : Nat) (m : Msg) (isAddr : Bool) : State.Kept z (State.halfIn s n m isAddr) := by
  dsimp only [State.halfIn]
  repeat' (first | (with_reducible first | assumption | apply Kept.foldl | apply Kept.foldl1 | apply Kept.foldl2 | apply setHalves_kept | apply performWrite_kept) | (simp only [Kept.mk_iff, Kept.tick_iff]) | split | intro _)

theorem execRegWrA_kept (s : State) (n : Node) (m : Msg) : ∃ u9, execRegWrA n m s = .next u9 ∧ State.Kept s u9 := by
  have h := State.Kept.refl s
  dsimp only [execRegWrA]
  repeat' (first | refine ⟨_, rfl, ?_⟩ | (with_reducible first | assumption | apply Kept.foldl | apply Kept.foldl1 | apply Kept.foldl2 | apply take_kept | apply msgBad_kept | apply halfIn_kept) | (simp only [Kept.mk_iff, Kept.tick_iff]) | split | intro _)

theorem execRegWrD_kept (s : State) (n : Node) (m : Msg) : ∃ u9, execRegWrD n m s = .next u9 ∧ State.Kept s u9 := by
  have h := State.Kept.refl s
  dsimp only [execRegWrD]
  repeat' (first | refine ⟨_, rfl, ?_⟩ | (with_reducible first | assumption | apply Kept.foldl | apply Kept.foldl1 | apply Kept.foldl2 | apply take_kept | apply msgBad_kept | apply halfIn_kept) | (simp only [Kept.mk_iff, Kept.tick_iff]) | split | intro _)

theorem execRegWrHalfTimeout_kept (s : State) (n : Node) : ∃ u9, execRegWrHalfTimeout n s = .next u9 ∧ State.Kept s u9 := by
  have h := State.Kept.refl s
  dsimp only [execRegWrHalfTimeout]
  repeat' (first | refine ⟨_, rfl, ?_⟩ | (with_reducible first | assumption | apply Kept.foldl | apply Kept.foldl1 | apply Kept.foldl2 | apply regRsp_kept | apply setHalves_kept) | (simp only [Kept.mk_iff, Kept.tick_iff]) | split | intro _)

theorem State.respond_kept {z s : State} (h : State.Kept z s) (n tag data : Nat) (err : Bool) : State.Kept z (State.respond s n tag data err) := by
  dsimp only [State.respond]
  repeat' (first | (with_reducible first | assumption | apply Kept.foldl | apply Kept.foldl1 | apply Kept.foldl2) | (simp only [Kept.mk_iff, Kept.tick_iff]) | split | intro _)

theorem State.respondRefused_kept {z s : State} (h : State.Kept z s) (n tag data : Nat) : State.Kept z (State.respondRefused s n tag data) := by
  dsimp only [State.respondRefused]
  repeat' (first | (with_reducible first | assumption | apply Kept.foldl | apply Kept.foldl1 | apply Kept.foldl2 | apply fresh_kept | apply respond_kept) | (simp only [Kept.mk_iff, Kept.tick_iff]) | split | intro _)

theorem execRegRsp_kept (s : State) (n : Node) (m : Msg) : ∃ u9, execRegRsp n m s = .next u9 ∧ State.Kept s u9 := by
  have h := State.Kept.refl s
  dsimp only [execRegRsp]
  repeat' (first | refine ⟨_, rfl, ?_⟩ | (with_reducible first | assumption | apply Kept.foldl | apply Kept.foldl1 | apply Kept.foldl2 | apply take_kept | apply msgBad_kept | apply respond_kept | apply respondRefused_kept) | (simp only [Kept.mk_iff, Kept.tick_iff]) | split | intro _)

theorem State.forward_kept {z s : State} (h : State.Kept z s) (c : Cls) (i a : Nat) (wr : Bool) (w : Word) (o : Origin) (tag : Nat) : State.Kept z (State.forward s c i a wr w o tag) := by
  dsimp only [State.forward]
  repeat' (first | (with_reducible first | assumption | apply Kept.foldl | apply Kept.foldl1 | apply Kept.foldl2 | apply send_kept) | (simp only [Kept.mk_iff, Kept.tick_iff]) | split | intro _)

theorem execMgmtRequest_kept (s : State) (wr : Bool) (a : WinOff) (be : BitVec 4) (w : Word) (tenant : Bool) (x : SliceNo) (tag : Fin 8) : ∃ u9, execMgmtRequest wr a be w tenant x tag s = .next u9 ∧ State.Kept s u9 := by
  have h := State.Kept.refl s
  dsimp only [execMgmtRequest]
  repeat' (first | refine ⟨_, rfl, ?_⟩ | (with_reducible first | assumption | apply Kept.foldl | apply Kept.foldl1 | apply Kept.foldl2 | apply send_kept | apply pgErr_kept | apply respond_kept | apply respondRefused_kept | apply forward_kept) | (simp only [Kept.mk_iff, Kept.tick_iff]) | split | intro _)

theorem execTenantErr_kept (s : State) (m : Msg) : ∃ u9, execTenantErr m s = .next u9 ∧ State.Kept s u9 := by
  have h := State.Kept.refl s
  dsimp only [execTenantErr]
  repeat' (first | refine ⟨_, rfl, ?_⟩ | (with_reducible first | assumption | apply Kept.foldl | apply Kept.foldl1 | apply Kept.foldl2 | apply take_kept | apply record_kept | apply pgErr_kept | apply msgBad_kept) | (simp only [Kept.mk_iff, Kept.tick_iff]) | split | intro _)

theorem execRegisterWrite_kept (s : State) (off : WinOff) (w : Word) (o : Origin) : ∃ u9, execRegisterWrite off w o s = .next u9 ∧ State.Kept s u9 := by
  have h := State.Kept.refl s
  dsimp only [execRegisterWrite]
  repeat' (first | refine ⟨_, rfl, ?_⟩ | (with_reducible first | assumption | apply Kept.foldl | apply Kept.foldl1 | apply Kept.foldl2 | apply regWrite_kept) | (simp only [Kept.mk_iff, Kept.tick_iff]) | split | intro _)

theorem execWeWrite_kept (s : State) (off : WinOff) (w : Word) (o : Origin) : ∃ u9, execWeWrite off w o s = .next u9 ∧ State.Kept s u9 := by
  have h := State.Kept.refl s
  dsimp only [execWeWrite]
  repeat' (first | refine ⟨_, rfl, ?_⟩ | (with_reducible first | assumption | apply Kept.foldl | apply Kept.foldl1 | apply Kept.foldl2 | apply regWrite_kept) | (simp only [Kept.mk_iff, Kept.tick_iff]) | split | intro _)

theorem execRcRead_kept (s : State) (off : WinOff) (o : Origin) : ∃ u9, execRcRead off o s = .next u9 ∧ State.Kept s u9 := by
  have h := State.Kept.refl s
  dsimp only [execRcRead]
  repeat' (first | refine ⟨_, rfl, ?_⟩ | (with_reducible first | assumption | apply Kept.foldl | apply Kept.foldl1 | apply Kept.foldl2 | apply regRead_kept) | (simp only [Kept.mk_iff, Kept.tick_iff]) | split | intro _)

theorem execLowRegisterRead_kept (s : State) (off : WinOff) (o : Origin) : ∃ u9, execLowRegisterRead off o s = .next u9 ∧ State.Kept s u9 := by
  have h := State.Kept.refl s
  dsimp only [execLowRegisterRead]
  repeat' (first | refine ⟨_, rfl, ?_⟩ | (with_reducible first | assumption | apply Kept.foldl | apply Kept.foldl1 | apply Kept.foldl2 | apply regRead_kept) | (simp only [Kept.mk_iff, Kept.tick_iff]) | split | intro _)

theorem execWeAck_kept (s : State) (off : WinOff) : ∃ u9, execWeAck off s = .next u9 ∧ State.Kept s u9 := by
  have h := State.Kept.refl s
  dsimp only [execWeAck]
  repeat' (first | refine ⟨_, rfl, ?_⟩ | (with_reducible first | assumption | apply Kept.foldl | apply Kept.foldl1 | apply Kept.foldl2 | apply weAck_kept) | (simp only [Kept.mk_iff, Kept.tick_iff]) | split | intro _)

theorem State.headerWrite_kept {z s : State} (h : State.Kept z s) (off : WinOff) (reg : Nat) (w : Word) (o : Origin) : State.Kept z (State.headerWrite s off reg w o) := by
  dsimp only [State.headerWrite]
  repeat' (first | (with_reducible first | assumption | apply Kept.foldl | apply Kept.foldl1 | apply Kept.foldl2 | apply regWrite_kept) | (simp only [Kept.mk_iff, Kept.tick_iff]) | split | intro _)

theorem execPgLockWrite_kept (s : State) (off : WinOff) (w : Word) (o : Origin) : ∃ u9, execPgLockWrite off w o s = .next u9 ∧ State.Kept s u9 := by
  have h := State.Kept.refl s
  dsimp only [execPgLockWrite]
  repeat' (first | refine ⟨_, rfl, ?_⟩ | (with_reducible first | assumption | apply Kept.foldl | apply Kept.foldl1 | apply Kept.foldl2 | apply headerWrite_kept) | (simp only [Kept.mk_iff, Kept.tick_iff]) | split | intro _)

theorem execPgErrClear_kept (s : State) (off : WinOff) (o : Origin) : ∃ u9, execPgErrClear off o s = .next u9 ∧ State.Kept s u9 := by
  have h := State.Kept.refl s
  dsimp only [execPgErrClear]
  repeat' (first | refine ⟨_, rfl, ?_⟩ | (with_reducible first | assumption | apply Kept.foldl | apply Kept.foldl1 | apply Kept.foldl2 | apply headerWrite_kept) | (simp only [Kept.mk_iff, Kept.tick_iff]) | split | intro _)

theorem execPgIntSet_kept (s : State) (off : WinOff) (w : Word) (o : Origin) : ∃ u9, execPgIntSet off w o s = .next u9 ∧ State.Kept s u9 := by
  have h := State.Kept.refl s
  dsimp only [execPgIntSet]
  repeat' (first | refine ⟨_, rfl, ?_⟩ | (with_reducible first | assumption | apply Kept.foldl | apply Kept.foldl1 | apply Kept.foldl2 | apply headerWrite_kept) | (simp only [Kept.mk_iff, Kept.tick_iff]) | split | intro _)

theorem execDrainReq_kept (s : State) (off : WinOff) (w : Word) (o : Origin) : ∃ u9, execDrainReq off w o s = .next u9 ∧ State.Kept s u9 := by
  have h := State.Kept.refl s
  dsimp only [execDrainReq]
  repeat' (first | refine ⟨_, rfl, ?_⟩ | (with_reducible first | assumption | apply Kept.foldl | apply Kept.foldl1 | apply Kept.foldl2 | apply headerWrite_kept) | (simp only [Kept.mk_iff, Kept.tick_iff]) | split | intro _)

theorem State.drainQuiet_kept {z s : State} (h : State.Kept z s) (c : Cls) (i : Nat) : State.Kept z (State.drainQuiet s c i) := by
  dsimp only [State.drainQuiet]
  repeat' (first | (with_reducible first | assumption | apply Kept.foldl | apply Kept.foldl1 | apply Kept.foldl2 | apply fput_kept | apply drain_kept) | (simp only [Kept.mk_iff, Kept.tick_iff]) | split | intro _)

theorem execDrainQuiet_kept (s : State) (off : WinOff) : ∃ u9, execDrainQuiet off s = .next u9 ∧ State.Kept s u9 := by
  have h := State.Kept.refl s
  dsimp only [execDrainQuiet]
  repeat' (first | refine ⟨_, rfl, ?_⟩ | (with_reducible first | assumption | apply Kept.foldl | apply Kept.foldl1 | apply Kept.foldl2 | apply drainQuiet_kept) | (simp only [Kept.mk_iff, Kept.tick_iff]) | split | intro _)

theorem State.irqPage_kept {z s : State} (h : State.Kept z s) (c : Cls) (i : Nat) : State.Kept z (State.irqPage s c i) := by
  dsimp only [State.irqPage]
  repeat' (first | (with_reducible first | assumption | apply Kept.foldl | apply Kept.foldl1 | apply Kept.foldl2) | (simp only [Kept.mk_iff, Kept.tick_iff]) | split | intro _)

theorem State.irqSlice_kept {z s : State} (h : State.Kept z s)  : State.Kept z (State.irqSlice s) := by
  dsimp only [State.irqSlice]
  repeat' (first | (with_reducible first | assumption | apply Kept.foldl | apply Kept.foldl1 | apply Kept.foldl2) | (simp only [Kept.mk_iff, Kept.tick_iff]) | split | intro _)

theorem execIrqPresent_kept (s : State) (page : Option WinOff) : ∃ u9, execIrqPresent page s = .next u9 ∧ State.Kept s u9 := by
  have h := State.Kept.refl s
  dsimp only [execIrqPresent]
  repeat' (first | refine ⟨_, rfl, ?_⟩ | (with_reducible first | assumption | apply Kept.foldl | apply Kept.foldl1 | apply Kept.foldl2 | apply irqPage_kept | apply irqSlice_kept) | (simp only [Kept.mk_iff, Kept.tick_iff]) | split | intro _)

theorem execCtrlSubUnlisted_kept (s : State) (n : Node) (m : Msg) : ∃ u9, execCtrlSubUnlisted n m s = .next u9 ∧ State.Kept s u9 := by
  have h := State.Kept.refl s
  dsimp only [execCtrlSubUnlisted]
  repeat' (first | refine ⟨_, rfl, ?_⟩ | (with_reducible first | assumption | apply Kept.foldl | apply Kept.foldl1 | apply Kept.foldl2 | apply take_kept | apply msgBad_kept) | (simp only [Kept.mk_iff, Kept.tick_iff]) | split | intro _)

end Sys2Proof.Machine
end

