-- ==== Sys2Proof/Laws/KeptMaint.lean ====
section
/-! SUPPORT. The operations of Maint.lean keep the queue and the canonical register file. -/

set_option linter.unusedSimpArgs false

namespace Sys2Proof.Machine

open State

theorem State.ringStep_kept {z s : State} (h : State.Kept z s)  : State.Kept z (State.ringStep s) := by
  dsimp only [State.ringStep]
  repeat' (first | (with_reducible first | assumption | apply Kept.foldl | apply Kept.foldl1 | apply Kept.foldl2 | apply settled_kept) | (simp only [Kept.mk_iff, Kept.tick_iff]) | split | intro _)

end Sys2Proof.Machine
end

