-- ==== Sys2Proof/Laws/KeptCycle.lean ====
section
/-! SUPPORT. The operations of Cycle.lean keep the queue and the canonical register file. -/

set_option linter.unusedSimpArgs false

namespace Sys2Proof.Machine

open State

theorem State.cycInc_kept {z s : State} (h : State.Kept z s) (b : Cls) (inst : Nat) : State.Kept z (State.cycInc s b inst) := by
  dsimp only [State.cycInc]
  repeat' (first | (with_reducible first | assumption | apply Kept.foldl | apply Kept.foldl1 | apply Kept.foldl2 | apply fput_kept | apply setWide_kept) | (simp only [Kept.mk_iff, Kept.tick_iff]) | split | intro _)

theorem State.occEvt_kept {z s : State} (h : State.Kept z s) (b : Cls) (inst evt : Nat) (parts : List (EvtAttr × Nat)) : State.Kept z (State.occEvt s b inst evt parts) := by
  dsimp only [State.occEvt]
  repeat' (first | (with_reducible first | assumption | apply Kept.foldl | apply Kept.foldl1 | apply Kept.foldl2 | apply ctrAdd_kept) | (simp only [Kept.mk_iff, Kept.tick_iff]) | split | intro _)

theorem State.stopCycle_kept {z s : State} (h : State.Kept z s) (k : Nat) : State.Kept z (State.stopCycle s k) := by
  dsimp only [State.stopCycle]
  repeat' (first | (with_reducible first | assumption | apply Kept.foldl | apply Kept.foldl1 | apply Kept.foldl2 | apply cycInc_kept | apply occEvt_kept) | (simp only [Kept.mk_iff, Kept.tick_iff]) | split | intro _)

theorem State.engCycle_kept {z s : State} (h : State.Kept z s) (e : Nat) : State.Kept z (State.engCycle s e) := by
  dsimp only [State.engCycle]
  repeat' (first | (with_reducible first | assumption | apply Kept.foldl | apply Kept.foldl1 | apply Kept.foldl2 | apply cycInc_kept | apply occEvt_kept) | (simp only [Kept.mk_iff, Kept.tick_iff]) | split | intro _)

theorem State.idleCycle_kept {z s : State} (h : State.Kept z s)  : State.Kept z (State.idleCycle s) := by
  dsimp only [State.idleCycle]
  repeat' (first | (with_reducible first | assumption | apply Kept.foldl | apply Kept.foldl1 | apply Kept.foldl2 | apply ringStep_kept | apply cycInc_kept | apply stopCycle_kept | apply engCycle_kept) | (simp only [Kept.mk_iff, Kept.tick_iff]) | split | intro _)

end Sys2Proof.Machine
end

