-- ==== Sys2Proof/Laws/Regs.lean ====
section
/-! SUPPORT. Register fields through the shared operations: a write leaves every field at another place alone, and the
records, counts and sillage entries of an event leave every field outside the page headers, the counter blocks and
SMP_LOST_CNT alone. -/

namespace Sys2Proof.Machine

/-- Two single fields are of different pages' classes, or at different bits of a page. -/
def Fld.apart (f g : Fld) : Bool :=
  decide (f.off < 4096 ∧ f.lo < 32 ∧ g.off < 4096 ∧ g.lo < 32)
    && (g.cls.code != f.cls.code || (g.off / 4 * 32 + g.lo != f.off / 4 * 32 + f.lo))

theorem Fld.apart_place (f g : Fld) (h : Fld.apart f g = true) (i i' : Nat) : g.place i' 0 ≠ f.place i 0 := by
  simp only [Fld.apart, Bool.and_eq_true, decide_eq_true_eq, Bool.or_eq_true, bne_iff_ne] at h
  obtain ⟨⟨hf, hfl, hg, hgl⟩, h⟩ := h
  simp only [Fld.place, Fld.offAt, Fld.loAt, pageNo, Nat.zero_div, Nat.zero_mod, Nat.mul_zero, Nat.add_zero]
  omega

/-- A write of one single field leaves another one alone, in every page, bank and select index. -/
theorem State.fget_fset_apart (s : State) (f g : Fld) (v i b k i' b' k' : Nat) (h : Fld.apart f g = true) :
    (s.fset f v i 0 b k).fget g i' 0 b' k' = s.fget g i' 0 b' k' :=
  State.fget_fset_place s f g v i 0 b k i' 0 b' k' (Fld.apart_place f g h i i')

theorem State.fget_fput_apart (s : State) (f g : Fld) (v : Bool) (i b k i' b' k' : Nat) (h : Fld.apart f g = true) :
    (s.fput f v i 0 b k).fget g i' 0 b' k' = s.fget g i' 0 b' k' :=
  State.fget_fset_apart s f g _ i b k i' b' k' h

theorem State.fget_fsat_apart (s : State) (f g : Fld) (n i i' b' k' : Nat) (h : Fld.apart f g = true) :
    (s.fsat f n i 0).fget g i' 0 b' k' = s.fget g i' 0 b' k' :=
  State.fget_fset_apart s f g _ i 0 0 i' b' k' h

/-- A one-bit field just written reads as written. -/
theorem State.fget_fput (s : State) (f : Fld) (v : Bool) (i e b k : Nat) (hw : f.width ≠ 0) :
    (s.fput f v i e b k).fget f i e b k = b2n v := by
  simp only [State.fput, State.fget_fset]
  apply Nat.mod_eq_of_lt
  have : 2 ≤ 2 ^ f.width := by
    calc 2 = 2 ^ 1 := rfl
      _ ≤ 2 ^ f.width := Nat.pow_le_pow_right (by decide) (by omega)
  cases v <;> simp [b2n] <;> omega

theorem State.fbit_fput (s : State) (f : Fld) (v : Bool) (i e b k : Nat) (hw : f.width ≠ 0) :
    (s.fput f v i e b k).fbit f i e b k = v := by
  simp only [State.fbit, State.fget_fput s f v i e b k hw]
  cases v <;> rfl

/-- A field outside the page header, the counter block and SMP_LOST_CNT, at element `e`. -/
def Fld.plain (g : Fld) (e : Nat := 0) : Bool :=
  decide (256 ≤ g.offAt e ∧ g.offAt e < 4096 ∧ g.loAt e < 32)
    && (!hasBlock g.cls || decide (g.offAt e < cbBase g.cls ∨ cbBase g.cls + 256 ≤ g.offAt e))
    && (!(g.cls == .eng) || g.offAt e / 4 != F.ENG.SMP_LOST_CNT.off / 4)
    && (!(g.cls == .pmu) || g.offAt e / 4 != F.PMU.SMP_LOST_CNT.off / 4)

/-- A write of a field in a page's header leaves a plain field alone. -/
theorem State.fget_fset_hdr (s : State) (f g : Fld) (v i b k i' e' b' k' : Nat) (hf : f.off < 256) (hl : f.lo < 32)
    (h : g.plain e' = true) : (s.fset f v i 0 b k).fget g i' e' b' k' = s.fget g i' e' b' k' := by
  apply State.fget_fset_place
  simp only [Fld.plain, Bool.and_eq_true, decide_eq_true_eq] at h
  obtain ⟨⟨⟨⟨h1, h2, h3⟩, _⟩, _⟩, _⟩ := h
  simp only [Fld.place, pageNo]
  have : f.offAt 0 = f.off := by simp [Fld.offAt]
  have : f.loAt 0 = f.lo := by simp [Fld.loAt]
  omega

@[simp] theorem State.fget_intSet (s : State) (c : Cls) (i b : Nat) (g : Fld) (i' e' b' k' : Nat)
    (h : g.plain e' = true) : (s.intSet c i b).fget g i' e' b' k' = s.fget g i' e' b' k' :=
  State.fget_fset_hdr s _ g _ _ _ _ _ _ _ _ (by cases c <;> decide) (by cases c <;> decide) h

@[simp] theorem State.fget_touch (s : State) (c : Cls) (i : Nat) (g : Fld) (i' e' b' k' : Nat)
    (h : g.plain e' = true) : (s.touch c i).fget g i' e' b' k' = s.fget g i' e' b' k' :=
  State.fget_fset_hdr s _ g _ _ _ _ _ _ _ _ (by cases c <;> decide) (by cases c <;> decide) h

@[simp] theorem State.fget_pgErr (s : State) (c : Cls) (i o : Nat) (g : Fld) (i' e' b' k' : Nat)
    (h : g.plain e' = true) : (s.pgErr c i o).fget g i' e' b' k' = s.fget g i' e' b' k' := by
  simp only [State.pgErr, State.fput, State.fsat]
  rw [State.fget_fset_hdr _ _ g _ _ _ _ _ _ _ _ (by cases c <;> decide) (by cases c <;> decide) h,
    State.fget_fset_hdr _ _ g _ _ _ _ _ _ _ _ (by cases c <;> decide) (by cases c <;> decide) h,
    State.fget_fset_hdr _ _ g _ _ _ _ _ _ _ _ (by cases c <;> decide) (by cases c <;> decide) h]

@[simp] theorem State.fget_pgErrEvt (s : State) (c : Cls) (i : Nat) (g : Fld) (i' e' b' k' : Nat)
    (h : g.plain e' = true) : (s.pgErrEvt c i).fget g i' e' b' k' = s.fget g i' e' b' k' := by
  simp only [State.pgErrEvt, State.fput, State.fsat]
  rw [State.fget_fset_hdr _ _ g _ _ _ _ _ _ _ _ (by cases c <;> decide) (by cases c <;> decide) h,
    State.fget_fset_hdr _ _ g _ _ _ _ _ _ _ _ (by cases c <;> decide) (by cases c <;> decide) h]

theorem State.sends_regs (l : List Msg) (s : State) : (l.foldl State.send s).regs = s.regs := by
  induction l generalizing s with
  | nil => rfl
  | cons m l ih => exact ih _

/-- A sillage entry changes no register. -/
@[simp] theorem State.sillage_regs (s : State) (n c i : Nat) (inj : Bool) : (s.sillage n c i inj).regs = s.regs := by
  simp only [State.sillage]
  split
  · rfl
  · split
    · rfl
    · rw [State.sends_regs]

@[simp] theorem State.fget_sillage (s : State) (n c i : Nat) (inj : Bool) (g : Fld) (i' e' b' k' : Nat) :
    (s.sillage n c i inj).fget g i' e' b' k' = s.fget g i' e' b' k' :=
  State.fget_congr (State.sillage_regs s n c i inj) g i' e' b' k'

/-- A record changes no plain field. -/
@[simp] theorem State.fget_record (s : State) (c : Cls) (i code x y ident : Nat) (inj : Bool) (g : Fld)
    (i' e' b' k' : Nat) (h : g.plain e' = true) :
    (s.record c i code x y ident inj).fget g i' e' b' k' = s.fget g i' e' b' k' := by
  simp only [State.record, State.fget_sillage]
  split
  · rw [State.fget_intSet _ _ _ _ _ _ _ _ _ h]
    simp only [State.fput]
    rw [State.fget_fset_hdr _ _ g _ _ _ _ _ _ _ _ (by cases c <;> decide) (by cases c <;> decide) h,
      State.fget_fset_hdr _ _ g _ _ _ _ _ _ _ _ (by cases c <;> decide) (by cases c <;> decide) h,
      State.fget_fset_hdr _ _ g _ _ _ _ _ _ _ _ (by cases c <;> decide) (by cases c <;> decide) h,
      State.fget_fset_hdr _ _ g _ _ _ _ _ _ _ _ (by cases c <;> decide) (by cases c <;> decide) h]
  · rfl

/-- A write of a counter-block field leaves a plain field alone. -/
theorem State.fget_fset_cb (s : State) (f g : Fld) (v i e i' e' b' k' : Nat) (hb : hasBlock f.cls = true)
    (h1 : cbBase f.cls ≤ f.offAt e) (h2 : f.offAt e < cbBase f.cls + 256) (hl : f.loAt e < 32)
    (h : g.plain e' = true) : (s.fset f v i e).fget g i' e' b' k' = s.fget g i' e' b' k' := by
  apply State.fget_fset_place
  simp only [Fld.plain, Bool.and_eq_true, decide_eq_true_eq, Bool.or_eq_true, Bool.not_eq_true'] at h
  obtain ⟨⟨⟨⟨g1, g2, g3⟩, hp⟩, _⟩, _⟩ := h
  by_cases hc : g.cls = f.cls
  · rw [hc] at hp
    have hp : g.offAt e' < cbBase f.cls ∨ cbBase f.cls + 256 ≤ g.offAt e' := by
      rcases hp with hp | hp
      · rw [hb] at hp; cases hp
      · exact hp
    have hm : cbBase f.cls % 4 = 0 ∧ cbBase f.cls ≤ 3072 := by simp only [cbBase]; split <;> decide
    simp only [Fld.place, hc, pageNo]
    omega
  · refine Fld.place_cls f g i e i' e' (by have : cbBase f.cls ≤ 3072 := by simp only [cbBase]; split <;> omega
                                           omega) hl g2 g3 (fun hh => hc ?_)
    revert hh
    cases g.cls <;> cases f.cls <;> decide

theorem State.fget_smpOverflow (s : State) (i n : Nat) (g : Fld) (i' e' b' k' : Nat) (h : g.plain e' = true) :
    (s.smpOverflow i n).fget g i' e' b' k' = s.fget g i' e' b' k' := by
  simp only [State.smpOverflow]
  split
  · split
    · refine State.fget_fset_place _ _ _ _ _ _ _ _ _ _ _ _ ?_
      simp only [Fld.plain, Bool.and_eq_true, decide_eq_true_eq, Bool.or_eq_true, Bool.not_eq_true', bne_iff_ne] at h
      obtain ⟨⟨⟨⟨g1, g2, g3⟩, _⟩, _⟩, hp⟩ := h
      by_cases hc : g.cls = .pmu
      · rcases hp with hp | hp
        · rw [hc] at hp; cases hp
        · simp only [Fld.place, hc, F.PMU.SMP_LOST_CNT, pageNo, Fld.offAt, Fld.loAt] at hp g1 g2 g3 ⊢
          omega
      · refine Fld.place_cls _ g _ _ _ _ (by decide) (by decide) g2 g3 (fun hh => hc ?_)
        revert hh
        cases g.cls <;> decide
    · rfl
  · rfl

theorem State.fget_engOverflow (s : State) (i n : Nat) (g : Fld) (i' e' b' k' : Nat) (h : g.plain e' = true) :
    (s.engOverflow i n).fget g i' e' b' k' = s.fget g i' e' b' k' := by
  simp only [State.engOverflow]
  split
  · split
    · refine State.fget_fset_place _ _ _ _ _ _ _ _ _ _ _ _ ?_
      simp only [Fld.plain, Bool.and_eq_true, decide_eq_true_eq, Bool.or_eq_true, Bool.not_eq_true', bne_iff_ne] at h
      obtain ⟨⟨⟨⟨g1, g2, g3⟩, _⟩, hp⟩, _⟩ := h
      by_cases hc : g.cls = .eng
      · rcases hp with hp | hp
        · rw [hc] at hp; cases hp
        · simp only [Fld.place, hc, F.ENG.SMP_LOST_CNT, pageNo, Fld.offAt, Fld.loAt] at hp g1 g2 g3 ⊢
          omega
      · refine Fld.place_cls _ g _ _ _ _ (by decide) (by decide) g2 g3 (fun hh => hc ?_)
        revert hh
        cases g.cls <;> decide
    · rfl
  · rfl

/-- A counted increment changes no plain field. -/
theorem State.fget_ctrAdd (s : State) (b : Cls) (hb : hasBlock b = true) (i j n : Nat) (hj : j < 8) (g : Fld)
    (i' e' b' k' : Nat) (h : g.plain e' = true) :
    (s.ctrAdd b i j n).fget g i' e' b' k' = s.fget g i' e' b' k' := by
  have hlo : ∀ (a : State) (v : Nat), (a.fset (F.CB.CNT_LO b) v i j).fget g i' e' b' k' = a.fget g i' e' b' k' :=
    fun a v => State.fget_fset_cb a _ g v i j i' e' b' k' hb
      (by simp only [F.CB.CNT_LO, Fld.offAt]; omega) (by simp only [F.CB.CNT_LO, Fld.offAt]; omega)
      (by simp only [F.CB.CNT_LO, Fld.loAt]; omega) h
  have hhi : ∀ (a : State) (v : Nat), (a.fset (F.CB.CNT_HI b) v i j).fget g i' e' b' k' = a.fget g i' e' b' k' :=
    fun a v => State.fget_fset_cb a _ g v i j i' e' b' k' hb
      (by simp only [F.CB.CNT_HI, Fld.offAt]; omega) (by simp only [F.CB.CNT_HI, Fld.offAt]; omega)
      (by simp only [F.CB.CNT_HI, Fld.loAt]; omega) h
  have hov : ∀ (a : State) (v : Nat), (a.fset (F.CB.CB_OVF.OVF b) v i).fget g i' e' b' k' = a.fget g i' e' b' k' :=
    fun a v => State.fget_fset_cb a _ g v i 0 i' e' b' k' hb
      (by simp only [F.CB.CB_OVF.OVF, Fld.offAt]; omega) (by simp only [F.CB.CB_OVF.OVF, Fld.offAt]; omega)
      (by simp only [F.CB.CB_OVF.OVF, Fld.loAt]; omega) h
  have hw : ∀ (a : State) (v : Nat),
      (a.setWide (F.CB.CNT_LO b) (F.CB.CNT_HI b) v i j).fget g i' e' b' k' = a.fget g i' e' b' k' := by
    intro a v
    simp only [State.setWide]
    rw [hhi, hlo]
  have hi : ∀ (a : State), (a.intSet b i 7).fget g i' e' b' k' = a.fget g i' e' b' k' :=
    fun a => State.fget_intSet a b i 7 g i' e' b' k' h
  have hs : ∀ (a : State), (a.smpOverflow i j).fget g i' e' b' k' = a.fget g i' e' b' k' :=
    fun a => State.fget_smpOverflow a i j g i' e' b' k' h
  have he : ∀ (a : State), (a.engOverflow i j).fget g i' e' b' k' = a.fget g i' e' b' k' :=
    fun a => State.fget_engOverflow a i j g i' e' b' k' h
  simp only [State.ctrAdd]
  split
  · exact hw _ _
  · split
    · split
      · rw [hs, hi, hov, hw]
      · rw [hs, hov, hw]
    · split
      · split
        · rw [he, hi, hov, hw]
        · rw [he, hov, hw]
      · split
        · rw [hi, hov, hw]
        · rw [hov, hw]

/-- One set of counters that counts an event changes no plain field. -/
theorem State.fget_countOne (s : State) (b : Cls) (hb : hasBlock b = true) (i evt n : Nat) (a : EvtAttr) (g : Fld)
    (i' e' b' k' : Nat) (h : g.plain e' = true) :
    (s.countOne b i evt n a).fget g i' e' b' k' = s.fget g i' e' b' k' := by
  simp only [State.countOne]
  split
  · rfl
  · have : ∀ (l : List Nat) (t : State), (∀ x ∈ l, x < 8) →
        (l.foldl (fun s j => if s.ctrMatches b i j evt a then
          s.ctrAdd b i j (if s.fget (F.CB.EVT_SEL.MODE b) i j = 2 then n else 1) else s) t).fget g i' e' b' k'
          = t.fget g i' e' b' k' := by
      intro l
      induction l with
      | nil => intro t _; rfl
      | cons x l ih =>
        intro t hx
        simp only [List.foldl_cons]
        rw [ih _ (fun y hy => hx y (List.mem_cons_of_mem _ hy))]
        split
        · exact State.fget_ctrAdd t b hb i x _ (hx x (List.mem_cons_self ..)) g i' e' b' k' h
        · rfl
    exact this _ _ (fun x hx => List.mem_range.mp hx)

/-- An event counted changes no plain field. -/
theorem State.fget_countEvt (s : State) (b : Cls) (hb : hasBlock b = true) (i evt n : Nat) (a : EvtAttr) (g : Fld)
    (i' e' b' k' : Nat) (h : g.plain e' = true) :
    (s.countEvt b i evt n a).fget g i' e' b' k' = s.fget g i' e' b' k' := by
  simp only [State.countEvt]
  split
  · rw [State.fget_countOne _ _ hb _ _ _ _ _ _ _ _ _ h, State.fget_countOne _ _ hb _ _ _ _ _ _ _ _ _ h]
  · exact State.fget_countOne _ _ hb _ _ _ _ _ _ _ _ _ h

/-- An RC counter of its own that is raised changes no other plain field. -/
theorem State.fget_rcInc (s : State) (f : Fld) (i n : Nat) (inj : Bool) (g : Fld) (i' b' k' : Nat)
    (hf : Fld.apart f g = true) (h : g.plain = true) :
    (s.rcInc f i n inj).fget g i' 0 b' k' = s.fget g i' 0 b' k' := by
  simp only [State.rcInc]
  split
  · rename_i hb
    rw [State.fget_countEvt _ _ (Bool.and_eq_true _ _ ▸ hb).1 _ _ _ _ _ _ _ _ _ h, State.fget_fsat_apart _ _ _ _ _ _ _ _ hf]
  · rw [State.fget_fsat_apart _ _ _ _ _ _ _ _ hf]

/-- The RC counter itself, where it is a plain field, takes the sum and stays at its largest value. -/
theorem State.fget_rcInc_self (s : State) (f : Fld) (i n : Nat) (inj : Bool) (h : f.plain = true) :
    (s.rcInc f i n inj).fget f i 0 0 0 = satAdd f.width (s.fget f i 0 0 0) n % 2 ^ f.width := by
  simp only [State.rcInc]
  split
  · rename_i hb
    rw [State.fget_countEvt _ _ (Bool.and_eq_true _ _ ▸ hb).1 _ _ _ _ _ _ _ _ _ h]
    simp only [State.fsat, State.fget_fset]
  · simp only [State.fsat, State.fget_fset]

/-- A change of the fabric state changes no other plain field. -/
theorem State.fget_setFab (s : State) (toward : Nat) (g : Fld) (i' b' k' : Nat)
    (hf : Fld.apart F.GLB.FAB_STS.STATE g = true) (h : g.plain = true) :
    (s.setFab toward).fget g i' 0 b' k' = s.fget g i' 0 b' k' := by
  simp only [State.setFab, State.fget_sillage, State.fget_intSet _ _ _ _ _ _ _ _ _ h,
    State.fget_fset_apart _ _ _ _ _ _ _ _ _ _ hf]

/-- The fabric state reads as it was set. -/
theorem State.fabState_setFab (s : State) (toward : Nat) (h : toward < 4) : (s.setFab toward).fabState = toward := by
  simp only [State.fabState, State.setFab, State.fget_sillage]
  rw [State.fget_intSet _ _ _ _ _ _ _ _ _ (by decide), State.fget_fset]
  exact Nat.mod_eq_of_lt h

/-! ### What the shared operations of an event leave alone outside the register file, the counters and the messages -/

/-- Everything but the registers, the counters and the messages. -/
def State.core (s : State) : State := { s with regs := [], cnt := {}, net := {} }

theorem State.core_sends (l : List Msg) (s : State) : (l.foldl State.send s).core = s.core := by
  induction l generalizing s with
  | nil => rfl
  | cons m l ih => exact ih _

@[simp] theorem State.core_fset (s : State) (f : Fld) (v i e b k : Nat) : (s.fset f v i e b k).core = s.core := rfl
@[simp] theorem State.core_fput (s : State) (f : Fld) (v : Bool) (i e b k : Nat) : (s.fput f v i e b k).core = s.core := rfl
@[simp] theorem State.core_fsat (s : State) (f : Fld) (n i e : Nat) : (s.fsat f n i e).core = s.core := rfl
@[simp] theorem State.core_send (s : State) (m : Msg) : (s.send m).core = s.core := rfl
@[simp] theorem State.core_bcast (s : State) (m : Msg) : (s.bcast m).core = s.core := rfl
@[simp] theorem State.core_take (s : State) (n : Nat) (m : Msg) : (s.take n m).core = s.core := rfl
@[simp] theorem State.core_touch (s : State) (c : Cls) (i : Nat) : (s.touch c i).core = s.core := rfl
@[simp] theorem State.core_intSet (s : State) (c : Cls) (i b : Nat) : (s.intSet c i b).core = s.core := rfl
@[simp] theorem State.core_pgErr (s : State) (c : Cls) (i o : Nat) : (s.pgErr c i o).core = s.core := rfl
@[simp] theorem State.core_pgErrEvt (s : State) (c : Cls) (i : Nat) : (s.pgErrEvt c i).core = s.core := rfl
@[simp] theorem State.core_setWide (s : State) (f g : Fld) (v i e b k : Nat) :
    (s.setWide f g v i e b k).core = s.core := rfl

@[simp] theorem State.core_sillage (s : State) (n c i : Nat) (inj : Bool) : (s.sillage n c i inj).core = s.core := by
  simp only [State.sillage]
  split
  · rfl
  · split
    · rfl
    · rw [State.core_sends]; rfl

@[simp] theorem State.core_record (s : State) (c : Cls) (i code x y ident : Nat) (inj : Bool) :
    (s.record c i code x y ident inj).core = s.core := by
  simp only [State.record, State.core_sillage]
  split <;> simp

@[simp] theorem State.core_smpOverflow (s : State) (i n : Nat) : (s.smpOverflow i n).core = s.core := by
  simp only [State.smpOverflow]
  split
  · split <;> rfl
  · rfl

@[simp] theorem State.core_engOverflow (s : State) (i n : Nat) : (s.engOverflow i n).core = s.core := by
  simp only [State.engOverflow]
  split
  · split <;> rfl
  · rfl

@[simp] theorem State.core_ctrAdd (s : State) (b : Cls) (i j n : Nat) : (s.ctrAdd b i j n).core = s.core := by
  simp only [State.ctrAdd]
  repeat' split
  all_goals simp

@[simp] theorem State.core_countOne (s : State) (b : Cls) (i evt n : Nat) (a : EvtAttr) :
    (s.countOne b i evt n a).core = s.core := by
  simp only [State.countOne]
  split
  · rfl
  · generalize List.range 8 = l
    induction l generalizing s with
    | nil => rfl
    | cons x l ih =>
      simp only [List.foldl_cons]
      rw [ih]
      split <;> simp

@[simp] theorem State.core_countEvt (s : State) (b : Cls) (i evt n : Nat) (a : EvtAttr) :
    (s.countEvt b i evt n a).core = s.core := by
  simp only [State.countEvt]
  split <;> simp

@[simp] theorem State.core_rcInc (s : State) (f : Fld) (i n : Nat) (inj : Bool) (e : Nat) :
    (s.rcInc f i n inj e).core = s.core := by
  simp only [State.rcInc]
  split <;> simp

@[simp] theorem State.core_msgBad (s : State) (n : Nat) (m : Msg) : (s.msgBad n m).core = s.core := by
  simp only [State.msgBad]
  split <;> simp

@[simp] theorem State.core_setFab (s : State) (toward : Nat) : (s.setFab toward).core = s.core := by
  simp [State.setFab]

end Sys2Proof.Machine
end

