-- ==== Sys2Proof/Tests/Slice0.lean ====
section
/-! SUPPORT. Tests: well-formedness refuses an ill-formed command for each check; one step of a few commands against values
worked out from the spec; and what the witnesses of the statements' hypotheses (Tests/Met*.lean) are built with. -/

open Sys2Proof Sys2Proof.Machine

namespace Sys2Proof.Tests

set_option maxRecDepth 100000
set_option Elab.async false
set_option linter.unusedVariables false

/-! ### Building small states -/

theorem ex1 {α : Type} {p : α → Prop} (v : α) (h : p v) : ∃ a, p a := ⟨v, h⟩
def setRuns (s : State) (k : Nat) (v : Bool) : State :=
  let s1 : State := { s with boot := { s.boot with inReset := false } }
  let lo := s1.fget F.GLB.ISO_SET_LO.SET_LO
  let hi := s1.fget F.GLB.ISO_SET_HI.SET_HI
  let s2 := if k < 32 then (if nbit lo k then s1.fset F.GLB.ISO_SET_LO.SET_LO (lo - 2 ^ k) else s1)
    else (if nbit hi (k - 32) then s1.fset F.GLB.ISO_SET_HI.SET_HI (hi - 2 ^ (k - 32)) else s1)
  if v then (if s2.sectorState (sectorOf k) < 2 ∨ 56 ≤ k then s2 else s2.fset F.PWR.PS_STS.STATE 0 (sectorOf k))
  else if 56 ≤ k then { s2 with boot := { s2.boot with inReset := true } } else s2.fset F.PWR.PS_STS.STATE 2 (sectorOf k)
def setIso (s : State) (k : Nat) (v : Bool) : State :=
  let lo := s.fget F.GLB.ISO_SET_LO.SET_LO
  let hi := s.fget F.GLB.ISO_SET_HI.SET_HI
  if s.isolated k = v then s
  else if k < 32 then s.fset F.GLB.ISO_SET_LO.SET_LO (lo ^^^ 2 ^ k) else s.fset F.GLB.ISO_SET_HI.SET_HI (hi ^^^ (2 ^ (k - 32)))
def setServes (s : State) (k : Nat) (v : Bool) : State :=
  let s1 := setIso s k false
  if isSpareStop k then
    let so := s1.fget F.STOP.SPARE_CTL.SOCKET k
    (s1.fset F.STOP.SPARE_CTL.CLAIM (if v then 1 else 0) k).fput F.STOP.SOCKET_STS.SERVED_BY_SPARE v (7 * sectorOf k + so)
  else if isPortStop k then s1.fput F.STOP.SOCKET_STS.SERVED_BY_SPARE (!v) k else s1
def setPresent (s : State) (k l : Nat) (v : Bool) : State :=
  if !v then (if l = 0 then setServes s k false else (setServes s k true).fset F.STOP.PORT_CFG.BIF 0 k)
  else
    let s1 := setServes s k true
    if rxShare (s1.portBif k) l ≠ 0 then s1 else s1.fset F.STOP.PORT_CFG.BIF 3 k
def setXb (s : State) (b : Nat) (v : Bool) : State := { s with xb := tset {} s.xb b { tget {} s.xb b with ready := if v then 3 else 1 } }
def setResident (s : State) (e q : Nat) (v : Bool) : State :=
  let home := q / 8192 == e && tget 0 s.eng.noHome e == 0
  { s with eng := { s.eng with away := tset 0 s.eng.away (qKey e q) (if v != home then 1 else 0) } }
def setTick (s : State) (n v : Nat) : State := { s with tick := { s.tick with nodeCount := tset 0 s.tick.nodeCount n (v % 2 ^ 48) } }
def setWake (s : State) (x : Nat) (c : Nat) (v : Bool) : State :=
  s.fput ([F.PWR.WAKE_EN.DEMAND, F.PWR.WAKE_EN.SIGDET, F.PWR.WAKE_EN.SUPPLY, F.PWR.WAKE_EN.THERM, F.PWR.WAKE_EN.TIMER,
    F.PWR.WAKE_EN.MGR, F.PWR.WAKE_EN.PAIR].getD c F.PWR.WAKE_EN.MGR) v x
def setWide (s : State) (a b : Fld) (v : Nat) (i : Nat := 0) (e : Nat := 0) : State := s.setWide a b v i e
def setEgr (s : State) (k l q : Nat) (v : List Egr) : State := { s with ord := { s.ord with egr := tset [] s.ord.egr (egrKey k l q) v } }
def setModeBit (s : State) (k l q : Nat) (v : Bool) : State :=
  let m := tget 0 s.port.mode (linkKey k l)
  { s with port := { s.port with mode := tset 0 s.port.mode (linkKey k l) (if nbit m q = v then m else m ^^^ (2 ^ q)) } }
def fixM (m : Msg) : Msg := mkMsg [(7, 57, vbits m 7 57)]
def breakM (m : Msg) : Msg := (fixM m) ^^^ 1#64
def setM (m : Msg) (lo w v : Nat) : Msg :=
  let r := m.toNat
  fixM (BitVec.ofNat 64 (r - nbits r lo w * 2 ^ lo + (v % 2 ^ w) * 2 ^ lo))
def setB {n : Nat} (m : BitVec n) (lo w v : Nat) : BitVec n :=
  let r := m.toNat
  BitVec.ofNat n (r - nbits r lo w * 2 ^ lo + (v % 2 ^ w) * 2 ^ lo)
def setFrame (raw : BitVec 1344) (g : PairFrame → PairFrame) : BitVec 1344 := (g (frameOf raw.toNat)).bits
def setN (b lo w v : Nat) : Nat := b - nbits b lo w * 2 ^ lo + (v % 2 ^ w) * 2 ^ lo
def egr0 : Egr := { flit := emptyFlit, charge := 0, ring := 0, stamp := 0, tick := 0 }
theorem ex2 {α0 α1 : Type} {p : α0 → α1 → Prop} (v : α0 × α1) (h : p v.1 v.2) : ∃ a b, p a b := ⟨v.1, v.2, h⟩
theorem ex3 {α0 α1 α2 : Type} {p : α0 → α1 → α2 → Prop} (v : α0 × α1 × α2) (h : p v.1 v.2.1 v.2.2) : ∃ a b c, p a b c :=
    ⟨v.1, v.2.1, v.2.2, h⟩
theorem ex4 {α0 α1 α2 α3 : Type} {p : α0 → α1 → α2 → α3 → Prop} (v : α0 × α1 × α2 × α3) (h : p v.1 v.2.1 v.2.2.1 v.2.2.2)
    : ∃ a b c d, p a b c d := ⟨v.1, v.2.1, v.2.2.1, v.2.2.2, h⟩
theorem ex5 {α0 α1 α2 α3 α4 : Type} {p : α0 → α1 → α2 → α3 → α4 → Prop} (v : α0 × α1 × α2 × α3 × α4) (h : p v.1 v.2.1
    v.2.2.1 v.2.2.2.1 v.2.2.2.2) : ∃ a b c d e, p a b c d e := ⟨v.1, v.2.1, v.2.2.1, v.2.2.2.1, v.2.2.2.2, h⟩
theorem ex6 {α0 α1 α2 α3 α4 α5 : Type} {p : α0 → α1 → α2 → α3 → α4 → α5 → Prop} (v : α0 × α1 × α2 × α3 × α4 × α5) (h : p
    v.1 v.2.1 v.2.2.1 v.2.2.2.1 v.2.2.2.2.1 v.2.2.2.2.2) : ∃ a b c d e f, p a b c d e f := ⟨v.1, v.2.1, v.2.2.1, v.2.2.2.1,
    v.2.2.2.2.1, v.2.2.2.2.2, h⟩
theorem ex7 {α0 α1 α2 α3 α4 α5 α6 : Type} {p : α0 → α1 → α2 → α3 → α4 → α5 → α6 → Prop} (v : α0 × α1 × α2 × α3 × α4 × α5 ×
    α6) (h : p v.1 v.2.1 v.2.2.1 v.2.2.2.1 v.2.2.2.2.1 v.2.2.2.2.2.1 v.2.2.2.2.2.2) : ∃ a b c d e f g, p a b c d e f g :=
    ⟨v.1, v.2.1, v.2.2.1, v.2.2.2.1, v.2.2.2.2.1, v.2.2.2.2.2.1, v.2.2.2.2.2.2, h⟩
theorem ex8 {α0 α1 α2 α3 α4 α5 α6 α7 : Type} {p : α0 → α1 → α2 → α3 → α4 → α5 → α6 → α7 → Prop} (v : α0 × α1 × α2 × α3 ×
    α4 × α5 × α6 × α7) (h : p v.1 v.2.1 v.2.2.1 v.2.2.2.1 v.2.2.2.2.1 v.2.2.2.2.2.1 v.2.2.2.2.2.2.1 v.2.2.2.2.2.2.2) : ∃ a b c
    d e f g h, p a b c d e f g h := ⟨v.1, v.2.1, v.2.2.1, v.2.2.2.1, v.2.2.2.2.1, v.2.2.2.2.2.1, v.2.2.2.2.2.2.1,
    v.2.2.2.2.2.2.2, h⟩
theorem ex9 {α0 α1 α2 α3 α4 α5 α6 α7 α8 : Type} {p : α0 → α1 → α2 → α3 → α4 → α5 → α6 → α7 → α8 → Prop} (v : α0 × α1 × α2
    × α3 × α4 × α5 × α6 × α7 × α8) (h : p v.1 v.2.1 v.2.2.1 v.2.2.2.1 v.2.2.2.2.1 v.2.2.2.2.2.1 v.2.2.2.2.2.2.1
    v.2.2.2.2.2.2.2.1 v.2.2.2.2.2.2.2.2) : ∃ a b c d e f g h i, p a b c d e f g h i := ⟨v.1, v.2.1, v.2.2.1, v.2.2.2.1,
    v.2.2.2.2.1, v.2.2.2.2.2.1, v.2.2.2.2.2.2.1, v.2.2.2.2.2.2.2.1, v.2.2.2.2.2.2.2.2, h⟩
theorem ex10 {α0 α1 α2 α3 α4 α5 α6 α7 α8 α9 : Type} {p : α0 → α1 → α2 → α3 → α4 → α5 → α6 → α7 → α8 → α9 → Prop} (v : α0 ×
    α1 × α2 × α3 × α4 × α5 × α6 × α7 × α8 × α9) (h : p v.1 v.2.1 v.2.2.1 v.2.2.2.1 v.2.2.2.2.1 v.2.2.2.2.2.1 v.2.2.2.2.2.2.1
    v.2.2.2.2.2.2.2.1 v.2.2.2.2.2.2.2.2.1 v.2.2.2.2.2.2.2.2.2) : ∃ a b c d e f g h i j, p a b c d e f g h i j := ⟨v.1, v.2.1,
    v.2.2.1, v.2.2.2.1, v.2.2.2.2.1, v.2.2.2.2.2.1, v.2.2.2.2.2.2.1, v.2.2.2.2.2.2.2.1, v.2.2.2.2.2.2.2.2.1,
    v.2.2.2.2.2.2.2.2.2, h⟩
theorem ex11 {α0 α1 α2 α3 α4 α5 α6 α7 α8 α9 α10 : Type} {p : α0 → α1 → α2 → α3 → α4 → α5 → α6 → α7 → α8 → α9 → α10 → Prop}
    (v : α0 × α1 × α2 × α3 × α4 × α5 × α6 × α7 × α8 × α9 × α10) (h : p v.1 v.2.1 v.2.2.1 v.2.2.2.1 v.2.2.2.2.1 v.2.2.2.2.2.1
    v.2.2.2.2.2.2.1 v.2.2.2.2.2.2.2.1 v.2.2.2.2.2.2.2.2.1 v.2.2.2.2.2.2.2.2.2.1 v.2.2.2.2.2.2.2.2.2.2) : ∃ a b c d e f g h i j
    k, p a b c d e f g h i j k := ⟨v.1, v.2.1, v.2.2.1, v.2.2.2.1, v.2.2.2.2.1, v.2.2.2.2.2.1, v.2.2.2.2.2.2.1,
    v.2.2.2.2.2.2.2.1, v.2.2.2.2.2.2.2.2.1, v.2.2.2.2.2.2.2.2.2.1, v.2.2.2.2.2.2.2.2.2.2, h⟩
theorem ex12 {α0 α1 α2 α3 α4 α5 α6 α7 α8 α9 α10 α11 : Type} {p : α0 → α1 → α2 → α3 → α4 → α5 → α6 → α7 → α8 → α9 → α10 →
    α11 → Prop} (v : α0 × α1 × α2 × α3 × α4 × α5 × α6 × α7 × α8 × α9 × α10 × α11) (h : p v.1 v.2.1 v.2.2.1 v.2.2.2.1
    v.2.2.2.2.1 v.2.2.2.2.2.1 v.2.2.2.2.2.2.1 v.2.2.2.2.2.2.2.1 v.2.2.2.2.2.2.2.2.1 v.2.2.2.2.2.2.2.2.2.1
    v.2.2.2.2.2.2.2.2.2.2.1 v.2.2.2.2.2.2.2.2.2.2.2) : ∃ a b c d e f g h i j k l, p a b c d e f g h i j k l := ⟨v.1, v.2.1,
    v.2.2.1, v.2.2.2.1, v.2.2.2.2.1, v.2.2.2.2.2.1, v.2.2.2.2.2.2.1, v.2.2.2.2.2.2.2.1, v.2.2.2.2.2.2.2.2.1,
    v.2.2.2.2.2.2.2.2.2.1, v.2.2.2.2.2.2.2.2.2.2.1, v.2.2.2.2.2.2.2.2.2.2.2, h⟩
theorem ex13 {α0 α1 α2 α3 α4 α5 α6 α7 α8 α9 α10 α11 α12 : Type} {p : α0 → α1 → α2 → α3 → α4 → α5 → α6 → α7 → α8 → α9 → α10
    → α11 → α12 → Prop} (v : α0 × α1 × α2 × α3 × α4 × α5 × α6 × α7 × α8 × α9 × α10 × α11 × α12) (h : p v.1 v.2.1 v.2.2.1
    v.2.2.2.1 v.2.2.2.2.1 v.2.2.2.2.2.1 v.2.2.2.2.2.2.1 v.2.2.2.2.2.2.2.1 v.2.2.2.2.2.2.2.2.1 v.2.2.2.2.2.2.2.2.2.1
    v.2.2.2.2.2.2.2.2.2.2.1 v.2.2.2.2.2.2.2.2.2.2.2.1 v.2.2.2.2.2.2.2.2.2.2.2.2) : ∃ a b c d e f g h i j k l m, p a b c d e f
    g h i j k l m := ⟨v.1, v.2.1, v.2.2.1, v.2.2.2.1, v.2.2.2.2.1, v.2.2.2.2.2.1, v.2.2.2.2.2.2.1, v.2.2.2.2.2.2.2.1,
    v.2.2.2.2.2.2.2.2.1, v.2.2.2.2.2.2.2.2.2.1, v.2.2.2.2.2.2.2.2.2.2.1, v.2.2.2.2.2.2.2.2.2.2.2.1, v.2.2.2.2.2.2.2.2.2.2.2.2,
    h⟩
theorem ex14 {α0 α1 α2 α3 α4 α5 α6 α7 α8 α9 α10 α11 α12 α13 : Type} {p : α0 → α1 → α2 → α3 → α4 → α5 → α6 → α7 → α8 → α9 →
    α10 → α11 → α12 → α13 → Prop} (v : α0 × α1 × α2 × α3 × α4 × α5 × α6 × α7 × α8 × α9 × α10 × α11 × α12 × α13) (h : p v.1
    v.2.1 v.2.2.1 v.2.2.2.1 v.2.2.2.2.1 v.2.2.2.2.2.1 v.2.2.2.2.2.2.1 v.2.2.2.2.2.2.2.1 v.2.2.2.2.2.2.2.2.1
    v.2.2.2.2.2.2.2.2.2.1 v.2.2.2.2.2.2.2.2.2.2.1 v.2.2.2.2.2.2.2.2.2.2.2.1 v.2.2.2.2.2.2.2.2.2.2.2.2.1
    v.2.2.2.2.2.2.2.2.2.2.2.2.2) : ∃ a b c d e f g h i j k l m n, p a b c d e f g h i j k l m n := ⟨v.1, v.2.1, v.2.2.1,
    v.2.2.2.1, v.2.2.2.2.1, v.2.2.2.2.2.1, v.2.2.2.2.2.2.1, v.2.2.2.2.2.2.2.1, v.2.2.2.2.2.2.2.2.1, v.2.2.2.2.2.2.2.2.2.1,
    v.2.2.2.2.2.2.2.2.2.2.1, v.2.2.2.2.2.2.2.2.2.2.2.1, v.2.2.2.2.2.2.2.2.2.2.2.2.1, v.2.2.2.2.2.2.2.2.2.2.2.2.2, h⟩
theorem ex15 {α0 α1 α2 α3 α4 α5 α6 α7 α8 α9 α10 α11 α12 α13 α14 : Type} {p : α0 → α1 → α2 → α3 → α4 → α5 → α6 → α7 → α8 →
    α9 → α10 → α11 → α12 → α13 → α14 → Prop} (v : α0 × α1 × α2 × α3 × α4 × α5 × α6 × α7 × α8 × α9 × α10 × α11 × α12 × α13 ×
    α14) (h : p v.1 v.2.1 v.2.2.1 v.2.2.2.1 v.2.2.2.2.1 v.2.2.2.2.2.1 v.2.2.2.2.2.2.1 v.2.2.2.2.2.2.2.1 v.2.2.2.2.2.2.2.2.1
    v.2.2.2.2.2.2.2.2.2.1 v.2.2.2.2.2.2.2.2.2.2.1 v.2.2.2.2.2.2.2.2.2.2.2.1 v.2.2.2.2.2.2.2.2.2.2.2.2.1
    v.2.2.2.2.2.2.2.2.2.2.2.2.2.1 v.2.2.2.2.2.2.2.2.2.2.2.2.2.2) : ∃ a b c d e f g h i j k l m n o, p a b c d e f g h i j k l
    m n o := ⟨v.1, v.2.1, v.2.2.1, v.2.2.2.1, v.2.2.2.2.1, v.2.2.2.2.2.1, v.2.2.2.2.2.2.1, v.2.2.2.2.2.2.2.1,
    v.2.2.2.2.2.2.2.2.1, v.2.2.2.2.2.2.2.2.2.1, v.2.2.2.2.2.2.2.2.2.2.1, v.2.2.2.2.2.2.2.2.2.2.2.1,
    v.2.2.2.2.2.2.2.2.2.2.2.2.1, v.2.2.2.2.2.2.2.2.2.2.2.2.2.1, v.2.2.2.2.2.2.2.2.2.2.2.2.2.2, h⟩

/-! ### Well-formedness: an ill-formed command for each check -/

/-- A message of TYPE 1 (a mark's TYPE), which no message row but TICK_MARK may carry, to node `n` from node 3. -/
def wrongType (n : Nat) : Msg := mkTyped 1 n 3 []

theorem test_wf_refuses_a_wrong_type :
    [Instr.credit 5 (wrongType 5), .resReq 5 (wrongType 5), .resGnt 5 (wrongType 5), .surrender 5 (wrongType 5),
      .doorbell 5 (wrongType 5), .silFrag 5 (wrongType 5), .erqFrag (wrongType 60), .floorRecall 5 (wrongType 63),
      .floorReissue 5 (wrongType 63), .floorSyncReq 5 (wrongType 5), .linkNotice 5 (wrongType 63), .xltInv 5 (wrongType 63),
      .pbInv 5 (wrongType 63), .qmapUpd 5 (wrongType 63), .sliceUpd 5 (wrongType 63), .isolateMsg 5 (wrongType 63)].all
      (fun c => !c.wf) = true := by decide +kernel

theorem test_wf_refuses_a_wrong_sub :
    [Instr.census 5 (mkCtrl 9 5 3 []), .invAck 5 (mkCtrl 7 5 3 []), .regRd 5 (mkCtrl 1 5 3 []), .regWrA 5 (mkCtrl 0 5 3 []),
      .regWrD 5 (mkCtrl 0 5 3 []), .regRsp 5 (mkCtrl 0 5 3 []), .tenantErr (mkCtrl 0 62 3 []), .fence 5 (mkCtrl 0 63 3 []),
      .unitRng 5 (mkCtrl 0 5 3 []), .lsgSet 5 (mkCtrl 0 5 3 []), .handoverMessage 5 (mkCtrl 0 63 3 []),
      .resetMessage 5 (mkCtrl 0 63 3 []), .bankSyncStartMsg 5 (mkCtrl 0 63 3 []), .bankSyncDone (mkCtrl 0 60 3 []),
      .pwrCmdClose 5 (mkCtrl 0 5 3 []), .pwrCmdReopen 5 (mkCtrl 0 5 3 []), .pwrCmdEmpty 5 (mkCtrl 0 5 3 [])].all
      (fun c => !c.wf) = true := by decide +kernel

theorem test_wf_refuses_a_wrong_op :
    [Instr.floorRecall 5 (mkTyped 5 63 3 [(46, 2, 1)]), .floorReissue 5 (mkTyped 5 63 3 [(46, 2, 0)]),
      .floorSyncReq 5 (mkTyped 5 5 3 [(46, 2, 0)]), .pwrCmdClose 5 (mkCtrl 6 5 3 [(42, 2, 1)]),
      .pwrCmdReopen 5 (mkCtrl 6 5 3 [(42, 2, 0)]), .pwrCmdEmpty 5 (mkCtrl 6 5 3 [(42, 2, 0)]),
      .bankSyncStartMsg 5 (mkCtrl 12 63 3 [(43, 1, 1)]), .bankSyncDone (mkCtrl 12 60 3 [])].all (fun c => !c.wf) = true := by
  decide +kernel

theorem test_wf_refuses_another_addressee :
    [Instr.credit 6 (mkTyped 4 5 3 []), .linkNotice 5 (mkTyped 7 5 3 []), .erqFrag (mkTyped 14 5 3 []),
      .ctrlSubUnlisted 5 (mkCtrl 13 5 3 []), .tickMark 5 0 (wrongType 5)].all (fun c => !c.wf || c matches .tickMark ..) = true := by
  decide +kernel

theorem test_wf_refuses_other_stops_and_registers :
    [Instr.tlpReceived 5 0 default, .ingressCheck 5 0 0, .pause 5 0, .resume 6 0, .down 56 0, .returnKept 57 0,
      .returnFresh 58 0, .portModeChange 59, .spillAge 5 0, .spillReadback 5 0, .linkWatch 6 0, .lockTimeout 6 0,
      .atomEmuReadDone 5 0, .registerWrite 2 0 .mgmt, .rcRead 1 .mgmt, .weWrite 3 0 .mgmt, .weAck 2, .pgErrClear 5 .mgmt,
      .drainReq 6 0 .mgmt, .drainQuiet 7, .cntHiWrite .glb 0 0 0, .cntHiWrite .ring 9 0 0].all (fun c => !c.wf) = true := by
  decide +kernel

theorem test_wf_refuses_a_frame_of_another_type :
    [Instr.pairFrameXlt 2 false, .pairFramePb 1 false, .pairFrameAcc 1 false, .pairFrameQctx 1, .pairFrameMtr 1, .pairFrameSlc 1,
      .pairFrameFlc 1, .pairFrameCkpt 1, .pairFrameWake 1, .pairFrameHb 1 false].all (fun c => !c.wf) = true := by decide +kernel

theorem test_wf_accepts_what_the_rows_carry :
    [Instr.credit 5 (mkTyped 4 5 3 []), .regRd 5 (mkCtrl 0 5 3 []), .floorReissue 5 (mkTyped 5 63 3 [(46, 2, 1)]),
      .registerWrite 4 0 .mgmt, .pause 3 0, .pairFrameHb 10 false, .cntHiWrite .ring 8 0 0].all (fun c => c.wf) = true := by
  decide +kernel

/-! ### One step of a few commands, against values worked out from the spec by hand -/

/-- What a command leaves satisfies `p`. -/
def after (c : Instr) (s : State) (p : State → Bool) : Bool :=
  match exec c s with
  | .next t => p t
  | .fault _ | .refused _ => false

/-- A state whose tick generator runs, at count `n`. -/
def ticking (n : Nat) : State :=
  let s := ((State.reset.fset F.TICK.TICK_CTL.EN 1).fset F.TICK.TICK_STS.CAL_DONE 1).fset F.TICK.TICK_STS.RUNNING 1
  { s with tick := { s.tick with count := n } }

/-- R32: the count is 48 bits wide and wraps. -/
theorem test_reference_edge_wraps_the_count :
    after .referenceTickEdge (ticking (2 ^ 48 - 1)) (fun t => t.tick.count == 0) = true := by decide +kernel

/-- Table 2-5: TICK_STOPPED is 3. -/
theorem test_epoch_request_without_a_tick :
    after (.epochReq .mgmt 1) State.reset (fun t => t.fget F.GLB.EPOCH_STS.REFUSE == 3) = true := by decide +kernel

/-- Table 2-5: a running tick and a drained old epoch accept the swap. -/
theorem test_epoch_request_is_accepted :
    after (.epochReq .mgmt 1) (ticking 9) (fun t => t.fget F.GLB.EPOCH_STS.PENDING == 1) = true := by decide +kernel

/-- Table 4-2: CAL is refused in INIT with CMD_RES 1, and CLEAR takes FAILED (6) to OUT (3). -/
theorem test_ring_commands :
    (after (.ringCal 8) State.reset (fun t => t.fget F.RING.RING_STS.CMD_RES 8 == 1) &&
      after (.ringClear 8) (State.reset.fset F.RING.RING_STS.STATE 6 8) (fun t => t.ringState 8 == 3)) = true := by
  decide +kernel

/-- Table 15-2: DOZE is refused with ENGINE (1) while the sector's engine is IN_SVC or LEAVING. -/
theorem test_doze_is_refused_with_the_engine_in_service :
    after (.psTargetDoze 7 0) (State.reset.fset F.ENG.ENG_STS.STATE 1 7) (fun t =>
      t.fget F.PWR.PS_STS.RES 7 == 1 && t.pwrPhase 7 == 0) = true := by decide +kernel

/-- Table 12-7: OPEN of a FREE slice is refused with WRONG_STATE (1). -/
theorem test_open_of_a_free_slice :
    after (.sliceOpen 4095) State.reset (fun t => t.fget F.SLICE.MSTS.RES 4095 == 1) = true := by decide +kernel

/-- R428: a write of CNT_HI sets all 48 bits, so CNT_LO takes what was last written to it. -/
theorem test_cnt_hi_write_sets_the_high_half :
    after (.cntHiWrite .ring 8 7 0x1ABCD) State.reset (fun t => t.fget (F.CB.CNT_HI .ring) 8 7 == 0xABCD) = true := by
  decide +kernel

/-- Table 18-2: after its reset a core without an image waits for one (1); one whose self-check fails is FAILED (5). -/
theorem test_core_leaves_reset :
    (let s : State := { State.reset with boot := { State.reset.boot with inReset := false } }
     after (.coreResetExit 1 true) s (fun t => t.coreState 1 == 1) && after (.coreResetExit 1 false) s (fun t => t.coreState 1 == 5))
      = true := by decide +kernel

/-- R462: a core stop cannot be isolated; the write is refused with 1. -/
theorem test_a_core_stop_is_not_isolated :
    after (.isolate 0 56) State.reset (fun t => t.fget F.GLB.ISO_STS.RES == 1 && !t.isolated 56) = true := by decide +kernel

/-- Table 10-6: FAIL takes an ONLINE channel to LOST (1). -/
theorem test_channel_fail_command :
    after (.chCmdFail 7 1) State.reset (fun t => t.fget F.MEM.CH_STS.STATE 7 == 1) = true := by decide +kernel

/-- R129: a message with a wrong CHECK has no effect but the count of the stop. -/
theorem test_a_bad_message_is_counted :
    after (.credit 5 1) State.reset (fun t => t.fget F.STOP.MSG_ERR_CNT 5 == 1 && t.resv == State.reset.resv) = true := by
  decide +kernel

/-- The front of the queue runs first, and a command put in front stands before the others. -/
theorem test_the_front_command_runs_first :
    (match step { State.reset with pending := [.ringCal 0, .ringCal 1] } with
     | .next t => t.pending == [.ringCal 1] && t.fget F.RING.RING_STS.CMD_RES 0 == 1 && t.fget F.RING.RING_STS.CMD_RES 1 == 0
     | .fault _ | .refused _ => false) = true := by decide +kernel

/-! ### Hypotheses of the general statements are met -/

theorem met_MessagesWithABadCheckAreDropped :
    (∃ c n m, messageOf c = some (n, m) ∧ msgOk m = false ∧ n < 60) ∧ (∃ c n m, messageOf c = some (n, m) ∧ msgOk m = false ∧ 60 ≤ n) :=
  ⟨⟨.credit 59 1, 59, 1, by decide +kernel⟩, ⟨.regRd 60 1, 60, 1, by decide +kernel⟩⟩

theorem met_EveryStepKeepsTheInvariant : ∃ s t : State, (s.RegsOk ∧ s.QueueOk) ∧ step s = .next t :=
  ⟨State.reset.fset F.RING.RING_STS.STATE 3 8, _, ⟨(by decide +kernel : twf 0 (State.reset.fset F.RING.RING_STS.STATE 3 8).regs = true), nofun⟩, rfl⟩

theorem met_EmptyQueueStepIsOneCycle : ∃ s : State, s.pending = [] := ⟨State.reset, rfl⟩

theorem met_OnlyBoundariesChangeNodeCounts : ∃ (c : Instr) (s t : State) (n : Nat), exec c s = .next t ∧ c ≠ .coldReset
    ∧ (∀ u b, c ≠ .localTickBoundary ⟨n % 64, Nat.mod_lt _ (by decide)⟩ u b) ∧ n < 64 :=
  ⟨.pbUpdate, State.reset, _, 63, rfl, nofun, nofun, by decide⟩

theorem met_SpineCommandsChangeOnlyTheirPart : ∃ c s t, areaOf c = .spine ∧ exec c s = .next t := ⟨.coldReset, State.reset, _, rfl, rfl⟩
theorem met_PortCommandsChangeOnlyTheirPart : ∃ c s t, areaOf c = .port ∧ exec c s = .next t := ⟨.pause 0 0, State.reset, _, rfl, rfl⟩
theorem met_EngineAndRegisterCommandsChangeOnlyTheirPart : ∃ c s t, areaOf c = .engine ∧ exec c s = .next t :=
  ⟨.engClear 0 0, State.reset, _, rfl, rfl⟩
theorem met_ManagerCommandsChangeOnlyTheirPart : ∃ c s t, areaOf c = .manager ∧ exec c s = .next t := ⟨.governorInterval, State.reset, _, rfl, rfl⟩

end Sys2Proof.Tests
end

