-- ==== Sys2Proof/Tests/Met1.lean ====
section
/-! SUPPORT. For each clause of the statements ResetsAndCoresTakeTheirStates to ReservationMessagesMoveCreditsAndFloors, a concrete state and operands that
meet its hypotheses together: one theorem for a statement, one conjunct for a clause with hypotheses. -/

open Sys2Proof Sys2Proof.Machine

namespace Sys2Proof.Tests

set_option maxRecDepth 100000
set_option Elab.async false
set_option linter.unusedVariables false

theorem met_ResetsAndCoresTakeTheirStates :
    (∃ (s : State), s.boot.rstAt = 0)
    ∧ (∃ (s : State), s.boot.rstAt ≠ 0 ∧ s.boot.inReset = false ∧ atOrAfter 48 (s.nodeTick 60) (s.boot.rstAt - 1) = true)
    ∧ (∃ (s : State), s.boot.inReset = true ∧ atOrAfter 48 (s.nodeTick 60) (wrapAdd 48 (s.boot.rstAt - 1) 2) = true)
    ∧ (∃ (m : Msg), msgOk m = true)
    ∧ (∃ (c : Fin 2) (s : State), s.boot.inReset = false ∧ s.coreState c = 0)
    ∧ (∃ (c : Fin 2) (s : State), s.coreState c ≠ 4)
    ∧ (∃ (c : Fin 2) (s : State), s.coreState c = 4)
    ∧ (∃ (c : Fin 2) (s : State), (s.coreState c = 3 ∨ s.coreState c = 4) ∧ s.fget F.CTL.CORE_CTL.HB_LIM ≤ tget 0
      s.boot.hbMiss c) :=
  ⟨ex1 (
      let s : State := State.reset
      let s : State := { s with boot := { s.boot with rstAt := 0 } }
      s) (by decide +kernel),
   ex1 (
      let s : State := State.reset
      let s : State := { s with boot := { s.boot with rstAt := (0) + 1 } }
      let s : State := { s with boot := { s.boot with inReset := false } }
      let s : State := setTick s (60) (if true then ((s.boot.rstAt - 1)) else ((s.boot.rstAt - 1)) + 2 ^ 48 - 1)
      s) (by decide +kernel),
   ex1 (
      let s : State := State.reset
      let s : State := { s with boot := { s.boot with inReset := true } }
      let s : State := setTick s (60) (if true then ((wrapAdd 48 (s.boot.rstAt - 1) 2)) else ((wrapAdd 48 (s.boot.rstAt - 1)
        2)) + 2 ^ 48 - 1)
      s) (by decide +kernel),
   ex1 (
      let m : Msg := 0
      m) (by decide +kernel),
   ex2 (
      let c : Fin 2 := 1
      let s : State := State.reset
      let s : State := { s with boot := { s.boot with inReset := false } }
      let s : State := s.fset (coreFld (c)) (0)
      (c, s)) (by decide +kernel),
   ex2 (
      let c : Fin 2 := 1
      let s : State := State.reset
      let s : State := s.fset (coreFld (c)) ((4) + 1)
      (c, s)) (by decide +kernel),
   ex2 (
      let c : Fin 2 := 1
      let s : State := State.reset
      let s : State := s.fset (coreFld (c)) (4)
      (c, s)) (by decide +kernel),
   ex2 (
      let c : Fin 2 := 1
      let s : State := State.reset
      let s : State := s.fset (coreFld (c)) (4)
      let s : State := s.fset F.CTL.CORE_CTL.HB_LIM ((tget 0 s.boot.hbMiss c) - 1)
      (c, s)) (by decide +kernel)⟩

theorem met_MailboxAndLoaderCommandsTakeEffect :
    (∃ (m : Fin 2) (w : Word) (s : State) (len : Nat), w.getLsbD 3 = false ∧ s.coreState (vbits w 2 1) = 1 ∧ len = (if vbits
      w 16 10 = 0 then 512 else vbits w 16 10) ∧ 4 * s.fget F.MBOX.MB_OFF.OFF m = tget 0 s.boot.acc (vbits w 2 1) ∧ tget 0
      s.boot.acc (vbits w 2 1) + 4 * len ≤ 1048576)
    ∧ (∃ (w : Word) (s : State), w.getLsbD 0 = false ∧ s.coreState (vbits w 2 1) = 1)
    ∧ (∃ (m : Fin 2) (s : State) (p : MbPost) (rest : List MbPost), s.boot.posts = p :: rest ∧ p.page = m)
    ∧ (∃ (c : Fin 2) (s : State), s.coreState c = 2 ∧ tget 0 s.boot.copying c = 0 ∧ s.boot.posts.any (fun p => p.core ==
      c.val) = false)
    ∧ (∃ (c : Fin 2) (s : State), tget 0 s.boot.copying c = 1) :=
  ⟨ex4 (
      let m : Fin 2 := 1
      let w : Word := 0
      let s : State := State.reset
      let s : State := s.fset F.MBOX.MB_OFF.OFF ((s.fget F.MBOX.MB_OFF.OFF m) % 200000) m
      let s : State := s.fset (coreFld (vbits w 2 1)) 1
      let s : State := { s with boot := { s.boot with acc := tset 0 s.boot.acc (vbits w 2 1) (4 * s.fget F.MBOX.MB_OFF.OFF m) } }
      let len : Nat := (if vbits w 16 10 = 0 then 512 else vbits w 16 10)
      (m, w, s, len)) (by decide +kernel),
   ex2 (
      let w : Word := 0
      let s : State := State.reset
      let s : State := s.fset (coreFld ((vbits w 2 1))) (1)
      (w, s)) (by decide +kernel),
   ex4 (
      let m : Fin 2 := 1
      let s : State := State.reset
      let p : MbPost := { page := 0, core := 0, off := 0, len := 1, last := false }
      let rest : List MbPost := []
      let p : MbPost := { p with page := m }
      let s : State := { s with boot := { s.boot with posts := p :: rest } }
      (m, s, p, rest)) (by decide +kernel),
   ex2 (
      let c : Fin 2 := 1
      let s : State := State.reset
      let s : State := s.fset (coreFld (c)) (2)
      let s : State := { s with boot := { s.boot with copying := tset 0 s.boot.copying c (0) } }
      (c, s)) (by decide +kernel),
   ex2 (
      let c : Fin 2 := 1
      let s : State := State.reset
      let s : State := { s with boot := { s.boot with copying := tset 0 s.boot.copying c (1) } }
      (c, s)) (by decide +kernel)⟩

theorem met_TickGeneratorCommandsTakeEffect :
    (∃ (s : State) (c : Nat), s.fbit F.TICK.TICK_CTL.EN = true ∧ s.fbit F.TICK.TICK_STS.CAL_DONE = true ∧ s.fbit
      F.TICK.TICK_STS.HOLDOVER = false ∧ s.tick.stopped = false ∧ c = wrapAdd 48 s.tick.count 1)
    ∧ (∃ (s : State), s.fbit F.TICK.TICK_CTL.EN = true ∧ s.fbit F.TICK.TICK_STS.CAL_DONE = true ∧ s.fbit
      F.TICK.TICK_STS.REF_OK = true ∧ (s.fbit F.TICK.TICK_STS.HOLDOVER = true ∨ s.tick.stopped = true))
    ∧ (∃ (s : State), s.fbit F.TICK.TICK_CTL.EN = false)
    ∧ (∃ (s : State), s.tick.calBusy = true)
    ∧ (∃ (s : State), s.fbit F.TICK.TICK_CTL.EN = true ∧ s.fbit F.TICK.TICK_STS.CAL_DONE = true ∧ s.fbit
      F.TICK.TICK_STS.HOLDOVER = false ∧ s.tick.stopped = false)
    ∧ (∃ (s : State), s.fbit F.TICK.TICK_CTL.EN = true ∧ s.fbit F.TICK.TICK_STS.HOLDOVER = true)
    ∧ (∃ (s : State), s.fbit F.TICK.TICK_CTL.EN = false) :=
  ⟨ex2 (
      let s : State := State.reset
      let s : State := s.fset F.TICK.TICK_CTL.EN ((b2n (true)))
      let s : State := s.fset F.TICK.TICK_STS.CAL_DONE ((b2n (true)))
      let s : State := s.fset F.TICK.TICK_STS.HOLDOVER ((b2n (false)))
      let s : State := { s with tick := { s.tick with stopped := false } }
      let c : Nat := wrapAdd 48 s.tick.count 1
      (s, c)) (by decide +kernel),
   ex1 (
      let s : State := State.reset
      let s : State := s.fset F.TICK.TICK_CTL.EN ((b2n (true)))
      let s : State := s.fset F.TICK.TICK_STS.CAL_DONE ((b2n (true)))
      let s : State := s.fset F.TICK.TICK_STS.REF_OK ((b2n (true)))
      let s : State := s.fset F.TICK.TICK_STS.HOLDOVER ((b2n (true)))
      s) (by decide +kernel),
   ex1 (
      let s : State := State.reset
      let s : State := s.fset F.TICK.TICK_CTL.EN ((b2n (false)))
      s) (by decide +kernel),
   ex1 (
      let s : State := State.reset
      let s : State := { s with tick := { s.tick with calBusy := true } }
      s) (by decide +kernel),
   ex1 (
      let s : State := State.reset
      let s : State := s.fset F.TICK.TICK_CTL.EN ((b2n (true)))
      let s : State := s.fset F.TICK.TICK_STS.CAL_DONE ((b2n (true)))
      let s : State := s.fset F.TICK.TICK_STS.HOLDOVER ((b2n (false)))
      let s : State := { s with tick := { s.tick with stopped := false } }
      s) (by decide +kernel),
   ex1 (
      let s : State := State.reset
      let s : State := s.fset F.TICK.TICK_CTL.EN ((b2n (true)))
      let s : State := s.fset F.TICK.TICK_STS.HOLDOVER ((b2n (true)))
      s) (by decide +kernel),
   ex1 (
      let s : State := State.reset
      let s : State := s.fset F.TICK.TICK_CTL.EN ((b2n (false)))
      s) (by decide +kernel)⟩

theorem met_MarksMakeNodeBoundaries :
    (∃ (n : Node) (d : Dir) (m : Msg) (s : State), markOk m = true ∧ tget 0 s.tick.nodeDelay (n * 2 + d) ≤ 120 ∧ tget 0
      s.tick.nodeMark n = 0 ∧ vbits m 0 48 ≠ s.nodeTick n)
    ∧ (∃ (m : Msg), markOk m = false)
    ∧ (∃ (n : Node) (s : State), tget 0 s.tick.nodeMark n = 0)
    ∧ (∃ (n : Node) (s : State), tget 0 s.tick.nodeMark n ≠ 0)
    ∧ (∃ (n : Node) (d : Dir) (m : Msg) (s : State), markOk m = true ∧ (120 < tget 0 s.tick.nodeDelay (n * 2 + d) ∨ tget 0
      s.tick.nodeMark n ≠ 0 ∨ vbits m 0 48 = s.nodeTick n)) :=
  ⟨ex4 (
      let n : Node := 63
      let d : Dir := 1
      let m : Msg := 1309140116681261063
      let s : State := State.reset
      let s : State := { s with tick := { s.tick with nodeDelay := tset 0 s.tick.nodeDelay (n * 2 + d) ((120) - 0) } }
      let s : State := { s with tick := { s.tick with nodeMark := tset 0 s.tick.nodeMark n (0) } }
      (n, d, m, s)) (by decide +kernel),
   ex1 (
      let m : Msg := 294
      m) (by decide +kernel),
   ex2 (
      let n : Node := 63
      let s : State := State.reset
      let s : State := { s with tick := { s.tick with nodeMark := tset 0 s.tick.nodeMark n (0) } }
      (n, s)) (by decide +kernel),
   ex2 (
      let n : Node := 63
      let s : State := State.reset
      let s : State := { s with tick := { s.tick with nodeMark := tset 0 s.tick.nodeMark n ((0) + 1) } }
      (n, s)) (by decide +kernel),
   ex4 (
      let n : Node := 63
      let d : Dir := 1
      let m : Msg := 0
      let s : State := State.reset
      let s : State := { s with tick := { s.tick with nodeMark := tset 0 s.tick.nodeMark n ((0) + 1) } }
      (n, d, m, s)) (by decide +kernel)⟩

theorem met_EpochsAndBanksAreSwapped :
    (∃ (w : Word), w.getLsbD 1 = false)
    ∧ (∃ (s : State), s.fbit F.GLB.EPOCH_STS.PENDING = true)
    ∧ (∃ (s : State), s.fbit F.GLB.EPOCH_STS.DRAINED = false ∧ s.censusClean = true)
    ∧ (∃ (s : State), s.fbit F.GLB.EPOCH_STS.INACTIVE_OPEN = true)
    ∧ (∃ (s : State), s.fbit F.GLB.EPOCH_STS.INACTIVE_OPEN = false)
    ∧ (∃ (n : Node) (m : Msg) (s : State) (act : Nat), msgOk m = true ∧ n.val ≤ 60 ∧ act = s.fget F.GLB.EPOCH_STS.ACTIVE ∧
      act < 2)
    ∧ (∃ (m : Msg) (s : State) (seen : BitVec 64), msgOk m = true ∧ seen = s.tick.syncSeen ||| maskOf (msgSrc m)) :=
  ⟨ex1 (
      let w : Word := 0
      w) (by decide +kernel),
   ex1 (
      let s : State := State.reset
      let s : State := s.fset F.GLB.EPOCH_STS.PENDING ((b2n (true)))
      s) (by decide +kernel),
   ex1 (
      let s : State := State.reset
      let s : State := s.fset F.GLB.EPOCH_STS.DRAINED ((b2n (false)))
      let s : State := { s with tick := { s.tick with censusSeen := (List.range 60).map (fun k => (k, 1)) } }
      let s : State := { s with tick := { s.tick with censusTick := 1 } }
      let s : State := (s.fset F.GLB.EPOCH_LAST_LO.LAST_LO 0).fset F.GLB.EPOCH_LAST_HI.LAST_HI 0
      s) (by decide +kernel),
   ex1 (
      let s : State := State.reset
      let s : State := s.fset F.GLB.EPOCH_STS.INACTIVE_OPEN ((b2n (true)))
      s) (by decide +kernel),
   ex1 (
      let s : State := State.reset
      let s : State := s.fset F.GLB.EPOCH_STS.INACTIVE_OPEN ((b2n (false)))
      s) (by decide +kernel),
   ex4 (
      let n : Node := 0
      let m : Msg := 274
      let s : State := State.reset
      let s : State := s.fset F.GLB.EPOCH_STS.ACTIVE ((2) - 1 - 0)
      let act : Nat := s.fget F.GLB.EPOCH_STS.ACTIVE
      (n, m, s, act)) (by decide +kernel),
   ex3 (
      let m : Msg := 0
      let s : State := State.reset
      let seen : BitVec 64 := s.tick.syncSeen ||| maskOf (msgSrc m)
      (m, s, seen)) (by decide +kernel)⟩

theorem met_RingCommandsActOrAreRefused :
    (∃ (r : RingNo) (s : State), s.ringState r = 3 ∧ s.ringAdding r = false)
    ∧ (∃ (r : RingNo) (s : State), s.ringState r = 3 ∧ s.ringAdding r = false ∧ s.fbit F.TICK.TICK_STS.RUNNING = true)
    ∧ (∃ (r : RingNo) (s : State), (s.ringState r = 1 ∨ s.ringState r = 2))
    ∧ (∃ (r : RingNo) (s : State), (s.ringState r = 3 ∨ s.ringState r = 4 ∨ s.ringState r = 5))
    ∧ (∃ (r : RingNo) (s : State), s.ringState r = 6)
    ∧ (∃ (r : RingNo) (s : State), s.ringState r ≠ 3)
    ∧ (∃ (r : RingNo) (s : State), s.ringState r = 3 ∧ s.ringAdding r = true)
    ∧ (∃ (r : RingNo) (s : State), s.ringState r = 3 ∧ s.ringAdding r = false ∧ s.fbit F.TICK.TICK_STS.RUNNING = false)
    ∧ (∃ (r : RingNo) (s : State), (s.ringState r = 0 ∨ s.ringState r = 6))
    ∧ (∃ (r : RingNo) (s : State), s.ringState r ≠ 6) :=
  ⟨ex2 (
      let r : RingNo := 8
      let s : State := State.reset
      let s : State := s.fset F.RING.RING_STS.STATE (3) r
      let s : State := if false then (s.fset F.GLB.RING_SVC.SVC (2 ^ 9 - 1) 0 0 (1 - s.fget F.GLB.EPOCH_STS.ACTIVE)).fset
        F.GLB.RING_SVC.SVC 0 0 0 (s.fget F.GLB.EPOCH_STS.ACTIVE) else s.fset F.GLB.RING_SVC.SVC 0 0 0 (1 - s.fget
        F.GLB.EPOCH_STS.ACTIVE)
      (r, s)) (by decide +kernel),
   ex2 (
      let r : RingNo := 8
      let s : State := State.reset
      let s : State := s.fset F.RING.RING_STS.STATE (3) r
      let s : State := if false then (s.fset F.GLB.RING_SVC.SVC (2 ^ 9 - 1) 0 0 (1 - s.fget F.GLB.EPOCH_STS.ACTIVE)).fset
        F.GLB.RING_SVC.SVC 0 0 0 (s.fget F.GLB.EPOCH_STS.ACTIVE) else s.fset F.GLB.RING_SVC.SVC 0 0 0 (1 - s.fget
        F.GLB.EPOCH_STS.ACTIVE)
      let s : State := s.fset F.TICK.TICK_STS.RUNNING ((b2n (true)))
      (r, s)) (by decide +kernel),
   ex2 (
      let r : RingNo := 8
      let s : State := State.reset
      let s : State := s.fset F.RING.RING_STS.STATE (2) r
      (r, s)) (by decide +kernel),
   ex2 (
      let r : RingNo := 8
      let s : State := State.reset
      let s : State := s.fset F.RING.RING_STS.STATE (5) r
      (r, s)) (by decide +kernel),
   ex2 (
      let r : RingNo := 8
      let s : State := State.reset
      let s : State := s.fset F.RING.RING_STS.STATE (6) r
      (r, s)) (by decide +kernel),
   ex2 (
      let r : RingNo := 8
      let s : State := State.reset
      let s : State := s.fset F.RING.RING_STS.STATE ((3) + 1) r
      (r, s)) (by decide +kernel),
   ex2 (
      let r : RingNo := 8
      let s : State := State.reset
      let s : State := s.fset F.RING.RING_STS.STATE (3) r
      let s : State := if true then (s.fset F.GLB.RING_SVC.SVC (2 ^ 9 - 1) 0 0 (1 - s.fget F.GLB.EPOCH_STS.ACTIVE)).fset
        F.GLB.RING_SVC.SVC 0 0 0 (s.fget F.GLB.EPOCH_STS.ACTIVE) else s.fset F.GLB.RING_SVC.SVC 0 0 0 (1 - s.fget
        F.GLB.EPOCH_STS.ACTIVE)
      (r, s)) (by decide +kernel),
   ex2 (
      let r : RingNo := 8
      let s : State := State.reset
      let s : State := s.fset F.RING.RING_STS.STATE (3) r
      let s : State := if false then (s.fset F.GLB.RING_SVC.SVC (2 ^ 9 - 1) 0 0 (1 - s.fget F.GLB.EPOCH_STS.ACTIVE)).fset
        F.GLB.RING_SVC.SVC 0 0 0 (s.fget F.GLB.EPOCH_STS.ACTIVE) else s.fset F.GLB.RING_SVC.SVC 0 0 0 (1 - s.fget
        F.GLB.EPOCH_STS.ACTIVE)
      let s : State := s.fset F.TICK.TICK_STS.RUNNING ((b2n (false)))
      (r, s)) (by decide +kernel),
   ex2 (
      let r : RingNo := 8
      let s : State := State.reset
      let s : State := s.fset F.RING.RING_STS.STATE (0) r
      (r, s)) (by decide +kernel),
   ex2 (
      let r : RingNo := 8
      let s : State := State.reset
      let s : State := s.fset F.RING.RING_STS.STATE ((6) + 1) r
      (r, s)) (by decide +kernel)⟩

theorem met_RingEventsMoveTheRing :
    (∃ (r : RingNo) (c0 : BitVec 8) (c1 : BitVec 8) (m0 : BitVec 6) (m1 : BitVec 6) (s : State) (ok : Bool), (s.ringState r
      = 0 ∨ s.ringState r = 4) ∧ ok = (c0 == 60 && c1 == 60 && decide (s.fget F.RING.CAL_CTL.MIN_MARGIN r ≤ m0.toNat) &&
      decide (s.fget F.RING.CAL_CTL.MIN_MARGIN r ≤ m1.toNat)))
    ∧ (∃ (r : RingNo) (s : State), s.ringState r = 5 ∧ (tget {} s.spine.test r).waiting = true)
    ∧ (∃ (r : RingNo) (s : State), s.ringState r = 5 ∧ (tget {} s.spine.test r).running = true ∧ tickPast (s.nodeTick 61)
      (tget {} s.spine.test r).start (tget {} s.spine.test r).len = true)
    ∧ (∃ (r : RingNo) (s : State), s.thresholdReached r = true ∧ (s.ringState r = 1 ∨ s.ringState r = 2))
    ∧ (∃ (m : Msg), msgOk m = true)
    ∧ (∃ (n : Node) (r : RingNo) (s : State), tget 0 s.spine.fence (n * 16 + r) ≠ 0 ∧ atOrAfter 48 (s.nodeTick n) (tget 0
      s.spine.fence (n * 16 + r) - 1) = true) :=
  ⟨ex7 (
      let r : RingNo := 8
      let c0 : BitVec 8 := 0
      let c1 : BitVec 8 := 0
      let m0 : BitVec 6 := 0
      let m1 : BitVec 6 := 0
      let s : State := State.reset
      let s : State := s.fset F.RING.RING_STS.STATE (0) r
      let ok : Bool := (c0 == 60 && c1 == 60 && decide (s.fget F.RING.CAL_CTL.MIN_MARGIN r ≤ m0.toNat) && decide (s.fget
        F.RING.CAL_CTL.MIN_MARGIN r ≤ m1.toNat))
      (r, c0, c1, m0, m1, s, ok)) (by decide +kernel),
   ex2 (
      let r : RingNo := 8
      let s : State := State.reset
      let s : State := s.fset F.RING.RING_STS.STATE (5) r
      let s : State := { s with spine := { s.spine with test := tset {} s.spine.test r ({ tget {} s.spine.test r with waiting := true }) } }
      (r, s)) (by decide +kernel),
   ex2 (
      let r : RingNo := 8
      let s : State := State.reset
      let s : State := s.fset F.RING.RING_STS.STATE (5) r
      let s : State := { s with spine := { s.spine with test := tset {} s.spine.test r ({ tget {} s.spine.test r with running := true }) } }
      let s : State := setTick s (61) (if true then ((tget {} s.spine.test r).start) + ((tget {} s.spine.test r).len) else
        ((tget {} s.spine.test r).start) + ((tget {} s.spine.test r).len) + 2 ^ 48 - 1)
      (r, s)) (by decide +kernel),
   ex2 (
      let r : RingNo := 8
      let s : State := State.reset
      let s : State := s.fset F.RING.RING_STS.STATE (2) r
      let s : State := { s with spine := { s.spine with win := tset {} s.spine.win r { start := 0, len := 5, cnt := 2 ^ 32, fired := false } } }
      (r, s)) (by decide +kernel),
   ex1 (
      let m : Msg := 0
      m) (by decide +kernel),
   ex3 (
      let n : Node := 63
      let r : RingNo := 8
      let s : State := State.reset
      let s : State := { s with spine := { s.spine with fence := tset 0 s.spine.fence (n * 16 + r) ((0) + 1) } }
      let s : State := setTick s (n) (if true then ((tget 0 s.spine.fence (n * 16 + r) - 1)) else ((tget 0 s.spine.fence (n
        * 16 + r) - 1)) + 2 ^ 48 - 1)
      (n, r, s)) (by decide +kernel)⟩

theorem met_StationsMoveFlitsAndReturnMisses :
    (∃ (k : Stop) (r : RingNo) (d : Dir) (x : InjReg) (s : State), tget [] s.spine.linkQ (laneKey (upstream k d) r d) = [] ∧
      tget none s.spine.inj (laneKey k r d) = some x ∧ x.wait < 10 ∧ s.isolated k = false)
    ∧ (∃ (k : Stop) (r : RingNo) (d : Dir) (a : Slot) (l : List Slot) (f : Flit) (s : State), tget [] s.spine.linkQ (laneKey
      (upstream k d) r d) = a :: l ∧ decodeWires a.wires = (f, 0, 0) ∧ f.opc ≠ 0 ∧ f.opc ≠ opMAINT ∧ guardOf k r d f = 0 ∧
      s.addressed k r f = true ∧ s.isolated k = false ∧ s.knowsGone k f.src.toNat = false ∧ s.ejectFull k (r * 2 + d) = false)
    ∧ (∃ (k : Stop) (r : RingNo) (d : Dir) (x : InjReg) (s : State), tget none s.spine.inj (laneKey k r d) = some x ∧ 10 ≤
      x.wait ∧ x.flit.opc ≠ opMAINT)
    ∧ (∃ (k : Stop) (r : RingNo) (d : Dir) (f : Flit) (l : List Flit) (s : State), tget [] s.spine.missed (laneKey k r d) =
      f :: l ∧ f.opc ≠ opACK)
    ∧ (∃ (k : Stop) (r : RingNo) (d : Dir) (x : InjReg) (s : State), tget none s.spine.inj (laneKey k r d) = some x ∧ 10 ≤
      x.wait ∧ x.flit.opc = opMAINT)
    ∧ (∃ (k : Stop) (r : RingNo) (d : Dir) (f : Flit) (l : List Flit) (s : State), tget [] s.spine.missed (laneKey k r d) =
      f :: l ∧ f.opc = opACK)
    ∧ (∃ (k : Stop) (u : SlotRec) (l : List SlotRec) (s : State), tget [] s.arb.unset k = u :: l ∧ tget none s.spine.inj
      u.lane = none ∧ tget [] s.spine.xfer u.lane = [] ∧ tget [] s.spine.missed u.lane = [])
    ∧ (∃ (k : Stop) (r : RingNo) (d : Dir) (h : Slot) (s : State), (s.fiUnit 0 (fiRingUnit k r d)).held = some h ∧ s.fiReady
      0 (fiRingUnit k r d) = true)
    ∧ (∃ (k : Stop) (r : RingNo) (d : Dir) (x : InjReg) (s : State), tget none s.spine.inj (laneKey k r d) = some x ∧ 10 ≤
      x.wait) :=
  ⟨ex5 (
      let k : Stop := 59
      let r : RingNo := 8
      let d : Dir := 1
      let s : State := State.reset
      let x : InjReg := { flit := emptyFlit, wait := 0 }
      let s : State := { s with spine := { s.spine with linkQ := tset [] s.spine.linkQ (laneKey (upstream k d) r d) ([]) } }
      let s : State := { s with spine := { s.spine with inj := tset none s.spine.inj (laneKey k r d) (some x) } }
      let s : State := setIso s k (false)
      (k, r, d, x, s)) (by decide +kernel),
   ex7 (
      let k : Stop := 59
      let r : RingNo := 8
      let d : Dir := 1
      let s : State := State.reset
      let a : Slot := { wires := 0, inj := false }
      let l : List Slot := []
      let f : Flit := emptyFlit
      let s : State := { s with spine := { s.spine with linkQ := tset [] s.spine.linkQ (laneKey (upstream k d) r d) (a :: l) } }
      let s : State := setIso s k (false)
      let f : Flit := { f with ring := BitVec.ofNat _ r.val, dir := BitVec.ofNat _ d.val, dst := BitVec.ofNat _ k.val, src := BitVec.ofNat _ ((k.val + 1) % 60), opc := opMWR, rsvd := 0 }
      let f : Flit := { f with crc := e2eCrc f }
      let a : Slot := { a with wires := wireOfFlit f }
      let s : State := { s with spine := { s.spine with linkQ := tset [] s.spine.linkQ (laneKey (upstream k d) r d) (a :: l) } }
      let s : State := s.fset F.STOP.STN_PASS.PASS 0 k 0 f.ep.toNat
      let s : State := { s with iso := { s.iso with known := [] } }
      let s : State := setXb s (stopBridge k 1) true
      let s : State := { s with spine := { s.spine with eject := [] } }
      (k, r, d, a, l, f, s)) (by decide +kernel),
   ex5 (
      let k : Stop := 0
      let r : RingNo := 0
      let d : Dir := 0
      let s : State := State.reset
      let x : InjReg := { flit := emptyFlit, wait := 0 }
      let x : InjReg := { x with wait := (10) + 0 }
      let s : State := { s with spine := { s.spine with inj := tset none s.spine.inj (laneKey k r d) (some x) } }
      (k, r, d, x, s)) (by decide +kernel),
   ex6 (
      let k : Stop := 59
      let r : RingNo := 8
      let d : Dir := 1
      let s : State := State.reset
      let f : Flit := emptyFlit
      let l : List Flit := []
      let s : State := { s with spine := { s.spine with missed := tset [] s.spine.missed (laneKey k r d) (f :: l) } }
      (k, r, d, f, l, s)) (by decide +kernel),
   ex5 (
      let k : Stop := 0
      let r : RingNo := 0
      let d : Dir := 0
      let s : State := State.reset
      let x : InjReg := { flit := emptyFlit, wait := 0 }
      let x : InjReg := { x with wait := (10) + 2 }
      let x : InjReg := { x with flit := { x.flit with opc := opMAINT } }
      let s : State := { s with spine := { s.spine with inj := tset none s.spine.inj (laneKey k r d) (some x) } }
      (k, r, d, x, s)) (by decide +kernel),
   ex6 (
      let k : Stop := 59
      let r : RingNo := 8
      let d : Dir := 1
      let s : State := State.reset
      let f : Flit := emptyFlit
      let l : List Flit := []
      let f : Flit := { f with opc := opACK }
      let s : State := { s with spine := { s.spine with missed := tset [] s.spine.missed (laneKey k r d) (f :: l) } }
      (k, r, d, f, l, s)) (by decide +kernel),
   ex4 (
      let k : Stop := 59
      let s : State := State.reset
      let u : SlotRec := { cls := 0, dst := 0, seq := 0, lane := 0 }
      let l : List SlotRec := []
      let s : State := { s with arb := { s.arb with unset := tset [] s.arb.unset k (u :: l) } }
      let s : State := { s with spine := { s.spine with inj := tset none s.spine.inj u.lane (none) } }
      let s : State := { s with spine := { s.spine with xfer := tset [] s.spine.xfer u.lane ([]) } }
      let s : State := { s with spine := { s.spine with missed := tset [] s.spine.missed u.lane ([]) } }
      (k, u, l, s)) (by decide +kernel),
   ex5 (
      let k : Stop := 59
      let r : RingNo := 8
      let d : Dir := 1
      let s : State := State.reset
      let h : Slot := { wires := 0, inj := false }
      let s : State := { s with spine := { s.spine with fi := tset {} s.spine.fi (fiRingUnit k r d) { held := some h, passed := true, age := 70000 } } }
      (k, r, d, h, s)) (by decide +kernel),
   ex5 (
      let k : Stop := 33
      let r : RingNo := 2
      let d : Dir := 1
      let s : State := State.reset
      let x : InjReg := { flit := emptyFlit, wait := 0 }
      let x : InjReg := { x with wait := (10) + 0 }
      let s : State := { s with spine := { s.spine with inj := tset none s.spine.inj (laneKey k r d) (some x) } }
      (k, r, d, x, s)) (by decide +kernel)⟩

theorem met_HandoverAndServiceCommandsTakeEffect :
    (∃ (w : Word) (s : State) (b : Nat) (at2 : Nat), (s.coreState 0 = 3 ∨ s.coreState 1 = 3) ∧ s.fbit F.CTL.HO_STS.PENDING =
      false ∧ b = wrapAdd 48 (s.nodeTick 63) 2 ∧ at2 = (if w.getLsbD 1 ∧ s.wide F.CTL.HO_AT_LO.AT_LO F.CTL.HO_AT_HI.AT_HI ≠ b
      ∧ atOrAfter 48 (s.wide F.CTL.HO_AT_LO.AT_LO F.CTL.HO_AT_HI.AT_HI) b = true then s.wide F.CTL.HO_AT_LO.AT_LO
      F.CTL.HO_AT_HI.AT_HI else b))
    ∧ (∃ (s : State), s.coreState 0 ≠ 3 ∧ s.coreState 1 ≠ 3)
    ∧ (∃ (s : State), (s.coreState 0 = 3 ∨ s.coreState 1 = 3) ∧ s.fbit F.CTL.HO_STS.PENDING = true)
    ∧ (∃ (s : State) (old : Fin 2), s.fget F.CTL.CORE_STS.ACTIVE = old ∧ s.fbit F.CTL.HO_STS.PENDING = true ∧ s.boot.hoAt ≠
      0 ∧ atOrAfter 48 (s.nodeTick 63) (s.boot.hoAt - 1) = true ∧ s.coreState (1 - old.val) = 3 ∧ s.fl.op = 0)
    ∧ (∃ (s : State), s.fbit F.CTL.HO_STS.PENDING = true ∧ s.boot.hoAt ≠ 0 ∧ atOrAfter 48 (s.nodeTick 63) (s.boot.hoAt - 1)
      = true ∧ s.coreState (1 - s.fget F.CTL.CORE_STS.ACTIVE) ≠ 3)
    ∧ (∃ (m : Msg), msgOk m = true)
    ∧ (∃ (c : Fin 2) (s : State), tget 0 s.boot.settling c = 1 ∧ s.cfgPend c = [] ∧ (s.tagsOf (56 + c)).any (fun e => e.2.st
      == 1 || e.2.st == 2 || e.2.st == 3) = false)
    ∧ (∃ (c : Fin 2) (x : Egr) (rest : List Egr) (a : Nat) (s : State), s.cfgPend c = x :: rest ∧ s.cfgAnswerer c = some a) :=
  ⟨ex4 (
      let w : Word := 0
      let s : State := State.reset
      let s : State := s.fset (coreFld (0)) (3)
      let s : State := s.fset F.CTL.HO_STS.PENDING ((b2n (false)))
      let b : Nat := wrapAdd 48 (s.nodeTick 63) 2
      let at2 : Nat := (if w.getLsbD 1 ∧ s.wide F.CTL.HO_AT_LO.AT_LO F.CTL.HO_AT_HI.AT_HI ≠ b ∧ atOrAfter 48 (s.wide
        F.CTL.HO_AT_LO.AT_LO F.CTL.HO_AT_HI.AT_HI) b = true then s.wide F.CTL.HO_AT_LO.AT_LO F.CTL.HO_AT_HI.AT_HI else b)
      (w, s, b, at2)) (by decide +kernel),
   ex1 (
      let s : State := State.reset
      let s : State := s.fset (coreFld (0)) ((3) + 1)
      let s : State := s.fset (coreFld (1)) ((3) + 1)
      s) (by decide +kernel),
   ex1 (
      let s : State := State.reset
      let s : State := s.fset (coreFld (0)) (3)
      let s : State := s.fset F.CTL.HO_STS.PENDING ((b2n (true)))
      s) (by decide +kernel),
   ex2 (
      let old : Fin 2 := 1
      let s : State := State.reset
      let s : State := s.fset F.CTL.CORE_STS.ACTIVE (old)
      let s : State := s.fset F.CTL.HO_STS.PENDING ((b2n (true)))
      let s : State := { s with boot := { s.boot with hoAt := (0) + 1 } }
      let s : State := setTick s (63) (if true then ((s.boot.hoAt - 1)) else ((s.boot.hoAt - 1)) + 2 ^ 48 - 1)
      let s : State := s.fset (coreFld ((1 - old.val))) (3)
      let s : State := { s with fl := { s.fl with op := 0 } }
      (s, old)) (by decide +kernel),
   ex1 (
      let s : State := State.reset
      let s : State := s.fset F.CTL.HO_STS.PENDING ((b2n (true)))
      let s : State := { s with boot := { s.boot with hoAt := (0) + 1 } }
      let s : State := setTick s (63) (if true then ((s.boot.hoAt - 1)) else ((s.boot.hoAt - 1)) + 2 ^ 48 - 1)
      let s : State := s.fset (coreFld ((1 - s.fget F.CTL.CORE_STS.ACTIVE))) ((3) + 1)
      s) (by decide +kernel),
   ex1 (
      let m : Msg := 0
      m) (by decide +kernel),
   ex2 (
      let c : Fin 2 := 1
      let s : State := State.reset
      let s : State := { s with boot := { s.boot with settling := tset 0 s.boot.settling c (1) } }
      let s : State := { s with boot := { s.boot with cfg := tset [] s.boot.cfg c ([]) } }
      (c, s)) (by decide +kernel),
   ex5 (
      let c : Fin 2 := 1
      let a : Nat := 1
      let s : State := State.reset
      let x : Egr := egr0
      let rest : List Egr := []
      let s : State := { s with boot := { s.boot with cfg := tset [] s.boot.cfg c (x :: rest) } }
      let s : State := s.fset (coreFld c) 4
      (c, x, rest, a, s)) (by decide +kernel)⟩

theorem met_FlitsLandAndCopiesAreRetained :
    (∃ (k : Stop) (l : Fin 19) (e : Ejected) (s : State), s.ejectHead k l = some e ∧ e.flit.opc ≠ opACK)
    ∧ (∃ (k : Stop) (l : Fin 19) (e : Ejected) (s : State) (pk : Nat) (src : Nat) (seq : Nat), s.ejectHead k l = some e ∧
      e.flit.opc ≠ opACK ∧ e.flit.crc = e2eCrc e.flit ∧ e.flit.ackp = 0 ∧ isPortStop k = true ∧ src = e.flit.src.toNat ∧ seq =
      e.flit.seq.toNat ∧ pk = pairKey k src)
    ∧ (∃ (k : Stop) (l : Fin 19) (e : Ejected) (s : State), s.ejectHead k l = some e ∧ e.flit.opc = opACK)
    ∧ (∃ (k : Stop) (src : Stop) (s : State) (l : List Nat), tget [] s.ord.acks (pairKey k src) = l ∧ l ≠ [])
    ∧ (∃ (k : Stop) (d : Stop) (s : State), (s.ret k).any (fun c => expired (s.nodeTick k) d c && c.due == 0) = true)
    ∧ (∃ (k : Stop) (r : RdDone) (rest : List RdDone) (n : Nat) (s : State), tget [] s.ord.rdDone k = r :: rest ∧ r.use =
      .readback n ∧ r.status = 0 ∧ r.flits.any (fun f => f.pois == 1) = false) :=
  ⟨ex4 (
      let k : Stop := 59
      let l : Fin 19 := 18
      let s : State := State.reset
      let e : Ejected := { flit := emptyFlit, inj := false }
      let s : State := { s with spine := { s.spine with eject := tset [] s.spine.eject (k * 32 + l) (match some e with | some x_ => [x_] | none => []) } }
      (k, l, e, s)) (by decide +kernel),
   ex7 (
      let k : Stop := 3
      let l : Fin 19 := 18
      let s : State := State.reset
      let e : Ejected := { flit := emptyFlit, inj := false }
      let e : Ejected := { e with flit := { e.flit with crc := e2eCrc e.flit } }
      let e : Ejected := { e with flit := { e.flit with ackp := 0 } }
      let s : State := { s with spine := { s.spine with eject := tset [] s.spine.eject (k * 32 + l) (match some e with | some x_ => [x_] | none => []) } }
      let src : Nat := e.flit.src.toNat
      let seq : Nat := e.flit.seq.toNat
      let pk : Nat := pairKey k src
      (k, l, e, s, pk, src, seq)) (by decide +kernel),
   ex4 (
      let k : Stop := 59
      let l : Fin 19 := 18
      let s : State := State.reset
      let e : Ejected := { flit := emptyFlit, inj := false }
      let e : Ejected := { e with flit := { e.flit with opc := opACK } }
      let s : State := { s with spine := { s.spine with eject := tset [] s.spine.eject (k * 32 + l) (match some e with | some x_ => [x_] | none => []) } }
      (k, l, e, s)) (by decide +kernel),
   ex4 (
      let k : Stop := 59
      let src : Stop := 59
      let s : State := State.reset
      let l : List Nat := []
      let s : State := { s with ord := { s.ord with acks := tset [] s.ord.acks (pairKey k src) (l) } }
      let l : List Nat := [4]
      let s : State := { s with ord := { s.ord with acks := tset [] s.ord.acks (pairKey k src) l } }
      (k, src, s, l)) (by decide +kernel),
   ex3 (
      let k : Stop := 59
      let d : Stop := 59
      let s : State := State.reset
      let c0 : Copy := { flit := emptyFlit, g := 0, cred := 0, link := 0 }
      let c0 : Copy := { c0 with g := 2 }
      let c0 : Copy := { c0 with due := 0, flit := { c0.flit with dst := BitVec.ofNat _ d.val } }
      let s : State := { s with ord := { s.ord with ret := tset [] s.ord.ret k [c0] } }
      let s : State := setTick s k 30
      (k, d, s)) (by decide +kernel),
   ex5 (
      let k : Stop := 59
      let n : Nat := 0
      let s : State := State.reset
      let r : RdDone := { use := .own, hdr := none, flits := [], status := 0 }
      let rest : List RdDone := []
      let r : RdDone := { r with use := .readback n }
      let r : RdDone := { r with status := 0 }
      let s : State := { s with ord := { s.ord with rdDone := tset [] s.ord.rdDone k (r :: rest) } }
      (k, r, rest, n, s)) (by decide +kernel)⟩

theorem met_TagsFollowTheirStates :
    (∃ (k : Stop) (i : Nat) (n : Nat) (src : Nat) (low : Nat) (e : Ejected) (f : Flit) (s : State) (x : TagRec), isPortStop
      k = true ∧ s.cplLane k = some i ∧ s.ejectHead k i = some e ∧ f = e.flit ∧ n = f.tag.toNat ∧ x = s.tag k n ∧ src =
      f.src.toNat ∧ low = tget 0 s.ord.low (pairKey k src) ∧ f.crc = e2eCrc f ∧ f.ackp = 0 ∧ s.landedNum k src f.seq.toNat =
      false ∧ wrapSub 16 f.seq.toNat low < 4096)
    ∧ (∃ (k : Stop) (n : TagNo) (s : State), (s.tag k n).st = 1 ∧ tickPast (s.nodeTick k) (s.tag k n).deadline 1 = true)
    ∧ (∃ (k : Stop) (n : TagNo) (s : State), (s.tag k n).st = 3 ∧ tickPast (s.nodeTick k) (s.tag k n).expAt 1 = true)
    ∧ (∃ (k : Stop) (n : TagNo) (s : State), (s.tag k n).st = 4 ∧ tickPast (s.nodeTick k) (s.tag k n).o (s.eff k 16) = true
      ∧ tickPast (s.nodeTick k) (s.tag k n).expAt 1 = true ∧ (s.tag k n).owes = 0) :=
  ⟨ex9 (
      let k : Stop := 3
      let i : Nat := 2
      let s : State := State.reset
      let e : Ejected := { flit := emptyFlit, inj := false }
      let z7_ : TagRec := {}
      let s : State := { s with spine := { s.spine with eject := tset [] s.spine.eject (k * 32 + i) (match some e with | some x_ => [x_] | none => []) } }
      let e : Ejected := { e with flit := { e.flit with opc := if 2 == 0 then opCPL else opCPLD, tag := BitVec.ofNat _ 28, ackp := 0, seq := if 0 == 7 then e.flit.seq else BitVec.ofNat _ (tget 0 s.ord.low (pairKey k e.flit.src.toNat) + 0 / 4), fidx := if 2 == 1 then e.flit.fidx else 0, last := if 1 == 0 then 0 else 1, sgen := if 14 == 0 then e.flit.sgen else BitVec.ofNat _ (tget 0 s.ord.gen (k * 4096 + e.flit.slice.toNat)) } }
      let e : Ejected := { e with flit := { e.flit with crc := e2eCrc e.flit } }
      let s : State := { s with spine := { s.spine with eject := tset [] [] (k * 32 + i) [e] } }
      let s : State := { s with ord := { s.ord with seen := [], wait := if 0 < 6 then [] else s.ord.wait, tags := tset {} s.ord.tags (k * 8192 + 28) { z7_ with st := if 1 == 0 then 1 else 1, use := .tlp, entries := 3, taken := if 1 == 1 then 3 else 1 } } }
      let f : Flit := e.flit
      let n : Nat := f.tag.toNat
      let x : TagRec := s.tag k n
      let src : Nat := f.src.toNat
      let low : Nat := tget 0 s.ord.low (pairKey k src)
      (k, i, n, src, low, e, f, s, x)) (by decide +kernel),
   ex3 (
      let k : Stop := 59
      let n : TagNo := 4095
      let s : State := State.reset
      let s : State := { s with ord := { s.ord with tags := tset {} s.ord.tags (k * 8192 + n) ({ s.tag k n with st := 1 }) } }
      let s : State := setTick s (k) (if true then ((s.tag k n).deadline) + (1) else ((s.tag k n).deadline) + (1) + 2 ^ 48 - 1)
      (k, n, s)) (by decide +kernel),
   ex3 (
      let k : Stop := 59
      let n : TagNo := 4095
      let s : State := State.reset
      let s : State := { s with ord := { s.ord with tags := tset {} s.ord.tags (k * 8192 + n) ({ s.tag k n with st := 3 }) } }
      let s : State := setTick s (k) (if true then ((s.tag k n).expAt) + (1) else ((s.tag k n).expAt) + (1) + 2 ^ 48 - 1)
      (k, n, s)) (by decide +kernel),
   ex3 (
      let k : Stop := 59
      let n : TagNo := 4095
      let s : State := State.reset
      let s : State := { s with ord := { s.ord with tags := tset {} s.ord.tags (k * 8192 + n) ({ s.tag k n with st := 4 }) } }
      let s : State := setTick s (k) (if true then ((s.tag k n).o) + ((s.eff k 16)) else ((s.tag k n).o) + ((s.eff k 16)) +
        2 ^ 48 - 1)
      let s : State := setTick s (k) (if true then ((s.tag k n).expAt) + (1) else ((s.tag k n).expAt) + (1) + 2 ^ 48 - 1)
      let s : State := { s with ord := { s.ord with tags := tset {} s.ord.tags (k * 8192 + n) ({ s.tag k n with owes := 0 }) } }
      let s : State := s.fset F.STOP.QUAR 0 k
      let s : State := setTick s k ((s.tag k n).o % 2 ^ 20 + 2)
      let s : State := { s with ord := { s.ord with tags := tset {} s.ord.tags (k * 8192 + n) { s.tag k n with o := (s.tag k n).o % 2 ^ 20, expAt := (s.tag k n).o % 2 ^ 20 } } }
      let s : State := { s with port := { s.port with eff := tset 0 s.port.eff (k * 32 + 16) 1 } }
      (k, n, s)) (by decide +kernel)⟩

theorem met_ArbiterCommandsMoveFlits :
    (∃ (k : Stop) (r : FormReq) (rest : List FormReq) (s : State), s.formQ k = r :: rest ∧ s.formBlock k r = 0)
    ∧ (∃ (k : Stop) (r : FormReq) (s : State), s.formQ k = [r] ∧ s.formBlock k r = 1 ∧ r.held1 = false)
    ∧ (∃ (k : Stop) (s : State), s.stopRuns k = true ∧ tget none s.arb.burst k = none ∧ tget 0 s.arb.decided k = 0)
    ∧ (∃ (k : Stop) (s : State) (b : Burst) (f : Flit) (rest : List Flit), s.stopRuns k = true ∧ tget none s.arb.burst k =
      some b ∧ b.first = false ∧ b.flits = f :: rest ∧ b.self = false)
    ∧ (∃ (k : Stop) (s : State), s.stopRuns k = false ∧ k.val ≠ 58)
    ∧ (∃ (k : Stop) (s : State) (b : Burst) (f : Flit) (rest : List Flit), s.stopRuns k = true ∧ tget none s.arb.burst k =
      some b ∧ b.first = true ∧ b.flits = f :: rest ∧ b.self = false)
    ∧ (∃ (k : Stop) (r : RingNo) (d : Dir) (f : Flit) (rest : List Flit) (s : State), s.isolated k = false ∧ tget none
      s.spine.inj (laneKey k r d) = none ∧ tget [] s.spine.xfer (laneKey k r d) = f :: rest)
    ∧ (∃ (k : Stop) (s : State), s.stopRuns k = true)
    ∧ (∃ (k : Stop) (s : State), s.stopRuns k = false) :=
  ⟨ex4 (
      let k : Stop := 59
      let s : State := State.reset
      let r : FormReq := { hdr := emptyFlit }
      let rest : List FormReq := []
      let s : State := { s with ord := { s.ord with formQ := tset [] s.ord.formQ k (r :: rest) } }
      (k, r, rest, s)) (by decide +kernel),
   ex3 (
      let k : Stop := 59
      let s : State := State.reset
      let r : FormReq := { hdr := emptyFlit }
      let s : State := { s with ord := { s.ord with formQ := tset [] s.ord.formQ k ([r]) } }
      let r : FormReq := { r with held1 := false }
      let r : FormReq := { r with hdr := { r.hdr with opc := opMWR } }
      let s : State := { s with ord := { s.ord with formQ := tset [] s.ord.formQ k [r] } }
      let s : State := s.fset F.STOP.ROUTE.EN 0 k r.ldst (s.bankAt k)
      (k, r, s)) (by decide +kernel),
   ex2 (
      let k : Stop := 59
      let s : State := State.reset
      let s : State := setRuns s k (true)
      let s : State := { s with arb := { s.arb with burst := tset none s.arb.burst k (none) } }
      let s : State := { s with arb := { s.arb with decided := tset 0 s.arb.decided k (0) } }
      (k, s)) (by decide +kernel),
   ex5 (
      let k : Stop := 59
      let s : State := State.reset
      let b : Burst := { kind := 0, rq := 0, flits := [], ring := 0, dir := 0, g := 0 }
      let f : Flit := emptyFlit
      let rest : List Flit := []
      let b : Burst := { b with first := false }
      let b : Burst := { b with flits := f :: rest }
      let b : Burst := { b with self := false }
      let s : State := setRuns s k (true)
      let s : State := { s with arb := { s.arb with burst := tset none s.arb.burst k (some b) } }
      (k, s, b, f, rest)) (by decide +kernel),
   ex2 (
      let k : Stop := 59
      let s : State := State.reset
      let s : State := setRuns s k (false)
      (k, s)) (by decide +kernel),
   ex5 (
      let k : Stop := 59
      let s : State := State.reset
      let b : Burst := { kind := 0, rq := 0, flits := [], ring := 0, dir := 0, g := 0 }
      let f : Flit := emptyFlit
      let rest : List Flit := []
      let b : Burst := { b with first := true }
      let b : Burst := { b with flits := f :: rest }
      let b : Burst := { b with self := false }
      let s : State := setRuns s k (true)
      let s : State := { s with arb := { s.arb with burst := tset none s.arb.burst k (some b) } }
      (k, s, b, f, rest)) (by decide +kernel),
   ex6 (
      let k : Stop := 59
      let r : RingNo := 8
      let d : Dir := 1
      let s : State := State.reset
      let f : Flit := emptyFlit
      let rest : List Flit := []
      let s : State := setIso s k (false)
      let s : State := { s with spine := { s.spine with inj := tset none s.spine.inj (laneKey k r d) (none) } }
      let s : State := { s with spine := { s.spine with xfer := tset [] s.spine.xfer (laneKey k r d) (f :: rest) } }
      (k, r, d, f, rest, s)) (by decide +kernel),
   ex2 (
      let k : Stop := 59
      let s : State := State.reset
      let s : State := setRuns s k (true)
      (k, s)) (by decide +kernel),
   ex2 (
      let k : Stop := 59
      let s : State := State.reset
      let s : State := setRuns s k (false)
      (k, s)) (by decide +kernel)⟩

theorem met_ReservationMessagesMoveCreditsAndFloors :
    (∃ (m : Msg), msgOk m = true)
    ∧ (∃ (n : Stop) (m : Msg) (s : State) (x : Charge), msgOk m = true ∧ x = s.charge n (msgSrc m) (vbits m 46 2))
    ∧ (∃ (d : Stop) (c : Nat) (r : PendReq) (rest : List PendReq) (s : State), s.fbit F.STOP.POOL_STS.CLOSING d = false ∧
      s.stopRuns d = true ∧ (s.grantOrder d).find? (fun c => s.grantFits d c) = some c ∧ s.pendQ d c = r :: rest)
    ∧ (∃ (d : Stop) (s : State), (s.fbit F.STOP.POOL_STS.CLOSING d = true ∨ s.stopRuns d = false))
    ∧ (∃ (n : Stop) (m : Msg) (s : State) (x : Credit) (o : ReqOut), msgOk m = true ∧ x = s.credit n (msgSrc m) (vbits m 46
      2) ∧ x.out = some o ∧ o.rid = vbits m 32 8)
    ∧ (∃ (n : Stop) (m : Msg) (s : State), msgOk m = true ∧ (∀ o, (s.credit n (msgSrc m) (vbits m 46 2)).out = some o →
      o.rid ≠ vbits m 32 8))
    ∧ (∃ (k : Stop) (d : Stop) (c : Fin 4) (s : State) (o : ReqOut), (s.credit k d c).out = some o ∧ s.fbit
      F.STOP.RES_CFG.FLOOR_ONLY k = true)
    ∧ (∃ (k : Stop) (d : Stop) (c : Fin 4) (s : State) (o : ReqOut), (s.credit k d c).out = some o ∧ s.fbit
      F.STOP.RES_CFG.FLOOR_ONLY k = false ∧ tickPast (s.nodeTick k) o.g (max 1 (s.fget F.STOP.RES_CFG.REQ_TO k) + 1) = true)
    ∧ (∃ (m : Msg), msgOk m = true)
    ∧ (∃ (m : Msg) (c : Nat) (p : Nat) (a : Nat), msgOk m = true ∧ c = vbits m 46 2 ∧ p = vbits m 39 7 ∧ a = vbits m 32 7)
    ∧ (∃ (m : Msg), msgOk m = true)
    ∧ (∃ (m : Msg), msgOk m = true) :=
  ⟨ex1 (
      let m : Msg := 0
      m) (by decide +kernel),
   ex4 (
      let n : Stop := 59
      let m : Msg := 0
      let s : State := State.reset
      let x : Charge := s.charge n (msgSrc m) (vbits m 46 2)
      (n, m, s, x)) (by decide +kernel),
   ex5 (
      let d : Stop := 59
      let c : Nat := 0
      let s : State := State.reset
      let r : PendReq := { src := 0, count := 1, np := false, rid := 0 }
      let rest : List PendReq := []
      let s : State := s.fset F.STOP.POOL_STS.CLOSING ((b2n (false))) d
      let s : State := setRuns s d (true)
      let s : State := { s with resv := { s.resv with pendQ := tset [] s.resv.pendQ (d * 4 + c) (r :: rest) } }
      (d, c, r, rest, s)) (by decide +kernel),
   ex2 (
      let d : Stop := 59
      let s : State := State.reset
      let s : State := setRuns s d (false)
      (d, s)) (by decide +kernel),
   ex5 (
      let n : Stop := 59
      let m : Msg := 0
      let s : State := State.reset
      let o : ReqOut := { rid := 0, count := 0, np := false, g := 0, sent := 0 }
      let s : State := { s with resv := { s.resv with credit := tset {} s.resv.credit (pairCls n (msgSrc m) (vbits m 46 2)) ({ s.credit n (msgSrc m) (vbits m 46 2) with out := some o }) } }
      let o : ReqOut := { o with rid := vbits m 32 8 }
      let x : Credit := s.credit n (msgSrc m) (vbits m 46 2)
      (n, m, s, x, o)) (by decide +kernel),
   ex3 (
      let n : Stop := 59
      let m : Msg := 0
      let s : State := State.reset
      (n, m, s)) (by decide +kernel),
   ex5 (
      let k : Stop := 59
      let d : Stop := 59
      let c : Fin 4 := 3
      let s : State := State.reset
      let o : ReqOut := { rid := 0, count := 0, np := false, g := 0, sent := 0 }
      let s : State := { s with resv := { s.resv with credit := tset {} s.resv.credit (pairCls k d c) ({ s.credit k d c with out := some o }) } }
      let s : State := s.fset F.STOP.RES_CFG.FLOOR_ONLY ((b2n (true))) k
      (k, d, c, s, o)) (by decide +kernel),
   ex5 (
      let k : Stop := 59
      let d : Stop := 59
      let c : Fin 4 := 3
      let s : State := State.reset
      let o : ReqOut := { rid := 0, count := 0, np := false, g := 0, sent := 0 }
      let s : State := { s with resv := { s.resv with credit := tset {} s.resv.credit (pairCls k d c) ({ s.credit k d c with out := some o }) } }
      let s : State := s.fset F.STOP.RES_CFG.FLOOR_ONLY ((b2n (false))) k
      let s : State := setTick s (k) (if true then (o.g) + ((max 1 (s.fget F.STOP.RES_CFG.REQ_TO k) + 1)) else (o.g) + ((max
        1 (s.fget F.STOP.RES_CFG.REQ_TO k) + 1)) + 2 ^ 48 - 1)
      (k, d, c, s, o)) (by decide +kernel),
   ex1 (
      let m : Msg := 0
      m) (by decide +kernel),
   ex4 (
      let m : Msg := 0
      let c : Nat := vbits m 46 2
      let p : Nat := vbits m 39 7
      let a : Nat := vbits m 32 7
      (m, c, p, a)) (by decide +kernel),
   ex1 (
      let m : Msg := 0
      m) (by decide +kernel),
   ex1 (
      let m : Msg := 0
      m) (by decide +kernel)⟩

end Sys2Proof.Tests
end

