-- ==== Sys2Proof/Tests/Met2.lean ====
section
/-! SUPPORT. For each clause of the statements RegisterMessagesAreAnswered to LinkEventsFollowTheirTable, a concrete state and operands that
meet its hypotheses together: one theorem for a statement, one conjunct for a clause with hypotheses. -/

open Sys2Proof Sys2Proof.Machine

namespace Sys2Proof.Tests

set_option maxRecDepth 100000
set_option Elab.async false
set_option linter.unusedVariables false

theorem met_RegisterMessagesAreAnswered :
    (∃ (m : Msg), msgOk m = true)
    ∧ (∃ (n : Node) (m : Msg) (c : Cls) (i : Nat), msgOk m = true ∧ pageAt (msgOff m) = some (c, i) ∧ ownerNode c i = n)
    ∧ (∃ (n : Node) (m : Msg), msgOk m = true ∧ ownsOff n (msgOff m) = false)
    ∧ (∃ (n : Node) (m : Msg) (s : State), msgOk m = true ∧ s.net.halves.find? (fun h => h.sameAs n m false) = none)
    ∧ (∃ (n : Node) (m : Msg) (s : State), msgOk m = true ∧ s.net.halves.find? (fun h => h.sameAs n m true) = none)
    ∧ (∃ (n : Node) (m : Msg) (s : State) (h : Half), msgOk m = true ∧ s.net.halves.find? (fun h => h.sameAs n m false) =
      some h)
    ∧ (∃ (n : Node) (m : Msg) (a : Msg) (s : State) (h : Half), msgOk m = true ∧ s.net.halves.find? (fun h => h.sameAs n m
      true) = some h ∧ a = BitVec.ofNat 64 h.body)
    ∧ (∃ (n : Node) (s : State) (h : Half), s.net.halves.find? (fun h => h.owner == n.val && decide (h.since + 256 ≤
      s.cycle)) = some h)
    ∧ (∃ (n : Node) (s : State), s.net.halves.find? (fun h => h.owner == n.val && decide (h.since + 256 ≤ s.cycle)) = none)
    ∧ (∃ (m : Msg), msgOk m = true)
    ∧ (∃ (s : State), (s.net.accOut.filter (fun y => y.sender == 60)).length < 8 ∧ s.xbReady mgmtBridge = true)
    ∧ (∃ (s : State), (8 ≤ (s.net.accOut.filter (fun y => y.sender == 60)).length ∨ s.xbReady mgmtBridge = false))
    ∧ (∃ (m : Msg) (x : Nat), msgOk m = true ∧ x = vbits m 32 12) :=
  ⟨ex1 (
      let m : Msg := 0
      m) (by decide +kernel),
   ex4 (
      let n : Node := 62
      let m : Msg := 412283306056
      let c : Cls := .slice
      let i : Nat := 4095
      (n, m, c, i)) (by decide +kernel),
   ex2 (
      let n : Node := 63
      let m : Msg := 0
      (n, m)) (by decide +kernel),
   ex3 (
      let n : Node := 63
      let m : Msg := 0
      let s : State := State.reset
      (n, m, s)) (by decide +kernel),
   ex3 (
      let n : Node := 63
      let m : Msg := 0
      let s : State := State.reset
      (n, m, s)) (by decide +kernel),
   ex4 (
      let n : Node := 63
      let m : Msg := 0
      let s : State := State.reset
      let h : Half := { owner := 0, sender := 0, tag := 0, isAddr := false, body := 0 }
      let h : Half := { h with owner := n.val, sender := msgSrc m, tag := msgTag m, isAddr := false }
      let s : State := { s with net := { s.net with halves := [h] } }
      (n, m, s, h)) (by decide +kernel),
   ex5 (
      let n : Node := 63
      let m : Msg := 0
      let s : State := State.reset
      let h : Half := { owner := 0, sender := 0, tag := 0, isAddr := false, body := 0 }
      let h : Half := { h with owner := n.val, sender := msgSrc m, tag := msgTag m, isAddr := true }
      let s : State := { s with net := { s.net with halves := [h] } }
      let a : Msg := BitVec.ofNat 64 h.body
      (n, m, a, s, h)) (by decide +kernel),
   ex3 (
      let n : Node := 63
      let s : State := State.reset
      let h : Half := { owner := 0, sender := 0, tag := 0, isAddr := false, body := 0 }
      let h : Half := { h with owner := n.val }
      let s : State := { s with net := { s.net with halves := [h] } }
      let s : State := { s with cycle := 300 }
      (n, s, h)) (by decide +kernel),
   ex2 (
      let n : Node := 63
      let s : State := State.reset
      (n, s)) (by decide +kernel),
   ex1 (
      let m : Msg := 0
      m) (by decide +kernel),
   ex1 (
      let s : State := State.reset
      let s : State := setXb s mgmtBridge (true)
      s) (by decide +kernel),
   ex1 (
      let s : State := State.reset
      let s : State := setXb s mgmtBridge (false)
      s) (by decide +kernel),
   ex2 (
      let m : Msg := 0
      let x : Nat := vbits m 32 12
      (m, x)) (by decide +kernel)⟩

theorem met_PageAccessesAndReportsTakeEffect :
    (∃ (off : WinOff), pageAt (off.toNat / 4 * 4) = none)
    ∧ (∃ (off : WinOff) (c : Cls) (i : Nat), pageAt (off.toNat / 4 * 4) = some (c, i) ∧ off.toNat / 4 * 4 % 4096 = 0x014)
    ∧ (∃ (off : WinOff) (w : Word) (s : State) (u : State) (c : Cls) (i : Nat) (a : Nat) (h : Nat) (e : Nat) (sel : Nat) (f
      : Fld), pageAt (off.toNat / 4 * 4) = some (c, i) ∧ a = off.toNat / 4 * 4 % 4096 ∧ 0x040 ≤ a ∧ c ≠ .gate ∧ regFields c a
      = [(f, e)] ∧ f.acc = .we ∧ u = s.touch c i ∧ u.fieldHome c i a = some (h, sel) ∧ u.fbit F.GLB.EPOCH_STS.INACTIVE_OPEN =
      true ∧ u.weOk c i a h sel (1 - u.bankAt (ownerNode c i)) w = true)
    ∧ (∃ (off : WinOff) (w : Word) (s : State) (u : State) (c : Cls) (i : Nat) (a : Nat) (h : Nat) (sel : Nat), pageAt
      (off.toNat / 4 * 4) = some (c, i) ∧ a = off.toNat / 4 * 4 % 4096 ∧ 0x040 ≤ a ∧ weReg c a = true ∧ u = s.touch c i ∧
      u.fieldHome c i a = some (h, sel) ∧ (u.fbit F.GLB.EPOCH_STS.INACTIVE_OPEN = false ∨ u.weOk c i a h sel (1 - u.bankAt
      (ownerNode c i)) w = false))
    ∧ (∃ (off : WinOff) (s : State) (c : Cls) (i : Nat) (a : Nat) (v : WeOut), pageAt (off.toNat / 4 * 4) = some (c, i) ∧ a
      = off.toNat / 4 * 4 % 4096 ∧ c ≠ .gate ∧ s.tick.weOut.find? (fun w => w.page == pageNo c i && w.off == a) = some v)
    ∧ (∃ (off : WinOff) (k : Fin 60), pageAt (off.toNat / 4 * 4) = some (Cls.stop, k.val) ∧ off.toNat / 4 * 4 % 4096 =
      0x1CC)
    ∧ (∃ (off : WinOff) (c : Cls) (i : Nat) (a : Nat), pageAt (off.toNat / 4 * 4) = some (c, i) ∧ a = off.toNat / 4 * 4 %
      4096 ∧ lowReg c a = true)
    ∧ (∃ (off : WinOff) (c : Cls) (i : Nat), pageAt (off.toNat / 4096 * 4096 + 0x02C) = some (c, i))
    ∧ (∃ (off : WinOff) (c : Cls) (i : Nat), pageAt (off.toNat / 4096 * 4096 + 0x01C) = some (c, i))
    ∧ (∃ (off : WinOff) (c : Cls) (i : Nat), pageAt (off.toNat / 4096 * 4096 + 0x018) = some (c, i))
    ∧ (∃ (off : WinOff) (c : Cls) (i : Nat), pageAt (off.toNat / 4096 * 4096 + 0x008) = some (c, i))
    ∧ (∃ (off : WinOff) (s : State) (c : Cls) (i : Nat), pageAt off.toNat = some (c, i) ∧ s.fbit (F.HDR.PG_CTL.DRAIN_REQ c)
      i = true ∧ s.tick.weOut.any (fun w => w.page == pageNo c i && w.id + 1 < tget 0 s.net.drain (pageNo c i)) = false ∧
      s.cmdBusy c i = false)
    ∧ (∃ (off : WinOff) (s : State) (c : Cls) (i : Nat), pageAt off.toNat = some (c, i) ∧ (s.fbit (F.HDR.PG_CTL.DRAIN_REQ c)
      i = false ∨ s.cmdBusy c i = true))
    ∧ (∃ (s : State) (x : Nat) (l : List Nat), s.irq.slices = x :: l)
    ∧ (∃ (a : WinOff) (c : Cls) (i : Nat), pageAt a.toNat = some (c, i)) :=
  ⟨ex1 (
      let off : WinOff := 8196
      off) (by decide +kernel),
   ex3 (
      let off : WinOff := 65556
      let c : Cls := .ring
      let i : Nat := 0
      (off, c, i)) (by decide +kernel),
   ex11 (
      let off : WinOff := 1050184
      let w : Word := 0
      let c : Cls := .stop
      let i : Nat := 0
      let h : Nat := 0
      let e : Nat := 0
      let sel : Nat := 0
      let s : State := State.reset
      let x_ := (regFields c (off.toNat / 4 * 4 % 4096)).headD (F.GLB.SNAP.REQ, 0)
      let f : Fld := x_.1
      let s : State := s.fset F.GLB.EPOCH_STS.INACTIVE_OPEN 1
      let a : Nat := off.toNat / 4 * 4 % 4096
      let u : State := s.touch c i
      (off, w, s, u, c, i, a, h, e, sel, f)) (by decide +kernel),
   ex9 (
      let off : WinOff := 1050188
      let w : Word := 0
      let c : Cls := .stop
      let i : Nat := 0
      let h : Nat := 0
      let sel : Nat := 0
      let s : State := State.reset
      let s : State := s.fset F.GLB.EPOCH_STS.INACTIVE_OPEN 0
      let a : Nat := off.toNat / 4 * 4 % 4096
      let u : State := s.touch c i
      (off, w, s, u, c, i, a, h, sel)) (by decide +kernel),
   ex6 (
      let off : WinOff := 33554696
      let c : Cls := .slice
      let i : Nat := 0
      let s : State := State.reset
      let v : WeOut := { id := 0, page := 0, off := 0, path := .mgmt }
      let v : WeOut := { v with page := pageNo c i, off := off.toNat / 4 * 4 % 4096 }
      let s : State := { s with tick := { s.tick with weOut := [v] } }
      let a : Nat := off.toNat / 4 * 4 % 4096
      (off, s, c, i, a, v)) (by decide +kernel),
   ex2 (
      let off : WinOff := 2015692
      let k : Fin 60 := 59
      (off, k)) (by decide +kernel),
   ex4 (
      let off : WinOff := 1049764
      let c : Cls := .stop
      let i : Nat := 0
      let a : Nat := off.toNat / 4 * 4 % 4096
      (off, c, i, a)) (by decide +kernel),
   ex3 (
      let off : WinOff := 1052672
      let c : Cls := .arb
      let i : Nat := 0
      (off, c, i)) (by decide +kernel),
   ex3 (
      let off : WinOff := 2097152
      let c : Cls := .eng
      let i : Nat := 0
      (off, c, i)) (by decide +kernel),
   ex3 (
      let off : WinOff := 0
      let c : Cls := .glb
      let i : Nat := 0
      (off, c, i)) (by decide +kernel),
   ex3 (
      let off : WinOff := 33554432
      let c : Cls := .slice
      let i : Nat := 0
      (off, c, i)) (by decide +kernel),
   ex4 (
      let off : WinOff := 2015232
      let c : Cls := .stop
      let i : Nat := 59
      let s : State := State.reset
      let s : State := s.fset (F.HDR.PG_CTL.DRAIN_REQ c) 1 i
      let s : State := { s with tick := { s.tick with weOut := [] } }
      (off, s, c, i)) (by decide +kernel),
   ex4 (
      let off : WinOff := 1060864
      let c : Cls := .pmu
      let i : Nat := 0
      let s : State := State.reset
      let s : State := s.fset (F.HDR.PG_CTL.DRAIN_REQ c) 0 i
      (off, s, c, i)) (by decide +kernel),
   ex3 (
      let x : Nat := 0
      let s : State := State.reset
      let l : List Nat := []
      let s : State := { s with irq := { s.irq with slices := x :: l } }
      (s, x, l)) (by decide +kernel),
   ex3 (
      let a : WinOff := 0
      let c : Cls := .glb
      let i : Nat := 0
      (a, c, i)) (by decide +kernel)⟩

theorem met_MetersAndGatesFollowTheirRules :
    (∃ (k : Stop) (rq : Fin 16384) (s : State) (i : Nat) (h : FTxn), headIdx (s.queue k) rq = some i ∧ (s.queue k)[i]? =
      some h ∧ h.colour = 3 ∧ s.metered k h = false)
    ∧ (∃ (k : Stop) (rq : Fin 16384) (s : State) (i : Nat) (h : FTxn) (x : Nat) (m : Nat) (bank : Nat) (r : Nat × Meter)
      (pre : Bool), headIdx (s.queue k) rq = some i ∧ (s.queue k)[i]? = some h ∧ h.colour = 3 ∧ s.metered k h = true ∧ x =
      sectorOf k ∧ m = s.boundTo x h.rq - 1 ∧ bank = s.bankAt k ∧ pre = (s.fbit F.STOP.METER_MODE.AWARE (meterPage x) 0 bank m
      && nbit (s.fget F.STOP.METER_MODE.TC_YEL (meterPage x) 0 bank m) (nbits h.head.be.toNat 11 3)) ∧ r = colour (access
      (s.meter (2048 * x + m)) (s.nodeTick k) s.epochLast (s.meterRates x m bank)) (chargeOf h.head) pre)
    ∧ (∃ (k : Stop) (rq : Fin 16384) (s : State) (i : Nat) (h : FTxn), headIdx (s.queue k) rq = some i ∧ (s.queue k)[i]? =
      some h ∧ h.colour ≠ 3)
    ∧ (∃ (k : Stop) (s : State) (h : FTxn), s.queue k = [h] ∧ s.recolourDue k h = true)
    ∧ (∃ (k : Stop) (s : State), (∀ h ∈ s.queue k, s.recolourDue k h = false))
    ∧ (∃ (k : Stop) (w : Word) (s : State) (rq : Nat), k.val < 56 ∧ rq = s.fget F.STOP.BIND_SEL.RQ_IDX k ∧ s.sliceState (rq
      % 4096) = 0 ∧ (w.getLsbD 15 = true → (s.bindings (sectorOf k) (vbits w 0 11)).any (fun q => q % 4096 != rq % 4096) =
      false ∧ s.ownsMeter (rq % 4096) (2048 * sectorOf k + vbits w 0 11) = true))
    ∧ (∃ (k : Stop) (s : State), (56 ≤ k.val ∨ s.sliceState (s.fget F.STOP.BIND_SEL.RQ_IDX k % 4096) ≠ 0))
    ∧ (∃ (k : Stop) (s : State) (v : WeOut), s.tick.weOut.filter (fun w => w.page == pageNo .gate k && gateOff w.off) = [v])
    ∧ (∃ (k : Stop) (w : Word) (s : State) (g : Nat), k.val < 56 ∧ s.stopRuns k = true ∧ g = 2048 * sectorOf k + vbits w 0
      11)
    ∧ (∃ (k : Stop) (s : State), s.stopRuns k = false) :=
  ⟨ex5 (
      let k : Stop := 59
      let rq : Fin 16384 := 16383
      let i : Nat := 0
      let s : State := State.reset
      let h : FTxn := { rq := 0, flits := [] }
      let h : FTxn := { h with colour := 3 }
      let h : FTxn := { h with rsp := true }
      let h : FTxn := { h with rq := rq.val }
      let s : State := { s with arb := { s.arb with queue := tset [] s.arb.queue k [h] } }
      (k, rq, s, i, h)) (by decide +kernel),
   ex10 (
      let k : Stop := 3
      let rq : Fin 16384 := 16383
      let i : Nat := 0
      let s : State := State.reset
      let h : FTxn := { rq := 0, flits := [] }
      let h : FTxn := { h with colour := 3 }
      let h : FTxn := { h with rsp := false, flits := [{ h.head with slice := 5 }] }
      let h : FTxn := { h with rq := rq.val }
      let s : State := { s with arb := { s.arb with queue := tset [] s.arb.queue k [h] } }
      let s : State := { s with mtr := { s.mtr with bind := tset 0 s.mtr.bind (sectorOf k * 16384 + rq.val) (1 + 1707) } }
      let x : Nat := sectorOf k
      let m : Nat := s.boundTo x h.rq - 1
      let bank : Nat := s.bankAt k
      let pre : Bool := (s.fbit F.STOP.METER_MODE.AWARE (meterPage x) 0 bank m && nbit (s.fget F.STOP.METER_MODE.TC_YEL
        (meterPage x) 0 bank m) (nbits h.head.be.toNat 11 3))
      let r : Nat × Meter := colour (access (s.meter (2048 * x + m)) (s.nodeTick k) s.epochLast (s.meterRates x m bank))
        (chargeOf h.head) pre
      (k, rq, s, i, h, x, m, bank, r, pre)) (by decide +kernel),
   ex5 (
      let k : Stop := 59
      let rq : Fin 16384 := 16383
      let i : Nat := 0
      let s : State := State.reset
      let h : FTxn := { rq := 0, flits := [] }
      let h : FTxn := { h with rq := rq.val }
      let s : State := { s with arb := { s.arb with queue := tset [] s.arb.queue k [h] } }
      let h : FTxn := { h with colour := 1 }
      let s : State := { s with arb := { s.arb with queue := tset [] s.arb.queue k [h] } }
      (k, rq, s, i, h)) (by decide +kernel),
   ex3 (
      let k : Stop := 59
      let s : State := State.reset
      let h : FTxn := { rq := 0, flits := [] }
      let s : State := { s with arb := { s.arb with queue := tset [] s.arb.queue k ([h]) } }
      let h : FTxn := { h with colour := 2, colAt := 9, wake := 5 }
      let s : State := { s with arb := { s.arb with queue := tset [] s.arb.queue k [h] } }
      let s : State := setTick s k 5
      (k, s, h)) (by decide +kernel),
   ex2 (
      let k : Stop := 59
      let s : State := State.reset
      (k, s)) (by decide +kernel),
   ex4 (
      let k : Stop := 0
      let w : Word := 32978
      let s : State := State.reset
      let s : State := s.fset F.SLICE.MSTS.STATE (0) ((s.fget F.STOP.BIND_SEL.RQ_IDX k) % 4096)
      let s : State := (s.fset F.SLICE.ACC_M.MBASE ((2048 * sectorOf k + vbits w 0 11)) (((s.fget F.STOP.BIND_SEL.RQ_IDX k)
        % 4096))).fset F.SLICE.ACC_M.MCNT 1 (((s.fget F.STOP.BIND_SEL.RQ_IDX k) % 4096))
      let rq : Nat := s.fget F.STOP.BIND_SEL.RQ_IDX k
      (k, w, s, rq)) (by decide +kernel),
   ex2 (
      let k : Stop := 58
      let s : State := State.reset
      let s : State := s.fset F.SLICE.MSTS.STATE ((0) + 1) (s.fget F.STOP.BIND_SEL.RQ_IDX k % 4096)
      (k, s)) (by decide +kernel),
   ex3 (
      let k : Stop := 59
      let s : State := State.reset
      let v : WeOut := { id := 0, page := 0, off := 0, path := .mgmt }
      let v : WeOut := { v with page := pageNo .gate k, off := 0x108 }
      let s : State := { s with tick := { s.tick with weOut := [v] } }
      (k, s, v)) (by decide +kernel),
   ex4 (
      let k : Stop := 0
      let w : Word := 144
      let s : State := State.reset
      let s : State := setRuns s k (true)
      let g : Nat := 2048 * sectorOf k + vbits w 0 11
      (k, w, s, g)) (by decide +kernel),
   ex2 (
      let k : Stop := 59
      let s : State := State.reset
      let s : State := setRuns s k (false)
      (k, s)) (by decide +kernel)⟩

theorem met_CounterCommandsTakeEffect :
    (∃ (s : State), s.fbit F.GLB.FREEZE_STS.HELD = false ∧ s.cnt.freezeQ.contains none = false)
    ∧ (∃ (s : State), s.fbit F.GLB.FREEZE_STS.HELD = true)
    ∧ (∃ (s : State), s.fbit F.GLB.FREEZE_STS.HELD = false)
    ∧ (∃ (c : Cls) (n : Fin 60) (i : Fin 8) (s : State) (lo : Nat), n.val < blockCount c ∧ lo = tget 0 s.cnt.loHold
      (blockKey c n i) ∧ lo < 2 ^ 32)
    ∧ (∃ (c : Cls) (n : Fin 60), blockCount c ≤ n.val)
    ∧ (∃ (w : Word) (n : Nat), n = vbits w 0 12)
    ∧ (∃ (x : SliceNo) (s : State), s.fbit F.SLICE.CTL.CNT_VIS x = false)
    ∧ (∃ (x : SliceNo) (w : Word) (s : State) (n : Nat), s.fbit F.SLICE.CTL.CNT_VIS x = true ∧ n = s.fget
      F.SLICE.ACC_C.CBASE x + vbits w 0 2)
    ∧ (∃ (j : Fin 16) (s : State) (w : Nat) (cur : WinRec), w = s.windowAt j (s.nodeTick 60) ∧ cur = tget {} s.cnt.wsCur j) :=
  ⟨ex1 (
      let s : State := State.reset
      let s : State := s.fset F.GLB.FREEZE_STS.HELD ((b2n (false)))
      s) (by decide +kernel),
   ex1 (
      let s : State := State.reset
      let s : State := s.fset F.GLB.FREEZE_STS.HELD ((b2n (true)))
      s) (by decide +kernel),
   ex1 (
      let s : State := State.reset
      let s : State := s.fset F.GLB.FREEZE_STS.HELD ((b2n (false)))
      s) (by decide +kernel),
   ex5 (
      let c : Cls := .ring
      let n : Fin 60 := 0
      let i : Fin 8 := 0
      let s : State := State.reset
      let s : State := { s with cnt := { s.cnt with loHold := tset 0 s.cnt.loHold (blockKey c n i) ((2 ^ 32) - 1 - 2) } }
      let lo : Nat := tget 0 s.cnt.loHold (blockKey c n i)
      (c, n, i, s, lo)) (by decide +kernel),
   ex2 (
      let c : Cls := .glb
      let n : Fin 60 := 59
      (c, n)) (by decide +kernel),
   ex2 (
      let w : Word := 0
      let n : Nat := vbits w 0 12
      (w, n)) (by decide +kernel),
   ex2 (
      let x : SliceNo := 4095
      let s : State := State.reset
      let s : State := s.fset F.SLICE.CTL.CNT_VIS ((b2n (false))) x
      (x, s)) (by decide +kernel),
   ex4 (
      let x : SliceNo := 4095
      let w : Word := 0
      let s : State := State.reset
      let s : State := s.fset F.SLICE.CTL.CNT_VIS ((b2n (true))) x
      let n : Nat := s.fget F.SLICE.ACC_C.CBASE x + vbits w 0 2
      (x, w, s, n)) (by decide +kernel),
   ex4 (
      let j : Fin 16 := 15
      let s : State := State.reset
      let w : Nat := s.windowAt j (s.nodeTick 60)
      let cur : WinRec := tget {} s.cnt.wsCur j
      (j, s, w, cur)) (by decide +kernel)⟩

theorem met_RecordsAreAssembledAndKept :
    (∃ (n : Stop) (m : Msg), msgOk m = true ∧ isMemStop n = false)
    ∧ (∃ (n : Stop) (m : Msg) (s : State) (key : Nat) (f : Nat) (b : FragBuf), msgOk m = true ∧ isMemStop n = true ∧ key =
      msgSrc m * 128 + vbits m 38 7 ∧ f = vbits m 45 3 ∧ b = tget {} s.cnt.silPart key ∧ nbit b.seen f = false ∧ f < 6)
    ∧ (∃ (n : Stop) (m : Msg), msgOk m = true ∧ isMemStop n = true ∧ 6 ≤ vbits m 45 3)
    ∧ (∃ (n : Stop) (m : Msg) (s : State) (key : Nat) (b : FragBuf), msgOk m = true ∧ isMemStop n = true ∧ key = msgSrc m *
      128 + vbits m 38 7 ∧ b = tget {} s.cnt.silPart key ∧ nbit b.seen (vbits m 45 3) = true ∧ b.seen ≠ 63)
    ∧ (∃ (r : Node) (e : Fin 128) (s : State), (tget {} s.cnt.silPart (r * 128 + e)).seen ≠ 0)
    ∧ (∃ (x : Sector) (s : State), s.silLine x ≠ [] ∧ s.fbit F.GLB.SIL_CTL.HALT = false ∧ s.fbit F.STOP.POOL_STS.CLOSING
      (memStop x) = false ∧ s.zeroing = false ∧ s.stopRuns (memStop x) = true)
    ∧ (∃ (x : Sector) (s : State), (s.silLine x = [] ∨ s.fbit F.GLB.SIL_CTL.HALT = true))
    ∧ (∃ (x : Sector) (s : State) (e : SilEnt), s.silStg x = [e] ∧ e.st = 1 ∧ s.writeOut (memStop x) e.line = false ∧ tget 0
      s.cnt.silOver x = 0)
    ∧ (∃ (m : Msg) (s : State) (key : Nat) (f : Nat) (b : FragBuf), msgOk m = true ∧ key = erqKey (msgSrc m) (vbits m 39 6)
      ∧ f = vbits m 45 3 ∧ b = tget {} s.cnt.erqPart key ∧ nbit b.seen f = false)
    ∧ (∃ (m : Msg) (s : State) (key : Nat) (b : FragBuf), msgOk m = true ∧ key = erqKey (msgSrc m) (vbits m 39 6) ∧ b = tget
      {} s.cnt.erqPart key ∧ nbit b.seen (vbits m 45 3) = true ∧ b.seen ≠ 255)
    ∧ (∃ (r : Node) (n : Fin 64) (s : State), (tget {} s.cnt.erqPart (erqKey r n)).seen ≠ 0) :=
  ⟨ex2 (
      let n : Stop := 59
      let m : Msg := 0
      (n, m)) (by decide +kernel),
   ex6 (
      let n : Stop := 5
      let m : Msg := 0
      let s : State := State.reset
      let key : Nat := msgSrc m * 128 + vbits m 38 7
      let f : Nat := vbits m 45 3
      let b : FragBuf := tget {} s.cnt.silPart key
      (n, m, s, key, f, b)) (by decide +kernel),
   ex2 (
      let n : Stop := 5
      let m : Msg := 246290604622052
      (n, m)) (by decide +kernel),
   ex5 (
      let n : Stop := 5
      let m : Msg := 0
      let s : State := State.reset
      let s : State := { s with cnt := { s.cnt with silPart := tset {} s.cnt.silPart (msgSrc m * 128 + vbits m 38 7) ({ tget {} s.cnt.silPart (msgSrc m * 128 + vbits m 38 7) with seen := (63) + 1 }) } }
      let s : State := { s with cnt := { s.cnt with silPart := tset {} s.cnt.silPart (msgSrc m * 128 + vbits m 38 7) ⟨2 ^ vbits m 45 3, 0⟩ } }
      let key : Nat := msgSrc m * 128 + vbits m 38 7
      let b : FragBuf := tget {} s.cnt.silPart key
      (n, m, s, key, b)) (by decide +kernel),
   ex3 (
      let r : Node := 63
      let e : Fin 128 := 127
      let s : State := State.reset
      let s : State := { s with cnt := { s.cnt with silPart := tset {} s.cnt.silPart (r * 128 + e) ({ tget {} s.cnt.silPart (r * 128 + e) with seen := (0) + 1 }) } }
      (r, e, s)) (by decide +kernel),
   ex2 (
      let x : Sector := 7
      let s : State := State.reset
      let s : State := s.fset F.GLB.SIL_CTL.HALT ((b2n (false)))
      let s : State := s.fset F.STOP.POOL_STS.CLOSING ((b2n (false))) (memStop x)
      let s : State := setRuns s (memStop x) (true)
      let s : State := { s with cnt := { s.cnt with silStg := tset [] s.cnt.silStg x [⟨0, 5, 0, 0, 0⟩, ⟨1, 6, 0, 0, 0⟩, ⟨2, 7, 0, 0, 0⟩, ⟨3, 8, 0, 0, 0⟩] } }
      (x, s)) (by decide +kernel),
   ex2 (
      let x : Sector := 7
      let s : State := State.reset
      let s : State := s.fset F.GLB.SIL_CTL.HALT ((b2n (true)))
      (x, s)) (by decide +kernel),
   ex3 (
      let x : Sector := 7
      let s : State := State.reset
      let e : SilEnt := { seq := 0, data := 0, tick := 0 }
      let e : SilEnt := { e with st := 1 }
      let s : State := { s with cnt := { s.cnt with silStg := tset [] s.cnt.silStg x ([e]) } }
      let s : State := { s with cnt := { s.cnt with silOver := tset 0 s.cnt.silOver x (0) } }
      (x, s, e)) (by decide +kernel),
   ex5 (
      let m : Msg := 0
      let s : State := State.reset
      let key : Nat := erqKey (msgSrc m) (vbits m 39 6)
      let f : Nat := vbits m 45 3
      let b : FragBuf := tget {} s.cnt.erqPart key
      (m, s, key, f, b)) (by decide +kernel),
   ex4 (
      let m : Msg := 0
      let s : State := State.reset
      let s : State := { s with cnt := { s.cnt with erqPart := tset {} s.cnt.erqPart (erqKey (msgSrc m) (vbits m 39 6)) ({ tget {} s.cnt.erqPart (erqKey (msgSrc m) (vbits m 39 6)) with seen := (255) + 1 }) } }
      let s : State := { s with cnt := { s.cnt with erqPart := tset {} s.cnt.erqPart (erqKey (msgSrc m) (vbits m 39 6)) ⟨2 ^ vbits m 45 3, 0⟩ } }
      let key : Nat := erqKey (msgSrc m) (vbits m 39 6)
      let b : FragBuf := tget {} s.cnt.erqPart key
      (m, s, key, b)) (by decide +kernel),
   ex3 (
      let r : Node := 63
      let n : Fin 64 := 63
      let s : State := State.reset
      let s : State := { s with cnt := { s.cnt with erqPart := tset {} s.cnt.erqPart (erqKey r n) ({ tget {} s.cnt.erqPart (erqKey r n) with seen := (0) + 1 }) } }
      (r, n, s)) (by decide +kernel)⟩

theorem met_IsolationRunsItsCourse :
    (∃ (kd : Fin 2) (id : Fin 64) (s : State) (r : Nat), r = (s.touch .glb 0).isoRefusal kd id ∧ r ≠ 0)
    ∧ (∃ (kd : Fin 2) (id : Fin 64) (s : State) (nn : Nat), (s.touch .glb 0).isoRefusal kd id = 0 ∧ nn = (if s.iso.nn = 255
      then 1 else s.iso.nn + 1))
    ∧ (∃ (m : Msg), msgOk m = true)
    ∧ (∃ (n : Node) (u : IsoMsg) (s : State), tget none s.iso.arrived n = some u)
    ∧ (∃ (n : Node) (s : State), tget none s.iso.arrived n = none)
    ∧ (∃ (s : State) (u : Nat × Nat × Nat), s.iso.unit = some u ∧ s.isoAll = true ∧ s.iso.queue = [])
    ∧ (∃ (s : State), s.isoAll = false)
    ∧ (∃ (kd : Fin 2) (id : Fin 64) (s : State), s.unitIsolated kd id = true ∧ s.fbit F.GLB.ISO_STS.BUSY = false ∧ (kd.val =
      0 → id.val < 60) ∧ (kd.val = 1 → id.val < 8))
    ∧ (∃ (kd : Fin 2) (id : Fin 64) (s : State), (s.unitIsolated kd id = false ∨ s.fbit F.GLB.ISO_STS.BUSY = true)) :=
  ⟨ex4 (
      let kd : Fin 2 := 1
      let id : Fin 64 := 63
      let s : State := State.reset
      let r : Nat := (s.touch .glb 0).isoRefusal kd id
      (kd, id, s, r)) (by decide +kernel),
   ex4 (
      let kd : Fin 2 := 0
      let id : Fin 64 := 0
      let s : State := State.reset
      let nn : Nat := (if s.iso.nn = 255 then 1 else s.iso.nn + 1)
      (kd, id, s, nn)) (by decide +kernel),
   ex1 (
      let m : Msg := 0
      m) (by decide +kernel),
   ex3 (
      let n : Node := 63
      let s : State := State.reset
      let u : IsoMsg := { kind := 0, id := 0, nn := 0 }
      let s : State := { s with iso := { s.iso with arrived := tset none s.iso.arrived n (some u) } }
      (n, u, s)) (by decide +kernel),
   ex2 (
      let n : Node := 63
      let s : State := State.reset
      let s : State := { s with iso := { s.iso with arrived := tset none s.iso.arrived n (none) } }
      (n, s)) (by decide +kernel),
   ex2 (
      let s : State := State.reset
      let u : Nat × Nat × Nat := (0, 0, 0)
      let s : State := { s with iso := { s.iso with unit := some u } }
      let s : State := { s with iso := { s.iso with queue := [] } }
      let s : State := { s with iso := { s.iso with unit := some u, done := BitVec.allOnes 64 } }
      (s, u)) (by decide +kernel),
   ex1 (
      let s : State := State.reset
      s) (by decide +kernel),
   ex3 (
      let kd : Fin 2 := 1
      let id : Fin 64 := 7
      let s : State := State.reset
      let s : State := (isoStops kd id).foldl (fun s k => setIso s k true) s
      let s : State := s.fset F.GLB.ISO_STS.BUSY ((b2n (false)))
      (kd, id, s)) (by decide +kernel),
   ex3 (
      let kd : Fin 2 := 1
      let id : Fin 64 := 63
      let s : State := State.reset
      let s : State := s.fset F.GLB.ISO_STS.BUSY ((b2n (true)))
      (kd, id, s)) (by decide +kernel)⟩

theorem met_FaultsAndCrossingsFollowTheirRules :
    (∃ (c : Fin 5) (s : State), s.causeHolds c = true ∧ nbit s.boot.causeSeen c = false)
    ∧ (∃ (c : Fin 5) (s : State), s.causeHolds c = true ∧ nbit s.boot.causeSeen c = true)
    ∧ (∃ (w : Word), w ≠ 0x00007E57)
    ∧ (∃ (g : Fin 10) (i : Fin 64) (s : State) (x : XbRec), (xbKind g i).isSome = true ∧ s.xbReady (g * 64 + i) = false ∧
      s.xbOut g i = true ∧ x = tget {} s.xb (g * 64 + i))
    ∧ (∃ (g : Fin 10) (i : Fin 64) (s : State), (xbKind g i = none ∨ s.xbReady (g * 64 + i) = true ∨ s.xbOut g i = false))
    ∧ (∃ (b : Fin 10) (w : Word) (s : State) (x : XbRec) (i : Nat), i = vbits w 0 6 ∧ x = tget {} s.xb (b * 64 + i)) :=
  ⟨ex2 (
      let c : Fin 5 := 1
      let s : State := State.reset
      let s : State := { s with tick := { s.tick with stopped := true } }
      (c, s)) (by decide +kernel),
   ex2 (
      let c : Fin 5 := 3
      let s : State := State.reset
      (c, s)) (by decide +kernel),
   ex1 (
      let w : Word := 0
      w) (by decide +kernel),
   ex4 (
      let g : Fin 10 := 0
      let i : Fin 64 := 0
      let s : State := State.reset
      let s : State := setXb s (g * 64 + i) (false)
      let x : XbRec := tget {} s.xb (g * 64 + i)
      (g, i, s, x)) (by decide +kernel),
   ex3 (
      let g : Fin 10 := 9
      let i : Fin 64 := 63
      let s : State := State.reset
      let s : State := setXb s (g * 64 + i) (true)
      (g, i, s)) (by decide +kernel),
   ex5 (
      let b : Fin 10 := 9
      let w : Word := 0
      let s : State := State.reset
      let i : Nat := vbits w 0 6
      let x : XbRec := tget {} s.xb (b * 64 + i)
      (b, w, s, x, i)) (by decide +kernel)⟩

theorem met_FlaconCommandsStartOrAreRefused :
    (∃ (s : State), s.fbit F.GLB.FL_STS.BUSY = true)
    ∧ (∃ (s : State), s.fbit F.GLB.FL_STS.BUSY = false)
    ∧ (∃ (s : State), s.fbit F.GLB.FL_STS.BUSY = false)
    ∧ (∃ (s : State), s.fbit F.GLB.FL_STS.BUSY = true)
    ∧ (∃ (s : State), s.fbit F.GLB.FL_STS.BUSY = true ∧ s.fl.op ≠ 4) :=
  ⟨ex1 (
      let s : State := State.reset
      let s : State := s.fset F.GLB.FL_STS.BUSY ((b2n (true)))
      s) (by decide +kernel),
   ex1 (
      let s : State := State.reset
      let s : State := s.fset F.GLB.FL_STS.BUSY ((b2n (false)))
      s) (by decide +kernel),
   ex1 (
      let s : State := State.reset
      let s : State := s.fset F.GLB.FL_STS.BUSY ((b2n (false)))
      s) (by decide +kernel),
   ex1 (
      let s : State := State.reset
      let s : State := s.fset F.GLB.FL_STS.BUSY ((b2n (true)))
      s) (by decide +kernel),
   ex1 (
      let s : State := State.reset
      let s : State := s.fset F.GLB.FL_STS.BUSY ((b2n (true)))
      let s : State := { s with fl := { s.fl with op := (4) + 1 } }
      s) (by decide +kernel)⟩

theorem met_PowerTargetsStartTransitions :
    (∃ (x : Sector) (s : State), s.pwrPhase x = 0 ∧ s.sectorState x < 2 ∧ ((Instr.psTargetRun, 0) : (Sector → Word → Instr)
      × Nat).2 < 2)
    ∧ (∃ (x : Sector) (s : State), s.pwrPhase x = 0 ∧ s.sectorState x < 2 ∧ 2 ≤ ((Instr.psTargetDoze, 2) : (Sector → Word →
      Instr) × Nat).2)
    ∧ (∃ (x : Sector) (s : State), s.pwrPhase x ≠ 0 ∧ ¬(s.pwrPhase x = 2 ∧ ((Instr.psTargetRun, 0) : (Sector → Word → Instr)
      × Nat).2 < 2))
    ∧ (∃ (x : Sector) (s : State), s.pwrPhase x = 2 ∧ ((Instr.psTargetRun, 0) : (Sector → Word → Instr) × Nat).2 < 2 ∧
      s.wakeEn x 5 = true)
    ∧ (∃ (x : Sector) (s : State), s.pwrPhase x = 0 ∧ 2 ≤ s.sectorState x ∧ ((Instr.psTargetTrim, 1) : (Sector → Word →
      Instr) × Nat).2 < 2 ∧ s.wakeEn x 5 = true)
    ∧ (∃ (x : Sector) (s : State), s.pwrPhase x = 0 ∧ 2 ≤ s.sectorState x ∧ 2 ≤ ((Instr.psTargetOff, 3) : (Sector → Word →
      Instr) × Nat).2) :=
  ⟨ex2 (
      let x : Sector := 7
      let s : State := State.reset
      let s : State := s.fset F.PWR.PS_STS.PHASE (0) x
      let s : State := s.fset F.PWR.PS_STS.STATE ((2) - 1 - 0) x
      (x, s)) (by decide +kernel),
   ex2 (
      let x : Sector := 5
      let s : State := State.reset
      let s : State := s.fset F.PWR.PS_STS.PHASE (0) x
      let s : State := s.fset F.PWR.PS_STS.STATE ((2) - 1 - 1) x
      (x, s)) (by decide +kernel),
   ex2 (
      let x : Sector := 7
      let s : State := State.reset
      let s : State := s.fset F.PWR.PS_STS.PHASE ((0) + 1) x
      (x, s)) (by decide +kernel),
   ex2 (
      let x : Sector := 7
      let s : State := State.reset
      let s : State := s.fset F.PWR.PS_STS.PHASE (2) x
      let s : State := setWake s x 5 (true)
      (x, s)) (by decide +kernel),
   ex2 (
      let x : Sector := 0
      let s : State := State.reset
      let s : State := s.fset F.PWR.PS_STS.PHASE (0) x
      let s : State := s.fset F.PWR.PS_STS.STATE ((2) + 1) x
      let s : State := setWake s x 5 (true)
      (x, s)) (by decide +kernel),
   ex2 (
      let x : Sector := 3
      let s : State := State.reset
      let s : State := s.fset F.PWR.PS_STS.PHASE (0) x
      let s : State := s.fset F.PWR.PS_STS.STATE ((2) + 0) x
      (x, s)) (by decide +kernel)⟩

theorem met_ClosesRunToTheirEnd :
    (∃ (m : Msg), msgOk m = true ∧ vbits m 42 2 = 0)
    ∧ (∃ (m : Msg), msgOk m = true ∧ vbits m 42 2 = 1)
    ∧ (∃ (n : Stop) (m : Msg) (s : State), msgOk m = true ∧ vbits m 42 2 = 2)
    ∧ (∃ (x : Sector) (s : State), s.pwrPhase x = 2 ∧ tget 0 s.pwr.empty x % 128 = 127)
    ∧ (∃ (x : Sector) (s : State), ¬(s.pwrPhase x = 2 ∧ tget 0 s.pwr.empty x % 128 = 127))
    ∧ (∃ (x : Sector) (s : State) (b p : Nat), s.pwrPhase x = 2 ∧ tget 0 s.pwr.closeAt x = b + 1 ∧ tickPast (s.nodeTick
      (pwrNode x)) b (max 1 (s.fget F.PWR.PS_CTL.CLOSE_TO x)) = true ∧ s.sectorState x < 2 ∧ tget 0 s.pwr.pendTgt x = p + 1
      ∧ 2 ≤ p ∧ s.sleepRefusal x = 0)
    ∧ (∃ (x : Sector) (s : State) (b : Nat), s.pwrPhase x = 2 ∧ tget 0 s.pwr.closeAt x = b + 1 ∧ tget 0 s.pwr.pendTgt x = 0
      ∧ tickPast (s.nodeTick (pwrNode x)) b (max 1 (s.fget F.PWR.PS_CTL.CLOSE_TO x)) = true)
    ∧ (∃ (x : Sector) (s : State) (b : Nat), s.pwrPhase x = 2 ∧ tget 0 s.pwr.closeAt x = b + 1 ∧ tickPast (s.nodeTick
      (pwrNode x)) b (max 1 (s.fget F.PWR.PS_CTL.CLOSE_TO x)) = false)
    ∧ (∃ (x : Sector) (s : State), s.pwrPhase x ≠ 2) :=
  ⟨ex1 (
      let m : Msg := 0
      m) (by decide +kernel),
   ex1 (
      let m : Msg := 4398046511147
      m) (by decide +kernel),
   ex3 (
      let n : Stop := 59
      let m : Msg := 8796093022294
      let s : State := State.reset
      (n, m, s)) (by decide +kernel),
   ex2 (
      let x : Sector := 7
      let s : State := State.reset
      let s : State := s.fset F.PWR.PS_STS.PHASE (2) x
      let s : State := { s with pwr := { s.pwr with empty := tset 0 s.pwr.empty x (127) } }
      (x, s)) (by decide +kernel),
   ex2 (
      let x : Sector := 7
      let s : State := State.reset
      (x, s)) (by decide +kernel),
   ex4 (
      let x : Sector := 7
      let b : Nat := 0
      let p : Nat := 3
      let s : State := State.reset
      let s : State := s.fset F.PWR.PS_STS.PHASE (2) x
      let s : State := { s with pwr := { s.pwr with closeAt := tset 0 s.pwr.closeAt x (b + 1) } }
      let s : State := { s with pwr := { s.pwr with pendTgt := tset 0 s.pwr.pendTgt x (p + 1) } }
      let s : State := s.fset F.PWR.PS_STS.STATE 1 x
      let s : State := s.fset F.ENG.ENG_STS.STATE 2 x
      let s : State := setTick s ((pwrNode x)) (if true then (b) + ((max 1 (s.fget F.PWR.PS_CTL.CLOSE_TO x))) else (b) +
        ((max 1 (s.fget F.PWR.PS_CTL.CLOSE_TO x))) + 2 ^ 48 - 1)
      (x, s, b, p)) (by decide +kernel),
   ex3 (
      let x : Sector := 7
      let b : Nat := 0
      let s : State := State.reset
      let s : State := s.fset F.PWR.PS_STS.PHASE (2) x
      let s : State := { s with pwr := { s.pwr with closeAt := tset 0 s.pwr.closeAt x (b + 1) } }
      let s : State := setTick s ((pwrNode x)) (if true then (b) + ((max 1 (s.fget F.PWR.PS_CTL.CLOSE_TO x))) else (b) +
        ((max 1 (s.fget F.PWR.PS_CTL.CLOSE_TO x))) + 2 ^ 48 - 1)
      (x, s, b)) (by decide +kernel),
   ex3 (
      let x : Sector := 7
      let b : Nat := 0
      let s : State := State.reset
      let s : State := s.fset F.PWR.PS_STS.PHASE (2) x
      let s : State := { s with pwr := { s.pwr with closeAt := tset 0 s.pwr.closeAt x (b + 1) } }
      let s : State := setTick s ((pwrNode x)) (if false then (b) + ((max 1 (s.fget F.PWR.PS_CTL.CLOSE_TO x))) else (b) +
        ((max 1 (s.fget F.PWR.PS_CTL.CLOSE_TO x))) + 2 ^ 48 - 1)
      (x, s, b)) (by decide +kernel),
   ex2 (
      let x : Sector := 7
      let s : State := State.reset
      let s : State := s.fset F.PWR.PS_STS.PHASE ((2) + 1) x
      (x, s)) (by decide +kernel)⟩

theorem met_WakeEventsWakeTheSector :
    (∃ (x : Sector) (s : State) (src : Nat), s.demandOf x = some src)
    ∧ (∃ (x : Sector) (s : State), s.demandOf x = none)
    ∧ (∃ (x : Sector) (code : Fin 7) (s : State), (s.wakeEn x code = false ∨ (s.sectorState x < 2 ∧ s.pwrPhase x < 2)))
    ∧ (∃ (x : Sector) (code : Fin 7) (s : State), s.wakeEn x code = true ∧ 2 ≤ s.sectorState x ∧ s.pwrPhase x = 0)
    ∧ (∃ (x : Sector) (code : Fin 7) (s : State), s.wakeEn x code = true ∧ s.pwrPhase x = 2 ∧ code.val ≠ 5 ∧
      tget 0 s.pwr.pendTgt x = 0)
    ∧ (∃ (x : Sector) (code : Fin 7) (s : State), s.wakeEn x code = true ∧ s.pwrPhase x = 3 ∧ 0 < s.fget F.PWR.PS_STS.STEP x
      ∧ tget 0 s.pwr.latch x = 0)
    ∧ (∃ (x : Sector) (code : Fin 7) (s : State), s.wakeEn x code = true ∧ s.pwrPhase x = 4) :=
  ⟨ex3 (
      let x : Sector := 7
      let src : Nat := 0
      let s : State := State.reset
      let s : State := s.fset F.STOP.POOL_STS.CLOSING 1 (7 * x.val)
      let s : State := { s with resv := { s.resv with pendQ := tset [] s.resv.pendQ (7 * x.val * 4) [⟨src, 1, false, 0⟩] } }
      (x, s, src)) (by decide +kernel),
   ex2 (
      let x : Sector := 7
      let s : State := State.reset
      (x, s)) (by decide +kernel),
   ex3 (
      let x : Sector := 7
      let code : Fin 7 := 6
      let s : State := State.reset
      let s : State := s.fset F.PWR.PS_STS.STATE ((2) - 1 - 2) x
      let s : State := s.fset F.PWR.PS_STS.PHASE ((2) - 1 - 1) x
      (x, code, s)) (by decide +kernel),
   ex3 (
      let x : Sector := 7
      let code : Fin 7 := 6
      let s : State := State.reset
      let s : State := setWake s x code (true)
      let s : State := s.fset F.PWR.PS_STS.STATE ((2) + 1) x
      let s : State := s.fset F.PWR.PS_STS.PHASE (0) x
      (x, code, s)) (by decide +kernel),
   ex3 (
      let x : Sector := 7
      let code : Fin 7 := 6
      let s : State := State.reset
      let s : State := setWake s x code (true)
      let s : State := s.fset F.PWR.PS_STS.PHASE (2) x
      (x, code, s)) (by decide +kernel),
   ex3 (
      let x : Sector := 7
      let code : Fin 7 := 6
      let s : State := State.reset
      let s : State := setWake s x code (true)
      let s : State := s.fset F.PWR.PS_STS.PHASE (3) x
      let s : State := s.fset F.PWR.PS_STS.STEP ((0) + 1 + 2) x
      let s : State := { s with pwr := { s.pwr with latch := tset 0 s.pwr.latch x (0) } }
      (x, code, s)) (by decide +kernel),
   ex3 (
      let x : Sector := 7
      let code : Fin 7 := 6
      let s : State := State.reset
      let s : State := setWake s x code (true)
      let s : State := s.fset F.PWR.PS_STS.PHASE (4) x
      (x, code, s)) (by decide +kernel)⟩

theorem met_TransitionsAndTheGovernorTakeEffect :
    (∃ (x : Sector) (s : State), s.trComplete x = true ∧ tget 0 s.pwr.latch x = 0 ∧ tget 0 s.pwr.pendTgt x = 0)
    ∧ (∃ (x : Sector) (s : State), s.trComplete x = false)
    ∧ (∃ (x : Sector) (s : State), (s.pwrPhase x = 4 ∨ (s.pwrPhase x = 1 ∧ s.pwrTgt x = 0)) ∧ tget 0 s.pwr.svokLow x = 1)
    ∧ (∃ (x : Sector) (s : State), tget 0 s.pwr.svokLow x = 0)
    ∧ (∃ (x : Sector) (s : State), s.sectorState x < 3)
    ∧ (∃ (x : Sector) (s : State), s.sectorState x = 3)
    ∧ (∃ (w : Word) (s : State), vbits w 0 1 = 1 ∧ 550 < s.fget F.TICK.HOLD_DIV)
    ∧ (∃ (w : Word) (s : State), ¬(vbits w 0 1 = 1 ∧ 550 < s.fget F.TICK.HOLD_DIV))
    ∧ (∃ (m : Msg), msgOk m = true) :=
  ⟨ex2 (
      let x : Sector := 7
      let s : State := State.reset
      let s : State := { s with pwr := { s.pwr with latch := tset 0 s.pwr.latch x (0) } }
      let s : State := { s with pwr := { s.pwr with pendTgt := tset 0 s.pwr.pendTgt x (0) } }
      let s : State := s.fset F.PWR.PS_STS.PHASE 1 x
      let s : State := { s with pwr := { s.pwr with tgt := tset 0 s.pwr.tgt x 1 } }
      (x, s)) (by decide +kernel),
   ex2 (
      let x : Sector := 7
      let s : State := State.reset
      (x, s)) (by decide +kernel),
   ex2 (
      let x : Sector := 7
      let s : State := State.reset
      let s : State := s.fset F.PWR.PS_STS.PHASE (4) x
      let s : State := { s with pwr := { s.pwr with svokLow := tset 0 s.pwr.svokLow x (1) } }
      (x, s)) (by decide +kernel),
   ex2 (
      let x : Sector := 7
      let s : State := State.reset
      let s : State := { s with pwr := { s.pwr with svokLow := tset 0 s.pwr.svokLow x (0) } }
      (x, s)) (by decide +kernel),
   ex2 (
      let x : Sector := 7
      let s : State := State.reset
      let s : State := s.fset F.PWR.PS_STS.STATE ((3) - 1 - 2) x
      (x, s)) (by decide +kernel),
   ex2 (
      let x : Sector := 7
      let s : State := State.reset
      let s : State := s.fset F.PWR.PS_STS.STATE (3) x
      (x, s)) (by decide +kernel),
   ex2 (
      let w : Word := 1
      let s : State := State.reset
      let s : State := s.fset F.TICK.HOLD_DIV ((550) + 1 + 1)
      (w, s)) (by decide +kernel),
   ex2 (
      let w : Word := 0
      let s : State := State.reset
      (w, s)) (by decide +kernel),
   ex1 (
      let m : Msg := 0
      m) (by decide +kernel)⟩

theorem met_LinkEventsFollowTheirTable :
    (∃ (k : Stop) (s : State), s.serves k = false)
    ∧ (∃ (k : Stop) (l : Link) (s : State), s.serves k = true ∧ s.present k l = false)
    ∧ (∃ (k : Stop) (l : Link) (s : State), s.present k l = true ∧ tget 0 s.boot.lciRun (s.portName k) = 0)
    ∧ (∃ (k : Stop) (l : Link) (s : State), s.present k l = true ∧ tget 0 s.boot.lciRun (s.portName k) ≠ 0 ∧ s.linkState k l
      = 1)
    ∧ (∃ (k : Stop) (l : Link) (s : State), s.present k l = true ∧ tget 0 s.boot.lciRun (s.portName k) ≠ 0 ∧ s.linkState k l
      = 2)
    ∧ (∃ (k : Stop) (l : Link) (s : State), s.present k l = true ∧ tget 0 s.boot.lciRun (s.portName k) ≠ 0 ∧ s.linkState k l
      = 2)
    ∧ (∃ (k : Stop) (l : Link) (s : State), s.present k l = true ∧ tget 0 s.boot.lciRun (s.portName k) ≠ 0 ∧ s.linkState k l
      = 1)
    ∧ (∃ (k : Stop) (l : Link) (s : State), s.present k l = true ∧ tget 0 s.boot.lciRun (s.portName k) ≠ 0 ∧ s.linkState k l
      = 0)
    ∧ (∃ (k : Stop) (l : Link) (s : State), s.present k l = true ∧ tget 0 s.boot.lciRun (s.portName k) ≠ 0 ∧ s.linkState k l
      = 0)
    ∧ (∃ (k : Stop) (l : Link) (s : State), s.present k l = true ∧ tget 0 s.boot.lciRun (s.portName k) ≠ 0 ∧ (s.linkState k
      l = 1 ∨ s.linkState k l = 2))
    ∧ (∃ (k : Stop) (l : Link) (s : State), s.present k l = true ∧ tget 0 s.boot.lciRun (s.portName k) ≠ 0 ∧ s.linkState k l
      = 0)
    ∧ (∃ (k : Stop) (l : Link) (s : State), s.present k l = true ∧ tget 0 s.boot.lciRun (s.portName k) ≠ 0 ∧ s.linkState k l
      = 1)
    ∧ (∃ (k : Stop) (l : Link) (s : State), s.present k l = true ∧ tget 0 s.boot.lciRun (s.portName k) ≠ 0 ∧ s.linkState k l
      = 2)
    ∧ (∃ (k : Stop) (l : Link) (s : State), s.present k l = true ∧ tget 0 s.boot.lciRun (s.portName k) ≠ 0 ∧ (s.linkState k
      l = 1 ∨ s.linkState k l = 2))
    ∧ (∃ (n : Stop) (m : Msg) (s : State) (key : Nat), msgOk m = true ∧ key = n * 256 + noticePort m * 4 + noticeLink m ∧
      tget 0 s.port.applied key = noticeNn m)
    ∧ (∃ (n : Stop) (m : Msg) (s : State) (key : Nat), msgOk m = true ∧ key = n * 256 + noticePort m * 4 + noticeLink m ∧
      tget 0 s.port.applied key ≠ noticeNn m)
    ∧ (∃ (n : Stop) (p : Fin 64) (l : Link) (op : Fin 4) (nn : Fin 256) (s : State) (key : Nat), key = n * 256 + p * 4 + l ∧
      s.port.arrived = [(key, some (op.val, nn.val))])
    ∧ (∃ (s : State), s.port.arrived = []) :=
  ⟨ex2 (
      let k : Stop := 59
      let s : State := State.reset
      let s : State := setServes s k (false)
      (k, s)) (by decide +kernel),
   ex3 (
      let k : Stop := 50
      let l : Link := 3
      let s : State := State.reset
      let s : State := setServes s k (true)
      let s : State := setPresent s k l (false)
      (k, l, s)) (by decide +kernel),
   ex3 (
      let k : Stop := 0
      let l : Link := 0
      let s : State := State.reset
      let s : State := setPresent s k l (true)
      let s : State := { s with boot := { s.boot with lciRun := tset 0 s.boot.lciRun (s.portName k) (0) } }
      (k, l, s)) (by decide +kernel),
   ex3 (
      let k : Stop := 0
      let l : Link := 0
      let s : State := State.reset
      let s : State := setPresent s k l (true)
      let s : State := { s with boot := { s.boot with lciRun := tset 0 s.boot.lciRun (s.portName k) ((0) + 1) } }
      let s : State := s.fset F.STOP.LINK_STS.STATE (1) k l
      (k, l, s)) (by decide +kernel),
   ex3 (
      let k : Stop := 0
      let l : Link := 0
      let s : State := State.reset
      let s : State := setPresent s k l (true)
      let s : State := { s with boot := { s.boot with lciRun := tset 0 s.boot.lciRun (s.portName k) ((0) + 1) } }
      let s : State := s.fset F.STOP.LINK_STS.STATE (2) k l
      (k, l, s)) (by decide +kernel),
   ex3 (
      let k : Stop := 0
      let l : Link := 0
      let s : State := State.reset
      let s : State := setPresent s k l (true)
      let s : State := { s with boot := { s.boot with lciRun := tset 0 s.boot.lciRun (s.portName k) ((0) + 1) } }
      let s : State := s.fset F.STOP.LINK_STS.STATE (2) k l
      (k, l, s)) (by decide +kernel),
   ex3 (
      let k : Stop := 0
      let l : Link := 0
      let s : State := State.reset
      let s : State := setPresent s k l (true)
      let s : State := { s with boot := { s.boot with lciRun := tset 0 s.boot.lciRun (s.portName k) ((0) + 1) } }
      let s : State := s.fset F.STOP.LINK_STS.STATE (1) k l
      (k, l, s)) (by decide +kernel),
   ex3 (
      let k : Stop := 0
      let l : Link := 0
      let s : State := State.reset
      let s : State := setPresent s k l (true)
      let s : State := { s with boot := { s.boot with lciRun := tset 0 s.boot.lciRun (s.portName k) ((0) + 1) } }
      let s : State := s.fset F.STOP.LINK_STS.STATE (0) k l
      (k, l, s)) (by decide +kernel),
   ex3 (
      let k : Stop := 0
      let l : Link := 0
      let s : State := State.reset
      let s : State := setPresent s k l (true)
      let s : State := { s with boot := { s.boot with lciRun := tset 0 s.boot.lciRun (s.portName k) ((0) + 1) } }
      let s : State := s.fset F.STOP.LINK_STS.STATE (0) k l
      (k, l, s)) (by decide +kernel),
   ex3 (
      let k : Stop := 0
      let l : Link := 0
      let s : State := State.reset
      let s : State := setPresent s k l (true)
      let s : State := { s with boot := { s.boot with lciRun := tset 0 s.boot.lciRun (s.portName k) ((0) + 1) } }
      let s : State := s.fset F.STOP.LINK_STS.STATE (2) k l
      (k, l, s)) (by decide +kernel),
   ex3 (
      let k : Stop := 0
      let l : Link := 0
      let s : State := State.reset
      let s : State := setPresent s k l (true)
      let s : State := { s with boot := { s.boot with lciRun := tset 0 s.boot.lciRun (s.portName k) ((0) + 1) } }
      let s : State := s.fset F.STOP.LINK_STS.STATE (0) k l
      (k, l, s)) (by decide +kernel),
   ex3 (
      let k : Stop := 0
      let l : Link := 0
      let s : State := State.reset
      let s : State := setPresent s k l (true)
      let s : State := { s with boot := { s.boot with lciRun := tset 0 s.boot.lciRun (s.portName k) ((0) + 1) } }
      let s : State := s.fset F.STOP.LINK_STS.STATE (1) k l
      (k, l, s)) (by decide +kernel),
   ex3 (
      let k : Stop := 0
      let l : Link := 0
      let s : State := State.reset
      let s : State := setPresent s k l (true)
      let s : State := { s with boot := { s.boot with lciRun := tset 0 s.boot.lciRun (s.portName k) ((0) + 1) } }
      let s : State := s.fset F.STOP.LINK_STS.STATE (2) k l
      (k, l, s)) (by decide +kernel),
   ex3 (
      let k : Stop := 0
      let l : Link := 0
      let s : State := State.reset
      let s : State := setPresent s k l (true)
      let s : State := { s with boot := { s.boot with lciRun := tset 0 s.boot.lciRun (s.portName k) ((0) + 1) } }
      let s : State := s.fset F.STOP.LINK_STS.STATE (2) k l
      (k, l, s)) (by decide +kernel),
   ex4 (
      let n : Stop := 59
      let m : Msg := 0
      let s : State := State.reset
      let s : State := { s with port := { s.port with applied := tset 0 s.port.applied (n * 256 + noticePort m * 4 + noticeLink m) (noticeNn m) } }
      let key : Nat := n * 256 + noticePort m * 4 + noticeLink m
      (n, m, s, key)) (by decide +kernel),
   ex4 (
      let n : Stop := 59
      let m : Msg := 0
      let s : State := State.reset
      let s : State := { s with port := { s.port with applied := tset 0 s.port.applied (n * 256 + noticePort m * 4 + noticeLink m) ((noticeNn m) + 1) } }
      let key : Nat := n * 256 + noticePort m * 4 + noticeLink m
      (n, m, s, key)) (by decide +kernel),
   ex7 (
      let n : Stop := 59
      let p : Fin 64 := 63
      let l : Link := 3
      let op : Fin 4 := 3
      let nn : Fin 256 := 255
      let s : State := State.reset
      let s : State := { s with port := { s.port with arrived := [((n * 256 + p * 4 + l), some (op.val, nn.val))] } }
      let key : Nat := n * 256 + p * 4 + l
      (n, p, l, op, nn, s, key)) (by decide +kernel),
   ex1 (
      let s : State := State.reset
      let s : State := { s with port := { s.port with arrived := [] } }
      s) (by decide +kernel)⟩

end Sys2Proof.Tests
end

