-- ==== Sys2Proof/Tests/Met3.lean ====
section
/-! SUPPORT. For each clause of the statements PortModesAndTheLinkWatch to MemoryStopsTakeTheirRequests, a concrete state and operands that
meet its hypotheses together: one theorem for a statement, one conjunct for a clause with hypotheses. -/

open Sys2Proof Sys2Proof.Machine

namespace Sys2Proof.Tests

set_option maxRecDepth 100000
set_option Elab.async false
set_option linter.unusedVariables false

theorem met_PortModesAndTheLinkWatch :
    (∃ (k : Stop), isPortStop k = false)
    ∧ (∃ (k : Stop) (w : Word) (s : State) (m : Nat), isPortStop k = true ∧ m = vbits w 0 2 ∧ ((m = 1 ∧ s.fabState ≠ 1) ∨ (m
      = 2 ∧ s.fbit F.GLB.TEST_STS.UNLOCKED = false)))
    ∧ (∃ (k : Stop) (w : Word) (s : State) (m : Nat), isPortStop k = true ∧ m = vbits w 0 2 ∧ ¬((m = 1 ∧ s.fabState ≠ 1) ∨
      (m = 2 ∧ s.fbit F.GLB.TEST_STS.UNLOCKED = false)))
    ∧ (∃ (k : Stop) (s : State), tget 0 s.boot.modeNext k = 0)
    ∧ (∃ (k : Stop) (s : State) (v : Fin 4) (toward : Nat), tget 0 s.boot.modeNext k = v + 1 ∧ toward = (if s.fabState = 0
      then 0 else if s.fabState = 2 ∧ v.val = 1 then 3 else v.val))
    ∧ (∃ (k : Stop) (l : Link) (s : State) (w : Nat) (b : Nat), w = s.eff k (3 + l) ∧ w ≠ 0 ∧ tget 0 s.port.told (linkKey k
      l) = 0 ∧ (tget 0 s.port.paused (linkKey k l) = b + 1 ∨ (tget 0 s.port.paused (linkKey k l) = 0 ∧ tget 0 s.port.stuck
      (linkKey k l) = b + 1 ∧ s.linkBusy k l = true)) ∧ tickPast (s.nodeTick k) b w = true)
    ∧ (∃ (k : Stop) (l : Link) (s : State), (s.eff k (3 + l) = 0 ∨ tget 0 s.port.told (linkKey k l) = 1 ∨ (tget 0
      s.port.paused (linkKey k l) = 0 ∧ tget 0 s.port.stuck (linkKey k l) = 0))) :=
  ⟨ex1 (
      let k : Stop := 59
      k) (by decide +kernel),
   ex4 (
      let k : Stop := 22
      let w : Word := 4294967294
      let s : State := State.reset
      let m : Nat := vbits w 0 2
      (k, w, s, m)) (by decide +kernel),
   ex4 (
      let k : Stop := 3
      let w : Word := 0
      let s : State := State.reset
      let m : Nat := vbits w 0 2
      (k, w, s, m)) (by decide +kernel),
   ex2 (
      let k : Stop := 59
      let s : State := State.reset
      let s : State := { s with boot := { s.boot with modeNext := tset 0 s.boot.modeNext k (0) } }
      (k, s)) (by decide +kernel),
   ex4 (
      let k : Stop := 59
      let v : Fin 4 := 3
      let s : State := State.reset
      let s : State := { s with boot := { s.boot with modeNext := tset 0 s.boot.modeNext k (v + 1) } }
      let toward : Nat := (if s.fabState = 0 then 0 else if s.fabState = 2 ∧ v.val = 1 then 3 else v.val)
      (k, s, v, toward)) (by decide +kernel),
   ex5 (
      let k : Stop := 59
      let l : Link := 3
      let b : Nat := 0
      let s : State := State.reset
      let s : State := { s with port := { s.port with eff := tset 0 s.port.eff (k * 16 + (3 + l)) (1 + ((0) + 1)) } }
      let s : State := { s with port := { s.port with told := tset 0 s.port.told (linkKey k l) (0) } }
      let s : State := { s with port := { s.port with paused := tset 0 s.port.paused (linkKey k l) (b + 1) } }
      let s : State := setTick s (k) (if true then (b) + ((s.eff k (3 + l))) else (b) + ((s.eff k (3 + l))) + 2 ^ 48 - 1)
      let w : Nat := s.eff k (3 + l)
      (k, l, s, w, b)) (by decide +kernel),
   ex3 (
      let k : Stop := 59
      let l : Link := 3
      let s : State := State.reset
      let s : State := { s with port := { s.port with eff := tset 0 s.port.eff (k * 16 + (3 + l)) (1 + (0)) } }
      (k, l, s)) (by decide +kernel)⟩

theorem met_SpareClaimsAreTakenOrRefused :
    (∃ (k : Stop), isSpareStop k = false)
    ∧ (∃ (k : Stop) (s : State), isSpareStop k = true ∧ s.fget F.STOP.SPARE_CTL.PHASE k ≠ 0)
    ∧ (∃ (k : Stop) (sock : Fin 4) (f : Bool) (s : State), isSpareStop k = true ∧ s.fget F.STOP.SPARE_CTL.PHASE k = 0 ∧
      s.spareServes k = true ∧ (Instr.spareClaimRepair k sock f) ≠ .spareReturn k f)
    ∧ (∃ (k : Stop) (f : Bool) (s : State), isSpareStop k = true ∧ s.fget F.STOP.SPARE_CTL.PHASE k = 0 ∧ s.spareServes k =
      true ∧ f = false ∧ s.socketSpilled k = true)
    ∧ (∃ (k : Stop) (f : Bool) (s : State), isSpareStop k = true ∧ s.fget F.STOP.SPARE_CTL.PHASE k = 0 ∧ s.spareServes k =
      true ∧ (f = true ∨ s.socketSpilled k = false))
    ∧ (∃ (k : Stop) (s : State), isSpareStop k = true ∧ s.fget F.STOP.SPARE_CTL.PHASE k = 0 ∧ s.spareServes k = false)
    ∧ (∃ (k : Stop) (s : State), isSpareStop k = true ∧ s.fget F.STOP.SPARE_CTL.PHASE k = 0 ∧ s.spareServes k = false ∧
      s.fget F.STOP.SPARE_CTL.CLAIM k = 1)
    ∧ (∃ (k : Stop) (s : State), isSpareStop k = true ∧ s.fget F.STOP.SPARE_CTL.PHASE k = 0 ∧ s.spareServes k = false ∧
      s.fget F.STOP.SPARE_CTL.CLAIM k ≠ 1)
    ∧ (∃ (k : Stop) (s : State), isSpareStop k = true ∧ s.fget F.STOP.SPARE_CTL.PHASE k = 0 ∧ s.spareServes k = false ∧
      s.fget F.STOP.SPARE_CTL.CLAIM k = 2)
    ∧ (∃ (k : Stop) (s : State), isSpareStop k = true ∧ s.fget F.STOP.SPARE_CTL.PHASE k = 0 ∧ s.spareServes k = false ∧
      s.fget F.STOP.SPARE_CTL.CLAIM k ≠ 2)
    ∧ (∃ (k : Stop) (sock : Fin 4) (f : Bool) (s : State), isSpareStop k = true ∧ s.fget F.STOP.SPARE_CTL.PHASE k = 0 ∧
      s.spareServes k = false ∧ f = false ∧ s.socketSpilled (7 * sectorOf k + sock) = true)
    ∧ (∃ (k : Stop) (sock : Fin 4) (f : Bool) (s : State), isSpareStop k = true ∧ s.fget F.STOP.SPARE_CTL.PHASE k = 0 ∧
      s.spareServes k = false ∧ (f = true ∨ s.socketSpilled (7 * sectorOf k + sock) = false) ∧ s.fget F.STOP.SPARE_CTL.CLAIM k
      ≠ 2) :=
  ⟨ex1 (
      let k : Stop := 59
      k) (by decide +kernel),
   ex2 (
      let k : Stop := 4
      let s : State := State.reset
      let s : State := s.fset F.STOP.SPARE_CTL.PHASE ((0) + 1) k
      (k, s)) (by decide +kernel),
   ex4 (
      let k : Stop := 4
      let sock : Fin 4 := 3
      let f : Bool := false
      let s : State := State.reset
      let s : State := s.fset F.STOP.SPARE_CTL.PHASE (0) k
      let s : State := setServes s k (true)
      (k, sock, f, s)) (by decide +kernel),
   ex3 (
      let k : Stop := 4
      let s : State := State.reset
      let s : State := s.fset F.STOP.SPARE_CTL.PHASE (0) k
      let s : State := setServes s k (true)
      let e0_ : SpillEnt := { stamp := 0, q := 0, slot := 0, slice := 0, rid := 0, ring := 0, tick := 0 }
      let s : State := { s with port := { s.port with spill := tset [] s.port.spill (linkKey k 0) [e0_] } }
      let f : Bool := false
      (k, f, s)) (by decide +kernel),
   ex3 (
      let k : Stop := 4
      let f : Bool := false
      let s : State := State.reset
      let s : State := s.fset F.STOP.SPARE_CTL.PHASE (0) k
      let s : State := setServes s k (true)
      (k, f, s)) (by decide +kernel),
   ex2 (
      let k : Stop := 4
      let s : State := State.reset
      let s : State := s.fset F.STOP.SPARE_CTL.PHASE (0) k
      let s : State := setServes s k (false)
      (k, s)) (by decide +kernel),
   ex2 (
      let k : Stop := 4
      let s : State := State.reset
      let s : State := s.fset F.STOP.SPARE_CTL.PHASE (0) k
      let s : State := setServes s k (false)
      let s : State := s.fset F.STOP.SPARE_CTL.CLAIM (1) k
      (k, s)) (by decide +kernel),
   ex2 (
      let k : Stop := 4
      let s : State := State.reset
      let s : State := s.fset F.STOP.SPARE_CTL.PHASE (0) k
      let s : State := setServes s k (false)
      let s : State := s.fset F.STOP.SPARE_CTL.CLAIM ((1) + 1) k
      (k, s)) (by decide +kernel),
   ex2 (
      let k : Stop := 4
      let s : State := State.reset
      let s : State := s.fset F.STOP.SPARE_CTL.PHASE (0) k
      let s : State := setServes s k (false)
      let s : State := s.fset F.STOP.SPARE_CTL.CLAIM (2) k
      (k, s)) (by decide +kernel),
   ex2 (
      let k : Stop := 4
      let s : State := State.reset
      let s : State := s.fset F.STOP.SPARE_CTL.PHASE (0) k
      let s : State := setServes s k (false)
      let s : State := s.fset F.STOP.SPARE_CTL.CLAIM ((2) + 1) k
      (k, s)) (by decide +kernel),
   ex4 (
      let k : Stop := 4
      let sock : Fin 4 := 3
      let s : State := State.reset
      let e0_ : SpillEnt := { stamp := 0, q := 0, slot := 0, slice := 0, rid := 0, ring := 0, tick := 0 }
      let s : State := s.fset F.STOP.SPARE_CTL.PHASE (0) k
      let s : State := setServes s k (false)
      let s : State := { s with port := { s.port with spill := tset [] s.port.spill (linkKey (7 * sectorOf k + sock) 0) [e0_] } }
      let f : Bool := false
      (k, sock, f, s)) (by decide +kernel),
   ex4 (
      let k : Stop := 4
      let sock : Fin 4 := 3
      let f : Bool := false
      let s : State := State.reset
      let s : State := s.fset F.STOP.SPARE_CTL.PHASE (0) k
      let s : State := setServes s k (false)
      let s : State := s.fset F.STOP.SPARE_CTL.CLAIM ((2) + 1) k
      (k, sock, f, s)) (by decide +kernel)⟩

theorem met_ReceivedTlpsAreCheckedInOrder :
    (∃ (k : Stop) (l : Link) (s : State), (s.serves k = false ∨ s.xbReady (lciBridge (s.socketOf k) l) = false))
    ∧ (∃ (k : Stop) (l : Link) (s : State), s.serves k = true ∧ s.xbReady (lciBridge (s.socketOf k) l) = true ∧ s.present k
      l = false)
    ∧ (∃ (k : Stop) (l : Link) (s : State), s.serves k = true ∧ s.xbReady (lciBridge (s.socketOf k) l) = true ∧ s.present k
      l = true ∧ s.linkState k l = 0)
    ∧ (∃ (k : Stop) (l : Link) (x : Tlp) (s : State), s.serves k = true ∧ s.xbReady (lciBridge (s.socketOf k) l) = true ∧
      s.present k l = true ∧ s.linkState k l ≠ 0 ∧ tget none s.port.held (lciUnit k l 0) = none ∧ (s.modeNow k ≠ 2 ∨ s.fif
      F.FI.FI_CTL.ARM 1 (lciUnit k l 0) ≠ 1))
    ∧ (∃ (k : Stop) (l : Link) (p : Fin 3) (s : State), (s.present k l = false ∨ s.lanePend k l p ≠ []))
    ∧ (∃ (k : Stop) (l : Link) (p : Fin 3) (s : State) (u : State), s.present k l = true ∧ s.lanePend k l p = [] ∧ (p.val =
      2 ∨ s.leavingPhase k = 0 ∨ 4 ≤ s.leavingPhase k) ∧ u = s.lookAll k l p ∧ u.rx k l p = [])
    ∧ (∃ (k : Stop) (l : Link) (p : Fin 3) (s : State) (u : State), s.present k l = true ∧ s.lanePend k l p = [] ∧ (p.val = 2 ∨ s.leavingPhase k = 0 ∨ 4 ≤ s.leavingPhase k) ∧ u = s.lookAll k l p ∧ (match u.rx k l p with | x :: rest => decide (u.verdict k l x = .wait) | _ => false) = true)
    ∧ (∃ (k : Stop) (l : Link) (p : Fin 3) (s : State) (u : State), s.present k l = true ∧ s.lanePend k l p = [] ∧ (p.val = 2 ∨ s.leavingPhase k = 0 ∨ 4 ≤ s.leavingPhase k) ∧ u = s.lookAll k l p ∧ (match u.rx k l p with | x :: rest => decide (u.verdict k l x ≠ .wait) | _ => false) = true) :=
  ⟨ex3 (
      let k : Stop := 59
      let l : Link := 3
      let s : State := State.reset
      let s : State := setServes s k (false)
      (k, l, s)) (by decide +kernel),
   ex3 (
      let k : Stop := 0
      let l : Link := 3
      let s : State := State.reset
      let s : State := setServes s k (true)
      let s : State := setXb s (lciBridge (s.socketOf k) l) (true)
      let s : State := setPresent s k l (false)
      (k, l, s)) (by decide +kernel),
   ex3 (
      let k : Stop := 0
      let l : Link := 0
      let s : State := State.reset
      let s : State := setServes s k (true)
      let s : State := setXb s (lciBridge (s.socketOf k) l) (true)
      let s : State := setPresent s k l (true)
      let s : State := s.fset F.STOP.LINK_STS.STATE (0) k l
      (k, l, s)) (by decide +kernel),
   ex4 (
      let k : Stop := 0
      let l : Link := 0
      let s : State := State.reset
      let x : Tlp := default
      let s : State := setServes s k (true)
      let s : State := setXb s (lciBridge (s.socketOf k) l) (true)
      let s : State := setPresent s k l (true)
      let s : State := s.fset F.STOP.LINK_STS.STATE ((0) + 1) k l
      let s : State := { s with port := { s.port with held := tset none s.port.held (lciUnit k l 0) (none) } }
      let s : State := s.fset F.STOP.PORT_MODE.MODE_NOW ((2) + 1) k
      (k, l, x, s)) (by decide +kernel),
   ex4 (
      let k : Stop := 59
      let l : Link := 3
      let p : Fin 3 := 2
      let s : State := State.reset
      let s : State := setPresent s k l (false)
      (k, l, p, s)) (by decide +kernel),
   ex5 (
      let k : Stop := 0
      let l : Link := 0
      let p : Fin 3 := 0
      let s : State := State.reset
      let s : State := setPresent s k l (true)
      let u : State := s.lookAll k l p
      (k, l, p, s, u)) (by decide +kernel),
   ex5 (
      let k : Stop := 0
      let l : Link := 0
      let p : Fin 3 := 1
      let s : State := State.reset
      let x_ : RxTlp := { tlp := default }
      let s : State := setPresent s k l (true)
      let s : State := setPresent s k l true
      let s : State := { s with ord := { s.ord with formQ := tset [] s.ord.formQ k [] } }
      let s : State := s.fset F.STOP.SPARE_CTL.PHASE 0 (7 * sectorOf k + 4)
      let x_ : RxTlp := { x_ with xl := { x_.xl with st := 1 }, tlp := { raw := 0, head := ⟨.cfg, false, 0, 0, BitVec.ofNat _ 2353, 0, 0xF, 1, 0, 0, false⟩, dws := 0, payload := [] } }
      let s : State := { s with port := { s.port with rx := tset [] s.port.rx (partKey k l p) [x_] } }
      let u : State := s.lookAll k l p
      (k, l, p, s, u)) (by decide +kernel),
   ex5 (
      let k : Stop := 0
      let l : Link := 0
      let p : Fin 3 := 1
      let s : State := State.reset
      let s : State := setPresent s k l (true)
      let x_ : RxTlp := { tlp := default }
      let x_ : RxTlp := { x_ with tlp := { x_.tlp with head := { x_.tlp.head with kind := .io } } }
      let s : State := { s with port := { s.port with rx := tset [] s.port.rx (partKey k l p) [x_] } }
      let u : State := s.lookAll k l p
      (k, l, p, s, u)) (by decide +kernel)⟩

theorem met_TransmitSideFollowsItsRules :
    (∃ (k : Stop) (l : Link) (s : State), (s.egr k l 0 = [] ∨ s.present k l = false ∨ s.linkState k l = 0 ∨ s.eff k 1 = 0 ∨
      s.inSpill k l 0 = true))
    ∧ (∃ (k : Stop) (l : Link) (s : State) (x : Egr) (rest : List Egr), s.egr k l 0 = x :: rest ∧ s.present k l = true ∧
      s.linkState k l ≠ 0 ∧ s.eff k 1 ≠ 0 ∧ s.inSpill k l 0 = false ∧ tickPast (s.nodeTick k) x.tick (s.eff k 1) = false)
    ∧ (∃ (k : Stop) (l : Link) (s : State) (x : Egr) (rest : List Egr), s.egr k l 0 = x :: rest ∧ s.present k l = true ∧
      s.linkState k l ≠ 0 ∧ s.eff k 1 ≠ 0 ∧ s.inSpill k l 0 = false ∧ tickPast (s.nodeTick k) x.tick (s.eff k 1) = true)
    ∧ (∃ (k : Stop) (l : Link) (s : State), tget [] s.ord.rdDone k = [] ∧ (s.present k l = false ∨ s.linkState k l ≠ 1))
    ∧ (∃ (k : Stop) (l : Link) (s : State) (e : SpillEnt), tget [] s.ord.rdDone k = [] ∧ s.present k l = true ∧ s.linkState
      k l = 1 ∧ s.spill k l = [e] ∧ e.st = 0)
    ∧ (∃ (k : Stop) (l : Link) (s : State) (e : SpillEnt) (r : RdDone), tget [] s.ord.rdDone k = [r] ∧ r.use = .spill
      (spillNum l e.stamp) ∧ s.spill k l = [e] ∧ e.st = 1 ∧ s.linkState k l ≠ 1)
    ∧ (∃ (k : Stop) (l : Link) (s : State), s.linkLock k l = none)
    ∧ (∃ (k : Stop) (l : Link) (s : State) (o : Lock), s.linkLock k l = some o ∧ tickPast (s.nodeTick k) o.since (s.eff k 2)
      = false)
    ∧ (∃ (k : Stop) (l : Link) (s : State) (o : Lock), s.linkLock k l = some o ∧ tickPast (s.nodeTick k) o.since (s.eff k 2)
      = true)
    ∧ (∃ (k : Stop) (l : Link) (s : State), s.linkEmu k l = none)
    ∧ (∃ (k : Stop) (l : Link) (s : State) (m : Emu), s.linkEmu k l = some m ∧ (m.write.isSome = true ∨ s.linkState k l =
      0))
    ∧ (∃ (k : Stop) (l : Link) (s : State) (m : Emu), s.linkEmu k l = some m ∧ m.write = none ∧ s.linkState k l ≠ 0 ∧
      m.reading = true ∧ tickPast (s.nodeTick k) m.deadline 1 = false)
    ∧ (∃ (k : Stop) (l : Link) (s : State) (m : Emu), s.linkEmu k l = some m ∧ m.write = none ∧ s.linkState k l ≠ 0 ∧
      m.reading = true ∧ tickPast (s.nodeTick k) m.deadline 1 = true)
    ∧ (∃ (k : Stop) (l : Link) (s : State) (m : Emu), s.linkEmu k l = some m ∧ m.write = none ∧ s.linkState k l ≠ 0 ∧ m.reading = false ∧ m.deadline < 2 ^ 48 ∧ m.pois = false ∧ (match atomOf m.req.flit m.data with | some v => true | _ => false) = true)
    ∧ (∃ (k : Stop) (l : Link) (s : State) (m : Emu), s.linkEmu k l = some m ∧ m.write = none ∧ s.linkState k l ≠ 0 ∧
      m.reading = false ∧ (2 ^ 48 ≤ m.deadline ∨ m.pois = true ∨ atomOf m.req.flit m.data = none))
    ∧ (∃ (k : Stop) (l : Link) (d : Fin 2) (s : State), tget none s.port.held (lciUnit k l d) = none)
    ∧ (∃ (k : Stop) (l : Link) (d : Fin 2) (s : State) (h : LciHeld), tget none s.port.held (lciUnit k l d) = some h ∧
      (h.due = 0 ∨ atOrAfter 48 (s.nodeTick k) h.due = false))
    ∧ (∃ (k : Stop) (l : Link) (d : Fin 2) (s : State) (h : LciHeld), tget none s.port.held (lciUnit k l d) = some h ∧ h.due
      ≠ 0 ∧ atOrAfter 48 (s.nodeTick k) h.due = true) :=
  ⟨ex3 (
      let k : Stop := 59
      let l : Link := 3
      let s : State := State.reset
      let s : State := setModeBit s k l 0 (true)
      (k, l, s)) (by decide +kernel),
   ex5 (
      let k : Stop := 0
      let l : Link := 0
      let s : State := State.reset
      let x : Egr := egr0
      let rest : List Egr := []
      let s : State := { s with ord := { s.ord with egr := tset [] s.ord.egr (egrKey k l 0) (x :: rest) } }
      let s : State := setPresent s k l (true)
      let s : State := s.fset F.STOP.LINK_STS.STATE ((0) + 1) k l
      let s : State := { s with port := { s.port with eff := tset 0 s.port.eff (k * 16 + 1) (1 + ((0) + 1)) } }
      let s : State := setModeBit s k l 0 (false)
      let s : State := setTick s (k) (if false then (x.tick) + ((s.eff k 1)) else (x.tick) + ((s.eff k 1)) + 2 ^ 48 - 1)
      (k, l, s, x, rest)) (by decide +kernel),
   ex5 (
      let k : Stop := 0
      let l : Link := 0
      let s : State := State.reset
      let x : Egr := egr0
      let rest : List Egr := []
      let s : State := { s with ord := { s.ord with egr := tset [] s.ord.egr (egrKey k l 0) (x :: rest) } }
      let s : State := setPresent s k l (true)
      let s : State := s.fset F.STOP.LINK_STS.STATE ((0) + 1) k l
      let s : State := { s with port := { s.port with eff := tset 0 s.port.eff (k * 16 + 1) (1 + ((0) + 1)) } }
      let s : State := setModeBit s k l 0 (false)
      let s : State := setTick s (k) (if true then (x.tick) + ((s.eff k 1)) else (x.tick) + ((s.eff k 1)) + 2 ^ 48 - 1)
      (k, l, s, x, rest)) (by decide +kernel),
   ex3 (
      let k : Stop := 59
      let l : Link := 3
      let s : State := State.reset
      let s : State := { s with ord := { s.ord with rdDone := tset [] s.ord.rdDone k ([]) } }
      let s : State := s.fset F.STOP.LINK_STS.STATE ((1) + 1) k l
      (k, l, s)) (by decide +kernel),
   ex4 (
      let k : Stop := 0
      let l : Link := 0
      let s : State := State.reset
      let e : SpillEnt := { stamp := 0, q := 0, slot := 0, slice := 0, rid := 0, ring := 0, tick := 0 }
      let s : State := { s with ord := { s.ord with rdDone := tset [] s.ord.rdDone k ([]) } }
      let s : State := setPresent s k l (true)
      let s : State := s.fset F.STOP.LINK_STS.STATE (1) k l
      let s : State := { s with port := { s.port with spill := tset [] s.port.spill (linkKey k l) ([e]) } }
      let e : SpillEnt := { e with st := 0 }
      (k, l, s, e)) (by decide +kernel),
   ex5 (
      let k : Stop := 59
      let l : Link := 3
      let s : State := State.reset
      let e : SpillEnt := { stamp := 0, q := 0, slot := 0, slice := 0, rid := 0, ring := 0, tick := 0 }
      let r : RdDone := { use := .own, hdr := none, flits := [], status := 0 }
      let r : RdDone := { r with use := .spill (spillNum l e.stamp) }
      let e : SpillEnt := { e with st := 1 }
      let s : State := { s with ord := { s.ord with rdDone := tset [] s.ord.rdDone k ([r]) } }
      let s : State := { s with port := { s.port with spill := tset [] s.port.spill (linkKey k l) ([e]) } }
      let s : State := s.fset F.STOP.LINK_STS.STATE ((1) + 1) k l
      (k, l, s, e, r)) (by decide +kernel),
   ex3 (
      let k : Stop := 59
      let l : Link := 3
      let s : State := State.reset
      let s : State := { s with port := { s.port with lock := tset none s.port.lock (linkKey k l) (none) } }
      (k, l, s)) (by decide +kernel),
   ex4 (
      let k : Stop := 59
      let l : Link := 3
      let s : State := State.reset
      let o : Lock := { sgid := 0, slice := 0, since := 0 }
      let s : State := { s with port := { s.port with lock := tset none s.port.lock (linkKey k l) (some o) } }
      let s : State := setTick s (k) (if false then (o.since) + ((s.eff k 2)) else (o.since) + ((s.eff k 2)) + 2 ^ 48 - 1)
      (k, l, s, o)) (by decide +kernel),
   ex4 (
      let k : Stop := 59
      let l : Link := 3
      let s : State := State.reset
      let o : Lock := { sgid := 0, slice := 0, since := 0 }
      let s : State := { s with port := { s.port with lock := tset none s.port.lock (linkKey k l) (some o) } }
      let s : State := setTick s (k) (if true then (o.since) + ((s.eff k 2)) else (o.since) + ((s.eff k 2)) + 2 ^ 48 - 1)
      (k, l, s, o)) (by decide +kernel),
   ex3 (
      let k : Stop := 59
      let l : Link := 3
      let s : State := State.reset
      let s : State := { s with port := { s.port with emu := tset none s.port.emu (linkKey k l) (none) } }
      (k, l, s)) (by decide +kernel),
   ex4 (
      let k : Stop := 59
      let l : Link := 3
      let s : State := State.reset
      let m : Emu := { req := egr0, outTag := 0, size := 4, deadline := 0 }
      let s : State := { s with port := { s.port with emu := tset none s.port.emu (linkKey k l) (some m) } }
      let s : State := s.fset F.STOP.LINK_STS.STATE (0) k l
      (k, l, s, m)) (by decide +kernel),
   ex4 (
      let k : Stop := 59
      let l : Link := 3
      let s : State := State.reset
      let m : Emu := { req := egr0, outTag := 0, size := 4, deadline := 0 }
      let s : State := { s with port := { s.port with emu := tset none s.port.emu (linkKey k l) (some m) } }
      let m : Emu := { m with write := none }
      let s : State := s.fset F.STOP.LINK_STS.STATE ((0) + 1) k l
      let m : Emu := { m with reading := true }
      let s : State := setTick s (k) (if false then (m.deadline) + (1) else (m.deadline) + (1) + 2 ^ 48 - 1)
      (k, l, s, m)) (by decide +kernel),
   ex4 (
      let k : Stop := 59
      let l : Link := 3
      let s : State := State.reset
      let m : Emu := { req := egr0, outTag := 0, size := 4, deadline := 0 }
      let s : State := { s with port := { s.port with emu := tset none s.port.emu (linkKey k l) (some m) } }
      let m : Emu := { m with write := none }
      let s : State := s.fset F.STOP.LINK_STS.STATE ((0) + 1) k l
      let m : Emu := { m with reading := true }
      let s : State := setTick s (k) (if true then (m.deadline) + (1) else (m.deadline) + (1) + 2 ^ 48 - 1)
      (k, l, s, m)) (by decide +kernel),
   ex4 (
      let k : Stop := 59
      let l : Link := 3
      let s : State := State.reset
      let m : Emu := { req := egr0, outTag := 0, size := 4, deadline := 0 }
      let m : Emu := { m with write := none }
      let m : Emu := { m with reading := false }
      let m : Emu := { m with pois := false }
      let s : State := { s with port := { s.port with emu := tset none s.port.emu (linkKey k l) (some m) } }
      let s : State := s.fset F.STOP.LINK_STS.STATE ((0) + 1) k l
      (k, l, s, m)) (by decide +kernel),
   ex4 (
      let k : Stop := 32
      let l : Link := 0
      let s : State := State.reset
      let m : Emu := { req := egr0, outTag := 0, size := 4, deadline := 0 }
      let m : Emu := { m with write := none }
      let m : Emu := { m with reading := false }
      let m : Emu := { m with deadline := (2 ^ 48) + 1 }
      let s : State := { s with port := { s.port with emu := tset none s.port.emu (linkKey k l) (some m) } }
      let s : State := s.fset F.STOP.LINK_STS.STATE ((0) + 1) k l
      (k, l, s, m)) (by decide +kernel),
   ex4 (
      let k : Stop := 59
      let l : Link := 3
      let d : Fin 2 := 1
      let s : State := State.reset
      let s : State := { s with port := { s.port with held := tset none s.port.held (lciUnit k l d) (none) } }
      (k, l, d, s)) (by decide +kernel),
   ex5 (
      let k : Stop := 59
      let l : Link := 3
      let d : Fin 2 := 1
      let s : State := State.reset
      let h : LciHeld := { tlp := default, part := 0, due := 0 }
      let s : State := { s with port := { s.port with held := tset none s.port.held (lciUnit k l d) (some h) } }
      let s : State := setTick s (k) (if false then (h.due) else (h.due) + 2 ^ 48 - 1)
      (k, l, d, s, h)) (by decide +kernel),
   ex5 (
      let k : Stop := 59
      let l : Link := 3
      let d : Fin 2 := 1
      let s : State := State.reset
      let h : LciHeld := { tlp := default, part := 0, due := 0 }
      let s : State := { s with port := { s.port with held := tset none s.port.held (lciUnit k l d) (some h) } }
      let s : State := setTick s (k) (if true then (h.due) else (h.due) + 2 ^ 48 - 1)
      let h : LciHeld := { h with due := 5 }
      let s : State := { s with port := { s.port with held := tset none s.port.held (lciUnit k l d) (some h) } }
      let s : State := setTick s k 5
      (k, l, d, s, h)) (by decide +kernel)⟩

theorem met_EgressSendsItsNextHead :
    (∃ (k : Stop) (l : Link) (s : State), (s.stopRuns k = false ∨ (isPortStop k = true ∧ s.present k l = false)))
    ∧ (∃ (k : Stop) (l : Link) (s : State) (x : Egr) (rest : List (Nat × Egr)), s.stopRuns k = true ∧ s.present k l = true ∧
      s.drops k l = false ∧ tget 0 s.port.mode (linkKey k l) = 0 ∧ s.spill k l = [] ∧ s.linkLock k l = none ∧ s.linkEmu k l =
      none ∧ tget none s.port.held (lciUnit k l 1) = none ∧ s.modeNow k ≠ 2 ∧ x.flit.last = 1 ∧ (∀ q : Fin 3, s.portBroken k l
      q = false) ∧ s.portHeads k l = (0, x) :: rest ∧ x.flit.opc ≠ opUNLOCK ∧ s.asm k l 0 = [])
    ∧ (∃ (k : Stop) (l : Link) (s : State) (x : Egr) (rest : List (Nat × Egr)), s.stopRuns k = true ∧ s.present k l = true ∧ s.drops k l = false ∧ tget 0 s.port.mode (linkKey k l) = 0 ∧ s.spill k l = [] ∧ s.linkLock k l = none ∧ s.linkEmu k l = none ∧ tget none s.port.held (lciUnit k l 1) = none ∧ s.modeNow k ≠ 2 ∧ x.flit.last = 1 ∧ (∀ q : Fin 3, s.portBroken k l q = false) ∧ s.portHeads k l = (1, x) :: rest ∧ x.flit.opc ≠ opLOCKRD ∧ s.fbit F.STOP.LINK_CFG.ATOM_EMU k l = false ∧ s.asm k l 1 = [] ∧ (match s.newOutTag k l with | some n => true | _ => false) = true)
    ∧ (∃ (k : Stop) (l : Link) (s : State) (x : Egr), s.stopRuns k = true ∧ s.present k l = true ∧ s.drops k l = false ∧
      tget 0 s.port.mode (linkKey k l) = 0 ∧ s.spill k l = [] ∧ s.linkLock k l = none ∧ s.linkEmu k l = none ∧ tget none
      s.port.held (lciUnit k l 1) = none ∧ s.modeNow k ≠ 2 ∧ x.flit.last = 1 ∧ (∀ q : Fin 3, s.portBroken k l q = false) ∧
      s.portHeads k l = [])
    ∧ (∃ (x : Chan) (s : State) (k : Stop), s.stopRuns (memStop x) = true ∧ k.val = memStop x)
    ∧ (∃ (k : Stop) (s : State) (q : Nat) (x : Egr), s.stopRuns k = true ∧ s.egrNext k 0 (fun _ _ => true) = some (q, x) ∧
      (k.val = 56 ∨ k.val = 57))
    ∧ (∃ (k : Stop) (s : State) (q : Nat) (x : Egr), s.stopRuns k = true ∧ s.egrNext k 0 (fun _ _ => true) = some (q, x) ∧
      k.val = 59)
    ∧ (∃ (e : EngNo) (s : State) (q : Nat) (x : Egr) (k : Stop), k.val = engStop e ∧ s.stopRuns k = true ∧ s.descHead e 2 =
      none ∧ s.descHead e 1 = none ∧ s.egrNext k 0 (fun _ _ => true) = some (q, x)) :=
  ⟨ex3 (
      let k : Stop := 3
      let l : Link := 3
      let s : State := State.reset
      let s : State := setPresent s k l (false)
      (k, l, s)) (by decide +kernel),
   ex5 (
      let k : Stop := 0
      let l : Link := 0
      let s : State := State.reset
      let x : Egr := egr0
      let x : Egr := { x with flit := { x.flit with last := 1 } }
      let rest : List (Nat × Egr) := []
      let x : Egr := { x with flit := { x.flit with fidx := 0 } }
      let x : Egr := { x with flit := { x.flit with len := 2, opc := if x.flit.opc == opLOCKRD then opMRD else if x.flit.opc == opUNLOCK then opMWR else x.flit.opc } }
      let s : State := setRuns s k (true)
      let s : State := setPresent s k l (true)
      let s : State := { s with port := { s.port with mode := tset 0 s.port.mode (linkKey k l) (0) } }
      let s : State := { s with port := { s.port with spill := tset [] s.port.spill (linkKey k l) ([]) } }
      let s : State := { s with port := { s.port with lock := tset none s.port.lock (linkKey k l) (none) } }
      let s : State := { s with port := { s.port with emu := tset none s.port.emu (linkKey k l) (none) } }
      let s : State := { s with port := { s.port with held := tset none s.port.held (lciUnit k l 1) (none) } }
      let s : State := s.fset F.STOP.PORT_MODE.MODE_NOW ((2) + 1) k
      let s : State := setEgr (setEgr (setEgr s k l 0 [x]) k l 1 []) k l 2 []
      let s : State := { s with port := { s.port with asm := tset [] s.port.asm (partKey k l 0) ([]) } }
      let s : State := { s with port := { s.port with asm := [] } }
      let s : State := s.fset F.STOP.LINK_STS.STATE 1 k l
      let s : State := setXb s (lciBridge (s.socketOf k) l) true
      let s : State := { s with port := { s.port with stall := [], used := [], cred := tset 0 s.port.cred (partKey k l 0) 40000 } }
      (k, l, s, x, rest)) (by decide +kernel),
   ex5 (
      let k : Stop := 0
      let l : Link := 0
      let s : State := State.reset
      let x : Egr := egr0
      let x : Egr := { x with flit := { x.flit with last := 1 } }
      let rest : List (Nat × Egr) := []
      let x : Egr := { x with flit := { x.flit with fidx := 0 } }
      let x : Egr := { x with flit := { x.flit with len := 2, opc := if x.flit.opc == opLOCKRD then opMRD else if x.flit.opc == opUNLOCK then opMWR else x.flit.opc } }
      let s : State := setRuns s k (true)
      let s : State := setPresent s k l (true)
      let s : State := { s with port := { s.port with mode := tset 0 s.port.mode (linkKey k l) (0) } }
      let s : State := { s with port := { s.port with spill := tset [] s.port.spill (linkKey k l) ([]) } }
      let s : State := { s with port := { s.port with lock := tset none s.port.lock (linkKey k l) (none) } }
      let s : State := { s with port := { s.port with emu := tset none s.port.emu (linkKey k l) (none) } }
      let s : State := { s with port := { s.port with held := tset none s.port.held (lciUnit k l 1) (none) } }
      let s : State := s.fset F.STOP.PORT_MODE.MODE_NOW ((2) + 1) k
      let s : State := setEgr (setEgr (setEgr s k l 1 [x]) k l 2 []) k l 0 []
      let s : State := s.fset F.STOP.LINK_CFG.ATOM_EMU ((b2n (false))) k l
      let s : State := { s with port := { s.port with asm := tset [] s.port.asm (partKey k l 1) ([]) } }
      let s : State := { s with port := { s.port with asm := [] } }
      let s : State := s.fset F.STOP.LINK_STS.STATE 1 k l
      let s : State := setXb s (lciBridge (s.socketOf k) l) true
      let s : State := { s with port := { s.port with stall := [], used := [], cred := tset 0 s.port.cred (partKey k l 1) 40000 } }
      (k, l, s, x, rest)) (by decide +kernel),
   ex4 (
      let k : Stop := 0
      let l : Link := 0
      let s : State := State.reset
      let x : Egr := egr0
      let s : State := setRuns s k (true)
      let s : State := setPresent s k l (true)
      let s : State := { s with port := { s.port with mode := tset 0 s.port.mode (linkKey k l) (0) } }
      let s : State := { s with port := { s.port with spill := tset [] s.port.spill (linkKey k l) ([]) } }
      let s : State := { s with port := { s.port with lock := tset none s.port.lock (linkKey k l) (none) } }
      let s : State := { s with port := { s.port with emu := tset none s.port.emu (linkKey k l) (none) } }
      let s : State := { s with port := { s.port with held := tset none s.port.held (lciUnit k l 1) (none) } }
      let s : State := s.fset F.STOP.PORT_MODE.MODE_NOW ((2) + 1) k
      let x : Egr := { x with flit := { x.flit with last := 1 } }
      let s : State := setEgr (setEgr (setEgr s k l 0 []) k l 1 []) k l 2 []
      let x : Egr := { x with flit := { x.flit with last := 1 } }
      let s : State := s.fset F.STOP.LINK_STS.STATE 1 k l
      let s : State := s.fset F.STOP.PORT_MODE.MODE_NOW 1 k
      (k, l, s, x)) (by decide +kernel),
   ex3 (
      let x : Chan := 7
      let k : Stop := 54
      let s : State := State.reset
      let s : State := setRuns s (memStop x) (true)
      (x, s, k)) (by decide +kernel),
   ex4 (
      let k : Stop := 56
      let q : Nat := 0
      let s : State := State.reset
      let x : Egr := egr0
      let s : State := setRuns s k (true)
      let s : State := setEgr (setEgr (setEgr s k 0 0 [x]) k 0 1 []) k 0 2 []
      (k, s, q, x)) (by decide +kernel),
   ex4 (
      let k : Stop := 59
      let q : Nat := 0
      let s : State := State.reset
      let x : Egr := egr0
      let s : State := setRuns s k (true)
      let s : State := setEgr (setEgr (setEgr s k 0 0 [x]) k 0 1 []) k 0 2 []
      (k, s, q, x)) (by decide +kernel),
   ex5 (
      let e : EngNo := 7
      let q : Nat := 0
      let k : Stop := 55
      let s : State := State.reset
      let x : Egr := egr0
      let s : State := setRuns s k (true)
      let s : State := setEgr s (engStop e) 0 0 []
      let s : State := setEgr s (engStop e) 0 0 []
      let s : State := setEgr (setEgr (setEgr s k 0 0 [x]) k 0 1 []) k 0 2 []
      (e, s, q, x, k)) (by decide +kernel)⟩

theorem met_MemoryStopsTakeTheirRequests :
    (∃ (x : Chan) (s : State), s.stopRuns (memStop x) = false)
    ∧ (∃ (x : Chan) (s : State), s.stopRuns (memStop x) = true ∧ s.egrNext (memStop x) 0 (fun _ _ => true) = none)
    ∧ (∃ (x : Chan) (s : State) (q : Nat) (e : Egr), s.stopRuns (memStop x) = true ∧ s.egrNext (memStop x) 0 (fun _ _ =>
      true) = some (q, e))
    ∧ (∃ (x : Chan) (s : State) (q : Nat) (e : Egr), s.stopRuns (memStop x) = true ∧ s.egrNext (memStop x) 0 (fun _ _ =>
      true) = some (q, e) ∧ ¬(e.flit.opc = opMWR ∧ spaceOf e.flit = 0xD0))
    ∧ (∃ (x : Chan) (s : State) (q : Nat) (e : Egr), s.stopRuns (memStop x) = true ∧ s.egrNext (memStop x) 0 (fun _ _ =>
      true) = some (q, e) ∧ ¬(e.flit.opc = opMRD ∧ spaceOf e.flit = 0xD1))
    ∧ (∃ (x : Chan) (s : State) (q : Nat) (e : Egr), s.stopRuns (memStop x) = true ∧ s.egrNext (memStop x) 0 (fun _ _ =>
      true) = some (q, e) ∧ ¬(e.flit.opc = opMWR ∧ spaceOf e.flit = 0xD2))
    ∧ (∃ (x : Chan) (s : State) (q : Nat) (c : Nat) (e : Egr), s.stopRuns (memStop x) = true ∧ s.egrNext (memStop x) 0 (fun
      _ _ => true) = some (q, e) ∧ c = memChan (memStop x) e.rid ∧ s.jobs c = [] ∧ e.flit.opc = opMWR ∧ spaceOf e.flit = 0xD2)
    ∧ (∃ (x : Chan) (s : State) (q : Nat) (c : Nat) (e : Egr), s.stopRuns (memStop x) = true ∧ s.egrNext (memStop x) 0 (fun
      _ _ => true) = some (q, e) ∧ c = memChan (memStop x) e.rid ∧ s.jobs c = [] ∧ s.poolFenced c e.flit = true)
    ∧ (∃ (x : Chan) (s : State) (q : Nat) (c : Nat) (e : Egr), s.stopRuns (memStop x) = true ∧ s.egrNext (memStop x) 0 (fun
      _ _ => true) = some (q, e) ∧ c = memChan (memStop x) e.rid ∧ s.jobs c = [] ∧ (∀ i : Chan, chState s i = 0) ∧ e.flit.opc
      = opMWR ∧ spaceOf e.flit = 0xD0 ∧ 0 < writeBytes e.flit ∧ tget [] s.mem.folded c = [])
    ∧ (∃ (x : Chan) (s : State) (q : Nat) (c : Nat) (e : Egr), s.stopRuns (memStop x) = true ∧ s.egrNext (memStop x) 0 (fun
      _ _ => true) = some (q, e) ∧ c = memChan (memStop x) e.rid ∧ s.jobs c = [] ∧ (∀ i : Chan, chState s i = 0) ∧ e.flit.opc
      = opMRD ∧ spaceOf e.flit = 0xD1)
    ∧ (∃ (x : Chan) (s : State) (q : Nat) (c : Nat) (e : Egr), s.stopRuns (memStop x) = true ∧ s.egrNext (memStop x) 0 (fun
      _ _ => true) = some (q, e) ∧ c = memChan (memStop x) e.rid ∧ s.jobs c = [] ∧ (∀ i : Chan, chState s i = 0) ∧ e.flit.opc
      = opMRD ∧ spaceOf e.flit ≠ 0xD1 ∧ s.poolFenced c e.flit = false) :=
  ⟨ex2 (
      let x : Chan := 7
      let s : State := State.reset
      let s : State := setRuns s (memStop x) (false)
      (x, s)) (by decide +kernel),
   ex2 (
      let x : Chan := 7
      let s : State := State.reset
      let s : State := setRuns s (memStop x) (true)
      let s : State := setEgr (setEgr (setEgr s (memStop x) 0 0 []) (memStop x) 0 1 []) (memStop x) 0 2 []
      (x, s)) (by decide +kernel),
   ex4 (
      let x : Chan := 7
      let q : Nat := 0
      let s : State := State.reset
      let e : Egr := egr0
      let s : State := setRuns s (memStop x) (true)
      let s : State := setEgr (setEgr (setEgr s (memStop x) 0 0 [e]) (memStop x) 0 1 []) (memStop x) 0 2 []
      (x, s, q, e)) (by decide +kernel),
   ex4 (
      let x : Chan := 7
      let q : Nat := 0
      let s : State := State.reset
      let e : Egr := egr0
      let s : State := setRuns s (memStop x) (true)
      let s : State := setEgr (setEgr (setEgr s (memStop x) 0 0 [e]) (memStop x) 0 1 []) (memStop x) 0 2 []
      (x, s, q, e)) (by decide +kernel),
   ex4 (
      let x : Chan := 7
      let q : Nat := 0
      let s : State := State.reset
      let e : Egr := egr0
      let s : State := setRuns s (memStop x) (true)
      let s : State := setEgr (setEgr (setEgr s (memStop x) 0 0 [e]) (memStop x) 0 1 []) (memStop x) 0 2 []
      (x, s, q, e)) (by decide +kernel),
   ex4 (
      let x : Chan := 7
      let q : Nat := 0
      let s : State := State.reset
      let e : Egr := egr0
      let s : State := setRuns s (memStop x) (true)
      let s : State := setEgr (setEgr (setEgr s (memStop x) 0 0 [e]) (memStop x) 0 1 []) (memStop x) 0 2 []
      (x, s, q, e)) (by decide +kernel),
   ex5 (
      let x : Chan := 7
      let q : Nat := 0
      let s : State := State.reset
      let e : Egr := egr0
      let e : Egr := { e with flit := { e.flit with opc := opMWR } }
      let e : Egr := { e with flit := { e.flit with addr := setB e.flit.addr 56 8 0xD2 } }
      let s : State := setRuns s (memStop x) (true)
      let s : State := setEgr (setEgr (setEgr s (memStop x) 0 0 [e]) (memStop x) 0 1 []) (memStop x) 0 2 []
      let s : State := { s with mem := { s.mem with jobs := tset [] s.mem.jobs (memChan (memStop x) e.rid) ([]) } }
      let c : Nat := memChan (memStop x) e.rid
      (x, s, q, c, e)) (by decide +kernel),
   ex5 (
      let x : Chan := 7
      let q : Nat := 0
      let s : State := State.reset
      let e : Egr := egr0
      let e : Egr := { e with flit := { e.flit with slice := 5, addr := BitVec.ofNat _ (2 ^ 39 + 12345) } }
      let s : State := setRuns s (memStop x) (true)
      let s : State := setEgr (setEgr (setEgr s (memStop x) 0 0 [e]) (memStop x) 0 1 []) (memStop x) 0 2 []
      let s : State := { s with mem := { s.mem with jobs := tset [] s.mem.jobs (memChan (memStop x) e.rid) ([]) } }
      let s : State := { s with mem := { s.mem with units := [] } }
      let c : Nat := memChan (memStop x) e.rid
      (x, s, q, c, e)) (by decide +kernel),
   ex5 (
      let x : Chan := 7
      let q : Nat := 0
      let s : State := State.reset
      let e : Egr := egr0
      let e : Egr := { e with flit := { e.flit with opc := opMWR } }
      let e : Egr := { e with flit := { e.flit with fidx := 0, len := 2, addr := setB e.flit.addr 56 8 0xD0 } }
      let s : State := setRuns s (memStop x) (true)
      let s : State := setEgr (setEgr (setEgr s (memStop x) 0 0 [e]) (memStop x) 0 1 []) (memStop x) 0 2 []
      let s : State := { s with mem := { s.mem with jobs := tset [] s.mem.jobs (memChan (memStop x) e.rid) ([]) } }
      let s : State := { s with mem := { s.mem with folded := tset [] s.mem.folded (memChan (memStop x) e.rid) ([]) } }
      let s : State := (List.range 8).foldl (fun s j => s.fset F.MEM.CH_STS.STATE 0 j) s
      let c : Nat := memChan (memStop x) e.rid
      (x, s, q, c, e)) (by decide +kernel),
   ex5 (
      let x : Chan := 7
      let q : Nat := 0
      let s : State := State.reset
      let e : Egr := egr0
      let e : Egr := { e with flit := { e.flit with opc := opMRD } }
      let e : Egr := { e with flit := { e.flit with addr := setB e.flit.addr 56 8 0xD1 } }
      let s : State := setRuns s (memStop x) (true)
      let s : State := setEgr (setEgr (setEgr s (memStop x) 0 0 [e]) (memStop x) 0 1 []) (memStop x) 0 2 []
      let s : State := { s with mem := { s.mem with jobs := tset [] s.mem.jobs (memChan (memStop x) e.rid) ([]) } }
      let s : State := (List.range 8).foldl (fun s j => s.fset F.MEM.CH_STS.STATE 0 j) s
      let c : Nat := memChan (memStop x) e.rid
      (x, s, q, c, e)) (by decide +kernel),
   ex5 (
      let x : Chan := 7
      let q : Nat := 0
      let s : State := State.reset
      let e : Egr := egr0
      let e : Egr := { e with flit := { e.flit with opc := opMRD } }
      let s : State := setRuns s (memStop x) (true)
      let s : State := setEgr (setEgr (setEgr s (memStop x) 0 0 [e]) (memStop x) 0 1 []) (memStop x) 0 2 []
      let s : State := { s with mem := { s.mem with jobs := tset [] s.mem.jobs (memChan (memStop x) e.rid) ([]) } }
      let c : Nat := memChan (memStop x) e.rid
      (x, s, q, c, e)) (by decide +kernel)⟩

end Sys2Proof.Tests
end

