-- ==== Sys2Proof/Tests/Met4.lean ====
section
/-! SUPPORT. For each clause of the statements MemoryAnswersCompleteRequests to QueueCommandsTakeEffect, a concrete state and operands that
meet its hypotheses together: one theorem for a statement, one conjunct for a clause with hypotheses. -/

open Sys2Proof Sys2Proof.Machine

namespace Sys2Proof.Tests

set_option maxRecDepth 100000
set_option Elab.async false
set_option linter.unusedVariables false

theorem met_MemoryAnswersCompleteRequests :
    (∃ (c : Chan) (n : Fin 256) (s : State), s.accByTag c n = none)
    ∧ (∃ (c : Chan) (n : Fin 256) (s : State) (j : MJob) (a : MAcc), s.mem.upd = [] ∧ s.mem.pbUpd = 0 ∧ chState s c ≠ 2 ∧
      s.jobs c = [j] ∧ j.accs = [a] ∧ a.tag = n ∧ a.ph = 1 ∧ a.op = 0 ∧ j.kind = .read)
    ∧ (∃ (c : Chan) (n : Fin 256) (s : State) (j : MJob) (a : MAcc), s.mem.upd = [] ∧ s.mem.pbUpd = 0 ∧ chState s c ≠ 2 ∧
      s.jobs c = [j] ∧ j.accs = [a] ∧ a.tag = n ∧ a.ph = 1 ∧ a.op = 1 ∧ j.kind = .post ∧ s.unitGone c (a.addr / 4096) = false
      ∧ s.xbReady (memBridge c) = true)
    ∧ (∃ (c : Chan) (n : Fin 256) (s : State) (j : MJob) (a : MAcc), s.mem.upd = [] ∧ s.mem.pbUpd = 0 ∧ chState s c ≠ 2 ∧
      s.jobs c = [j] ∧ j.accs = [a] ∧ a.tag = n ∧ a.ph = 2 ∧ a.op = 1 ∧ j.kind = .post ∧ s.unitGone (parityCh (a.addr / 4096))
      (a.addr / 4096) = false)
    ∧ (∃ (c : Chan) (n : Fin 256) (s : State) (j : MJob) (a : MAcc), s.mem.upd = [] ∧ s.mem.pbUpd = 0 ∧ chState s c ≠ 2 ∧
      s.jobs c = [j] ∧ j.accs = [a] ∧ a.tag = n ∧ a.ph = 1 ∧ (a.op = 0 ∨ a.op = 1) ∧ (j.kind = .read ∨ j.kind = .post))
    ∧ (∃ (c : Chan) (s : State), tget [] s.ord.rdDone (s.actStop c) = [])
    ∧ (∃ (c : Chan) (s : State) (j : MJob) (a : MAcc) (r : RdDone), s.mem.upd = [] ∧ s.mem.pbUpd = 0 ∧ chState s c ≠ 2 ∧
      s.jobs c = [j] ∧ j.accs = [a] ∧ a.ph = 4 ∧ a.op = 0 ∧ a.pois = false ∧ j.kind = .read ∧ tget [] s.ord.rdDone (s.actStop
      c) = [r] ∧ r.use = .rowRead j.id 0 (parityCh (a.addr / 4096)) ∧ rdBad r = false) :=
  ⟨ex3 (
      let c : Chan := 7
      let n : Fin 256 := 255
      let s : State := State.reset
      (c, n, s)) (by decide +kernel),
   ex5 (
      let c : Chan := 7
      let n : Fin 256 := 255
      let s : State := State.reset
      let j : MJob := { id := 0, kind := .post, hdr := emptyFlit, ring := 0, accs := [] }
      let a : MAcc := { op := 0, addr := 0, len := 0 }
      let j : MJob := { j with accs := [a] }
      let a : MAcc := { a with tag := n }
      let a : MAcc := { a with ph := 1 }
      let a : MAcc := { a with op := 0 }
      let j : MJob := { j with kind := .read }
      let j : MJob := { j with accs := [a] }
      let a : MAcc := { a with tag := n }
      let a : MAcc := { a with ph := 1 }
      let a : MAcc := { a with op := 0 }
      let j : MJob := { j with kind := .read }
      let s : State := { s with mem := { s.mem with upd := [] } }
      let s : State := { s with mem := { s.mem with pbUpd := 0 } }
      let s : State := s.fset F.MEM.CH_STS.STATE ((2) + 1) c
      let s : State := { s with mem := { s.mem with jobs := tset [] s.mem.jobs c ([j]) } }
      let s : State := { s with mem := { s.mem with upd := [] } }
      let s : State := { s with mem := { s.mem with pbUpd := 0 } }
      let s : State := s.fset F.MEM.CH_STS.STATE ((2) + 1) c
      let s : State := { s with mem := { s.mem with jobs := tset [] s.mem.jobs c ([j]) } }
      (c, n, s, j, a)) (by decide +kernel),
   ex5 (
      let c : Chan := 7
      let n : Fin 256 := 255
      let s : State := State.reset
      let j : MJob := { id := 0, kind := .post, hdr := emptyFlit, ring := 0, accs := [] }
      let a : MAcc := { op := 0, addr := 0, len := 0 }
      let j : MJob := { j with accs := [a] }
      let a : MAcc := { a with tag := n }
      let a : MAcc := { a with ph := 1 }
      let a : MAcc := { a with op := 1 }
      let j : MJob := { j with kind := .post }
      let j : MJob := { j with accs := [a] }
      let a : MAcc := { a with tag := n }
      let a : MAcc := { a with ph := 1 }
      let a : MAcc := { a with op := 1 }
      let j : MJob := { j with kind := .post }
      let s : State := { s with mem := { s.mem with upd := [] } }
      let s : State := { s with mem := { s.mem with pbUpd := 0 } }
      let s : State := s.fset F.MEM.CH_STS.STATE ((2) + 1) c
      let s : State := { s with mem := { s.mem with jobs := tset [] s.mem.jobs c ([j]) } }
      let s : State := setXb s (memBridge c) (true)
      let s : State := { s with mem := { s.mem with upd := [] } }
      let s : State := { s with mem := { s.mem with pbUpd := 0 } }
      let s : State := s.fset F.MEM.CH_STS.STATE ((2) + 1) c
      let s : State := { s with mem := { s.mem with jobs := tset [] s.mem.jobs c ([j]) } }
      let s : State := setXb s (memBridge c) (true)
      (c, n, s, j, a)) (by decide +kernel),
   ex5 (
      let c : Chan := 7
      let n : Fin 256 := 255
      let s : State := State.reset
      let j : MJob := { id := 0, kind := .post, hdr := emptyFlit, ring := 0, accs := [] }
      let a : MAcc := { op := 0, addr := 0, len := 0 }
      let j : MJob := { j with accs := [a] }
      let a : MAcc := { a with tag := n }
      let a : MAcc := { a with ph := 2 }
      let a : MAcc := { a with op := 1 }
      let j : MJob := { j with kind := .post }
      let j : MJob := { j with accs := [a] }
      let a : MAcc := { a with tag := n }
      let a : MAcc := { a with ph := 2 }
      let a : MAcc := { a with op := 1 }
      let j : MJob := { j with kind := .post }
      let s : State := { s with mem := { s.mem with upd := [] } }
      let s : State := { s with mem := { s.mem with pbUpd := 0 } }
      let s : State := s.fset F.MEM.CH_STS.STATE ((2) + 1) c
      let s : State := { s with mem := { s.mem with jobs := tset [] s.mem.jobs c ([j]) } }
      let s : State := { s with mem := { s.mem with upd := [] } }
      let s : State := { s with mem := { s.mem with pbUpd := 0 } }
      let s : State := s.fset F.MEM.CH_STS.STATE ((2) + 1) c
      let s : State := { s with mem := { s.mem with jobs := tset [] s.mem.jobs c ([j]) } }
      (c, n, s, j, a)) (by decide +kernel),
   ex5 (
      let c : Chan := 0
      let n : Fin 256 := 0
      let s : State := State.reset
      let j : MJob := { id := 0, kind := .post, hdr := emptyFlit, ring := 0, accs := [] }
      let a : MAcc := { op := 0, addr := 0, len := 0 }
      let j : MJob := { j with accs := [a] }
      let a : MAcc := { a with tag := n }
      let a : MAcc := { a with ph := 1 }
      let a : MAcc := { a with op := 0 }
      let j : MJob := { j with kind := .read }
      let j : MJob := { j with accs := [a] }
      let a : MAcc := { a with tag := n }
      let a : MAcc := { a with ph := 1 }
      let a : MAcc := { a with op := 0 }
      let j : MJob := { j with kind := .read }
      let s : State := { s with mem := { s.mem with upd := [] } }
      let s : State := { s with mem := { s.mem with pbUpd := 0 } }
      let s : State := s.fset F.MEM.CH_STS.STATE ((2) + 1) c
      let s : State := { s with mem := { s.mem with jobs := tset [] s.mem.jobs c ([j]) } }
      let s : State := { s with mem := { s.mem with upd := [] } }
      let s : State := { s with mem := { s.mem with pbUpd := 0 } }
      let s : State := s.fset F.MEM.CH_STS.STATE ((2) + 1) c
      let s : State := { s with mem := { s.mem with jobs := tset [] s.mem.jobs c ([j]) } }
      (c, n, s, j, a)) (by decide +kernel),
   ex2 (
      let c : Chan := 7
      let s : State := State.reset
      let s : State := { s with ord := { s.ord with rdDone := tset [] s.ord.rdDone (s.actStop c) ([]) } }
      (c, s)) (by decide +kernel),
   ex5 (
      let c : Chan := 7
      let s : State := State.reset
      let j : MJob := { id := 0, kind := .post, hdr := emptyFlit, ring := 0, accs := [] }
      let a : MAcc := { op := 0, addr := 0, len := 0 }
      let r : RdDone := { use := .own, hdr := none, flits := [], status := 0 }
      let j : MJob := { j with accs := [a] }
      let a : MAcc := { a with ph := 4 }
      let a : MAcc := { a with op := 0 }
      let a : MAcc := { a with pois := false }
      let j : MJob := { j with kind := .read }
      let r : RdDone := { r with use := .rowRead j.id 0 (parityCh (a.addr / 4096)) }
      let r : RdDone := { r with flits := [emptyFlit] }
      let j : MJob := { j with accs := [a] }
      let a : MAcc := { a with ph := 4 }
      let a : MAcc := { a with op := 0 }
      let a : MAcc := { a with pois := false }
      let j : MJob := { j with kind := .read }
      let r : RdDone := { r with use := .rowRead j.id 0 (parityCh (a.addr / 4096)) }
      let r : RdDone := { r with flits := [emptyFlit] }
      let s : State := { s with mem := { s.mem with upd := [] } }
      let s : State := { s with mem := { s.mem with pbUpd := 0 } }
      let s : State := s.fset F.MEM.CH_STS.STATE ((2) + 1) c
      let s : State := { s with mem := { s.mem with jobs := tset [] s.mem.jobs c ([j]) } }
      let s : State := { s with ord := { s.ord with rdDone := tset [] s.ord.rdDone (s.actStop c) ([r]) } }
      let s : State := { s with ord := { s.ord with rdDone := tset [] s.ord.rdDone (s.actStop c) [r] } }
      let s : State := { s with mem := { s.mem with upd := [] } }
      let s : State := { s with mem := { s.mem with pbUpd := 0 } }
      let s : State := s.fset F.MEM.CH_STS.STATE ((2) + 1) c
      let s : State := { s with mem := { s.mem with jobs := tset [] s.mem.jobs c ([j]) } }
      let s : State := { s with ord := { s.ord with rdDone := tset [] s.ord.rdDone (s.actStop c) ([r]) } }
      let s : State := { s with ord := { s.ord with rdDone := tset [] s.ord.rdDone (s.actStop c) [r] } }
      (c, s, j, a, r)) (by decide +kernel)⟩

theorem met_ChannelCommandsTakeEffect :
    (∃ (c : Chan) (s : State), (chState s c = 0 ∨ chState s c = 2))
    ∧ (∃ (c : Chan) (s : State), chState s c = 1)
    ∧ (∃ (w : Word), 16 < vbits w 8 5)
    ∧ (∃ (w : Word), vbits w 8 5 ≤ 16)
    ∧ (∃ (c : Chan) (w : Word) (s : State), vbits w 8 5 ≤ 16 ∧ chState s c < 3)
    ∧ (∃ (c : Chan) (w : Word) (s : State), vbits w 8 5 ≤ 16 ∧ chState s c = 1 ∧ s.fbit F.MEM.CH_STS.CTRL_READY c = true)
    ∧ (∃ (c : Chan) (w : Word) (s : State), vbits w 8 5 ≤ 16 ∧ chState s c = 1 ∧ s.fbit F.MEM.CH_STS.CTRL_READY c = false)
    ∧ (∃ (c : Chan) (w : Word) (s : State), vbits w 8 5 ≤ 16 ∧ chState s c ≠ 1)
    ∧ (∃ (c : Chan) (w : Word) (s : State), vbits w 8 5 ≤ 16 ∧ chState s c = 2)
    ∧ (∃ (c : Chan) (w : Word) (s : State), vbits w 8 5 ≤ 16 ∧ chState s c ≠ 2)
    ∧ (∃ (c : Chan) (s : State), chState s c ≠ 2)
    ∧ (∃ (c : Chan) (s : State), chState s c = 2 ∧ s.jobs c = [] ∧ s.fget F.MEM.CH_CTL.RATE c ≤ 16 ∧ s.fget
      F.MEM.REBUILD_PTR.PTR c + s.fget F.MEM.CH_CTL.RATE c < 8388608)
    ∧ (∃ (c : Chan) (s : State), (s.jobs c).any (fun j => j.kind == .direct) = true)
    ∧ (∃ (c : Chan) (s : State) (ad : Nat), s.jobs c = [] ∧ ad = s.wide F.MEM.DR_ADDR_LO.ADDR_LO F.MEM.DR_ADDR_HI.ADDR_HI c)
    ∧ (∃ (c : Chan) (s : State), (s.jobs c).any (fun j => j.kind == .direct && j.accs.all (fun a => a.ph == 5)) = false)
    ∧ (∃ (c : Chan) (s : State) (j : MJob) (a : MAcc), s.jobs c = [j] ∧ j.kind = .direct ∧ j.accs = [a] ∧ a.ph = 5) :=
  ⟨ex2 (
      let c : Chan := 7
      let s : State := State.reset
      let s : State := s.fset F.MEM.CH_STS.STATE (2) c
      (c, s)) (by decide +kernel),
   ex2 (
      let c : Chan := 7
      let s : State := State.reset
      let s : State := s.fset F.MEM.CH_STS.STATE (1) c
      (c, s)) (by decide +kernel),
   ex1 (
      let w : Word := 4608
      w) (by decide +kernel),
   ex1 (
      let w : Word := 3584
      w) (by decide +kernel),
   ex3 (
      let c : Chan := 7
      let w : Word := 4096
      let s : State := State.reset
      let s : State := s.fset F.MEM.CH_STS.STATE ((3) - 1 - 1) c
      (c, w, s)) (by decide +kernel),
   ex3 (
      let c : Chan := 7
      let w : Word := 3584
      let s : State := State.reset
      let s : State := s.fset F.MEM.CH_STS.STATE (1) c
      let s : State := s.fset F.MEM.CH_STS.CTRL_READY ((b2n (true))) c
      (c, w, s)) (by decide +kernel),
   ex3 (
      let c : Chan := 7
      let w : Word := 3840
      let s : State := State.reset
      let s : State := s.fset F.MEM.CH_STS.STATE (1) c
      let s : State := s.fset F.MEM.CH_STS.CTRL_READY ((b2n (false))) c
      (c, w, s)) (by decide +kernel),
   ex3 (
      let c : Chan := 7
      let w : Word := 3840
      let s : State := State.reset
      let s : State := s.fset F.MEM.CH_STS.STATE ((1) + 1) c
      (c, w, s)) (by decide +kernel),
   ex3 (
      let c : Chan := 7
      let w : Word := 3584
      let s : State := State.reset
      let s : State := s.fset F.MEM.CH_STS.STATE (2) c
      (c, w, s)) (by decide +kernel),
   ex3 (
      let c : Chan := 7
      let w : Word := 4096
      let s : State := State.reset
      let s : State := s.fset F.MEM.CH_STS.STATE ((2) + 1) c
      (c, w, s)) (by decide +kernel),
   ex2 (
      let c : Chan := 7
      let s : State := State.reset
      let s : State := s.fset F.MEM.CH_STS.STATE ((2) + 1) c
      (c, s)) (by decide +kernel),
   ex2 (
      let c : Chan := 7
      let s : State := State.reset
      let s : State := s.fset F.MEM.CH_STS.STATE (2) c
      let s : State := { s with mem := { s.mem with jobs := tset [] s.mem.jobs c ([]) } }
      let s : State := s.fset F.MEM.CH_CTL.RATE ((16) - 2) c
      let s : State := s.fset F.MEM.REBUILD_PTR.PTR (((8388608) - 1 - 2) - (s.fget F.MEM.CH_CTL.RATE c)) c
      (c, s)) (by decide +kernel),
   ex2 (
      let c : Chan := 7
      let s : State := State.reset
      let j_ : MJob := { id := 0, kind := .post, hdr := emptyFlit, ring := 0, accs := [] }
      let j_ : MJob := { j_ with kind := .direct }
      let s : State := { s with mem := { s.mem with jobs := tset [] s.mem.jobs c [j_] } }
      (c, s)) (by decide +kernel),
   ex3 (
      let c : Chan := 7
      let s : State := State.reset
      let s : State := { s with mem := { s.mem with jobs := tset [] s.mem.jobs c ([]) } }
      let ad : Nat := s.wide F.MEM.DR_ADDR_LO.ADDR_LO F.MEM.DR_ADDR_HI.ADDR_HI c
      (c, s, ad)) (by decide +kernel),
   ex2 (
      let c : Chan := 7
      let s : State := State.reset
      (c, s)) (by decide +kernel),
   ex4 (
      let c : Chan := 7
      let s : State := State.reset
      let j : MJob := { id := 0, kind := .post, hdr := emptyFlit, ring := 0, accs := [] }
      let a : MAcc := { op := 0, addr := 0, len := 0 }
      let j : MJob := { j with kind := .direct }
      let j : MJob := { j with accs := [a] }
      let a : MAcc := { a with ph := 5 }
      let j : MJob := { j with kind := .direct }
      let j : MJob := { j with accs := [a] }
      let a : MAcc := { a with ph := 5 }
      let s : State := { s with mem := { s.mem with jobs := tset [] s.mem.jobs c ([j]) } }
      let s : State := { s with mem := { s.mem with jobs := tset [] s.mem.jobs c ([j]) } }
      (c, s, j, a)) (by decide +kernel)⟩

theorem met_FillsAreInstalledOrTriedAgain :
    (∃ (x : Sector) (s : State), tget [] s.ord.rdDone (memStop x) = [])
    ∧ (∃ (x : Sector) (s : State) (r : RdDone) (f : Fill), tget [] s.ord.rdDone (memStop x) = [r] ∧ r.use = (if
      ((Instr.xltFillDone, false) : (Sector → Instr) × Bool).2 then .bindFill f.id else .fill f.id) ∧ s.fills x = [f] ∧ f.bind
      = ((Instr.xltFillDone, false) : (Sector → Instr) × Bool).2 ∧ f.stale = false ∧ rdBad r = false)
    ∧ (∃ (x : Sector) (s : State) (r : RdDone) (f : Fill), tget [] s.ord.rdDone (memStop x) = [r] ∧ r.use = (if
      ((Instr.xltFillDone, false) : (Sector → Instr) × Bool).2 then .bindFill f.id else .fill f.id) ∧ s.fills x = [f] ∧ f.bind
      = ((Instr.xltFillDone, false) : (Sector → Instr) × Bool).2 ∧ f.stale = true)
    ∧ (∃ (x : Sector) (s : State) (r : RdDone) (f : Fill), tget [] s.ord.rdDone (memStop x) = [r] ∧ r.use = (if
      ((Instr.xltFillDone, false) : (Sector → Instr) × Bool).2 then .bindFill f.id else .fill f.id) ∧ s.fills x = [f] ∧ f.bind
      = ((Instr.xltFillDone, false) : (Sector → Instr) × Bool).2 ∧ f.stale = false ∧ rdBad r = true ∧ f.bind = false ∧ (if
      f.copyB then f.badA else f.badB) = false)
    ∧ (∃ (x : Sector) (s : State) (r : RdDone) (f : Fill), tget [] s.ord.rdDone (memStop x) = [r] ∧ r.use = (if
      ((Instr.bindFillDone, true) : (Sector → Instr) × Bool).2 then .bindFill f.id else .fill f.id) ∧ s.fills x = [f] ∧ f.bind
      = ((Instr.bindFillDone, true) : (Sector → Instr) × Bool).2 ∧ f.stale = false ∧ rdBad r = true ∧ (f.bind = true ∨ (if
      f.copyB then f.badA else f.badB) = true))
    ∧ (∃ (x : Sector) (s : State), s.fills x = [])
    ∧ (∃ (x : Sector) (s : State) (f : Fill) (n : Nat), s.fills x = [f] ∧ n = max 1 (s.fget F.MEM.FILL_POLICY.FILL_TO x 0
      (s.bankAt (memStop x))) ∧ tickPast (s.nodeTick (memStop x)) f.sent (n + 1) = false)
    ∧ (∃ (x : Sector) (s : State) (f : Fill) (n : Nat), s.fills x = [f] ∧ n = max 1 (s.fget F.MEM.FILL_POLICY.FILL_TO x 0
      (s.bankAt (memStop x))) ∧ tickPast (s.nodeTick (memStop x)) f.sent (n + 1) = true) :=
  ⟨ex2 (
      let x : Sector := 7
      let s : State := State.reset
      let s : State := { s with ord := { s.ord with rdDone := tset [] s.ord.rdDone (memStop x) ([]) } }
      (x, s)) (by decide +kernel),
   ex4 (
      let x : Sector := 7
      let s : State := State.reset
      let r : RdDone := { use := .own, hdr := none, flits := [], status := 0 }
      let f : Fill := { key := 0, bind := false, id := 0, copyB := false, sent := 0 }
      let s : State := { s with ord := { s.ord with rdDone := tset [] s.ord.rdDone (memStop x) ([r]) } }
      let r : RdDone := { r with use := (if ((Instr.xltFillDone, false) : (Sector → Instr) × Bool).2 then .bindFill f.id else .fill f.id) }
      let s : State := { s with mem := { s.mem with fills := tset [] s.mem.fills x ([f]) } }
      let f : Fill := { f with bind := ((Instr.xltFillDone, false) : (Sector → Instr) × Bool).2 }
      let f : Fill := { f with stale := false }
      let r : RdDone := { r with flits := [emptyFlit] }
      let s : State := { s with ord := { s.ord with rdDone := tset [] s.ord.rdDone (memStop x) [r] } }
      (x, s, r, f)) (by decide +kernel),
   ex4 (
      let x : Sector := 7
      let s : State := State.reset
      let r : RdDone := { use := .own, hdr := none, flits := [], status := 0 }
      let f : Fill := { key := 0, bind := false, id := 0, copyB := false, sent := 0 }
      let r : RdDone := { r with use := (if ((Instr.xltFillDone, false) : (Sector → Instr) × Bool).2 then .bindFill f.id else .fill f.id) }
      let f : Fill := { f with bind := ((Instr.xltFillDone, false) : (Sector → Instr) × Bool).2 }
      let f : Fill := { f with stale := true }
      let s : State := { s with ord := { s.ord with rdDone := tset [] s.ord.rdDone (memStop x) ([r]) } }
      let s : State := { s with mem := { s.mem with fills := tset [] s.mem.fills x ([f]) } }
      (x, s, r, f)) (by decide +kernel),
   ex4 (
      let x : Sector := 7
      let s : State := State.reset
      let r : RdDone := { use := .own, hdr := none, flits := [], status := 0 }
      let f : Fill := { key := 0, bind := false, id := 0, copyB := false, sent := 0 }
      let r : RdDone := { r with use := (if ((Instr.xltFillDone, false) : (Sector → Instr) × Bool).2 then .bindFill f.id else .fill f.id) }
      let f : Fill := { f with bind := ((Instr.xltFillDone, false) : (Sector → Instr) × Bool).2 }
      let f : Fill := { f with stale := false }
      let f : Fill := { f with bind := false }
      let s : State := { s with ord := { s.ord with rdDone := tset [] s.ord.rdDone (memStop x) ([r]) } }
      let s : State := { s with mem := { s.mem with fills := tset [] s.mem.fills x ([f]) } }
      (x, s, r, f)) (by decide +kernel),
   ex4 (
      let x : Sector := 0
      let s : State := State.reset
      let r : RdDone := { use := .own, hdr := none, flits := [], status := 0 }
      let f : Fill := { key := 0, bind := false, id := 0, copyB := false, sent := 0 }
      let r : RdDone := { r with use := (if ((Instr.bindFillDone, true) : (Sector → Instr) × Bool).2 then .bindFill f.id else .fill f.id) }
      let f : Fill := { f with bind := ((Instr.bindFillDone, true) : (Sector → Instr) × Bool).2 }
      let f : Fill := { f with stale := false }
      let f : Fill := { f with bind := true }
      let s : State := { s with ord := { s.ord with rdDone := tset [] s.ord.rdDone (memStop x) ([r]) } }
      let s : State := { s with mem := { s.mem with fills := tset [] s.mem.fills x ([f]) } }
      (x, s, r, f)) (by decide +kernel),
   ex2 (
      let x : Sector := 7
      let s : State := State.reset
      let s : State := { s with mem := { s.mem with fills := tset [] s.mem.fills x ([]) } }
      (x, s)) (by decide +kernel),
   ex4 (
      let x : Sector := 7
      let s : State := State.reset
      let f : Fill := { key := 0, bind := false, id := 0, copyB := false, sent := 0 }
      let s : State := { s with mem := { s.mem with fills := tset [] s.mem.fills x ([f]) } }
      let s : State := setTick s ((memStop x)) (if false then (f.sent) + (((max 1 (s.fget F.MEM.FILL_POLICY.FILL_TO x 0
        (s.bankAt (memStop x)))) + 1)) else (f.sent) + (((max 1 (s.fget F.MEM.FILL_POLICY.FILL_TO x 0 (s.bankAt (memStop x))))
        + 1)) + 2 ^ 48 - 1)
      let n : Nat := max 1 (s.fget F.MEM.FILL_POLICY.FILL_TO x 0 (s.bankAt (memStop x)))
      (x, s, f, n)) (by decide +kernel),
   ex4 (
      let x : Sector := 7
      let s : State := State.reset
      let f : Fill := { key := 0, bind := false, id := 0, copyB := false, sent := 0 }
      let s : State := { s with mem := { s.mem with fills := tset [] s.mem.fills x ([f]) } }
      let s : State := setTick s ((memStop x)) (if true then (f.sent) + (((max 1 (s.fget F.MEM.FILL_POLICY.FILL_TO x 0
        (s.bankAt (memStop x)))) + 1)) else (f.sent) + (((max 1 (s.fget F.MEM.FILL_POLICY.FILL_TO x 0 (s.bankAt (memStop x))))
        + 1)) + 2 ^ 48 - 1)
      let n : Nat := max 1 (s.fget F.MEM.FILL_POLICY.FILL_TO x 0 (s.bankAt (memStop x)))
      (x, s, f, n)) (by decide +kernel)⟩

theorem met_TableUpdatesRunToDone :
    (∃ (c : Chan) (s : State) (key : Nat), key = s.fget F.MEM.XLT_KEY.KEY c ∧ s.fbit F.PAIR.PAIR_CTL.MIRROR = true ∧ s.fbit
      F.PAIR.PAIR_CTL.PRIMARY = false)
    ∧ (∃ (c : Chan) (s : State) (key : Nat), key = s.fget F.MEM.XLT_KEY.KEY c ∧ (s.fbit F.PAIR.PAIR_CTL.MIRROR = false ∨
      s.fbit F.PAIR.PAIR_CTL.PRIMARY = true) ∧ (fmaLoc (xltFma false key)).1 ≠ c.val)
    ∧ (∃ (c : Chan) (s : State) (key : Nat), key = s.fget F.MEM.XLT_KEY.KEY c ∧ (s.fbit F.PAIR.PAIR_CTL.MIRROR = false ∨
      s.fbit F.PAIR.PAIR_CTL.PRIMARY = true) ∧ (fmaLoc (xltFma false key)).1 = c.val ∧ s.fbit F.MEM.XLT_STS.BUSY c = true)
    ∧ (∃ (c : Chan) (s : State) (key : Nat), key = s.fget F.MEM.XLT_KEY.KEY c ∧ (s.fbit F.PAIR.PAIR_CTL.MIRROR = false ∨
      s.fbit F.PAIR.PAIR_CTL.PRIMARY = true) ∧ (fmaLoc (xltFma false key)).1 = c.val ∧ s.fbit F.MEM.XLT_STS.BUSY c = false)
    ∧ (∃ (n : Node) (m : Msg) (s : State), msgOk m = true ∧ vbits m 43 1 = 0 ∧ (isMemStop n && tget 0 s.mem.upd (sectorOf n)
      == 3) = false)
    ∧ (∃ (n : Node) (m : Msg) (s : State), msgOk m = true ∧ vbits m 43 1 = 0 ∧ isMemStop n = true ∧ tget 0 s.mem.upd
      (sectorOf n) = 3)
    ∧ (∃ (m : Msg) (s : State), msgOk m = true ∧ vbits m 43 1 = 1 ∧ (vbits m 42 1 = 1 ∨ s.mem.pbUpd ≠ 3))
    ∧ (∃ (m : Msg) (s : State), msgOk m = true ∧ vbits m 43 1 = 1 ∧ vbits m 42 1 = 0 ∧ s.mem.pbUpd = 3)
    ∧ (∃ (s : State), s.fbit F.PAIR.PAIR_CTL.MIRROR = true ∧ s.fbit F.PAIR.PAIR_CTL.PRIMARY = false)
    ∧ (∃ (s : State), (s.fbit F.PAIR.PAIR_CTL.MIRROR = false ∨ s.fbit F.PAIR.PAIR_CTL.PRIMARY = true) ∧ s.pbRefusal ≠ 0)
    ∧ (∃ (s : State), (s.fbit F.PAIR.PAIR_CTL.MIRROR = false ∨ s.fbit F.PAIR.PAIR_CTL.PRIMARY = true) ∧ s.pbRefusal = 0) :=
  ⟨ex3 (
      let c : Chan := 7
      let s : State := State.reset
      let s : State := s.fset F.PAIR.PAIR_CTL.MIRROR ((b2n (true)))
      let s : State := s.fset F.PAIR.PAIR_CTL.PRIMARY ((b2n (false)))
      let key : Nat := s.fget F.MEM.XLT_KEY.KEY c
      (c, s, key)) (by decide +kernel),
   ex3 (
      let c : Chan := 7
      let s : State := State.reset
      let s : State := s.fset F.PAIR.PAIR_CTL.PRIMARY ((b2n (true)))
      let key : Nat := s.fget F.MEM.XLT_KEY.KEY c
      (c, s, key)) (by decide +kernel),
   ex3 (
      let c : Chan := 0
      let s : State := State.reset
      let s : State := s.fset F.PAIR.PAIR_CTL.MIRROR ((b2n (false)))
      let s : State := s.fset F.MEM.XLT_STS.BUSY ((b2n (true))) c
      let s : State := s.fset F.MEM.XLT_KEY.KEY 77 c
      let s : State := s.fset F.MEM.XLT_KEY.KEY 77 c
      let s : State := s.fset F.MEM.XLT_STS.BUSY 1 c
      let key : Nat := s.fget F.MEM.XLT_KEY.KEY c
      (c, s, key)) (by decide +kernel),
   ex3 (
      let c : Chan := 0
      let s : State := State.reset
      let s : State := s.fset F.PAIR.PAIR_CTL.MIRROR ((b2n (false)))
      let s : State := s.fset F.MEM.XLT_STS.BUSY ((b2n (false))) c
      let s : State := s.fset F.MEM.XLT_KEY.KEY 77 c
      let s : State := s.fset F.MEM.XLT_KEY.KEY 77 c
      let s : State := s.fset F.MEM.XLT_STS.BUSY 0 c
      let key : Nat := s.fget F.MEM.XLT_KEY.KEY c
      (c, s, key)) (by decide +kernel),
   ex3 (
      let n : Node := 63
      let m : Msg := 0
      let s : State := State.reset
      (n, m, s)) (by decide +kernel),
   ex3 (
      let n : Node := 12
      let m : Msg := 0
      let s : State := State.reset
      let s : State := { s with mem := { s.mem with upd := tset 0 s.mem.upd (sectorOf n) (3) } }
      (n, m, s)) (by decide +kernel),
   ex2 (
      let m : Msg := 13194139533437
      let s : State := State.reset
      (m, s)) (by decide +kernel),
   ex2 (
      let m : Msg := 8796093022294
      let s : State := State.reset
      let s : State := { s with mem := { s.mem with pbUpd := 3 } }
      (m, s)) (by decide +kernel),
   ex1 (
      let s : State := State.reset
      let s : State := s.fset F.PAIR.PAIR_CTL.MIRROR ((b2n (true)))
      let s : State := s.fset F.PAIR.PAIR_CTL.PRIMARY ((b2n (false)))
      s) (by decide +kernel),
   ex1 (
      let s : State := State.reset
      let s : State := s.fset F.PAIR.PAIR_CTL.PRIMARY ((b2n (true)))
      s) (by decide +kernel),
   ex1 (
      let s : State := State.reset
      let s : State := s.fset F.PAIR.PAIR_CTL.MIRROR ((b2n (false)))
      let s : State := s.fset F.GLB.PB_STS.BUSY 0
      let s : State := s.fset F.GLB.PB_DCNT.CNT 1 0 0 0 (s.fget F.GLB.PB_KEY.DOM)
      let s : State := s.fset F.GLB.PB_KEY.PASID 3
      let s : State := s.fset F.GLB.PB_DATA0.DATA0 (2 ^ 24 * s.fget F.GLB.PB_KEY.DOM)
      let s : State := s.fset F.GLB.PB_DATA1.DATA1 3
      s) (by decide +kernel)⟩

theorem met_InvalidationsAreAppliedAndAcknowledged :
    (∃ (n : Node) (m : Msg), msgOk m = true ∧ isMemStop n = false)
    ∧ (∃ (n : Node) (m : Msg) (x : Nat) (key : Nat), msgOk m = true ∧ isMemStop n = true ∧ x = sectorOf n ∧ key = vbits m 24
      24)
    ∧ (∃ (n : Node) (m : Msg) (x : Nat) (key : Nat), msgOk m = true ∧ isMemStop n = true ∧ x = sectorOf n ∧ vbits m 47 1 = 0
      ∧ key = vbits m 24 20)
    ∧ (∃ (n : Node) (m : Msg) (x : Nat) (dom : Nat), msgOk m = true ∧ isMemStop n = true ∧ x = sectorOf n ∧ vbits m 47 1 = 1
      ∧ dom = vbits m 39 8)
    ∧ (∃ (w : Word) (s : State) (d : Nat) (n : Nat) (b : Nat), d = s.fget F.GLB.PB_DSEL.DOM ∧ n = vbits w 0 15 ∧ b = s.fget
      F.GLB.PB_DBASE.BASE 0 0 0 d ∧ n ≠ 0 ∧ (16384 < n ∨ s.fget F.GLB.PB_DCNT.CNT 0 0 0 d ≠ 0 ∨ s.rangeTaken d b n = true))
    ∧ (∃ (w : Word) (s : State) (d : Nat) (n : Nat) (b : Nat), d = s.fget F.GLB.PB_DSEL.DOM ∧ n = vbits w 0 15 ∧ b = s.fget
      F.GLB.PB_DBASE.BASE 0 0 0 d ∧ (n = 0 ∨ (n ≤ 16384 ∧ s.fget F.GLB.PB_DCNT.CNT 0 0 0 d = 0 ∧ s.rangeTaken d b n = false))) :=
  ⟨ex2 (
      let n : Node := 63
      let m : Msg := 0
      (n, m)) (by decide +kernel),
   ex4 (
      let n : Node := 12
      let m : Msg := 0
      let x : Nat := sectorOf n
      let key : Nat := vbits m 24 24
      (n, m, x, key)) (by decide +kernel),
   ex4 (
      let n : Node := 12
      let m : Msg := 0
      let x : Nat := sectorOf n
      let key : Nat := vbits m 24 20
      (n, m, x, key)) (by decide +kernel),
   ex4 (
      let n : Node := 12
      let m : Msg := 140737488355386
      let x : Nat := sectorOf n
      let dom : Nat := vbits m 39 8
      (n, m, x, dom)) (by decide +kernel),
   ex5 (
      let w : Word := 20000
      let s : State := State.reset
      let s : State := s.fset F.GLB.PB_DCNT.CNT ((0) + 1) 0 0 0 (s.fget F.GLB.PB_DSEL.DOM)
      let d : Nat := s.fget F.GLB.PB_DSEL.DOM
      let n : Nat := vbits w 0 15
      let b : Nat := s.fget F.GLB.PB_DBASE.BASE 0 0 0 d
      (w, s, d, n, b)) (by decide +kernel),
   ex5 (
      let w : Word := 0
      let s : State := State.reset
      let s : State := s.fset F.GLB.PB_DCNT.CNT (0) 0 0 0 (s.fget F.GLB.PB_DSEL.DOM)
      let d : Nat := s.fget F.GLB.PB_DSEL.DOM
      let n : Nat := vbits w 0 15
      let b : Nat := s.fget F.GLB.PB_DBASE.BASE 0 0 0 d
      (w, s, d, n, b)) (by decide +kernel)⟩

theorem met_DoorbellsAndEventsReachTheirOwner :
    (∃ (x : SliceNo) (o : BitVec 8) (s : State), s.fget F.SLICE.ACC_Q.QCNT x ≤ o.toNat)
    ∧ (∃ (x : SliceNo) (tail : BitVec 16) (o : BitVec 8) (s : State), o.toNat < s.fget F.SLICE.ACC_Q.QCNT x)
    ∧ (∃ (n : Node) (m : Msg), msgOk m = true ∧ isEngStop n = false)
    ∧ (∃ (n : Node) (m : Msg) (s : State) (e : Nat) (q : Nat) (tail : Nat) (c : QCtx), msgOk m = true ∧ isEngStop n = true ∧
      e = n / 7 ∧ q = vbits m 32 16 ∧ tail = vbits m 16 16 ∧ c = s.qctx e q ∧ s.resident e q = true ∧ vbits m 12 4 ≠ c.sgen)
    ∧ (∃ (n : Node) (m : Msg) (s : State) (e : Nat) (q : Nat) (tail : Nat) (c : QCtx), msgOk m = true ∧ isEngStop n = true ∧
      e = n / 7 ∧ q = vbits m 32 16 ∧ tail = vbits m 16 16 ∧ c = s.qctx e q ∧ s.resident e q = true ∧ vbits m 12 4 = c.sgen ∧
      c.st = 0)
    ∧ (∃ (n : Node) (m : Msg) (s : State) (e : Nat) (q : Nat) (tail : Nat) (c : QCtx), msgOk m = true ∧ isEngStop n = true ∧
      e = n / 7 ∧ q = vbits m 32 16 ∧ tail = vbits m 16 16 ∧ c = s.qctx e q ∧ s.resident e q = true ∧ vbits m 12 4 = c.sgen ∧
      c.st ≠ 0 ∧ signedDiff 16 tail c.tail ≤ 0)
    ∧ (∃ (n : Node) (m : Msg) (s : State) (e : Nat) (q : Nat) (tail : Nat) (c : QCtx), msgOk m = true ∧ isEngStop n = true ∧
      e = n / 7 ∧ q = vbits m 32 16 ∧ tail = vbits m 16 16 ∧ c = s.qctx e q ∧ s.resident e q = true ∧ vbits m 12 4 = c.sgen ∧
      c.st ≠ 0 ∧ 0 < signedDiff 16 tail c.tail ∧ 2 ^ c.ring < wrapSub 16 tail c.head)
    ∧ (∃ (n : Node) (m : Msg) (s : State) (e : Nat) (q : Nat) (tail : Nat) (c : QCtx), msgOk m = true ∧ isEngStop n = true ∧
      e = n / 7 ∧ q = vbits m 32 16 ∧ tail = vbits m 16 16 ∧ c = s.qctx e q ∧ s.resident e q = true ∧ vbits m 12 4 = c.sgen ∧
      c.st ≠ 0 ∧ 0 < signedDiff 16 tail c.tail ∧ wrapSub 16 tail c.head ≤ 2 ^ c.ring)
    ∧ (∃ (n : Node) (m : Msg) (s : State) (e : Nat) (q : Nat) (tail : Nat) (c : QCtx), msgOk m = true ∧ isEngStop n = true ∧ e = n / 7 ∧ q = vbits m 32 16 ∧ tail = vbits m 16 16 ∧ c = s.qctx e q ∧ s.resident e q = false ∧ (match s.stubOf e q with | some x => true | _ => false) = true)
    ∧ (∃ (n : Node) (m : Msg) (s : State) (e : Nat) (q : Nat) (tail : Nat) (c : QCtx), msgOk m = true ∧ isEngStop n = true ∧
      e = n / 7 ∧ q = vbits m 32 16 ∧ tail = vbits m 16 16 ∧ c = s.qctx e q ∧ s.resident e q = false ∧ s.stubOf e q = none)
    ∧ (∃ (e : EngNo) (s : State), tget [] s.ord.rdDone (engStop e) = [])
    ∧ (∃ (e : EngNo) (s : State) (r : RdDone) (n : Nat) (q : Nat) (x : Nat) (k : Nat), tget [] s.ord.rdDone (engStop e) =
      [r] ∧ r.use = .chunk n ∧ tget [] s.eng.events e = [(n, q)] ∧ x = (r.hdr.getD emptyFlit).slice.toNat ∧ k = wrapSub 16 q
      (s.fget F.SLICE.ACC_Q.QBASE x))
    ∧ (∃ (x : SliceNo) (s : State), ((∀ i : Fin 8, s.fget F.SLICE.EVT_PEND.PEND x i = 0) ∨ s.sliceState x ≠ 1 ∨ s.fbit
      F.SLICE.EVT_CFG.EN x = false))
    ∧ (∃ (x : SliceNo) (s : State) (i : Fin 8), s.fget F.SLICE.EVT_PEND.PEND x i ≠ 0 ∧ s.sliceState x = 1 ∧ s.fbit
      F.SLICE.EVT_CFG.EN x = true) :=
  ⟨ex3 (
      let x : SliceNo := 4095
      let o : BitVec 8 := 0
      let s : State := State.reset
      let s : State := s.fset F.SLICE.ACC_Q.QCNT ((o.toNat) - 2) x
      (x, o, s)) (by decide +kernel),
   ex4 (
      let x : SliceNo := 4095
      let tail : BitVec 16 := 0
      let o : BitVec 8 := 0
      let s : State := State.reset
      let s : State := s.fset F.SLICE.ACC_Q.QCNT ((o.toNat) + 1 + 0) x
      (x, tail, o, s)) (by decide +kernel),
   ex2 (
      let n : Node := 63
      let m : Msg := 0
      (n, m)) (by decide +kernel),
   ex7 (
      let n : Node := 13
      let m : Msg := 4146
      let s : State := State.reset
      let s : State := setResident s (n / 7) (vbits m 32 16) (true)
      let e : Nat := n / 7
      let q : Nat := vbits m 32 16
      let tail : Nat := vbits m 16 16
      let c : QCtx := s.qctx e q
      (n, m, s, e, q, tail, c)) (by decide +kernel),
   ex7 (
      let n : Node := 13
      let m : Msg := 0
      let s : State := State.reset
      let s : State := setResident s (n / 7) (vbits m 32 16) (true)
      let s : State := { s with eng := { s.eng with ctx := tset {} s.eng.ctx (qKey ((n / 7)) ((vbits m 32 16))) ({ s.qctx (n / 7) (vbits m 32 16) with st := 0 }) } }
      let e : Nat := n / 7
      let q : Nat := vbits m 32 16
      let tail : Nat := vbits m 16 16
      let c : QCtx := s.qctx e q
      (n, m, s, e, q, tail, c)) (by decide +kernel),
   ex7 (
      let n : Node := 13
      let m : Msg := 0
      let s : State := State.reset
      let s : State := setResident s (n / 7) (vbits m 32 16) (true)
      let s : State := { s with eng := { s.eng with ctx := tset {} s.eng.ctx (qKey ((n / 7)) ((vbits m 32 16))) ({ s.qctx (n / 7) (vbits m 32 16) with st := (0) + 1 }) } }
      let s : State := setResident s (n.val / 7) (vbits m 32 16) true
      let s : State := { s with eng := { s.eng with ctx := tset {} s.eng.ctx (qKey (n.val / 7) (vbits m 32 16)) { s.qctx (n.val / 7) (vbits m 32 16) with st := 1, ring := 4, sgen := vbits m 12 4, head := (vbits m 16 16 + 65536 - 5) % 65536, tail := (vbits m 16 16 + 5) % 65536 } } }
      let e : Nat := n / 7
      let q : Nat := vbits m 32 16
      let tail : Nat := vbits m 16 16
      let c : QCtx := s.qctx e q
      (n, m, s, e, q, tail, c)) (by decide +kernel),
   ex7 (
      let n : Node := 13
      let m : Msg := 0
      let s : State := State.reset
      let s : State := setResident s (n / 7) (vbits m 32 16) (true)
      let s : State := { s with eng := { s.eng with ctx := tset {} s.eng.ctx (qKey ((n / 7)) ((vbits m 32 16))) ({ s.qctx (n / 7) (vbits m 32 16) with st := (0) + 1 }) } }
      let s : State := setResident s (n.val / 7) (vbits m 32 16) true
      let s : State := { s with eng := { s.eng with ctx := tset {} s.eng.ctx (qKey (n.val / 7) (vbits m 32 16)) { s.qctx (n.val / 7) (vbits m 32 16) with st := 1, ring := 4, sgen := vbits m 12 4, head := (vbits m 16 16 + 65536 - 200) % 65536, tail := (vbits m 16 16 + 65436) % 65536 } } }
      let e : Nat := n / 7
      let q : Nat := vbits m 32 16
      let tail : Nat := vbits m 16 16
      let c : QCtx := s.qctx e q
      (n, m, s, e, q, tail, c)) (by decide +kernel),
   ex7 (
      let n : Node := 13
      let m : Msg := 0
      let s : State := State.reset
      let s : State := setResident s (n / 7) (vbits m 32 16) (true)
      let s : State := { s with eng := { s.eng with ctx := tset {} s.eng.ctx (qKey ((n / 7)) ((vbits m 32 16))) ({ s.qctx (n / 7) (vbits m 32 16) with st := (0) + 1 }) } }
      let s : State := setResident s (n.val / 7) (vbits m 32 16) true
      let s : State := { s with eng := { s.eng with ctx := tset {} s.eng.ctx (qKey (n.val / 7) (vbits m 32 16)) { s.qctx (n.val / 7) (vbits m 32 16) with st := 1, ring := 4, sgen := vbits m 12 4, head := (vbits m 16 16 + 65536 - 5) % 65536, tail := (vbits m 16 16 + 65533) % 65536 } } }
      let e : Nat := n / 7
      let q : Nat := vbits m 32 16
      let tail : Nat := vbits m 16 16
      let c : QCtx := s.qctx e q
      (n, m, s, e, q, tail, c)) (by decide +kernel),
   ex7 (
      let n : Node := 13
      let m : Msg := 0
      let s : State := State.reset
      let s : State := setResident s (n / 7) (vbits m 32 16) (false)
      let s : State := setResident s (n.val / 7) (vbits m 32 16) false
      let s : State := { s with eng := { s.eng with stub := tset none s.eng.stub (qKey (n.val / 7) (vbits m 32 16)) (some ⟨3, 5, 0⟩) } }
      let e : Nat := n / 7
      let q : Nat := vbits m 32 16
      let tail : Nat := vbits m 16 16
      let c : QCtx := s.qctx e q
      (n, m, s, e, q, tail, c)) (by decide +kernel),
   ex7 (
      let n : Node := 13
      let m : Msg := 0
      let s : State := State.reset
      let s : State := setResident s (n / 7) (vbits m 32 16) (false)
      let s : State := { s with eng := { s.eng with stub := tset none s.eng.stub (qKey ((n / 7)) ((vbits m 32 16))) (none) } }
      let e : Nat := n / 7
      let q : Nat := vbits m 32 16
      let tail : Nat := vbits m 16 16
      let c : QCtx := s.qctx e q
      (n, m, s, e, q, tail, c)) (by decide +kernel),
   ex2 (
      let e : EngNo := 7
      let s : State := State.reset
      let s : State := { s with ord := { s.ord with rdDone := tset [] s.ord.rdDone (engStop e) ([]) } }
      (e, s)) (by decide +kernel),
   ex7 (
      let e : EngNo := 7
      let n : Nat := 0
      let q : Nat := 0
      let s : State := State.reset
      let r : RdDone := { use := .own, hdr := none, flits := [], status := 0 }
      let r : RdDone := { r with use := .chunk n }
      let s : State := { s with ord := { s.ord with rdDone := tset [] s.ord.rdDone (engStop e) ([r]) } }
      let s : State := { s with eng := { s.eng with events := tset [] s.eng.events e ([(n, q)]) } }
      let x : Nat := (r.hdr.getD emptyFlit).slice.toNat
      let k : Nat := wrapSub 16 q (s.fget F.SLICE.ACC_Q.QBASE x)
      (e, s, r, n, q, x, k)) (by decide +kernel),
   ex2 (
      let x : SliceNo := 4095
      let s : State := State.reset
      let s : State := s.fset F.SLICE.EVT_CFG.EN ((b2n (false))) x
      (x, s)) (by decide +kernel),
   ex3 (
      let x : SliceNo := 4095
      let i : Fin 8 := 7
      let s : State := State.reset
      let s : State := s.fset F.SLICE.EVT_PEND.PEND ((0) + 1) x i
      let s : State := s.fset F.SLICE.MSTS.STATE (1) x
      let s : State := s.fset F.SLICE.EVT_CFG.EN ((b2n (true))) x
      (x, s, i)) (by decide +kernel)⟩

theorem met_QueueCommandsTakeEffect :
    (∃ (e : EngNo) (s : State), s.stopRuns (engStop e) = false)
    ∧ (∃ (e : EngNo) (s : State), s.stopRuns (engStop e) = true ∧ s.resident e (s.qIdx e) = false)
    ∧ (∃ (e : EngNo) (s : State) (q : Nat) (c : QCtx), s.stopRuns (engStop e) = true ∧ q = s.qIdx e ∧ c = s.qctx e q ∧
      s.resident e q = true)
    ∧ (∃ (e : EngNo) (s : State) (q : Nat) (c : QCtx), s.stopRuns (engStop e) = true ∧ q = s.qIdx e ∧ c = s.qctx e q ∧
      (s.qmap q ≠ e.val ∨ (s.resident e q = false ∧ (s.queueHeld q = true ∨ s.engState e ≠ 0 ∨ engSlots ≤ s.engRes e))))
    ∧ (∃ (e : EngNo) (s : State) (q : Nat) (c : QCtx), s.stopRuns (engStop e) = true ∧ q = s.qIdx e ∧ c = s.qctx e q ∧
      s.qmap q = e.val ∧ s.resident e q = true ∧ c.st ≠ 0)
    ∧ (∃ (e : EngNo) (s : State) (q : Nat) (c : QCtx), s.stopRuns (engStop e) = true ∧ q = s.qIdx e ∧ c = s.qctx e q ∧ (let w := ctxOf (s.qcData e); decide (s.qmap q = e.val ∧ ((s.resident e q = true ∧ c.st = 0) ∨ (s.resident e q = false ∧ s.queueHeld q = false ∧ s.engState e = 0 ∧ s.engRes e < engSlots)) ∧ (ctxValid (s.qcData e) = false ∨ s.sliceState w.slice ≠ 0 ∨ s.ownsQueue w.slice q = false))) = true)
    ∧ (∃ (e : EngNo) (s : State) (q : Nat) (c : QCtx), s.stopRuns (engStop e) = true ∧ q = s.qIdx e ∧ c = s.qctx e q ∧ (let w := ctxOf (s.qcData e); decide (s.qmap q = e.val ∧ ((s.resident e q = true ∧ c.st = 0) ∨ (s.resident e q = false ∧ s.queueHeld q = false ∧ s.engState e = 0 ∧ s.engRes e < engSlots)) ∧ ctxValid (s.qcData e) = true ∧ s.sliceState w.slice = 0 ∧ s.ownsQueue w.slice q = true)) = true)
    ∧ (∃ (e : EngNo) (s : State) (q : Nat) (c : QCtx), s.stopRuns (engStop e) = true ∧ q = s.qIdx e ∧ c = s.qctx e q ∧
      s.resident e q = true ∧ c.st = 0 ∧ c.v = true)
    ∧ (∃ (e : EngNo) (s : State) (q : Nat) (c : QCtx), s.stopRuns (engStop e) = true ∧ q = s.qIdx e ∧ c = s.qctx e q ∧
      s.resident e q = true ∧ c.st = 0 ∧ c.v = false)
    ∧ (∃ (e : EngNo) (s : State) (q : Nat) (c : QCtx), s.stopRuns (engStop e) = true ∧ q = s.qIdx e ∧ c = s.qctx e q ∧
      s.resident e q = true ∧ (c.st = 2 ∨ c.st = 4))
    ∧ (∃ (e : EngNo) (s : State) (q : Nat) (c : QCtx), s.stopRuns (engStop e) = true ∧ q = s.qIdx e ∧ c = s.qctx e q ∧
      s.resident e q = true ∧ (c.st = 1 ∨ c.st = 3))
    ∧ (∃ (e : EngNo) (s : State) (q : Nat) (c : QCtx), s.stopRuns (engStop e) = true ∧ q = s.qIdx e ∧ c = s.qctx e q ∧
      s.resident e q = true ∧ c.st = 0)
    ∧ (∃ (e : EngNo) (s : State) (q : Nat) (c : QCtx), s.stopRuns (engStop e) = true ∧ q = s.qIdx e ∧ c = s.qctx e q ∧
      s.resident e q = true ∧ (c.st = 2 ∨ c.st = 3) ∧ s.execOn e q = [])
    ∧ (∃ (e : EngNo) (s : State) (q : Nat) (c : QCtx), s.stopRuns (engStop e) = true ∧ q = s.qIdx e ∧ c = s.qctx e q ∧
      s.resident e q = true ∧ ((c.st = 2 ∨ c.st = 3) ∧ s.execOn e q ≠ [] ∨ c.st = 1 ∨ c.st = 4))
    ∧ (∃ (e : EngNo) (s : State) (q : Nat) (c : QCtx), s.stopRuns (engStop e) = true ∧ q = s.qIdx e ∧ c = s.qctx e q ∧
      s.resident e q = true ∧ c.st = 3)
    ∧ (∃ (e : EngNo) (s : State) (q : Nat) (c : QCtx), s.stopRuns (engStop e) = true ∧ q = s.qIdx e ∧ c = s.qctx e q ∧
      s.resident e q = true ∧ (c.st = 0 ∨ c.st = 1)) :=
  ⟨ex2 (
      let e : EngNo := 7
      let s : State := State.reset
      let s : State := setRuns s (engStop e) (false)
      (e, s)) (by decide +kernel),
   ex2 (
      let e : EngNo := 7
      let s : State := State.reset
      let s : State := setRuns s (engStop e) (true)
      let s : State := setResident s e (s.qIdx e) (false)
      (e, s)) (by decide +kernel),
   ex4 (
      let e : EngNo := 7
      let s : State := State.reset
      let s : State := setRuns s (engStop e) (true)
      let s : State := setResident s e (s.qIdx e) (true)
      let q : Nat := s.qIdx e
      let c : QCtx := s.qctx e q
      (e, s, q, c)) (by decide +kernel),
   ex4 (
      let e : EngNo := 7
      let s : State := State.reset
      let s : State := setRuns s (engStop e) (true)
      let s : State := setResident s e (s.qIdx e) (false)
      let s : State := s.fset F.ENG.ENG_STS.STATE ((0) + 1) e
      let q : Nat := s.qIdx e
      let c : QCtx := s.qctx e q
      (e, s, q, c)) (by decide +kernel),
   ex4 (
      let e : EngNo := 7
      let s : State := State.reset
      let s : State := setRuns s (engStop e) (true)
      let s : State := s.fset F.GLB.QMAP_DATA.ENGINE (e.val) 0 0 0 (s.qIdx e)
      let s : State := setResident s e (s.qIdx e) (true)
      let s : State := { s with eng := { s.eng with ctx := tset {} s.eng.ctx (qKey (e) ((s.qIdx e))) ({ s.qctx e (s.qIdx e) with st := (0) + 1 }) } }
      let q : Nat := s.qIdx e
      let c : QCtx := s.qctx e q
      (e, s, q, c)) (by decide +kernel),
   ex4 (
      let e : EngNo := 0
      let s : State := State.reset
      let s : State := setRuns s (engStop e) (true)
      let s : State := s.fset F.GLB.QMAP_DATA.ENGINE (e.val) 0 0 0 (s.qIdx e)
      let s : State := setResident s e (s.qIdx e) (false)
      let s : State := s.fset F.ENG.ENG_STS.STATE (0) e
      let s : State := s.fset F.ENG.ENG_STS.RESIDENT ((engSlots) - 1 - 1) e
      let s : State := s.fset F.SLICE.MSTS.STATE ((0) + 1) (ctxOf (s.qcData e)).slice
      let q : Nat := s.qIdx e
      let c : QCtx := s.qctx e q
      (e, s, q, c)) (by decide +kernel),
   ex4 (
      let e : EngNo := 7
      let s : State := State.reset
      let s : State := setRuns s (engStop e) (true)
      let s : State := s.fset F.GLB.QMAP_DATA.ENGINE (e.val) 0 0 0 (s.qIdx e)
      let s : State := setResident s e (s.qIdx e) (true)
      let s : State := { s with eng := { s.eng with ctx := tset {} s.eng.ctx (qKey (e) ((s.qIdx e))) ({ s.qctx e (s.qIdx e) with st := 0 }) } }
      let s : State := s.fset F.SLICE.MSTS.STATE (0) (ctxOf (s.qcData e)).slice
      let s : State := (s.fset F.SLICE.ACC_Q.QBASE ((s.qIdx e)) ((ctxOf (s.qcData e)).slice)).fset F.SLICE.ACC_Q.QCNT (if
        true then 1 else 0) ((ctxOf (s.qcData e)).slice)
      let s : State := s.fset F.ENG.QSEL.QIDX 9 e
      let s : State := s.setQcData e (packBits [(0, 1, 1), (8, 4, 6), (12, 12, 7)])
      let s : State := s.fset F.SLICE.MSTS.STATE 0 7
      let s : State := (s.fset F.SLICE.ACC_Q.QBASE 9 7).fset F.SLICE.ACC_Q.QCNT 1 7
      let s : State := s.fset F.GLB.QMAP_DATA.ENGINE e.val 0 0 0 9
      let s : State := setResident s e 9 true
      let s : State := { s with eng := { s.eng with ctx := tset {} s.eng.ctx (qKey e 9) { s.qctx e 9 with st := 0 } } }
      let q : Nat := s.qIdx e
      let c : QCtx := s.qctx e q
      (e, s, q, c)) (by decide +kernel),
   ex4 (
      let e : EngNo := 7
      let s : State := State.reset
      let s : State := setRuns s (engStop e) (true)
      let s : State := setResident s e (s.qIdx e) (true)
      let s : State := { s with eng := { s.eng with ctx := tset {} s.eng.ctx (qKey (e) ((s.qIdx e))) ({ s.qctx e (s.qIdx e) with st := 0 }) } }
      let s : State := { s with eng := { s.eng with ctx := tset {} s.eng.ctx (qKey (e) ((s.qIdx e))) ({ s.qctx e (s.qIdx e) with v := true }) } }
      let q : Nat := s.qIdx e
      let c : QCtx := s.qctx e q
      (e, s, q, c)) (by decide +kernel),
   ex4 (
      let e : EngNo := 7
      let s : State := State.reset
      let s : State := setRuns s (engStop e) (true)
      let s : State := setResident s e (s.qIdx e) (true)
      let s : State := { s with eng := { s.eng with ctx := tset {} s.eng.ctx (qKey (e) ((s.qIdx e))) ({ s.qctx e (s.qIdx e) with st := 0 }) } }
      let s : State := { s with eng := { s.eng with ctx := tset {} s.eng.ctx (qKey (e) ((s.qIdx e))) ({ s.qctx e (s.qIdx e) with v := false }) } }
      let q : Nat := s.qIdx e
      let c : QCtx := s.qctx e q
      (e, s, q, c)) (by decide +kernel),
   ex4 (
      let e : EngNo := 7
      let s : State := State.reset
      let s : State := setRuns s (engStop e) (true)
      let s : State := setResident s e (s.qIdx e) (true)
      let s : State := { s with eng := { s.eng with ctx := tset {} s.eng.ctx (qKey (e) ((s.qIdx e))) ({ s.qctx e (s.qIdx e) with st := 2 }) } }
      let q : Nat := s.qIdx e
      let c : QCtx := s.qctx e q
      (e, s, q, c)) (by decide +kernel),
   ex4 (
      let e : EngNo := 7
      let s : State := State.reset
      let s : State := setRuns s (engStop e) (true)
      let s : State := setResident s e (s.qIdx e) (true)
      let s : State := { s with eng := { s.eng with ctx := tset {} s.eng.ctx (qKey (e) ((s.qIdx e))) ({ s.qctx e (s.qIdx e) with st := 1 }) } }
      let q : Nat := s.qIdx e
      let c : QCtx := s.qctx e q
      (e, s, q, c)) (by decide +kernel),
   ex4 (
      let e : EngNo := 7
      let s : State := State.reset
      let s : State := setRuns s (engStop e) (true)
      let s : State := setResident s e (s.qIdx e) (true)
      let s : State := { s with eng := { s.eng with ctx := tset {} s.eng.ctx (qKey (e) ((s.qIdx e))) ({ s.qctx e (s.qIdx e) with st := 0 }) } }
      let q : Nat := s.qIdx e
      let c : QCtx := s.qctx e q
      (e, s, q, c)) (by decide +kernel),
   ex4 (
      let e : EngNo := 7
      let s : State := State.reset
      let s : State := setRuns s (engStop e) (true)
      let s : State := setResident s e (s.qIdx e) (true)
      let s : State := { s with eng := { s.eng with ctx := tset {} s.eng.ctx (qKey (e) ((s.qIdx e))) ({ s.qctx e (s.qIdx e) with st := 3 }) } }
      let q : Nat := s.qIdx e
      let c : QCtx := s.qctx e q
      (e, s, q, c)) (by decide +kernel),
   ex4 (
      let e : EngNo := 7
      let s : State := State.reset
      let d0_ : Dsc := { q := 0, index := 0, bits := 0 }
      let s : State := setRuns s (engStop e) (true)
      let s : State := setResident s e (s.qIdx e) (true)
      let s : State := { s with eng := { s.eng with ctx := tset {} s.eng.ctx (qKey (e) ((s.qIdx e))) ({ s.qctx e (s.qIdx e) with st := 2 }) } }
      let d0_ : Dsc := { d0_ with q := s.qIdx e }
      let s : State := { s with eng := { s.eng with exec := tset [] s.eng.exec e [d0_] } }
      let q : Nat := s.qIdx e
      let c : QCtx := s.qctx e q
      (e, s, q, c)) (by decide +kernel),
   ex4 (
      let e : EngNo := 7
      let s : State := State.reset
      let s : State := setRuns s (engStop e) (true)
      let s : State := setResident s e (s.qIdx e) (true)
      let s : State := { s with eng := { s.eng with ctx := tset {} s.eng.ctx (qKey (e) ((s.qIdx e))) ({ s.qctx e (s.qIdx e) with st := 3 }) } }
      let q : Nat := s.qIdx e
      let c : QCtx := s.qctx e q
      (e, s, q, c)) (by decide +kernel),
   ex4 (
      let e : EngNo := 7
      let s : State := State.reset
      let s : State := setRuns s (engStop e) (true)
      let s : State := setResident s e (s.qIdx e) (true)
      let s : State := { s with eng := { s.eng with ctx := tset {} s.eng.ctx (qKey (e) ((s.qIdx e))) ({ s.qctx e (s.qIdx e) with st := 0 }) } }
      let q : Nat := s.qIdx e
      let c : QCtx := s.qctx e q
      (e, s, q, c)) (by decide +kernel)⟩

end Sys2Proof.Tests
end

