-- ==== Sys2Proof/Tests/Met5.lean ====
section
/-! SUPPORT. For each clause of the statements EngineCommandsMoveTheEngineState to SliceUpdatesAndTheCensusTakeEffect, a concrete state and operands that
meet its hypotheses together: one theorem for a statement, one conjunct for a clause with hypotheses. -/

open Sys2Proof Sys2Proof.Machine

namespace Sys2Proof.Tests

set_option maxRecDepth 100000
set_option Elab.async false
set_option linter.unusedVariables false

theorem met_EngineCommandsMoveTheEngineState :
    (∃ (e : EngNo) (s : State), s.engState e ≠ 0)
    ∧ (∃ (e : EngNo) (d : BitVec 8) (s : State) (n : Nat), n = s.engRes e - s.onTheWay e ∧ s.engState e = 0 ∧ s.destBad e
      d.toNat n = true)
    ∧ (∃ (e : EngNo) (d : BitVec 8) (s : State) (n : Nat), n = s.engRes e - s.onTheWay e ∧ s.engState e = 0 ∧ s.destBad e
      d.toNat n = false ∧ tget [] s.eng.moving e = [])
    ∧ (∃ (e : EngNo) (s : State), s.engState e = 2)
    ∧ (∃ (e : EngNo) (s : State), s.engState e ≠ 2)
    ∧ (∃ (e : EngNo) (s : State), s.engState e = 3)
    ∧ (∃ (e : EngNo) (s : State), s.engState e ≠ 3)
    ∧ (∃ (e : EngNo) (d : BitVec 8) (s : State) (q : Nat), s.engState e = 0 ∧ q = s.qIdx e ∧ (s.destBad e d.toNat 1 = true ∨
      s.resident e q = false))
    ∧ (∃ (e : EngNo) (d : BitVec 8) (s : State) (q : Nat), s.engState e = 0 ∧ q = s.qIdx e ∧ s.destBad e d.toNat 1 = false ∧
      s.resident e q = true ∧ (s.qctx e q).st = 4)
    ∧ (∃ (e : EngNo) (d : BitVec 8) (s : State) (q : Nat), s.engState e = 0 ∧ q = s.qIdx e ∧ s.destBad e d.toNat 1 = false ∧
      s.resident e q = true ∧ (s.qctx e q).st ≠ 4)
    ∧ (∃ (e : EngNo) (q : QueueNo) (s : State), (2 ≤ s.engState e ∨ s.resident e q = false))
    ∧ (∃ (e : EngNo) (q : QueueNo) (s : State), s.engState e < 2 ∧ s.resident e q = true) :=
  ⟨ex2 (
      let e : EngNo := 7
      let s : State := State.reset
      let s : State := s.fset F.ENG.ENG_STS.STATE ((0) + 1) e
      (e, s)) (by decide +kernel),
   ex4 (
      let e : EngNo := 7
      let d : BitVec 8 := 0
      let s : State := State.reset
      let s : State := s.fset F.ENG.ENG_STS.STATE (0) e
      let n : Nat := s.engRes e - s.onTheWay e
      (e, d, s, n)) (by decide +kernel),
   ex4 (
      let e : EngNo := 7
      let d : BitVec 8 := 88
      let s : State := State.reset
      let s : State := s.fset F.ENG.ENG_STS.STATE (0) e
      let s : State := { s with eng := { s.eng with moving := tset [] s.eng.moving e ([]) } }
      let n : Nat := s.engRes e - s.onTheWay e
      (e, d, s, n)) (by decide +kernel),
   ex2 (
      let e : EngNo := 7
      let s : State := State.reset
      let s : State := s.fset F.ENG.ENG_STS.STATE (2) e
      (e, s)) (by decide +kernel),
   ex2 (
      let e : EngNo := 7
      let s : State := State.reset
      let s : State := s.fset F.ENG.ENG_STS.STATE ((2) + 1) e
      (e, s)) (by decide +kernel),
   ex2 (
      let e : EngNo := 7
      let s : State := State.reset
      let s : State := s.fset F.ENG.ENG_STS.STATE (3) e
      (e, s)) (by decide +kernel),
   ex2 (
      let e : EngNo := 7
      let s : State := State.reset
      let s : State := s.fset F.ENG.ENG_STS.STATE ((3) + 1) e
      (e, s)) (by decide +kernel),
   ex4 (
      let e : EngNo := 7
      let d : BitVec 8 := 0
      let s : State := State.reset
      let s : State := s.fset F.ENG.ENG_STS.STATE (0) e
      let s : State := setResident s e (s.qIdx e) (false)
      let q : Nat := s.qIdx e
      (e, d, s, q)) (by decide +kernel),
   ex4 (
      let e : EngNo := 0
      let d : BitVec 8 := 130
      let s : State := State.reset
      let s : State := s.fset F.ENG.ENG_STS.STATE (0) e
      let s : State := setResident s e (s.qIdx e) (true)
      let s : State := { s with eng := { s.eng with ctx := tset {} s.eng.ctx (qKey (e) ((s.qIdx e))) ({ s.qctx e (s.qIdx e) with st := 4 }) } }
      let q : Nat := s.qIdx e
      (e, d, s, q)) (by decide +kernel),
   ex4 (
      let e : EngNo := 0
      let d : BitVec 8 := 104
      let s : State := State.reset
      let s : State := s.fset F.ENG.ENG_STS.STATE (0) e
      let s : State := setResident s e (s.qIdx e) (true)
      let s : State := { s with eng := { s.eng with ctx := tset {} s.eng.ctx (qKey (e) ((s.qIdx e))) ({ s.qctx e (s.qIdx e) with st := (4) + 1 }) } }
      let q : Nat := s.qIdx e
      (e, d, s, q)) (by decide +kernel),
   ex3 (
      let e : EngNo := 7
      let q : QueueNo := 65535
      let s : State := State.reset
      let s : State := setResident s e q (false)
      (e, q, s)) (by decide +kernel),
   ex3 (
      let e : EngNo := 7
      let q : QueueNo := 65535
      let s : State := State.reset
      let s : State := s.fset F.ENG.ENG_STS.STATE ((2) - 1 - 2) e
      let s : State := setResident s e q (true)
      (e, q, s)) (by decide +kernel)⟩

theorem met_ContextsPushesAndCopiesAreServed :
    (∃ (s : State), s.eng.moveTo = [])
    ∧ (∃ (e : EngNo) (s : State) (q : Nat) (d : Nat), s.eng.moveTo = [(q, d + 1)] ∧ s.sendable e q = true)
    ∧ (∃ (e : EngNo) (s : State), s.descHead e 2 = none)
    ∧ (∃ (e : EngNo) (s : State), s.descHead e 1 = none)
    ∧ (∃ (e : EngNo) (s : State) (x : Egr), s.descHead e 2 = some x ∧ (isEngStop x.flit.src.toNat = false ∨ s.engState e ≠ 0
      ∨ engSlots < s.engRes e + (descItems x.flit).length))
    ∧ (∃ (e : EngNo) (s : State) (x : Egr), s.descHead e 2 = some x ∧ isEngStop x.flit.src.toNat = true ∧ s.engState e = 0 ∧
      s.engRes e + 1 ≤ engSlots ∧ descTwo x.flit = false)
    ∧ (∃ (e : EngNo) (s : State) (x : Egr) (q : Nat) (c : QCtx), s.descHead e 1 = some x ∧ q = vbits x.flit.addr 0 16 ∧ c =
      s.qctx e q ∧ ([56, 57, 59].contains x.flit.src.toNat = false ∨ s.resident e q = false ∨ c.pushq = false ∨ 64 <
      s.unretired e q + (descItems x.flit).length))
    ∧ (∃ (e : EngNo) (s : State) (x : Egr) (q : Nat) (c : QCtx), s.descHead e 1 = some x ∧ q = vbits x.flit.addr 0 16 ∧ c =
      s.qctx e q ∧ [56, 57, 59].contains x.flit.src.toNat = true ∧ s.resident e q = true ∧ c.pushq = true ∧ s.unretired e q +
      (descItems x.flit).length ≤ 64)
    ∧ (∃ (n : Node) (m : Msg) (q : Nat) (e : Nat), msgOk m = true ∧ q = vbits m 32 16 ∧ e = vbits m 16 3 ∧ n.val = 60)
    ∧ (∃ (n : Node) (m : Msg) (q : Nat) (e : Nat), msgOk m = true ∧ q = vbits m 32 16 ∧ e = vbits m 16 3 ∧ n.val = 62)
    ∧ (∃ (n : Node) (m : Msg) (s : State) (q : Nat) (e : Nat), msgOk m = true ∧ q = vbits m 32 16 ∧ e = vbits m 16 3 ∧ isEngStop n = true ∧ (match s.stubOf (n / 7) q with | some x => true | _ => false) = true)
    ∧ (∃ (n : Node) (m : Msg) (s : State) (q : Nat) (e : Nat), msgOk m = true ∧ q = vbits m 32 16 ∧ e = vbits m 16 3 ∧ n.val
      ≠ 60 ∧ n.val ≠ 62 ∧ (isEngStop n = false ∨ s.stubOf (n / 7) q = none))
    ∧ (∃ (e : EngNo) (q : QueueNo) (y : Stub) (s : State), s.eng.stub = [(qKey e q, some y)] ∧ y.seen ≠ 0 ∧ tickPast
      (s.nodeTick (engStop e)) (y.seen - 1) 2 = true)
    ∧ (∃ (e : EngNo) (q : QueueNo) (y : Stub) (s : State), s.eng.stub = [(qKey e q, some y)] ∧ (y.seen = 0 ∨ tickPast
      (s.nodeTick (engStop e)) (y.seen - 1) 2 = false))
    ∧ (∃ (s : State), s.egr 58 0 0 = [] ∧ s.eng.fan = [])
    ∧ (∃ (s : State) (x : Fan) (i : Nat) (ms : List Nat), s.egr 58 0 0 = [] ∧ s.eng.fan = [x] ∧ x.members = i :: ms ∧ i ∉ ms
      ∧ (∀ m ∈ x.members, s.formBlock 58 (copyReq x m) ≠ 1) ∧ x.part = 0 ∧ s.target 58 (linkOf i).1 (linkOf i).2 = 2)
    ∧ (∃ (s : State) (x : Fan) (i : Nat) (ms : List Nat), s.egr 58 0 0 = [] ∧ s.eng.fan = [x] ∧ x.members = i :: ms ∧ i ∉ ms
      ∧ (∀ m ∈ x.members, s.formBlock 58 (copyReq x m) ≠ 1) ∧ ((x.part ≠ 0 ∧ x.cur = i) ∨ (x.part = 0 ∧ s.target 58 (linkOf
      i).1 (linkOf i).2 ≠ 2 ∧ s.formBlock 58 (copyReq x i) = 0)) ∧ x.part + 1 < x.flits.length)
    ∧ (∃ (s : State) (x : Fan) (i : Nat) (ms : List Nat), s.egr 58 0 0 = [] ∧ s.eng.fan = [x] ∧ x.members = i :: ms ∧ i ∉ ms
      ∧ (∀ m ∈ x.members, s.formBlock 58 (copyReq x m) ≠ 1) ∧ ((x.part ≠ 0 ∧ x.cur = i) ∨ (x.part = 0 ∧ s.target 58 (linkOf
      i).1 (linkOf i).2 ≠ 2 ∧ s.formBlock 58 (copyReq x i) = 0)) ∧ x.flits.length ≤ x.part + 1) :=
  ⟨ex1 (
      let s : State := State.reset
      let s : State := { s with eng := { s.eng with moveTo := [] } }
      s) (by decide +kernel),
   ex4 (
      let e : EngNo := 7
      let q : Nat := 0
      let d : Nat := 0
      let s : State := State.reset
      let s : State := { s with eng := { s.eng with moveTo := [(q, d + 1)] } }
      let s : State := setResident s e q true
      let s : State := { s with eng := { s.eng with ctx := tset {} s.eng.ctx (qKey e q) { s.qctx e q with st := 4 }, exec := [], moveTo := [(q, d + 1)] } }
      (e, s, q, d)) (by decide +kernel),
   ex2 (
      let e : EngNo := 7
      let s : State := State.reset
      let s : State := setEgr s (engStop e) 0 0 []
      (e, s)) (by decide +kernel),
   ex2 (
      let e : EngNo := 7
      let s : State := State.reset
      let s : State := setEgr s (engStop e) 0 0 []
      (e, s)) (by decide +kernel),
   ex3 (
      let e : EngNo := 7
      let s : State := State.reset
      let x : Egr := egr0
      let s : State := setEgr s (engStop e) 0 0 [x]
      let s : State := s.fset F.ENG.ENG_STS.STATE ((0) + 1) e
      let x : Egr := { x with flit := { x.flit with opc := opDESC, addr := setB x.flit.addr 56 8 2 } }
      let s : State := setEgr s (engStop e) 0 0 [x]
      (e, s, x)) (by decide +kernel),
   ex3 (
      let e : EngNo := 7
      let s : State := State.reset
      let x : Egr := egr0
      let s : State := setEgr s (engStop e) 0 0 [x]
      let s : State := s.fset F.ENG.ENG_STS.STATE (0) e
      let s : State := s.fset F.ENG.ENG_STS.RESIDENT (((engSlots) - 2) - (1)) e
      let x : Egr := { x with flit := { x.flit with src := 13, addr := setB x.flit.addr 32 1 0 } }
      let x : Egr := { x with flit := { x.flit with opc := opDESC, addr := setB x.flit.addr 56 8 2 } }
      let s : State := setEgr s (engStop e) 0 0 [x]
      (e, s, x)) (by decide +kernel),
   ex5 (
      let e : EngNo := 7
      let s : State := State.reset
      let x : Egr := egr0
      let s : State := setEgr s (engStop e) 0 0 [x]
      let s : State := { s with eng := { s.eng with ctx := tset {} s.eng.ctx (qKey (e) ((vbits x.flit.addr 0 16))) ({ s.qctx e (vbits x.flit.addr 0 16) with pushq := false }) } }
      let x : Egr := { x with flit := { x.flit with opc := opDESC, addr := setB x.flit.addr 56 8 1 } }
      let s : State := setEgr s (engStop e) 0 0 [x]
      let q : Nat := vbits x.flit.addr 0 16
      let c : QCtx := s.qctx e q
      (e, s, x, q, c)) (by decide +kernel),
   ex5 (
      let e : EngNo := 7
      let s : State := State.reset
      let x : Egr := egr0
      let s : State := setEgr s (engStop e) 0 0 [x]
      let s : State := setResident s e (vbits x.flit.addr 0 16) (true)
      let s : State := { s with eng := { s.eng with ctx := tset {} s.eng.ctx (qKey (e) ((vbits x.flit.addr 0 16))) ({ s.qctx e (vbits x.flit.addr 0 16) with pushq := true }) } }
      let x : Egr := { x with flit := { x.flit with src := 57 } }
      let x : Egr := { x with flit := { x.flit with opc := opDESC, addr := setB x.flit.addr 56 8 1 } }
      let s : State := setEgr s (engStop e) 0 0 [x]
      let q : Nat := vbits x.flit.addr 0 16
      let c : QCtx := s.qctx e q
      (e, s, x, q, c)) (by decide +kernel),
   ex4 (
      let n : Node := 60
      let m : Msg := 0
      let q : Nat := vbits m 32 16
      let e : Nat := vbits m 16 3
      (n, m, q, e)) (by decide +kernel),
   ex4 (
      let n : Node := 62
      let m : Msg := 0
      let q : Nat := vbits m 32 16
      let e : Nat := vbits m 16 3
      (n, m, q, e)) (by decide +kernel),
   ex5 (
      let n : Node := 41
      let m : Msg := 0
      let s : State := State.reset
      let s : State := { s with eng := { s.eng with stub := tset none s.eng.stub (qKey (n.val / 7) (vbits m 32 16)) (some ⟨3, 5, 0⟩) } }
      let q : Nat := vbits m 32 16
      let e : Nat := vbits m 16 3
      (n, m, s, q, e)) (by decide +kernel),
   ex5 (
      let n : Node := 63
      let m : Msg := 0
      let s : State := State.reset
      let s : State := { s with eng := { s.eng with stub := tset none s.eng.stub (qKey ((n / 7)) ((vbits m 32 16))) (none) } }
      let q : Nat := vbits m 32 16
      let e : Nat := vbits m 16 3
      (n, m, s, q, e)) (by decide +kernel),
   ex4 (
      let e : EngNo := 7
      let q : QueueNo := 65535
      let s : State := State.reset
      let y : Stub := { toward := 0, slice := 0 }
      let s : State := { s with eng := { s.eng with stub := [(qKey e q, some y)] } }
      let s : State := setTick s ((engStop e)) (if true then ((y.seen - 1)) + (2) else ((y.seen - 1)) + (2) + 2 ^ 48 - 1)
      let y : Stub := { y with seen := 1 }
      let s : State := { s with eng := { s.eng with stub := [(qKey e q, some y)] } }
      let s : State := setTick s (engStop e) 2
      (e, q, y, s)) (by decide +kernel),
   ex4 (
      let e : EngNo := 7
      let q : QueueNo := 65535
      let s : State := State.reset
      let y : Stub := { toward := 0, slice := 0 }
      let s : State := { s with eng := { s.eng with stub := [(qKey e q, some y)] } }
      let y : Stub := { y with seen := 0 }
      (e, q, y, s)) (by decide +kernel),
   ex1 (
      let s : State := State.reset
      let s : State := { s with ord := { s.ord with egr := tset [] s.ord.egr (egrKey 58 0 0) ([]) } }
      let s : State := { s with eng := { s.eng with fan := [] } }
      s) (by decide +kernel),
   ex4 (
      let i : Nat := 0
      let s : State := State.reset
      let x : Fan := { flits := [], members := [], rid := 0, entries := [] }
      let ms : List Nat := []
      let x : Fan := { x with members := i :: ms }
      let x : Fan := { x with part := 0 }
      let s : State := { s with ord := { s.ord with egr := tset [] s.ord.egr (egrKey 58 0 0) ([]) } }
      let s : State := { s with eng := { s.eng with fan := [x] } }
      let s : State := { s with ord := { s.ord with tgt := tset 0 s.ord.tgt (58 * 256 + (linkOf i).1 * 4 + (linkOf i).2) (2) } }
      (s, x, i, ms)) (by decide +kernel),
   ex4 (
      let i : Nat := 0
      let s : State := State.reset
      let x : Fan := { flits := [], members := [], rid := 0, entries := [] }
      let ms : List Nat := []
      let s : State := { s with ord := { s.ord with egr := tset [] s.ord.egr (egrKey 58 0 0) ([]) } }
      let s : State := { s with eng := { s.eng with fan := [x] } }
      let x : Fan := { x with members := i :: ms }
      let x : Fan := { x with cur := i }
      let x : Fan := { x with flits := [emptyFlit, emptyFlit, emptyFlit], part := 1 }
      let s : State := { s with eng := { s.eng with fan := [x] } }
      (s, x, i, ms)) (by decide +kernel),
   ex4 (
      let i : Nat := 0
      let s : State := State.reset
      let x : Fan := { flits := [], members := [], rid := 0, entries := [] }
      let ms : List Nat := []
      let x : Fan := { x with members := i :: ms }
      let x : Fan := { x with cur := i }
      let s : State := { s with ord := { s.ord with egr := tset [] s.ord.egr (egrKey 58 0 0) ([]) } }
      let s : State := { s with eng := { s.eng with fan := [x] } }
      (s, x, i, ms)) (by decide +kernel)⟩

theorem met_DescriptorsRunAndRetire :
    (∃ (e : EngNo) (s : State), tget [] s.ord.rdDone (engStop e) = [])
    ∧ (∃ (e : EngNo) (q : QueueNo) (s : State) (r : RdDone) (id : Nat) (i : Nat) (n : Nat), tget [] s.ord.rdDone (engStop e)
      = [r] ∧ r.use = .desc id ∧ s.eng.fetch = [(qKey e q, some (id, i, n))] ∧ (s.qctx e q).now = 3)
    ∧ (∃ (e : EngNo) (q : QueueNo) (s : State) (r : RdDone) (id : Nat) (i : Nat) (n : Nat), tget [] s.ord.rdDone (engStop e)
      = [r] ∧ r.use = .desc id ∧ s.eng.fetch = [(qKey e q, some (id, i, n))] ∧ (s.qctx e q).now ≠ 3 ∧ rdStatus r = 0 ∧ rdPois
      r = false ∧ 0 < n)
    ∧ (∃ (e : EngNo) (q : QueueNo) (s : State) (r : RdDone) (id : Nat) (i : Nat) (n : Nat), tget [] s.ord.rdDone (engStop e)
      = [r] ∧ r.use = .desc id ∧ s.eng.fetch = [(qKey e q, some (id, i, n))] ∧ (s.qctx e q).now ≠ 3 ∧ (rdStatus r ≠ 0 ∨ rdPois
      r = true))
    ∧ (∃ (e : EngNo) (s : State) (u : State), u = s.engPump e ∧ (u.engState e ≠ 0 ∨ 64 ≤ (u.execOf e).length ∨
      (u.storedQueues e).filter (fun q => u.startable? e q) = []))
    ∧ (∃ (e : EngNo) (s : State) (u : State) (q : Nat) (i : Nat) (b : Nat) (rest : List (Nat × Nat)) (c : QCtx), u =
      s.engPump e ∧ u.engState e = 0 ∧ (u.execOf e).length < 64 ∧ (u.storedQueues e).filter (fun y => u.startable? e y) = [q]
      ∧ u.availOf q = (i, b) :: rest ∧ c = u.qctx e q)
    ∧ (∃ (e : EngNo) (s : State) (r : RdDone) (d : Dsc) (c : EChunk), tget [] s.ord.rdDone (engStop e) = [r] ∧ r.use =
      .chunk c.id ∧ tget [] s.eng.events e = [] ∧ s.execOf e = [d] ∧ d.chunks = [c] ∧ tget [] s.eng.wait e = [] ∧ c.id <
      s.eng.nextId ∧ rdStatus r ≠ 0)
    ∧ (∃ (e : EngNo) (s : State) (r : RdDone) (d : Dsc) (c : EChunk), tget [] s.ord.rdDone (engStop e) = [r] ∧ r.use =
      .chunk c.id ∧ tget [] s.eng.events e = [] ∧ s.execOf e = [d] ∧ d.chunks = [c] ∧ tget [] s.eng.wait e = [] ∧ c.id <
      s.eng.nextId ∧ rdStatus r = 0 ∧ dOp d.bits = 3)
    ∧ (∃ (e : EngNo) (s : State) (r : RdDone) (d : Dsc) (c : EChunk), tget [] s.ord.rdDone (engStop e) = [r] ∧ r.use =
      .chunk c.id ∧ tget [] s.eng.events e = [] ∧ s.execOf e = [d] ∧ d.chunks = [c] ∧ tget [] s.eng.wait e = [] ∧ c.id <
      s.eng.nextId ∧ rdStatus r = 0 ∧ dOp d.bits = 1 ∧ s.budget e < c.len)
    ∧ (∃ (e : EngNo) (s : State) (u : State), u = s.engPump e ∧ u.retirable e = none)
    ∧ (∃ (e : EngNo) (s : State) (u : State) (d : Dsc), u = s.engPump e ∧ u.retirable e = some d) :=
  ⟨ex2 (
      let e : EngNo := 7
      let s : State := State.reset
      let s : State := { s with ord := { s.ord with rdDone := tset [] s.ord.rdDone (engStop e) ([]) } }
      (e, s)) (by decide +kernel),
   ex7 (
      let e : EngNo := 7
      let q : QueueNo := 65535
      let id : Nat := 0
      let i : Nat := 0
      let n : Nat := 0
      let s : State := State.reset
      let r : RdDone := { use := .own, hdr := none, flits := [], status := 0 }
      let r : RdDone := { r with use := .desc id }
      let s : State := { s with ord := { s.ord with rdDone := tset [] s.ord.rdDone (engStop e) ([r]) } }
      let s : State := { s with eng := { s.eng with fetch := [(qKey e q, some (id, i, n))] } }
      let s : State := { s with eng := { s.eng with ctx := tset {} s.eng.ctx (qKey (e) (q)) ({ s.qctx e q with st := 3 }) } }
      (e, q, s, r, id, i, n)) (by decide +kernel),
   ex7 (
      let e : EngNo := 2
      let q : QueueNo := 55562
      let id : Nat := 1
      let i : Nat := 1
      let n : Nat := 1
      let s : State := State.reset
      let r : RdDone := { use := .own, hdr := none, flits := [], status := 0 }
      let r : RdDone := { r with use := .desc id }
      let s : State := { s with ord := { s.ord with rdDone := tset [] s.ord.rdDone (engStop e) ([r]) } }
      let s : State := { s with eng := { s.eng with fetch := [(qKey e q, some (id, i, n))] } }
      (e, q, s, r, id, i, n)) (by decide +kernel),
   ex7 (
      let e : EngNo := 7
      let q : QueueNo := 65535
      let id : Nat := 0
      let i : Nat := 0
      let n : Nat := 0
      let s : State := State.reset
      let r : RdDone := { use := .own, hdr := none, flits := [], status := 0 }
      let s : State := { s with ord := { s.ord with rdDone := tset [] s.ord.rdDone (engStop e) ([r]) } }
      let r : RdDone := { r with use := .desc id }
      let s : State := { s with eng := { s.eng with fetch := [(qKey e q, some (id, i, n))] } }
      let s : State := { s with eng := { s.eng with ctx := tset {} s.eng.ctx (qKey (e) (q)) ({ s.qctx e q with st := (3) + 1 }) } }
      let r : RdDone := { r with status := 1 }
      let s : State := { s with ord := { s.ord with rdDone := tset [] s.ord.rdDone (engStop e) [r] } }
      (e, q, s, r, id, i, n)) (by decide +kernel),
   ex3 (
      let e : EngNo := 7
      let s : State := State.reset
      let u : State := s.engPump e
      (e, s, u)) (by decide +kernel),
   ex8 (
      let e : EngNo := 7
      let q : Nat := 57344
      let i : Nat := 0
      let b : Nat := 0
      let s : State := State.reset
      let s : State := { s with eng := { s.eng with ctx := tset {} [] (qKey e q) { v := true, st := 1, ring := 8, slice := 0, head := i, fetched := i + 1, tail := i + 1 }, avail := tset [] [] q [(i, b)], exec := [], wait := [], events := [], away := [], noHome := [], fetch := [] } }
      let rest : List (Nat × Nat) := []
      let s : State := s.setAvail q [(i, b)]
      let s : State := s.fset F.ENG.ENG_STS.STATE 0 e
      let s : State := { s with ord := { s.ord with rdDone := [] } }
      let u : State := s.engPump e
      let c : QCtx := u.qctx e q
      (e, s, u, q, i, b, rest, c)) (by decide +kernel),
   ex5 (
      let e : EngNo := 7
      let s : State := State.reset
      let r : RdDone := { use := .own, hdr := none, flits := [], status := 0 }
      let d : Dsc := { q := 0, index := 0, bits := 0 }
      let c : EChunk := { id := 0, off := 0, len := 0, st := 0 }
      let r : RdDone := { r with use := .chunk c.id }
      let d : Dsc := { d with chunks := [c] }
      let r : RdDone := { r with status := 1 }
      let s : State := { s with ord := { s.ord with rdDone := tset [] s.ord.rdDone (engStop e) ([r]) } }
      let s : State := { s with eng := { s.eng with events := tset [] s.eng.events e ([]) } }
      let s : State := { s with eng := { s.eng with exec := tset [] s.eng.exec e ([d]) } }
      let s : State := { s with eng := { s.eng with wait := tset [] s.eng.wait e ([]) } }
      let s : State := { s with eng := { s.eng with nextId := (c.id) + 1 + 1 } }
      let s : State := { s with ord := { s.ord with rdDone := tset [] s.ord.rdDone (engStop e) [r] } }
      (e, s, r, d, c)) (by decide +kernel),
   ex5 (
      let e : EngNo := 7
      let s : State := State.reset
      let r : RdDone := { use := .own, hdr := none, flits := [], status := 0 }
      let d : Dsc := { q := 0, index := 0, bits := 0 }
      let c : EChunk := { id := 0, off := 0, len := 0, st := 0 }
      let s : State := { s with ord := { s.ord with rdDone := tset [] s.ord.rdDone (engStop e) ([r]) } }
      let r : RdDone := { r with use := .chunk c.id }
      let s : State := { s with eng := { s.eng with events := tset [] s.eng.events e ([]) } }
      let s : State := { s with eng := { s.eng with exec := tset [] s.eng.exec e ([d]) } }
      let d : Dsc := { d with chunks := [c] }
      let s : State := { s with eng := { s.eng with wait := tset [] s.eng.wait e ([]) } }
      let s : State := { s with eng := { s.eng with nextId := (c.id) + 1 + 0 } }
      let c : EChunk := { c with id := 3, off := 0, st := 1, pois := false, status := 0 }
      let d : Dsc := { d with bits := packBits [(0, 4, 3), (192, 32, 256)], next := 256, chunks := [c], fixed := 0, aborted := false, flush := 0 }
      let r : RdDone := { r with use := .chunk 3, synth := false, status := 0 }
      let s : State := { s with ord := { s.ord with rdDone := tset [] s.ord.rdDone (engStop e) [r] } }
      let s : State := { s with eng := { s.eng with events := [], wait := [], nextId := 9, exec := tset [] s.eng.exec e [d] } }
      (e, s, r, d, c)) (by decide +kernel),
   ex5 (
      let e : EngNo := 7
      let s : State := State.reset
      let r : RdDone := { use := .own, hdr := none, flits := [], status := 0 }
      let d : Dsc := { q := 0, index := 0, bits := 0 }
      let c : EChunk := { id := 0, off := 0, len := 0, st := 0 }
      let s : State := { s with ord := { s.ord with rdDone := tset [] s.ord.rdDone (engStop e) ([r]) } }
      let r : RdDone := { r with use := .chunk c.id }
      let s : State := { s with eng := { s.eng with events := tset [] s.eng.events e ([]) } }
      let s : State := { s with eng := { s.eng with exec := tset [] s.eng.exec e ([d]) } }
      let d : Dsc := { d with chunks := [c] }
      let s : State := { s with eng := { s.eng with wait := tset [] s.eng.wait e ([]) } }
      let s : State := { s with eng := { s.eng with nextId := (c.id) + 1 + 0 } }
      let c : EChunk := { c with len := (s.budget e) + 1 + 2 }
      let c : EChunk := { c with len := 256 }
      let c : EChunk := { c with id := 3, off := 0, st := 1, pois := false, status := 0 }
      let d : Dsc := { d with bits := packBits [(0, 4, 1), (192, 32, 256)], next := 256, chunks := [c], fixed := 0, aborted := false, flush := 0 }
      let r : RdDone := { r with use := .chunk 3, synth := false, status := 0 }
      let s : State := { s with ord := { s.ord with rdDone := tset [] s.ord.rdDone (engStop e) [r] } }
      let s : State := { s with eng := { s.eng with events := [], wait := [], nextId := 9, exec := tset [] s.eng.exec e [d] } }
      let s : State := { s with eng := { s.eng with budget := [] } }
      (e, s, r, d, c)) (by decide +kernel),
   ex3 (
      let e : EngNo := 7
      let s : State := State.reset
      let u : State := s.engPump e
      (e, s, u)) (by decide +kernel),
   ex4 (
      let e : EngNo := 7
      let s : State := State.reset
      let d : Dsc := { q := 0, index := 0, bits := 0 }
      let d : Dsc := { d with q := 8192 * e.val + 4, index := 5, fixed := 2, chunks := [], aborted := false, noRec := false, flush := 0, bits := 0, next := 0 }
      let s : State := { s with eng := { s.eng with exec := tset [] [] e [d], wait := [], events := [], avail := [], away := [], noHome := [], ctx := tset {} [] (qKey e (8192 * e.val + 4)) { v := true, st := 1, ring := 8, slice := 0, head := 5, fetched := 6, tail := 6 } } }
      let s : State := { s with ord := { s.ord with rdDone := [] } }
      let u : State := s.engPump e
      (e, s, u, d)) (by decide +kernel)⟩

theorem met_SliceCommandsFollowTheirTable :
    (∃ (x : SliceNo) (s : State), s.fbit F.SLICE.MSTS.BUSY x = true)
    ∧ (∃ (x : SliceNo) (s : State), s.fbit F.SLICE.MSTS.BUSY x = true)
    ∧ (∃ (x : SliceNo) (s : State), s.fbit F.SLICE.MSTS.BUSY x = false ∧ s.sliceState x = ((0, [Instr.sliceDrydown,
      .sliceOpen, .sliceReset, .sliceRemove, .sliceFreeze, .sliceThaw, .sliceForce]) : Nat × List (SliceNo → Instr)).1)
    ∧ (∃ (x : SliceNo) (s : State), s.fbit F.SLICE.MSTS.BUSY x = false ∧ (s.sliceState x = 1 ∨ s.sliceState x = 2))
    ∧ (∃ (x : SliceNo) (s : State), s.fbit F.SLICE.MSTS.BUSY x = false ∧ s.sliceState x = 0 ∧ s.accordRes x ≠ 0)
    ∧ (∃ (x : SliceNo) (s : State), s.fbit F.SLICE.MSTS.BUSY x = false ∧ s.sliceState x = 0 ∧ s.accordRes x = 0)
    ∧ (∃ (x : SliceNo) (s : State), s.fbit F.SLICE.MSTS.BUSY x = false ∧ s.sliceState x = 1 ∧ s.freeTracker = none)
    ∧ (∃ (x : SliceNo) (s : State), s.fbit F.SLICE.MSTS.BUSY x = false ∧ s.sliceState x = 1 ∧ (match s.freeTracker with | some i => true | _ => false) = true)
    ∧ (∃ (x : SliceNo) (s : State), s.fbit F.SLICE.MSTS.BUSY x = false ∧ (s.sliceState x = 2 ∨ s.sliceState x = 3))
    ∧ (∃ (x : SliceNo) (s : State), s.fbit F.SLICE.MSTS.BUSY x = false ∧ s.sliceState x = 3)
    ∧ (∃ (x : SliceNo) (s : State), s.fbit F.SLICE.MSTS.BUSY x = false ∧ (s.sliceState x = 3 ∨ s.sliceState x = 4))
    ∧ (∃ (x : SliceNo) (s : State), s.fbit F.SLICE.MSTS.BUSY x = false ∧ s.sliceState x = 4)
    ∧ (∃ (x : SliceNo) (s : State), s.fbit F.SLICE.MSTS.BUSY x = false ∧ 1 ≤ s.sliceState x ∧ s.sliceState x ≤ 4)
    ∧ (∃ (x : SliceNo) (s : State), s.fbit F.SLICE.MSTS.BUSY x = false ∧ s.sliceState x = 5) :=
  ⟨ex2 (
      let x : SliceNo := 4095
      let s : State := State.reset
      let s : State := s.fset F.SLICE.MSTS.BUSY ((b2n (true))) x
      (x, s)) (by decide +kernel),
   ex2 (
      let x : SliceNo := 4095
      let s : State := State.reset
      let s : State := s.fset F.SLICE.MSTS.BUSY ((b2n (true))) x
      (x, s)) (by decide +kernel),
   ex2 (
      let x : SliceNo := 4095
      let s : State := State.reset
      let s : State := s.fset F.SLICE.MSTS.BUSY ((b2n (false))) x
      let s : State := s.fset F.SLICE.MSTS.STATE (((0, [Instr.sliceDrydown, .sliceOpen, .sliceReset, .sliceRemove,
        .sliceFreeze, .sliceThaw, .sliceForce]) : Nat × List (SliceNo → Instr)).1) x
      (x, s)) (by decide +kernel),
   ex2 (
      let x : SliceNo := 4095
      let s : State := State.reset
      let s : State := s.fset F.SLICE.MSTS.BUSY ((b2n (false))) x
      let s : State := s.fset F.SLICE.MSTS.STATE (2) x
      (x, s)) (by decide +kernel),
   ex2 (
      let x : SliceNo := 4095
      let s : State := State.reset
      let s : State := s.fset F.SLICE.MSTS.BUSY ((b2n (false))) x
      let s : State := s.fset F.SLICE.MSTS.STATE (0) x
      let s : State := s.fset F.SLICE.ACC_EW.ENG_WT 0 x
      (x, s)) (by decide +kernel),
   ex2 (
      let x : SliceNo := 4095
      let s : State := State.reset
      let s : State := s.fset F.SLICE.MSTS.BUSY ((b2n (false))) x
      let s : State := s.fset F.SLICE.MSTS.STATE (0) x
      (x, s)) (by decide +kernel),
   ex2 (
      let x : SliceNo := 4095
      let s : State := State.reset
      let s : State := s.fset F.SLICE.MSTS.BUSY ((b2n (false))) x
      let s : State := s.fset F.SLICE.MSTS.STATE (1) x
      let s : State := { s with slc := { s.slc with trk := (List.range 32).map (fun i => (i, 9)) } }
      (x, s)) (by decide +kernel),
   ex2 (
      let x : SliceNo := 4095
      let s : State := State.reset
      let s : State := s.fset F.SLICE.MSTS.BUSY ((b2n (false))) x
      let s : State := s.fset F.SLICE.MSTS.STATE (1) x
      (x, s)) (by decide +kernel),
   ex2 (
      let x : SliceNo := 4095
      let s : State := State.reset
      let s : State := s.fset F.SLICE.MSTS.BUSY ((b2n (false))) x
      let s : State := s.fset F.SLICE.MSTS.STATE (2) x
      (x, s)) (by decide +kernel),
   ex2 (
      let x : SliceNo := 4095
      let s : State := State.reset
      let s : State := s.fset F.SLICE.MSTS.BUSY ((b2n (false))) x
      let s : State := s.fset F.SLICE.MSTS.STATE (3) x
      (x, s)) (by decide +kernel),
   ex2 (
      let x : SliceNo := 4095
      let s : State := State.reset
      let s : State := s.fset F.SLICE.MSTS.BUSY ((b2n (false))) x
      let s : State := s.fset F.SLICE.MSTS.STATE (3) x
      (x, s)) (by decide +kernel),
   ex2 (
      let x : SliceNo := 4095
      let s : State := State.reset
      let s : State := s.fset F.SLICE.MSTS.BUSY ((b2n (false))) x
      let s : State := s.fset F.SLICE.MSTS.STATE (4) x
      (x, s)) (by decide +kernel),
   ex2 (
      let x : SliceNo := 4095
      let s : State := State.reset
      let s : State := s.fset F.SLICE.MSTS.BUSY ((b2n (false))) x
      let s : State := s.fset F.SLICE.MSTS.STATE ((1) + 1) x
      let s : State := s.fset F.SLICE.MSTS.STATE ((4) - 0) x
      (x, s)) (by decide +kernel),
   ex2 (
      let x : SliceNo := 4095
      let s : State := State.reset
      let s : State := s.fset F.SLICE.MSTS.BUSY ((b2n (false))) x
      let s : State := s.fset F.SLICE.MSTS.STATE (5) x
      (x, s)) (by decide +kernel)⟩

theorem met_SliceUpdatesAndTheCensusTakeEffect :
    (∃ (n : Node) (m : Msg) (s : State) (key : Nat), msgOk m = true ∧ key = sliceKey n (vbits m 36 12) ∧ (60 ≤ n.val ∨ tget
      0 s.slc.applied key = vbits m 21 8))
    ∧ (∃ (n : Node) (m : Msg) (s : State) (key : Nat), msgOk m = true ∧ key = sliceKey n (vbits m 36 12) ∧ n.val < 60 ∧ tget
      0 s.slc.applied key ≠ vbits m 21 8 ∧ tget none s.slc.arrived key = none)
    ∧ (∃ (s : State), s.slc.arrived = [])
    ∧ (∃ (k : Stop) (x : SliceNo) (u : SliceUpd) (s : State), s.slc.arrived = [(sliceKey k x, some u)])
    ∧ (∃ (n : Node) (m : Msg) (s : State) (key : Nat) (old : Nat), msgOk m = true ∧ key = sectorOf n * 4096 + vbits m 32 12
      ∧ old = tget 0 s.mem.unitsPart key ∧ isMemStop n = false)
    ∧ (∃ (n : Node) (m : Msg) (s : State) (key : Nat) (old : Nat), msgOk m = true ∧ key = sectorOf n * 4096 + vbits m 32 12
      ∧ old = tget 0 s.mem.unitsPart key ∧ isMemStop n = true ∧ (old = 0 ∨ (old - 1) % 2 = vbits m 31 1))
    ∧ (∃ (n : Node) (m : Msg) (s : State) (key : Nat) (old : Nat), msgOk m = true ∧ key = sectorOf n * 4096 + vbits m 32 12
      ∧ old = tget 0 s.mem.unitsPart key ∧ isMemStop n = true ∧ old ≠ 0 ∧ (old - 1) % 2 ≠ vbits m 31 1)
    ∧ (∃ (k : Stop) (x : SliceNo) (s : State) (a : Nat), a = tget 0 s.slc.closedAt (sliceKey k x) ∧ (isPortStop k = false ∨
      s.sliceState x ≠ 2 ∨ a = 0 ∨ tickPast (s.nodeTick k) (a - 1) (s.fget F.SLICE.CTL.FLUSH_AGE x) = false))
    ∧ (∃ (k : Stop) (x : SliceNo) (s : State) (a : Nat) (l : Link) (y : Egr), a = tget 0 s.slc.closedAt (sliceKey k x) ∧
      isPortStop k = true ∧ s.sliceState x = 2 ∧ a ≠ 0 ∧ tickPast (s.nodeTick k) (a - 1) (s.fget F.SLICE.CTL.FLUSH_AGE x) =
      true ∧ s.present k l = true ∧ s.linkState k l ≠ 0 ∧ s.egr k l 0 = [y] ∧ y.flit.slice.toNat = x.val ∧ s.spill k l = [] ∧
      (∀ j : Link, j ≠ l → s.egr k j 0 = []) ∧ 0 < s.spillCap k l 1 ∧ 192 * (s.flushUse x + 1) ≤ 1048576 * s.fget
      F.SLICE.ACC_FLUSH.FLUSH_MIB x)
    ∧ (∃ (k : Stop) (x : SliceNo) (s : State) (a : Nat) (l : Link) (y : Egr), a = tget 0 s.slc.closedAt (sliceKey k x) ∧
      isPortStop k = true ∧ s.sliceState x = 2 ∧ a ≠ 0 ∧ tickPast (s.nodeTick k) (a - 1) (s.fget F.SLICE.CTL.FLUSH_AGE x) =
      true ∧ s.present k l = true ∧ s.linkState k l ≠ 0 ∧ s.egr k l 0 = [y] ∧ y.flit.slice.toNat = x.val ∧ s.spill k l = [] ∧
      (∀ j : Link, j ≠ l → s.egr k j 0 = []) ∧ s.spillCap k l 1 = 0)
    ∧ (∃ (n : Node) (m : Msg), msgOk m = true ∧ n.val = 60)
    ∧ (∃ (n : Node) (m : Msg), msgOk m = true ∧ n.val = 62)
    ∧ (∃ (n : Node) (m : Msg), msgOk m = true ∧ n.val ≠ 60 ∧ n.val ≠ 62)
    ∧ (∃ (n : Node) (m : Msg) (s : State) (b : Nat) (seen : Tbl Nat), msgOk m = true ∧ n.val = 62 ∧ b = countWithLow
      (s.nodeTick 62) 4 (vbits m 7 4) ∧ seen = tset 0 (if s.slc.censusTick = b then s.slc.censusSeen else []) (msgSrc m) (1 +
      vbits m 11 32))
    ∧ (∃ (x : SliceNo) (s : State), (s.sliceState x ≠ 2 ∨ s.censusHit x = false))
    ∧ (∃ (x : SliceNo) (s : State), (s.sliceState x ≠ 5 ∨ s.censusHit x = false))
    ∧ (∃ (x : SliceNo) (s : State), s.censusHit x = true ∧ s.slc.waiting = [] ∧ s.sliceState x = 2)
    ∧ (∃ (x : SliceNo) (s : State), s.censusHit x = true ∧ s.slc.waiting = [] ∧ s.sliceState x = 5) :=
  ⟨ex4 (
      let n : Node := 62
      let m : Msg := 0
      let s : State := State.reset
      let s : State := { s with slc := { s.slc with applied := tset 0 s.slc.applied (sliceKey n (vbits m 36 12)) (vbits m 21 8) } }
      let key : Nat := sliceKey n (vbits m 36 12)
      (n, m, s, key)) (by decide +kernel),
   ex4 (
      let n : Node := 0
      let m : Msg := 0
      let s : State := State.reset
      let s : State := { s with slc := { s.slc with applied := tset 0 s.slc.applied (sliceKey n (vbits m 36 12)) ((vbits m 21 8) + 1) } }
      let s : State := { s with slc := { s.slc with arrived := tset none s.slc.arrived (sliceKey n (vbits m 36 12)) (none) } }
      let key : Nat := sliceKey n (vbits m 36 12)
      (n, m, s, key)) (by decide +kernel),
   ex1 (
      let s : State := State.reset
      let s : State := { s with slc := { s.slc with arrived := [] } }
      s) (by decide +kernel),
   ex4 (
      let k : Stop := 59
      let x : SliceNo := 4095
      let s : State := State.reset
      let u : SliceUpd := { op := 0, sgen := 0, qreset := false, nn := 0 }
      let s : State := { s with slc := { s.slc with arrived := [(sliceKey k x, some u)] } }
      (k, x, u, s)) (by decide +kernel),
   ex5 (
      let n : Node := 63
      let m : Msg := 0
      let s : State := State.reset
      let key : Nat := sectorOf n * 4096 + vbits m 32 12
      let old : Nat := tget 0 s.mem.unitsPart key
      (n, m, s, key, old)) (by decide +kernel),
   ex5 (
      let n : Node := 33
      let m : Msg := 2147483651
      let s : State := State.reset
      let s : State := { s with mem := { s.mem with unitsPart := tset 0 s.mem.unitsPart (sectorOf n * 4096 + vbits m 32 12) (0) } }
      let s : State := { s with mem := { s.mem with unitsPart := tset 0 s.mem.unitsPart (sectorOf n * 4096 + vbits m 32 12) 6 } }
      let key : Nat := sectorOf n * 4096 + vbits m 32 12
      let old : Nat := tget 0 s.mem.unitsPart key
      (n, m, s, key, old)) (by decide +kernel),
   ex5 (
      let n : Node := 33
      let m : Msg := 0
      let s : State := State.reset
      let s : State := { s with mem := { s.mem with unitsPart := tset 0 s.mem.unitsPart (sectorOf n * 4096 + vbits m 32 12) ((0) + 1) } }
      let s : State := { s with mem := { s.mem with unitsPart := tset 0 s.mem.unitsPart (sectorOf n * 4096 + vbits m 32 12) 6 } }
      let key : Nat := sectorOf n * 4096 + vbits m 32 12
      let old : Nat := tget 0 s.mem.unitsPart key
      (n, m, s, key, old)) (by decide +kernel),
   ex4 (
      let k : Stop := 59
      let x : SliceNo := 4095
      let s : State := State.reset
      let s : State := setTick s (k) (if false then (((tget 0 s.slc.closedAt (sliceKey k x)) - 1)) + ((s.fget
        F.SLICE.CTL.FLUSH_AGE x)) else (((tget 0 s.slc.closedAt (sliceKey k x)) - 1)) + ((s.fget F.SLICE.CTL.FLUSH_AGE x)) + 2
        ^ 48 - 1)
      let a : Nat := tget 0 s.slc.closedAt (sliceKey k x)
      (k, x, s, a)) (by decide +kernel),
   ex6 (
      let k : Stop := 3
      let x : SliceNo := 4095
      let l : Link := 3
      let s : State := State.reset
      let y : Egr := egr0
      let s : State := s.fset F.SLICE.MSTS.STATE (2) x
      let s : State := { s with slc := { s.slc with closedAt := tset 0 s.slc.closedAt (sliceKey k x) ((0) + 1) } }
      let s : State := setTick s (k) (if true then (((tget 0 s.slc.closedAt (sliceKey k x)) - 1)) + ((s.fget
        F.SLICE.CTL.FLUSH_AGE x)) else (((tget 0 s.slc.closedAt (sliceKey k x)) - 1)) + ((s.fget F.SLICE.CTL.FLUSH_AGE x)) + 2
        ^ 48 - 1)
      let s : State := setPresent s k l (true)
      let s : State := s.fset F.STOP.LINK_STS.STATE ((0) + 1) k l
      let s : State := { s with ord := { s.ord with egr := tset [] s.ord.egr (egrKey k l 0) ([y]) } }
      let y : Egr := { y with flit := { y.flit with slice := BitVec.ofNat _ (x.val) } }
      let s : State := { s with port := { s.port with spill := tset [] s.port.spill (linkKey k l) ([]) } }
      let s : State := { s with port := { s.port with spill := tset [] s.port.spill (linkKey k l) [] } }
      let s : State := setPresent s k l true
      let s : State := s.fset F.STOP.LINK_STS.STATE 1 k l
      let y : Egr := { y with flit := { y.flit with slice := BitVec.ofNat _ x.val } }
      let s : State := { s with ord := { s.ord with egr := tset [] [] (egrKey k l 0) [y] } }
      let s : State := { s with slc := { s.slc with closedAt := tset 0 s.slc.closedAt (sliceKey k x) 1 } }
      let s : State := s.fset F.SLICE.MSTS.STATE 2 x
      let s : State := setTick s k (s.fget F.SLICE.CTL.FLUSH_AGE x)
      let s : State := { s with port := { s.port with eff := tset 0 s.port.eff (k * 16 + (11 + l)) (1 + 5) } }
      let s : State := s.fset F.SLICE.ACC_FLUSH.FLUSH_MIB 3 x
      let a : Nat := tget 0 s.slc.closedAt (sliceKey k x)
      (k, x, s, a, l, y)) (by decide +kernel),
   ex6 (
      let k : Stop := 0
      let x : SliceNo := 0
      let l : Link := 0
      let s : State := State.reset
      let y : Egr := egr0
      let s : State := s.fset F.SLICE.MSTS.STATE (2) x
      let s : State := { s with slc := { s.slc with closedAt := tset 0 s.slc.closedAt (sliceKey k x) ((0) + 1) } }
      let s : State := setTick s (k) (if true then (((tget 0 s.slc.closedAt (sliceKey k x)) - 1)) + ((s.fget
        F.SLICE.CTL.FLUSH_AGE x)) else (((tget 0 s.slc.closedAt (sliceKey k x)) - 1)) + ((s.fget F.SLICE.CTL.FLUSH_AGE x)) + 2
        ^ 48 - 1)
      let s : State := setPresent s k l (true)
      let s : State := s.fset F.STOP.LINK_STS.STATE ((0) + 1) k l
      let s : State := { s with ord := { s.ord with egr := tset [] s.ord.egr (egrKey k l 0) ([y]) } }
      let y : Egr := { y with flit := { y.flit with slice := BitVec.ofNat _ (x.val) } }
      let s : State := { s with port := { s.port with spill := tset [] s.port.spill (linkKey k l) ([]) } }
      let s : State := { s with port := { s.port with spill := tset [] s.port.spill (linkKey k l) [] } }
      let s : State := setPresent s k l true
      let s : State := s.fset F.STOP.LINK_STS.STATE 1 k l
      let y : Egr := { y with flit := { y.flit with slice := BitVec.ofNat _ x.val } }
      let s : State := { s with ord := { s.ord with egr := tset [] [] (egrKey k l 0) [y] } }
      let s : State := { s with slc := { s.slc with closedAt := tset 0 s.slc.closedAt (sliceKey k x) 1 } }
      let s : State := s.fset F.SLICE.MSTS.STATE 2 x
      let s : State := setTick s k (s.fget F.SLICE.CTL.FLUSH_AGE x)
      let s : State := { s with port := { s.port with eff := tset 0 s.port.eff (k * 16 + (11 + l)) (1 + 0) } }
      let a : Nat := tget 0 s.slc.closedAt (sliceKey k x)
      (k, x, s, a, l, y)) (by decide +kernel),
   ex2 (
      let n : Node := 60
      let m : Msg := 0
      (n, m)) (by decide +kernel),
   ex2 (
      let n : Node := 62
      let m : Msg := 0
      (n, m)) (by decide +kernel),
   ex2 (
      let n : Node := 63
      let m : Msg := 0
      (n, m)) (by decide +kernel),
   ex5 (
      let n : Node := 62
      let m : Msg := 0
      let s : State := State.reset
      let b : Nat := countWithLow (s.nodeTick 62) 4 (vbits m 7 4)
      let seen : Tbl Nat := tset 0 (if s.slc.censusTick = b then s.slc.censusSeen else []) (msgSrc m) (1 + vbits m 11 32)
      (n, m, s, b, seen)) (by decide +kernel),
   ex2 (
      let x : SliceNo := 4095
      let s : State := State.reset
      let s : State := s.fset F.SLICE.MSTS.STATE ((2) + 1) x
      (x, s)) (by decide +kernel),
   ex2 (
      let x : SliceNo := 4095
      let s : State := State.reset
      let s : State := s.fset F.SLICE.MSTS.STATE ((5) + 1) x
      (x, s)) (by decide +kernel),
   ex2 (
      let x : SliceNo := 4095
      let s : State := State.reset
      let s : State := { s with slc := { s.slc with waiting := [] } }
      let s : State := s.fset F.SLICE.MSTS.STATE (2) x
      let s : State := { s with slc := { s.slc with trk := [(3, x.val + 1)], clean := [(3, 1)] } }
      (x, s)) (by decide +kernel),
   ex2 (
      let x : SliceNo := 4095
      let s : State := State.reset
      let s : State := { s with slc := { s.slc with waiting := [] } }
      let s : State := s.fset F.SLICE.MSTS.STATE (5) x
      let s : State := { s with slc := { s.slc with trk := [(3, x.val + 1)], clean := [(3, 1)] } }
      (x, s)) (by decide +kernel)⟩

end Sys2Proof.Tests
end

