-- ==== Sys2Proof/Tests/Met6.lean ====
section
/-! SUPPORT. For each clause of the statements PairFramesArriveAndTakeoversRun to PairCommandsMoveTheMirror, a concrete state and operands that
meet its hypotheses together: one theorem for a statement, one conjunct for a clause with hypotheses. -/

open Sys2Proof Sys2Proof.Machine

namespace Sys2Proof.Tests

set_option maxRecDepth 100000
set_option Elab.async false
set_option linter.unusedVariables false

theorem met_PairFramesArriveAndTakeoversRun :
    (∃ (raw : BitVec 1344) (s : State) (f : PairFrame), f = frameOf raw.toNat ∧ s.fbit F.PAIR.PAIR_CTL.EN = false)
    ∧ (∃ (raw : BitVec 1344) (s : State) (f : PairFrame), f = frameOf raw.toNat ∧ s.fbit F.PAIR.PAIR_CTL.EN = true ∧ (64 ≤
      s.pair.rx.length ∨ s.xbReady pairBridge = false))
    ∧ (∃ (raw : BitVec 1344) (s : State) (f : PairFrame), f = frameOf raw.toNat ∧ s.fbit F.PAIR.PAIR_CTL.EN = true ∧
      s.pair.rx.length < 64 ∧ s.xbReady pairBridge = true ∧ pairCrcOk raw = false)
    ∧ (∃ (raw : BitVec 1344) (b : Bool) (s : State) (f : PairFrame), f = frameOf raw.toNat ∧ s.fbit F.PAIR.PAIR_CTL.EN =
      true ∧ s.pair.rx.length < 64 ∧ s.xbReady pairBridge = true ∧ pairCrcOk raw = true ∧ f.type ≠ ((1, Instr.pairFrameXlt raw
      b) : Nat × Instr).1)
    ∧ (∃ (raw : BitVec 1344) (b : Bool) (s : State) (f : PairFrame), f = frameOf raw.toNat ∧ s.fbit F.PAIR.PAIR_CTL.EN =
      true ∧ s.pair.rx.length < 64 ∧ s.xbReady pairBridge = true ∧ pairCrcOk raw = true ∧ f.type = ((1, Instr.pairFrameXlt raw
      b) : Nat × Instr).1 ∧ s.fbit F.PAIR.TKO_STS.BUSY = true)
    ∧ (∃ (raw : BitVec 1344) (b : Bool) (s : State) (f : PairFrame), f = frameOf raw.toNat ∧ s.fbit F.PAIR.PAIR_CTL.EN =
      true ∧ s.pair.rx.length < 64 ∧ s.xbReady pairBridge = true ∧ pairCrcOk raw = true ∧ f.type = ((1, Instr.pairFrameXlt raw
      b) : Nat × Instr).1 ∧ s.fbit F.PAIR.TKO_STS.BUSY = false)
    ∧ (∃ (w : Word) (s : State) (u : State), u = (if s.fbit (F.HDR.PG_LOCK.UNLOCKED .pair) then (s.touch .pair 0).fput
      F.PAIR.TKO_CTL.FORCE (w.getLsbD 1) else if w.getLsbD 1 = s.fbit F.PAIR.TKO_CTL.FORCE then s.touch .pair 0 else (s.touch
      .pair 0).pgErr .pair 0 0x11C) ∧ w.getLsbD 0 = false)
    ∧ (∃ (w : Word) (s : State) (u : State), u = (if s.fbit (F.HDR.PG_LOCK.UNLOCKED .pair) then (s.touch .pair 0).fput
      F.PAIR.TKO_CTL.FORCE (w.getLsbD 1) else if w.getLsbD 1 = s.fbit F.PAIR.TKO_CTL.FORCE then s.touch .pair 0 else (s.touch
      .pair 0).pgErr .pair 0 0x11C) ∧ w.getLsbD 0 = true ∧ u.tkoRefusal ≠ 0)
    ∧ (∃ (w : Word) (s : State) (u : State), u = (if s.fbit (F.HDR.PG_LOCK.UNLOCKED .pair) then (s.touch .pair 0).fput
      F.PAIR.TKO_CTL.FORCE (w.getLsbD 1) else if w.getLsbD 1 = s.fbit F.PAIR.TKO_CTL.FORCE then s.touch .pair 0 else (s.touch
      .pair 0).pgErr .pair 0 0x11C) ∧ w.getLsbD 0 = true ∧ u.tkoRefusal = 0)
    ∧ (∃ (s : State), s.fget F.PAIR.PAIR_STS.PEER ≠ 2)
    ∧ (∃ (s : State), s.fget F.PAIR.PAIR_STS.PEER = 2 ∧ s.fbit F.PAIR.PAIR_STS.PARTNER_FAIL = false ∧ s.fbit
      F.PAIR.TKO_CTL.FORCE = false)
    ∧ (∃ (s : State), s.fbit F.PAIR.TKO_STS.BUSY = false)
    ∧ (∃ (s : State), s.fbit F.PAIR.TKO_STS.BUSY = true ∧ s.pair.tko = [] ∧ (∀ x ∈ s.pair.tkoRun, tget 0 s.slc.create x =
      0))
    ∧ (∃ (s : State) (x : Nat), s.fbit F.PAIR.TKO_STS.BUSY = true ∧ s.pair.tko = [] ∧ x ∈ s.pair.tkoRun ∧ tget 0
      s.slc.create x ≠ 0) :=
  ⟨ex3 (
      let s : State := State.reset
      let raw : BitVec 1344 := ({ type := 1 } : PairFrame).bits
      let s : State := s.fset F.PAIR.PAIR_CTL.EN ((b2n (false)))
      let f : PairFrame := frameOf raw.toNat
      (raw, s, f)) (by decide +kernel),
   ex3 (
      let s : State := State.reset
      let raw : BitVec 1344 := ({ type := 1 } : PairFrame).bits
      let s : State := s.fset F.PAIR.PAIR_CTL.EN ((b2n (true)))
      let s : State := setXb s pairBridge (false)
      let f : PairFrame := frameOf raw.toNat
      (raw, s, f)) (by decide +kernel),
   ex3 (
      let s : State := State.reset
      let raw : BitVec 1344 := ({ type := 1 } : PairFrame).bits
      let s : State := s.fset F.PAIR.PAIR_CTL.EN ((b2n (true)))
      let s : State := setXb s pairBridge (true)
      let raw : BitVec 1344 := raw ^^^ 1#1344
      let f : PairFrame := frameOf raw.toNat
      (raw, s, f)) (by decide +kernel),
   ex4 (
      let b : Bool := false
      let s : State := State.reset
      let raw : BitVec 1344 := ({ type := 1 } : PairFrame).bits
      let s : State := s.fset F.PAIR.PAIR_CTL.EN ((b2n (true)))
      let s : State := setXb s pairBridge (true)
      let raw : BitVec 1344 := setFrame raw (fun f => { f with type := (((1, Instr.pairFrameXlt raw b) : Nat × Instr).1) + 1 })
      let f : PairFrame := frameOf raw.toNat
      (raw, b, s, f)) (by decide +kernel),
   ex4 (
      let b : Bool := false
      let s : State := State.reset
      let raw : BitVec 1344 := ({ type := 1 } : PairFrame).bits
      let s : State := s.fset F.PAIR.PAIR_CTL.EN ((b2n (true)))
      let s : State := setXb s pairBridge (true)
      let raw : BitVec 1344 := setFrame raw (fun f => { f with type := ((1, Instr.pairFrameXlt raw b) : Nat × Instr).1 })
      let s : State := s.fset F.PAIR.TKO_STS.BUSY ((b2n (true)))
      let f : PairFrame := frameOf raw.toNat
      (raw, b, s, f)) (by decide +kernel),
   ex4 (
      let b : Bool := false
      let s : State := State.reset
      let raw : BitVec 1344 := ({ type := 1 } : PairFrame).bits
      let s : State := s.fset F.PAIR.PAIR_CTL.EN ((b2n (true)))
      let s : State := setXb s pairBridge (true)
      let raw : BitVec 1344 := setFrame raw (fun f => { f with type := ((1, Instr.pairFrameXlt raw b) : Nat × Instr).1 })
      let s : State := s.fset F.PAIR.TKO_STS.BUSY ((b2n (false)))
      let f : PairFrame := frameOf raw.toNat
      (raw, b, s, f)) (by decide +kernel),
   ex3 (
      let w : Word := 0
      let s : State := State.reset
      let u : State := (if s.fbit (F.HDR.PG_LOCK.UNLOCKED .pair) then (s.touch .pair 0).fput F.PAIR.TKO_CTL.FORCE (w.getLsbD
        1) else if w.getLsbD 1 = s.fbit F.PAIR.TKO_CTL.FORCE then s.touch .pair 0 else (s.touch .pair 0).pgErr .pair 0 0x11C)
      (w, s, u)) (by decide +kernel),
   ex3 (
      let w : Word := 1
      let s : State := State.reset
      let u : State := (if s.fbit (F.HDR.PG_LOCK.UNLOCKED .pair) then (s.touch .pair 0).fput F.PAIR.TKO_CTL.FORCE (w.getLsbD
        1) else if w.getLsbD 1 = s.fbit F.PAIR.TKO_CTL.FORCE then s.touch .pair 0 else (s.touch .pair 0).pgErr .pair 0 0x11C)
      (w, s, u)) (by decide +kernel),
   ex3 (
      let w : Word := 1
      let s : State := State.reset
      let s : State := s.fset F.PAIR.PAIR_STS.PEER 2
      let s : State := s.fset F.PAIR.PAIR_STS.PARTNER_FAIL 1
      let s : State := s.fset F.PAIR.TKO_STS.BUSY 0
      let u : State := (if s.fbit (F.HDR.PG_LOCK.UNLOCKED .pair) then (s.touch .pair 0).fput F.PAIR.TKO_CTL.FORCE (w.getLsbD
        1) else if w.getLsbD 1 = s.fbit F.PAIR.TKO_CTL.FORCE then s.touch .pair 0 else (s.touch .pair 0).pgErr .pair 0 0x11C)
      (w, s, u)) (by decide +kernel),
   ex1 (
      let s : State := State.reset
      let s : State := s.fset F.PAIR.PAIR_STS.PEER ((2) + 1)
      s) (by decide +kernel),
   ex1 (
      let s : State := State.reset
      let s : State := s.fset F.PAIR.PAIR_STS.PEER (2)
      let s : State := s.fset F.PAIR.PAIR_STS.PARTNER_FAIL ((b2n (false)))
      let s : State := s.fset F.PAIR.TKO_CTL.FORCE ((b2n (false)))
      s) (by decide +kernel),
   ex1 (
      let s : State := State.reset
      let s : State := s.fset F.PAIR.TKO_STS.BUSY ((b2n (false)))
      s) (by decide +kernel),
   ex1 (
      let s : State := State.reset
      let s : State := s.fset F.PAIR.TKO_STS.BUSY ((b2n (true)))
      let s : State := { s with pair := { s.pair with tko := [] } }
      s) (by decide +kernel),
   ex2 (
      let x : Nat := 0
      let s : State := State.reset
      let s : State := s.fset F.PAIR.TKO_STS.BUSY ((b2n (true)))
      let s : State := { s with pair := { s.pair with tko := [] } }
      let s : State := { s with slc := { s.slc with create := tset 0 s.slc.create x ((0) + 1) } }
      let s : State := { s with pair := { s.pair with tkoRun := [x, 9] } }
      (s, x)) (by decide +kernel)⟩

theorem met_PairFramesAreApplied :
    (∃ (raw : BitVec 1344) (s : State) (f : PairFrame) (x : Nat) (q : Nat), f = frameOf raw.toNat ∧ s.fbit
      F.PAIR.PAIR_CTL.EN = true ∧ s.pair.rx = [] ∧ s.xbReady pairBridge = true ∧ pairCrcOk raw = true ∧ s.fbit
      F.PAIR.TKO_STS.BUSY = false ∧ s.pair.cur = none ∧ s.pair.items = [] ∧ s.pair.out = [] ∧ s.pair.ret = [] ∧ s.pair.mark =
      none ∧ f.pseq = s.pair.rxSeq ∧ x = f.item % 4096 ∧ q = nbits f.item 16 16 ∧ f.type = 3)
    ∧ (∃ (raw : BitVec 1344) (s : State) (f : PairFrame) (x : Nat) (q : Nat), f = frameOf raw.toNat ∧ s.fbit
      F.PAIR.PAIR_CTL.EN = true ∧ s.pair.rx = [] ∧ s.xbReady pairBridge = true ∧ pairCrcOk raw = true ∧ s.fbit
      F.PAIR.TKO_STS.BUSY = false ∧ s.pair.cur = none ∧ s.pair.items = [] ∧ s.pair.out = [] ∧ s.pair.ret = [] ∧ s.pair.mark =
      none ∧ f.pseq = s.pair.rxSeq ∧ x = f.item % 4096 ∧ q = nbits f.item 16 16 ∧ f.type = 4 ∧ f.count = 1)
    ∧ (∃ (raw : BitVec 1344) (s : State) (f : PairFrame) (x : Nat) (q : Nat), f = frameOf raw.toNat ∧ s.fbit
      F.PAIR.PAIR_CTL.EN = true ∧ s.pair.rx = [] ∧ s.xbReady pairBridge = true ∧ pairCrcOk raw = true ∧ s.fbit
      F.PAIR.TKO_STS.BUSY = false ∧ s.pair.cur = none ∧ s.pair.items = [] ∧ s.pair.out = [] ∧ s.pair.ret = [] ∧ s.pair.mark =
      none ∧ f.pseq = s.pair.rxSeq ∧ x = f.item % 4096 ∧ q = nbits f.item 16 16 ∧ f.type = 5 ∧ f.count = 1)
    ∧ (∃ (raw : BitVec 1344) (s : State) (f : PairFrame) (x : Nat) (q : Nat), f = frameOf raw.toNat ∧ s.fbit
      F.PAIR.PAIR_CTL.EN = true ∧ s.pair.rx = [] ∧ s.xbReady pairBridge = true ∧ pairCrcOk raw = true ∧ s.fbit
      F.PAIR.TKO_STS.BUSY = false ∧ s.pair.cur = none ∧ s.pair.items = [] ∧ s.pair.out = [] ∧ s.pair.ret = [] ∧ s.pair.mark =
      none ∧ f.pseq = s.pair.rxSeq ∧ x = f.item % 4096 ∧ q = nbits f.item 16 16 ∧ f.type = 6)
    ∧ (∃ (raw : BitVec 1344) (s : State) (f : PairFrame) (x : Nat) (q : Nat), f = frameOf raw.toNat ∧ s.fbit
      F.PAIR.PAIR_CTL.EN = true ∧ s.pair.rx = [] ∧ s.xbReady pairBridge = true ∧ pairCrcOk raw = true ∧ s.fbit
      F.PAIR.TKO_STS.BUSY = false ∧ s.pair.cur = none ∧ s.pair.items = [] ∧ s.pair.out = [] ∧ s.pair.ret = [] ∧ s.pair.mark =
      none ∧ f.pseq = s.pair.rxSeq ∧ x = f.item % 4096 ∧ q = nbits f.item 16 16 ∧ f.type = 8 ∧ f.count = 1)
    ∧ (∃ (raw : BitVec 1344) (s : State) (f : PairFrame) (x : Nat) (q : Nat), f = frameOf raw.toNat ∧ s.fbit
      F.PAIR.PAIR_CTL.EN = true ∧ s.pair.rx = [] ∧ s.xbReady pairBridge = true ∧ pairCrcOk raw = true ∧ s.fbit
      F.PAIR.TKO_STS.BUSY = false ∧ s.pair.cur = none ∧ s.pair.items = [] ∧ s.pair.out = [] ∧ s.pair.ret = [] ∧ s.pair.mark =
      none ∧ f.pseq = s.pair.rxSeq ∧ x = f.item % 4096 ∧ q = nbits f.item 16 16 ∧ f.type = 9)
    ∧ (∃ (raw : BitVec 1344) (b : Bool) (s : State) (f : PairFrame) (x : Nat) (q : Nat), f = frameOf raw.toNat ∧ s.fbit F.PAIR.PAIR_CTL.EN = true ∧ s.pair.rx = [] ∧ s.xbReady pairBridge = true ∧ pairCrcOk raw = true ∧ s.fbit F.PAIR.TKO_STS.BUSY = false ∧ s.pair.cur = none ∧ s.pair.items = [] ∧ s.pair.out = [] ∧ s.pair.ret = [] ∧ s.pair.mark = none ∧ f.pseq = s.pair.rxSeq ∧ x = f.item % 4096 ∧ q = nbits f.item 16 16 ∧ f.type = 1 ∧ 0 < f.count ∧ (let key := nbits f.payload 0 24; decide ((let c := (fmaLoc (xltFma false key)).1; decide (b = false ∧ s.fbit F.MEM.XLT_STS.BUSY c = true)) = true)) = true)
    ∧ (∃ (raw : BitVec 1344) (b : Bool) (s : State) (f : PairFrame) (x : Nat) (q : Nat), f = frameOf raw.toNat ∧ s.fbit F.PAIR.PAIR_CTL.EN = true ∧ s.pair.rx = [] ∧ s.xbReady pairBridge = true ∧ pairCrcOk raw = true ∧ s.fbit F.PAIR.TKO_STS.BUSY = false ∧ s.pair.cur = none ∧ s.pair.items = [] ∧ s.pair.out = [] ∧ s.pair.ret = [] ∧ s.pair.mark = none ∧ f.pseq = s.pair.rxSeq ∧ x = f.item % 4096 ∧ q = nbits f.item 16 16 ∧ f.type = 1 ∧ 0 < f.count ∧ (let key := nbits f.payload 0 24; decide ((let c := (fmaLoc (xltFma false key)).1; decide (b = false ∧ s.fbit F.MEM.XLT_STS.BUSY c = false)) = true)) = true)
    ∧ (∃ (raw : BitVec 1344) (b : Bool) (s : State) (f : PairFrame) (x : Nat) (q : Nat), f = frameOf raw.toNat ∧ s.fbit F.PAIR.PAIR_CTL.EN = true ∧ s.pair.rx = [] ∧ s.xbReady pairBridge = true ∧ pairCrcOk raw = true ∧ s.fbit F.PAIR.TKO_STS.BUSY = false ∧ s.pair.cur = none ∧ s.pair.items = [] ∧ s.pair.out = [] ∧ s.pair.ret = [] ∧ s.pair.mark = none ∧ f.pseq = s.pair.rxSeq ∧ x = f.item % 4096 ∧ q = nbits f.item 16 16 ∧ f.type = 2 ∧ f.count = 1 ∧ b = false ∧ (let v := nbits f.payload 0 256; decide ((let i := f.item % 1048576; decide (nbit v 0 = true ∧ s.glbBindIdx (nbits v 24 8) (nbits v 32 20) ≠ some i)) = true)) = true)
    ∧ (∃ (raw : BitVec 1344) (b : Bool) (s : State) (f : PairFrame) (x : Nat) (q : Nat), f = frameOf raw.toNat ∧ s.fbit F.PAIR.PAIR_CTL.EN = true ∧ s.pair.rx = [] ∧ s.xbReady pairBridge = true ∧ pairCrcOk raw = true ∧ s.fbit F.PAIR.TKO_STS.BUSY = false ∧ s.pair.cur = none ∧ s.pair.items = [] ∧ s.pair.out = [] ∧ s.pair.ret = [] ∧ s.pair.mark = none ∧ f.pseq = s.pair.rxSeq ∧ x = f.item % 4096 ∧ q = nbits f.item 16 16 ∧ f.type = 2 ∧ f.count = 1 ∧ b = false ∧ (let v := nbits f.payload 0 256; decide ((let i := f.item % 1048576; decide ((nbit v 0 = false ∨ s.glbBindIdx (nbits v 24 8) (nbits v 32 20) = some i) ∧ s.fbit F.GLB.PB_STS.BUSY = true)) = true)) = true)
    ∧ (∃ (raw : BitVec 1344) (b : Bool) (s : State) (f : PairFrame) (x : Nat) (q : Nat), f = frameOf raw.toNat ∧ s.fbit F.PAIR.PAIR_CTL.EN = true ∧ s.pair.rx = [] ∧ s.xbReady pairBridge = true ∧ pairCrcOk raw = true ∧ s.fbit F.PAIR.TKO_STS.BUSY = false ∧ s.pair.cur = none ∧ s.pair.items = [] ∧ s.pair.out = [] ∧ s.pair.ret = [] ∧ s.pair.mark = none ∧ f.pseq = s.pair.rxSeq ∧ x = f.item % 4096 ∧ q = nbits f.item 16 16 ∧ f.type = 2 ∧ f.count = 1 ∧ b = false ∧ (let v := nbits f.payload 0 256; decide ((let i := f.item % 1048576; decide ((nbit v 0 = false ∨ s.glbBindIdx (nbits v 24 8) (nbits v 32 20) = some i) ∧ s.fbit F.GLB.PB_STS.BUSY = false)) = true)) = true)
    ∧ (∃ (raw : BitVec 1344) (s : State) (f : PairFrame) (x : Nat) (q : Nat), f = frameOf raw.toNat ∧ s.fbit
      F.PAIR.PAIR_CTL.EN = true ∧ s.pair.rx = [] ∧ s.xbReady pairBridge = true ∧ pairCrcOk raw = true ∧ s.fbit
      F.PAIR.TKO_STS.BUSY = false ∧ s.pair.cur = none ∧ s.pair.items = [] ∧ s.pair.out = [] ∧ s.pair.ret = [] ∧ s.pair.mark =
      none ∧ f.pseq = s.pair.rxSeq ∧ x = f.item % 4096 ∧ q = nbits f.item 16 16 ∧ f.type = 7 ∧ s.fl.op ≠ 1)
    ∧ (∃ (raw : BitVec 1344) (s : State) (f : PairFrame), f = frameOf raw.toNat ∧ s.fbit F.PAIR.PAIR_CTL.EN = true ∧
      s.pair.rx = [] ∧ s.xbReady pairBridge = true ∧ pairCrcOk raw = true ∧ s.fbit F.PAIR.TKO_STS.BUSY = false ∧ s.pair.cur =
      none ∧ s.pair.items = [] ∧ f.type = 10) :=
  ⟨ex5 (
      let s : State := State.reset
      let raw : BitVec 1344 := ({ type := 1 } : PairFrame).bits
      let s : State := s.fset F.PAIR.PAIR_CTL.EN ((b2n (true)))
      let s : State := { s with pair := { s.pair with rx := [] } }
      let s : State := setXb s pairBridge (true)
      let s : State := s.fset F.PAIR.TKO_STS.BUSY ((b2n (false)))
      let s : State := { s with pair := { s.pair with cur := none } }
      let s : State := { s with pair := { s.pair with items := [] } }
      let s : State := { s with pair := { s.pair with out := [] } }
      let s : State := { s with pair := { s.pair with ret := [] } }
      let s : State := { s with pair := { s.pair with mark := none } }
      let raw : BitVec 1344 := setFrame raw (fun f => { f with pseq := s.pair.rxSeq })
      let raw : BitVec 1344 := setFrame raw (fun f => { f with type := 3 })
      let f : PairFrame := frameOf raw.toNat
      let x : Nat := f.item % 4096
      let q : Nat := nbits f.item 16 16
      (raw, s, f, x, q)) (by decide +kernel),
   ex5 (
      let s : State := State.reset
      let raw : BitVec 1344 := ({ type := 1 } : PairFrame).bits
      let s : State := s.fset F.PAIR.PAIR_CTL.EN ((b2n (true)))
      let s : State := { s with pair := { s.pair with rx := [] } }
      let s : State := setXb s pairBridge (true)
      let s : State := s.fset F.PAIR.TKO_STS.BUSY ((b2n (false)))
      let s : State := { s with pair := { s.pair with cur := none } }
      let s : State := { s with pair := { s.pair with items := [] } }
      let s : State := { s with pair := { s.pair with out := [] } }
      let s : State := { s with pair := { s.pair with ret := [] } }
      let s : State := { s with pair := { s.pair with mark := none } }
      let raw : BitVec 1344 := setFrame raw (fun f => { f with pseq := s.pair.rxSeq })
      let raw : BitVec 1344 := setFrame raw (fun f => { f with type := 4 })
      let raw : BitVec 1344 := setFrame raw (fun f => { f with count := 1 })
      let f : PairFrame := frameOf raw.toNat
      let x : Nat := f.item % 4096
      let q : Nat := nbits f.item 16 16
      (raw, s, f, x, q)) (by decide +kernel),
   ex5 (
      let s : State := State.reset
      let raw : BitVec 1344 := ({ type := 1 } : PairFrame).bits
      let s : State := s.fset F.PAIR.PAIR_CTL.EN ((b2n (true)))
      let s : State := { s with pair := { s.pair with rx := [] } }
      let s : State := setXb s pairBridge (true)
      let s : State := s.fset F.PAIR.TKO_STS.BUSY ((b2n (false)))
      let s : State := { s with pair := { s.pair with cur := none } }
      let s : State := { s with pair := { s.pair with items := [] } }
      let s : State := { s with pair := { s.pair with out := [] } }
      let s : State := { s with pair := { s.pair with ret := [] } }
      let s : State := { s with pair := { s.pair with mark := none } }
      let raw : BitVec 1344 := setFrame raw (fun f => { f with pseq := s.pair.rxSeq })
      let raw : BitVec 1344 := setFrame raw (fun f => { f with type := 5 })
      let raw : BitVec 1344 := setFrame raw (fun f => { f with count := 1 })
      let f : PairFrame := frameOf raw.toNat
      let x : Nat := f.item % 4096
      let q : Nat := nbits f.item 16 16
      (raw, s, f, x, q)) (by decide +kernel),
   ex5 (
      let s : State := State.reset
      let raw : BitVec 1344 := ({ type := 1 } : PairFrame).bits
      let s : State := s.fset F.PAIR.PAIR_CTL.EN ((b2n (true)))
      let s : State := { s with pair := { s.pair with rx := [] } }
      let s : State := setXb s pairBridge (true)
      let s : State := s.fset F.PAIR.TKO_STS.BUSY ((b2n (false)))
      let s : State := { s with pair := { s.pair with cur := none } }
      let s : State := { s with pair := { s.pair with items := [] } }
      let s : State := { s with pair := { s.pair with out := [] } }
      let s : State := { s with pair := { s.pair with ret := [] } }
      let s : State := { s with pair := { s.pair with mark := none } }
      let raw : BitVec 1344 := setFrame raw (fun f => { f with pseq := s.pair.rxSeq })
      let raw : BitVec 1344 := setFrame raw (fun f => { f with type := 6 })
      let f : PairFrame := frameOf raw.toNat
      let x : Nat := f.item % 4096
      let q : Nat := nbits f.item 16 16
      (raw, s, f, x, q)) (by decide +kernel),
   ex5 (
      let s : State := State.reset
      let raw : BitVec 1344 := ({ type := 1 } : PairFrame).bits
      let s : State := s.fset F.PAIR.PAIR_CTL.EN ((b2n (true)))
      let s : State := { s with pair := { s.pair with rx := [] } }
      let s : State := setXb s pairBridge (true)
      let s : State := s.fset F.PAIR.TKO_STS.BUSY ((b2n (false)))
      let s : State := { s with pair := { s.pair with cur := none } }
      let s : State := { s with pair := { s.pair with items := [] } }
      let s : State := { s with pair := { s.pair with out := [] } }
      let s : State := { s with pair := { s.pair with ret := [] } }
      let s : State := { s with pair := { s.pair with mark := none } }
      let raw : BitVec 1344 := setFrame raw (fun f => { f with pseq := s.pair.rxSeq })
      let raw : BitVec 1344 := setFrame raw (fun f => { f with type := 8 })
      let raw : BitVec 1344 := setFrame raw (fun f => { f with count := 1 })
      let f : PairFrame := frameOf raw.toNat
      let x : Nat := f.item % 4096
      let q : Nat := nbits f.item 16 16
      (raw, s, f, x, q)) (by decide +kernel),
   ex5 (
      let s : State := State.reset
      let raw : BitVec 1344 := ({ type := 1 } : PairFrame).bits
      let s : State := s.fset F.PAIR.PAIR_CTL.EN ((b2n (true)))
      let s : State := { s with pair := { s.pair with rx := [] } }
      let s : State := setXb s pairBridge (true)
      let s : State := s.fset F.PAIR.TKO_STS.BUSY ((b2n (false)))
      let s : State := { s with pair := { s.pair with cur := none } }
      let s : State := { s with pair := { s.pair with items := [] } }
      let s : State := { s with pair := { s.pair with out := [] } }
      let s : State := { s with pair := { s.pair with ret := [] } }
      let s : State := { s with pair := { s.pair with mark := none } }
      let raw : BitVec 1344 := setFrame raw (fun f => { f with pseq := s.pair.rxSeq })
      let raw : BitVec 1344 := setFrame raw (fun f => { f with type := 9 })
      let f : PairFrame := frameOf raw.toNat
      let x : Nat := f.item % 4096
      let q : Nat := nbits f.item 16 16
      (raw, s, f, x, q)) (by decide +kernel),
   ex6 (
      let s : State := State.reset
      let raw : BitVec 1344 := ({ type := 1 } : PairFrame).bits
      let s : State := s.fset F.PAIR.PAIR_CTL.EN ((b2n (true)))
      let s : State := { s with pair := { s.pair with rx := [] } }
      let s : State := setXb s pairBridge (true)
      let s : State := s.fset F.PAIR.TKO_STS.BUSY ((b2n (false)))
      let s : State := { s with pair := { s.pair with cur := none } }
      let s : State := { s with pair := { s.pair with items := [] } }
      let s : State := { s with pair := { s.pair with out := [] } }
      let s : State := { s with pair := { s.pair with ret := [] } }
      let s : State := { s with pair := { s.pair with mark := none } }
      let raw : BitVec 1344 := setFrame raw (fun f => { f with pseq := s.pair.rxSeq })
      let raw : BitVec 1344 := setFrame raw (fun f => { f with type := 1 })
      let raw : BitVec 1344 := setFrame raw (fun f => { f with count := (0) + 1 + 2 })
      let s : State := s.fset F.MEM.XLT_STS.BUSY ((b2n (true))) ((fmaLoc (xltFma false (nbits (frameOf raw.toNat).payload 0
        24))).1)
      let f : PairFrame := frameOf raw.toNat
      let x : Nat := f.item % 4096
      let q : Nat := nbits f.item 16 16
      let b : Bool := false
      (raw, b, s, f, x, q)) (by decide +kernel),
   ex6 (
      let s : State := State.reset
      let raw : BitVec 1344 := ({ type := 1 } : PairFrame).bits
      let s : State := s.fset F.PAIR.PAIR_CTL.EN ((b2n (true)))
      let s : State := { s with pair := { s.pair with rx := [] } }
      let s : State := setXb s pairBridge (true)
      let s : State := s.fset F.PAIR.TKO_STS.BUSY ((b2n (false)))
      let s : State := { s with pair := { s.pair with cur := none } }
      let s : State := { s with pair := { s.pair with items := [] } }
      let s : State := { s with pair := { s.pair with out := [] } }
      let s : State := { s with pair := { s.pair with ret := [] } }
      let s : State := { s with pair := { s.pair with mark := none } }
      let raw : BitVec 1344 := setFrame raw (fun f => { f with pseq := s.pair.rxSeq })
      let raw : BitVec 1344 := setFrame raw (fun f => { f with type := 1 })
      let raw : BitVec 1344 := setFrame raw (fun f => { f with count := (0) + 1 + 2 })
      let s : State := s.fset F.MEM.XLT_STS.BUSY ((b2n (false))) ((fmaLoc (xltFma false (nbits (frameOf raw.toNat).payload 0
        24))).1)
      let f : PairFrame := frameOf raw.toNat
      let x : Nat := f.item % 4096
      let q : Nat := nbits f.item 16 16
      let b : Bool := false
      (raw, b, s, f, x, q)) (by decide +kernel),
   ex6 (
      let s : State := State.reset
      let raw : BitVec 1344 := ({ type := 1 } : PairFrame).bits
      let s : State := s.fset F.PAIR.PAIR_CTL.EN ((b2n (true)))
      let s : State := { s with pair := { s.pair with rx := [] } }
      let s : State := setXb s pairBridge (true)
      let s : State := s.fset F.PAIR.TKO_STS.BUSY ((b2n (false)))
      let s : State := { s with pair := { s.pair with cur := none } }
      let s : State := { s with pair := { s.pair with items := [] } }
      let s : State := { s with pair := { s.pair with out := [] } }
      let s : State := { s with pair := { s.pair with ret := [] } }
      let s : State := { s with pair := { s.pair with mark := none } }
      let raw : BitVec 1344 := setFrame raw (fun f => { f with pseq := s.pair.rxSeq })
      let raw : BitVec 1344 := setFrame raw (fun f => { f with type := 2 })
      let raw : BitVec 1344 := setFrame raw (fun f => { f with count := 1 })
      let raw : BitVec 1344 := setFrame raw (fun f => { f with payload := 1 })
      let f : PairFrame := frameOf raw.toNat
      let x : Nat := f.item % 4096
      let q : Nat := nbits f.item 16 16
      let b : Bool := false
      (raw, b, s, f, x, q)) (by decide +kernel),
   ex6 (
      let s : State := State.reset
      let raw : BitVec 1344 := ({ type := 1 } : PairFrame).bits
      let s : State := s.fset F.PAIR.PAIR_CTL.EN ((b2n (true)))
      let s : State := { s with pair := { s.pair with rx := [] } }
      let s : State := setXb s pairBridge (true)
      let s : State := s.fset F.PAIR.TKO_STS.BUSY ((b2n (false)))
      let s : State := { s with pair := { s.pair with cur := none } }
      let s : State := { s with pair := { s.pair with items := [] } }
      let s : State := { s with pair := { s.pair with out := [] } }
      let s : State := { s with pair := { s.pair with ret := [] } }
      let s : State := { s with pair := { s.pair with mark := none } }
      let raw : BitVec 1344 := setFrame raw (fun f => { f with pseq := s.pair.rxSeq })
      let raw : BitVec 1344 := setFrame raw (fun f => { f with type := 2 })
      let raw : BitVec 1344 := setFrame raw (fun f => { f with count := 1 })
      let s : State := s.fset F.GLB.PB_STS.BUSY ((b2n (true)))
      let f : PairFrame := frameOf raw.toNat
      let x : Nat := f.item % 4096
      let q : Nat := nbits f.item 16 16
      let b : Bool := false
      (raw, b, s, f, x, q)) (by decide +kernel),
   ex6 (
      let s : State := State.reset
      let raw : BitVec 1344 := ({ type := 1 } : PairFrame).bits
      let s : State := s.fset F.PAIR.PAIR_CTL.EN ((b2n (true)))
      let s : State := { s with pair := { s.pair with rx := [] } }
      let s : State := setXb s pairBridge (true)
      let s : State := s.fset F.PAIR.TKO_STS.BUSY ((b2n (false)))
      let s : State := { s with pair := { s.pair with cur := none } }
      let s : State := { s with pair := { s.pair with items := [] } }
      let s : State := { s with pair := { s.pair with out := [] } }
      let s : State := { s with pair := { s.pair with ret := [] } }
      let s : State := { s with pair := { s.pair with mark := none } }
      let raw : BitVec 1344 := setFrame raw (fun f => { f with pseq := s.pair.rxSeq })
      let raw : BitVec 1344 := setFrame raw (fun f => { f with type := 2 })
      let raw : BitVec 1344 := setFrame raw (fun f => { f with count := 1 })
      let s : State := s.fset F.GLB.PB_STS.BUSY ((b2n (false)))
      let f : PairFrame := frameOf raw.toNat
      let x : Nat := f.item % 4096
      let q : Nat := nbits f.item 16 16
      let b : Bool := false
      (raw, b, s, f, x, q)) (by decide +kernel),
   ex5 (
      let s : State := State.reset
      let raw : BitVec 1344 := ({ type := 1 } : PairFrame).bits
      let s : State := s.fset F.PAIR.PAIR_CTL.EN ((b2n (true)))
      let s : State := { s with pair := { s.pair with rx := [] } }
      let s : State := setXb s pairBridge (true)
      let s : State := s.fset F.PAIR.TKO_STS.BUSY ((b2n (false)))
      let s : State := { s with pair := { s.pair with cur := none } }
      let s : State := { s with pair := { s.pair with items := [] } }
      let s : State := { s with pair := { s.pair with out := [] } }
      let s : State := { s with pair := { s.pair with ret := [] } }
      let s : State := { s with pair := { s.pair with mark := none } }
      let raw : BitVec 1344 := setFrame raw (fun f => { f with pseq := s.pair.rxSeq })
      let raw : BitVec 1344 := setFrame raw (fun f => { f with type := 7 })
      let s : State := { s with fl := { s.fl with op := (1) + 1 } }
      let f : PairFrame := frameOf raw.toNat
      let x : Nat := f.item % 4096
      let q : Nat := nbits f.item 16 16
      (raw, s, f, x, q)) (by decide +kernel),
   ex3 (
      let s : State := State.reset
      let raw : BitVec 1344 := ({ type := 1 } : PairFrame).bits
      let s : State := s.fset F.PAIR.PAIR_CTL.EN ((b2n (true)))
      let s : State := { s with pair := { s.pair with rx := [] } }
      let s : State := setXb s pairBridge (true)
      let s : State := s.fset F.PAIR.TKO_STS.BUSY ((b2n (false)))
      let s : State := { s with pair := { s.pair with cur := none } }
      let s : State := { s with pair := { s.pair with items := [] } }
      let raw : BitVec 1344 := setFrame raw (fun f => { f with type := 10 })
      let f : PairFrame := frameOf raw.toNat
      (raw, s, f)) (by decide +kernel)⟩

theorem met_PairCommandsMoveTheMirror :
    (∃ (s : State), s.replayDue = false)
    ∧ (∃ (s : State) (l : List PairFrame), s.replayDue = true ∧ s.pair.items = [] ∧ s.pair.cred = s.pair.used ∧ s.pair.used < 65536 ∧ l = s.pair.ret.map (fun f => { f with sent := s.nodeTick 59 }))
    ∧ (∃ (s : State) (per : Nat), per = s.fget F.PAIR.PAIR_CFG.CKPT_PER ∧ (per = 0 ∨ s.pair.ckptAt < per))
    ∧ (∃ (s : State) (l : List MirItem), s.fget F.PAIR.PAIR_CFG.CKPT_PER ≠ 0 ∧ s.fget F.PAIR.PAIR_CFG.CKPT_PER ≤
      s.pair.ckptAt ∧ l = (s.activeSlices.filter (fun x => s.isHome x && s.sliceState x == 1)).flatMap (fun x => s.ckptItems
      x) ∧ s.pair.items = [] ∧ s.pair.ret.length + l.length ≤ 4096)
    ∧ (∃ (s : State), (s.fbit F.PAIR.PAIR_CTL.EN = false ∨ s.fget F.PAIR.PAIR_STS.PEER = 2 ∨ s.pair.silent < max 1 (s.fget
      F.PAIR.PAIR_CFG.HB_LIM)))
    ∧ (∃ (s : State), s.fbit F.PAIR.PAIR_CTL.EN = true ∧ s.fget F.PAIR.PAIR_STS.PEER ≠ 2 ∧ max 1 (s.fget
      F.PAIR.PAIR_CFG.HB_LIM) ≤ s.pair.silent)
    ∧ (∃ (up : Bool) (s : State) (now : Bool), now = (s.fbit F.PAIR.PAIR_CTL.EN && up) ∧ s.fbit F.PAIR.PAIR_STS.LINK = now)
    ∧ (∃ (up : Bool) (s : State) (now : Bool), now = (s.fbit F.PAIR.PAIR_CTL.EN && up) ∧ s.fbit F.PAIR.PAIR_STS.LINK ≠ now)
    ∧ (∃ (s : State), s.pairMs = 3 ∧ s.pairUp = true)
    ∧ (∃ (s : State), (s.pairMs ≠ 3 ∨ s.pairUp = false))
    ∧ (∃ (s : State) (d : Bool), d = (s.pair.full == fullEnd + 2 && s.pair.ret.all (fun f => 0 ≤ signedDiff 16 f.pseq
      s.pair.fullLast)) ∧ s.pairMs = 4 ∧ d = true)
    ∧ (∃ (s : State) (d : Bool), d = (s.pair.full == fullEnd + 2 && s.pair.ret.all (fun f => 0 ≤ signedDiff 16 f.pseq
      s.pair.fullLast)) ∧ (s.pairMs ≠ 4 ∨ d = false))
    ∧ (∃ (s : State), s.fbit F.PAIR.PAIR_CTL.EN = false)
    ∧ (∃ (s : State), s.fbit F.PAIR.PAIR_CTL.EN = true ∧ s.pair.items = [] ∧ s.pair.ret.length < 4096)
    ∧ (∃ (s : State) (n : Nat), n = s.pair.items.length + s.pair.ret.length) :=
  ⟨ex1 (
      let s : State := State.reset
      s) (by decide +kernel),
   ex2 (
      let s : State := State.reset
      let f0_ : PairFrame := { type := 1 }
      let s : State := { s with pair := { s.pair with items := [] } }
      let s : State := { s with pair := { s.pair with cred := s.pair.used } }
      let s : State := { s with pair := { s.pair with used := (65536) - 1 - 0 } }
      let s : State := ({ s with pair := { s.pair with up := true, ret := [{ f0_ with sent := 0 }] } } : State).fset F.PAIR.PAIR_CTL.EN 1
      let s : State := s.fset F.PAIR.PAIR_CFG.ACK_TO 1
      let s : State := setTick s 59 2
      let s : State := { s with pair := { s.pair with items := [] } }
      let s : State := { s with pair := { s.pair with cred := s.pair.used } }
      let s : State := { s with pair := { s.pair with used := (65536) - 1 - 0 } }
      let s : State := ({ s with pair := { s.pair with up := true, ret := [{ f0_ with sent := 0 }] } } : State).fset F.PAIR.PAIR_CTL.EN 1
      let s : State := s.fset F.PAIR.PAIR_CFG.ACK_TO 1
      let s : State := setTick s 59 2
      let l : List PairFrame := s.pair.ret.map (fun f => { f with sent := s.nodeTick 59 })
      (s, l)) (by decide +kernel),
   ex2 (
      let s : State := State.reset
      let s : State := s.fset F.PAIR.PAIR_CFG.CKPT_PER (0)
      let per : Nat := s.fget F.PAIR.PAIR_CFG.CKPT_PER
      (s, per)) (by decide +kernel),
   ex2 (
      let s : State := State.reset
      let s : State := s.fset F.PAIR.PAIR_CFG.CKPT_PER ((0) + 1)
      let s : State := s.fset F.PAIR.PAIR_CFG.CKPT_PER ((s.pair.ckptAt) - 1)
      let s : State := { s with pair := { s.pair with items := [] } }
      let s : State := s.fset F.PAIR.PAIR_CFG.CKPT_PER 4
      let s : State := { s with pair := { s.pair with ckptAt := 4 } }
      let l : List MirItem := (s.activeSlices.filter (fun x => s.isHome x && s.sliceState x == 1)).flatMap (fun x =>
        s.ckptItems x)
      (s, l)) (by decide +kernel),
   ex1 (
      let s : State := State.reset
      let s : State := s.fset F.PAIR.PAIR_CTL.EN ((b2n (false)))
      s) (by decide +kernel),
   ex1 (
      let s : State := State.reset
      let s : State := s.fset F.PAIR.PAIR_CTL.EN ((b2n (true)))
      let s : State := s.fset F.PAIR.PAIR_STS.PEER ((2) + 1)
      let s : State := { s with pair := { s.pair with silent := (max 1 (s.fget F.PAIR.PAIR_CFG.HB_LIM)) + 0 } }
      s) (by decide +kernel),
   ex3 (
      let up : Bool := false
      let s : State := State.reset
      let s : State := s.fset F.PAIR.PAIR_STS.LINK ((b2n (((s.fbit F.PAIR.PAIR_CTL.EN && up)))))
      let now : Bool := (s.fbit F.PAIR.PAIR_CTL.EN && up)
      (up, s, now)) (by decide +kernel),
   ex3 (
      let up : Bool := false
      let s : State := State.reset
      let s : State := s.fset F.PAIR.PAIR_STS.LINK ((b2n (!(((s.fbit F.PAIR.PAIR_CTL.EN && up))))))
      let now : Bool := (s.fbit F.PAIR.PAIR_CTL.EN && up)
      (up, s, now)) (by decide +kernel),
   ex1 (
      let s : State := State.reset
      let s : State := s.fset F.PAIR.PAIR_STS.MSTATE (3)
      let s : State := ({ s with pair := { s.pair with up := true } } : State).fset F.PAIR.PAIR_CTL.EN 1
      s) (by decide +kernel),
   ex1 (
      let s : State := State.reset
      let s : State := ({ s with pair := { s.pair with up := false } } : State).fset F.PAIR.PAIR_CTL.EN 1
      s) (by decide +kernel),
   ex2 (
      let s : State := State.reset
      let s : State := s.fset F.PAIR.PAIR_STS.MSTATE (4)
      let s : State := { s with pair := { s.pair with full := fullEnd + 2, fullLast := 5, ret := [{ type := 10, pseq := 6 }] } }
      let d : Bool := (s.pair.full == fullEnd + 2 && s.pair.ret.all (fun f => 0 ≤ signedDiff 16 f.pseq s.pair.fullLast))
      (s, d)) (by decide +kernel),
   ex2 (
      let s : State := State.reset
      let s : State := s.fset F.PAIR.PAIR_STS.MSTATE ((4) + 1)
      let d : Bool := (s.pair.full == fullEnd + 2 && s.pair.ret.all (fun f => 0 ≤ signedDiff 16 f.pseq s.pair.fullLast))
      (s, d)) (by decide +kernel),
   ex1 (
      let s : State := State.reset
      let s : State := s.fset F.PAIR.PAIR_CTL.EN ((b2n (false)))
      s) (by decide +kernel),
   ex1 (
      let s : State := State.reset
      let s : State := s.fset F.PAIR.PAIR_CTL.EN ((b2n (true)))
      let s : State := { s with pair := { s.pair with items := [] } }
      s) (by decide +kernel),
   ex2 (
      let s : State := State.reset
      let n : Nat := s.pair.items.length + s.pair.ret.length
      (s, n)) (by decide +kernel)⟩

end Sys2Proof.Tests
end

section
/-! The tick at a node (R36, R37): what a mark, a missed boundary and a boundary do to the node's count and to the mark it
holds. -/

namespace Sys2Proof.Machine

/-! ### Counting in a page without a counter block -/

/-- A saturating field just raised reads as the saturated sum, cut to the field's width. -/
theorem State.fget_fsat (s : State) (f : Fld) (n i e : Nat) :
    (s.fsat f n i e).fget f i e = satAdd f.width (s.fget f i e) n % 2 ^ f.width := by
  simp only [State.fsat, State.fget_fset]

/-- Where the class of a field has no counter block, an increment is seen in the field alone (R426). -/
theorem State.rcInc_of_no_block (s : State) (f : Fld) (i n : Nat) (inj : Bool) (e : Nat)
    (h : hasBlock (blockOf f.cls) = false) : s.rcInc f i n inj e = s.fsat f n i e := by
  simp only [State.rcInc, h, Bool.false_and, Bool.false_eq_true, if_false]

/-! ### A mark arrives -/

/-- A copy that fails CHECK is taken off the ring and counted in MARK_ERR, and changes nothing else. -/
theorem execTickMark_of_bad_check (n : Node) (d : Dir) (m : Msg) (s : State) (h : markOk m = false) :
    execTickMark n d m s = .next ((s.take n m).fsat F.TICK.MARK_ERR 1) := by
  simp only [execTickMark, h, Bool.not_false, if_true]
  rw [State.rcInc_of_no_block _ _ _ _ _ _ rfl]

/-- A copy whose CHECK is right is discarded when its direction is not in use (R35), when the node holds a mark, or when the
node has had the boundary already; else the node holds it. -/
theorem execTickMark_of_markOk (n : Node) (d : Dir) (m : Msg) (s : State) (h : markOk m = true) :
    execTickMark n d m s =
      if 120 < tget 0 s.tick.nodeDelay (n * 2 + d) ∨ tget 0 s.tick.nodeMark n ≠ 0 ∨ vbits m 0 48 = s.nodeTick n then
        .next (s.take n m)
      else .next { s.take n m with tick := { s.tick with nodeMark := tset 0 s.tick.nodeMark n (m.toNat + 1) } } := by
  simp only [execTickMark, h, Bool.not_true, Bool.false_eq_true, if_false]
  by_cases hd : 120 < tget 0 s.tick.nodeDelay (n * 2 + d)
  · rw [if_pos hd, if_pos (Or.inl hd)]
  · rw [if_neg hd]
    simp only [hd, false_or]
    rfl

/-! ### A boundary is missed -/

/-- A node without a mark notes the missed boundary. -/
theorem execTickSlip_of_no_mark (n : Node) (s : State) (h : tget 0 s.tick.nodeMark n = 0) :
    execTickSlip n s = .next { s with tick := { s.tick with
      nodeSlip := tset 0 s.tick.nodeSlip n (tget 0 s.tick.nodeSlip n + 1) } } := by
  rw [execTickSlip, if_neg (not_not_intro h)]

/-! ### The boundary -/

@[simp] theorem State.takeMark_nodeTick (s : State) (n : Nat) :
    (s.takeMark n).nodeTick n = nbits (tget 0 s.tick.nodeMark n - 1) 0 48 :=
  tget_tset_same 0 s.tick.nodeCount n _

@[simp] theorem State.takeMark_nodeMark (s : State) (n : Nat) : tget 0 (s.takeMark n).tick.nodeMark n = 0 :=
  tget_tset_same 0 s.tick.nodeMark n 0

/-- After its boundary a node is at the count of the mark it held: the duties leave the counts alone. -/
theorem State.boundary_nodeTick (s : State) (n : Nat) (u : Option (Fin 8)) (b : BitVec 2)
    (h : tget 0 s.tick.nodeMark n ≠ 0) :
    (s.boundary n u b).nodeTick n = nbits (tget 0 s.tick.nodeMark n - 1) 0 48 := by
  rw [State.nodeTick, (State.boundary_kept s n u b h).counts]
  exact s.takeMark_nodeTick n

/-- After its boundary a node holds no mark: the duties leave the marks alone. -/
theorem State.boundary_nodeMark (s : State) (n : Nat) (u : Option (Fin 8)) (b : BitVec 2)
    (h : tget 0 s.tick.nodeMark n ≠ 0) : tget 0 (s.boundary n u b).tick.nodeMark n = 0 := by
  rw [(State.boundary_kept s n u b h).marks]
  exact s.takeMark_nodeMark n

/-- Settles O13: the rule of each command at a node, clause by clause. -/
theorem marksMakeNodeBoundaries : Obligations.MarksMakeNodeBoundaries := by
  unfold Obligations.MarksMakeNodeBoundaries
  refine ⟨?taken, ?badCheck, ?slip, ?boundary, ?discarded⟩
  case taken =>
    intro n d m s hok hdelay hfree hnew
    have hkeep : ¬ (120 < tget 0 s.tick.nodeDelay (n * 2 + d) ∨ tget 0 s.tick.nodeMark n ≠ 0
        ∨ vbits m 0 48 = s.nodeTick n) := by
      rintro (h | h | h)
      · exact absurd hdelay (Nat.not_le.mpr h)
      · exact h hfree
      · exact hnew h
    exact (execTickMark_of_markOk n d m s hok).trans (if_neg hkeep)
  case badCheck =>
    intro n d m s hbad
    exact ⟨_, execTickMark_of_bad_check n d m s hbad, rfl, State.fget_fsat _ _ _ _ _⟩
  case slip => exact execTickSlip_of_no_mark
  case boundary =>
    intro n u b s hmark
    exact ⟨_, rfl, s.boundary_nodeTick n u b hmark, s.boundary_nodeMark n u b hmark⟩
  case discarded =>
    intro n d m s hok hdrop
    exact (execTickMark_of_markOk n d m s hok).trans (if_pos hdrop)

end Sys2Proof.Machine
end
section
/-! What an error record and a count leave to be read (R426, R450, R529): the code of the page's first error, and the
messages that join the ring. -/

namespace Sys2Proof.Machine

/-! ### Fields of a page's header -/

/-- A single field of a page's header other than PG_INT_STS. -/
def Fld.header (g : Fld) : Bool := decide (g.off < 256 ∧ g.lo < 32) && g.off / 4 != 4

/-- A write beyond the header, or of PG_INT_STS, leaves a field of the header alone. -/
theorem State.fget_fset_header (s : State) (f g : Fld) (v i e i' b' k' : Nat) (hg : g.header = true)
    (hf : 256 ≤ f.offAt e ∨ f.offAt e / 4 = 4) (ho : f.offAt e < 4096) (hl : f.loAt e < 32) :
    (s.fset f v i e).fget g i' 0 b' k' = s.fget g i' 0 b' k' := by
  apply State.fget_fset_place
  simp only [Fld.header, Bool.and_eq_true, decide_eq_true_eq, bne_iff_ne] at hg
  simp only [Fld.place, pageNo, Fld.offAt, Fld.loAt, Nat.zero_div, Nat.zero_mod, Nat.mul_zero, Nat.add_zero] at hf ho hl ⊢
  omega

section Header

variable {g : Fld} (hg : g.header = true) (i' b' k' : Nat)
include hg

theorem State.fget_intSet_header (s : State) (c : Cls) (i bit : Nat) :
    (s.intSet c i bit).fget g i' 0 b' k' = s.fget g i' 0 b' k' :=
  State.fget_fset_header s (F.HDR.PG_INT_STS.INT c) g _ _ _ _ _ _ hg (.inr (by cases c <;> decide)) (by cases c <;> decide)
    (by cases c <;> decide)

theorem State.fget_smpOverflow_header (s : State) (i n : Nat) :
    (s.smpOverflow i n).fget g i' 0 b' k' = s.fget g i' 0 b' k' := by
  simp only [State.smpOverflow]
  split
  · split
    · exact State.fget_fset_header s _ g _ _ _ _ _ _ hg (.inl (by decide)) (by decide) (by decide)
    · rfl
  · rfl

theorem State.fget_engOverflow_header (s : State) (i n : Nat) :
    (s.engOverflow i n).fget g i' 0 b' k' = s.fget g i' 0 b' k' := by
  simp only [State.engOverflow]
  split
  · split
    · exact State.fget_fset_header s _ g _ _ _ _ _ _ hg (.inl (by decide)) (by decide) (by decide)
    · rfl
  · rfl

theorem State.fget_ctrAdd_header (s : State) (b : Cls) (i j n : Nat) (hj : j < 8) :
    (s.ctrAdd b i j n).fget g i' 0 b' k' = s.fget g i' 0 b' k' := by
  have hbase : 256 ≤ cbBase b ∧ cbBase b ≤ 3072 := by
    simp only [cbBase]
    split <;> decide
  have hcb : ∀ (a : State) (f : Fld) (v e : Nat), cbBase b ≤ f.offAt e → f.offAt e < cbBase b + 256 →
      f.loAt e = 0 → (a.fset f v i e).fget g i' 0 b' k' = a.fget g i' 0 b' k' := fun a f v e h1 h2 h3 =>
    State.fget_fset_header a f g v i e _ _ _ hg (.inl (by omega)) (by omega) (by omega)
  have hwide : ∀ (a : State) (v : Nat),
      (a.setWide (F.CB.CNT_LO b) (F.CB.CNT_HI b) v i j).fget g i' 0 b' k' = a.fget g i' 0 b' k' := by
    intro a v
    have hhi : (F.CB.CNT_HI b).offAt j = cbBase b + 0x044 + 8 * (j / 1) ∧ (F.CB.CNT_HI b).loAt j = 0 + 0 * (j % 1) :=
      ⟨rfl, rfl⟩
    have hlo : (F.CB.CNT_LO b).offAt j = cbBase b + 0x040 + 8 * (j / 1) ∧ (F.CB.CNT_LO b).loAt j = 0 + 0 * (j % 1) :=
      ⟨rfl, rfl⟩
    rw [State.setWide, hcb _ _ _ j (by omega) (by omega) (by omega), hcb _ _ _ j (by omega) (by omega) (by omega)]
  have hovf : ∀ (a : State) (v : Nat), (a.fset (F.CB.CB_OVF.OVF b) v i).fget g i' 0 b' k' = a.fget g i' 0 b' k' :=
    fun a v => hcb a _ v 0 (by simp only [F.CB.CB_OVF.OVF, Fld.offAt]; omega)
      (by simp only [F.CB.CB_OVF.OVF, Fld.offAt]; omega) rfl
  simp only [State.ctrAdd]
  repeat' split
  all_goals simp only [State.fget_smpOverflow_header hg, State.fget_engOverflow_header hg, State.fget_intSet_header hg,
    hovf, hwide]

theorem State.fget_countOne_header (s : State) (b : Cls) (i evt n : Nat) (a : EvtAttr) :
    (s.countOne b i evt n a).fget g i' 0 b' k' = s.fget g i' 0 b' k' := by
  simp only [State.countOne]
  split
  · rfl
  · refine List.foldlRecOn (motive := fun t : State => t.fget g i' 0 b' k' = s.fget g i' 0 b' k') _ _ rfl ?_
    intro t ht j hj
    split
    · rw [State.fget_ctrAdd_header hg i' b' k' t b i j _ (List.mem_range.mp hj), ht]
    · exact ht

/-- Raising a counter leaves a field of the header alone. -/
theorem State.fget_rcInc_header (s : State) (f : Fld) (i n : Nat) (inj : Bool)
    (hf : 256 ≤ f.off ∧ f.off < 4096 ∧ f.lo < 32) :
    (s.rcInc f i n inj).fget g i' 0 b' k' = s.fget g i' 0 b' k' := by
  obtain ⟨h1, h2, h3⟩ := hf
  have hoff : f.offAt 0 = f.off := by simp [Fld.offAt]
  have hlo : f.loAt 0 = f.lo := by simp [Fld.loAt]
  have hsat : (s.fsat f n i).fget g i' 0 b' k' = s.fget g i' 0 b' k' :=
    State.fget_fset_header s f g _ i 0 _ _ _ hg (.inl (by omega)) (by omega) (by omega)
  simp only [State.rcInc, State.countEvt]
  repeat' split
  all_goals simp only [State.fget_countOne_header hg, hsat]

end Header

/-! ### The record of an error -/

theorem errFirst_header (c : Cls) : (F.HDR.PG_ERR_FIRST.CODE c).header = true := by cases c <;> decide

/-- A field of the header that a record does not write reads as before. -/
theorem State.fget_record_apart (s : State) (c : Cls) (i code x y ident : Nat) (inj : Bool) (g : Fld) (i' b' k' : Nat)
    (hg : g.header = true) (ha : ∀ f ∈ [F.HDR.PG_ERR_FIRST.CODE c, F.HDR.PG_ERR_FIRST.INJ c, F.HDR.PG_ERR_INFO0.INFO0 c,
      F.HDR.PG_ERR_INFO1.INFO1 c], Fld.apart f g = true) :
    (s.record c i code x y ident inj).fget g i' 0 b' k' = s.fget g i' 0 b' k' := by
  simp only [List.forall_mem_cons] at ha
  obtain ⟨h1, h2, h3, h4, _⟩ := ha
  simp only [State.record, State.fget_sillage]
  split
  · rw [State.fget_intSet_header hg, State.fget_fset_apart _ _ _ _ _ _ _ _ _ _ h4,
      State.fget_fset_apart _ _ _ _ _ _ _ _ _ _ h3, State.fget_fput_apart _ _ _ _ _ _ _ _ _ _ h2,
      State.fget_fset_apart _ _ _ _ _ _ _ _ _ _ h1]
  · rfl

/-- The first error of a page is recorded in PG_ERR_FIRST (R529). -/
theorem State.fget_record_first (s : State) (c : Cls) (i code x y ident : Nat) (inj : Bool)
    (h : s.fget (F.HDR.PG_ERR_FIRST.CODE c) i = 0) :
    (s.record c i code x y ident inj).fget (F.HDR.PG_ERR_FIRST.CODE c) i = code % 2 ^ 8 := by
  simp only [State.record, State.fget_sillage, h, if_true]
  rw [State.fget_intSet_header (errFirst_header c), State.fget_fset_apart _ _ _ _ _ _ _ _ _ _ (by cases c <;> decide),
    State.fget_fset_apart _ _ _ _ _ _ _ _ _ _ (by cases c <;> decide),
    State.fget_fput_apart _ _ _ _ _ _ _ _ _ _ (by cases c <;> decide), State.fget_fset]
  rfl

/-! ### The messages of a record -/

theorem crc7_lt (bs : List Bool) : crc7 bs < 128 := by
  refine List.foldlRecOn (motive := fun c => c < 128) bs _ (by decide) (fun c _ b _ => ?_)
  refine Nat.xor_lt_two_pow (n := 7) (Nat.mod_lt _ (by decide)) ?_
  split <;> decide

/-- A message whose fields lie below the node numbers is of the type it is made of. -/
theorem msgType_mkTyped (t dst src : Nat) (rest : List (Nat × Nat × Nat)) (ht : t < 16)
    (hr : packBits rest + 128 ≤ 2 ^ 48) : msgType (mkTyped t dst src rest) = t := by
  have hc := crc7_lt (bitsDown (packBits ((60, 4, t) :: (54, 6, dst) :: (48, 6, src) :: rest)) 63 7)
  simp only [msgType, vbits, nbits, mkTyped, mkMsg, msgCheck, BitVec.toNat_ofNat]
  generalize crc7 _ = c at hc ⊢
  simp only [packBits]
  omega

theorem State.sends_flight (l : List Msg) (s : State) :
    (l.foldl State.send s).net.flight = s.net.flight ++ l.map msgToOne := by
  induction l generalizing s with
  | nil => simp
  | cons m l ih => simp [ih, State.send, State.post]

/-- The messages that a sillage entry adds to the ring are SIL_FRAG. -/
theorem State.msgType_of_mem_sillage (s : State) (n code info : Nat) (inj : Bool) (f : Flight)
    (hf : f ∈ (s.sillage n code info inj).net.flight) (hnew : f ∉ s.net.flight) : msgType f.msg = 0xD := by
  simp only [State.sillage] at hf
  split at hf
  · exact absurd hf hnew
  · split at hf
    · exact absurd hf hnew
    · rw [State.sends_flight, List.mem_append] at hf
      obtain ⟨m, hm, rfl⟩ := List.mem_map.mp (hf.resolve_left hnew)
      obtain ⟨i, _, rfl⟩ := List.mem_map.mp hm
      refine msgType_mkTyped _ _ _ _ (by decide) ?_
      simp only [packBits]
      omega

/-- So are those that a record adds. -/
theorem State.msgType_of_mem_record (s : State) (c : Cls) (i code x y ident : Nat) (inj : Bool) (f : Flight)
    (hf : f ∈ (s.record c i code x y ident inj).net.flight) (hnew : f ∉ s.net.flight) : msgType f.msg = 0xD := by
  refine State.msgType_of_mem_sillage _ _ _ _ _ f hf ?_
  split <;> exact hnew

end Sys2Proof.Machine
end
section
/-! What an engine's own work leaves alone in its queues' contexts (R312-R317): forming, translating and fetching move a
context's FETCHED index and nothing that a doorbell looks at. -/

namespace Sys2Proof.Machine

/-- What a doorbell looks at in a context: its tail, its head, and its state or the one it takes when its move ends. -/
def QCtx.marks (c : QCtx) : Nat × Nat × Nat := (c.tail, c.head, c.now)

/-- From `s` to `t` every stored context keeps its marks. -/
structure State.MarksKept (s t : State) : Prop where
  stored : ∀ k, (tget {} t.eng.ctx k).marks = (tget {} s.eng.ctx k).marks

/-- LEAVING shows a queue as moving from its state, which leaves its marks as they are stored. -/
theorem State.qctx_marks (s : State) (e q : Nat) : (s.qctx e q).marks = (tget {} s.eng.ctx (qKey e q)).marks := by
  simp only [State.qctx]
  split
  · next h => simp only [QCtx.marks, QCtx.now, if_pos, if_neg h.2]
  · rfl

namespace State.MarksKept

variable {s t u : State}

theorem trans (h : MarksKept s t) (k : MarksKept t u) : MarksKept s u := ⟨fun i => (k.stored i).trans (h.stored i)⟩

/-- The table of contexts is as it was. -/
theorem of_ctx (h : t.eng.ctx = s.eng.ctx) : MarksKept s t := ⟨fun k => by rw [h]⟩

theorem refl (s : State) : MarksKept s s := of_ctx rfl

theorem ite {p : Prop} [Decidable p] (h : MarksKept s t) (k : MarksKept s u) : MarksKept s (if p then t else u) := by
  split
  · exact h
  · exact k

/-- A context is stored with the marks it had. -/
theorem setQctx (h : MarksKept s t) (e q : Nat) {c : QCtx} (hc : c.marks = (s.qctx e q).marks) :
    MarksKept s (t.setQctx e q c) := by
  constructor
  intro k
  by_cases hk : k = qKey e q
  · rw [hk, State.setQctx, tget_tset_same, hc, State.qctx_marks]
  · rw [State.setQctx, tget_tset_ne _ _ _ _ _ hk, h.stored k]

theorem foldl {α : Type} (f : State → α → State) (l : List α) (hf : ∀ a x, MarksKept a (f a x)) :
    MarksKept s (l.foldl f s) :=
  List.foldlRecOn (motive := fun a => MarksKept s a) l f (refl s) (fun a ha x _ => ha.trans (hf a x))

theorem foldl1 {α β : Type} (f : State × β → α → State × β) (l : List α) (p : State × β)
    (hf : ∀ a x, MarksKept a.1 (f a x).1) : MarksKept p.1 (l.foldl f p).1 :=
  List.foldlRecOn (motive := fun a : State × β => MarksKept p.1 a.1) l f (refl p.1) (fun a ha x _ => ha.trans (hf a x))

/-- A queue shows the marks it showed. -/
theorem shown (h : MarksKept s t) (e q : Nat) : (t.qctx e q).marks = (s.qctx e q).marks := by
  rw [State.qctx_marks, State.qctx_marks, h.stored]

end State.MarksKept

/-! ### Counting and looking up -/

theorem State.eng_of_core {s t : State} (h : t.core = s.core) : t.eng = s.eng := by
  have he := congrArg State.eng h
  exact he

@[simp] theorem State.countEvt_eng (s : State) (b : Cls) (i evt n : Nat) (a : EvtAttr) :
    (s.countEvt b i evt n a).eng = s.eng := State.eng_of_core (State.core_countEvt s b i evt n a)

@[simp] theorem State.rcInc_eng (s : State) (f : Fld) (i n : Nat) (inj : Bool) (e : Nat) :
    (s.rcInc f i n inj e).eng = s.eng := State.eng_of_core (State.core_rcInc s f i n inj e)

@[simp] theorem State.setCache_eng (s : State) (b : Bool) (x key w : Nat) (c : Option CacheEnt) :
    (s.setCache b x key w c).eng = s.eng := by
  cases b <;> rfl

@[simp] theorem State.xcMiss_eng (s : State) (x : Nat) (b : Bool) : (s.xcMiss x b).eng = s.eng := by
  simp only [State.xcMiss, State.countEvt_eng, State.rcInc_eng]

@[simp] theorem State.sendFill_eng (s : State) (x : Nat) (f : Fill) : (s.sendFill x f).eng = s.eng := rfl

@[simp] theorem State.lookUp_eng (s : State) (x : Nat) (b : Bool) (key : Nat) : (s.lookUp x b key).1.eng = s.eng := by
  have hc := State.countEvt_eng s .pwr x (if b then 0x303 else 0x301) 1 {}
  unfold State.lookUp
  generalize s.countEvt .pwr x (if b then 0x303 else 0x301) 1 = t at hc ⊢
  rw [← hc]
  dsimp only
  split
  · split
    · simp only [State.rcInc_eng, State.setCache_eng]
    · rfl
  · split
    · exact State.xcMiss_eng ..
    · split
      · rfl
      · rw [State.sendFill_eng, State.xcMiss_eng]

/-! ### Forming and failing -/

namespace State.MarksKept

/-- A failed fetch moves FETCHED behind the descriptor that ends with the failure. -/
theorem fetchFail (s : State) (e q id status : Nat) : MarksKept s (s.fetchFail e q id status) := by
  have hended : MarksKept s (s.fresh.2.setFetch e q none) := of_ctx rfl
  have hnext : ∀ f, MarksKept s ((s.fresh.2.setFetch e q none).setQctx e q { s.qctx e q with fetched := f }) :=
    fun _ => hended.setQctx e q rfl
  unfold State.fetchFail
  split
  · exact ite (refl s) ((hnext _).trans (of_ctx rfl))
  · exact refl s

theorem engFail (s : State) (e : Nat) (r : EReq) (status : Nat) : MarksKept s (s.engFail e r status) := by
  unfold State.engFail
  split
  case h_1 => exact fetchFail ..
  all_goals exact of_ctx rfl

/-- A transaction joins its stop's forming queue, is counted if it writes, or fails. -/
theorem engForm (s : State) (e : Nat) (r : EReq) (v : Nat) : MarksKept s (s.engForm e r v) := by
  have hsent : ∀ q : FormReq, MarksKept s
      (if r.hdr.opc == opMWR then
        (s.submit (engStop e) q).countEvt .eng e 0x203 r.bytes { slice := some r.hdr.slice.toNat }
       else s.submit (engStop e) q) :=
    fun q => ite (of_ctx (congrArg EngSt.ctx (State.countEvt_eng ..))) (of_ctx rfl)
  exact ite (ite (hsent _) (engFail ..)) (ite (engFail ..) (ite (engFail ..) (hsent _)))

theorem engTry (s : State) (e : Nat) (r : EReq) : MarksKept s (s.engTry e r).1 := by
  unfold State.engTry
  have hlook : ∀ l : Look, (if l.st = 0 then s.lookUp e false (sgidOf r.dom r.fn) else (s, l)).1.eng = s.eng := by
    intro l
    split
    · exact State.lookUp_eng ..
    · rfl
  dsimp only
  generalize hl : tget ({} : Look) s.mem.eLook (e * 65536 + r.num % 65536) = l
  specialize hlook l
  generalize (if l.st = 0 then s.lookUp e false (sgidOf r.dom r.fn) else (s, l)) = a at hlook
  have hsame : ∀ m, MarksKept s { a.1 with mem := m } := fun _ => of_ctx (congrArg EngSt.ctx hlook)
  split
  · exact (hsame _).trans (engFail ..)
  · exact (hsame _).trans (engForm ..)
  · exact hsame _

theorem engTryAll (s : State) (e : Nat) : MarksKept s (s.engTryAll e) := by
  unfold State.engTryAll
  have hstart : MarksKept s { s with eng := { s.eng with wait := tset [] s.eng.wait e [] } } := of_ctx rfl
  refine (hstart.trans (foldl1 _ _ (_, []) fun a x => ?_)).trans (of_ctx rfl)
  split
  · exact refl a.1
  · dsimp only
    split <;> exact engTry ..

/-! ### Fetching, chunks and the pump -/

/-- A fetch moves FETCHED over the descriptors it covers. -/
theorem fetchQueue (s : State) (e q : Nat) : MarksKept s (s.fetchQueue e q) := by
  have hread : ∀ (t : State) (f : Nat), t.eng.ctx = s.eng.ctx →
      MarksKept s (t.setQctx e q { s.qctx e q with fetched := f }) :=
    fun t f h => setQctx (of_ctx h) e q rfl
  exact ite (refl s) (hread _ _ rfl)

theorem writeNext {s t : State} {e i : Nat} (h : s.writeNext e i = some t) : MarksKept s t := by
  unfold State.writeNext at h
  repeat' split at h
  all_goals cases h
  exact of_ctx rfl

theorem flushNext {s t : State} {e i : Nat} (h : s.flushNext e i = some t) : MarksKept s t := by
  unfold State.flushNext at h
  repeat' split at h
  all_goals cases h
  exact of_ctx rfl

theorem chunkNext {s t : State} {e i : Nat} (h : s.chunkNext e i = some t) : MarksKept s t := by
  unfold State.chunkNext at h
  split at h
  next => cases h
  next d _ =>
    simp only [Option.ite_none_left_eq_some, Option.some.injEq] at h
    obtain ⟨_, _, rfl⟩ := h
    refine of_ctx ?_
    split <;> split <;> rfl

theorem engStep {s t : State} {e : Nat} (h : s.engStep e = some t) : MarksKept s t := by
  obtain ⟨i, _, hi⟩ := List.exists_of_findSome?_eq_some h
  split at hi
  next hw => cases hi; exact writeNext hw
  next =>
    split at hi
    next hf => cases hi; exact flushNext hf
    next => exact chunkNext hi

theorem engSteps (s : State) (e n : Nat) : MarksKept s (s.engSteps e n) := by
  induction n generalizing s with
  | zero => exact refl s
  | succ n ih =>
    unfold State.engSteps
    split
    next t ht => exact ((engStep ht).trans (engTryAll t e)).trans (ih _)
    next => exact refl s

theorem settleWrites (s : State) (e : Nat) : MarksKept s (s.settleWrites e) := of_ctx rfl

theorem vtActivate (s : State) (e : Nat) : MarksKept s (s.vtActivate e) := of_ctx rfl

/-- Everything an engine forms by itself leaves the marks of every queue as they are. -/
theorem engPump (s : State) (e : Nat) : MarksKept s (s.engPump e) := by
  have hsettled : MarksKept s ((s.engTryAll e).settleWrites e) := (engTryAll s e).trans (settleWrites ..)
  unfold State.engPump
  refine trans (trans (trans ?_ (engTryAll _ e)) (engSteps _ e 64)) (vtActivate _ e)
  exact ite (hsettled.trans (foldl _ _ fun a q => fetchQueue a e q)) hsettled

end State.MarksKept

end Sys2Proof.Machine
end
section
/-! Doorbells (R310, R311, R352): what a write of DOORBELL does at the slice page, and what the message does at the engine
that takes it. -/

namespace Sys2Proof.Machine

/-! ### The slice page -/

/-- DOORBELL holds what was written, whatever becomes of it. -/
theorem State.fget_doorbellWrite (s : State) (x tail o : Nat) :
    (s.doorbellWrite x tail o).fget F.SLICE.DOORBELL.TAIL x = tail % 2 ^ F.SLICE.DOORBELL.TAIL.width
      ∧ (s.doorbellWrite x tail o).fget F.SLICE.DOORBELL.QOFF x = o % 2 ^ F.SLICE.DOORBELL.QOFF.width := by
  simp only [State.doorbellWrite]
  split
  all_goals simp (disch := decide) only [State.fget_record, State.fget_pgErr, State.fget_send, State.fget_fset,
    State.fget_fset_apart, and_self]

/-- Outside the slice's queues the write is counted and recorded as an error of its page, and sends no doorbell. -/
theorem State.doorbellWrite_outside (s : State) (x tail o : Nat) (h : s.fget F.SLICE.ACC_Q.QCNT x ≤ o) :
    s.Raised (s.doorbellWrite x tail o) (F.HDR.PG_ERR_CNT.CNT .slice) x
      ∧ (∀ f ∈ (s.doorbellWrite x tail o).net.flight, f ∉ s.net.flight → msgType f.msg = 0xD)
      ∧ (s.fget (F.HDR.PG_ERR_FIRST.CODE .slice) x = 0 →
          (s.doorbellWrite x tail o).fget (F.HDR.PG_ERR_FIRST.CODE .slice) x = 0x82) := by
  simp only [State.doorbellWrite, if_pos h]
  refine ⟨?_, fun f hf hnew => State.msgType_of_mem_record _ _ _ _ _ _ _ _ f hf hnew, fun hfirst => ?_⟩
  · simp (disch := decide) only [State.Raised, State.fget_record_apart, State.pgErr, State.fget_fput_apart,
      State.fget_fsat, State.fget_fset_apart]
  · refine (State.fget_record_first _ _ _ _ _ _ _ _ ?_).trans rfl
    simp (disch := decide) only [State.pgErr, State.fget_fput_apart, State.fget_fsat_apart, State.fget_fset_apart, hfirst]

/-- Within them it sends the tail and the slice's generation to the engine that the page owner's map names. -/
theorem State.doorbellWrite_within (s : State) (x tail o : Nat) (h : o < s.fget F.SLICE.ACC_Q.QCNT x) :
    (s.doorbellWrite x tail o).net.flight = s.net.flight ++
        [msgToOne (doorbellMsg (s.qmapCopy ((s.fget F.SLICE.ACC_Q.QBASE x + o) % 65536)) 62
          ((s.fget F.SLICE.ACC_Q.QBASE x + o) % 65536) tail (s.sliceGen x))]
      ∧ (s.doorbellWrite x tail o).units = s.units := by
  simp only [State.doorbellWrite, if_neg (Nat.not_le.mpr h)]
  exact ⟨rfl, rfl⟩

/-! ### The engine -/

theorem execDoorbell_of_msgOk (n : Node) (m : Msg) (s : State) (h : msgOk m = true) :
    execDoorbell n m s = .next (if isEngStop n then
      (s.take n m).doorbell (n / 7) (vbits m 32 16) (vbits m 16 16) (vbits m 12 4) else s.take n m) := by
  simp only [execDoorbell, h, Bool.not_true, Bool.false_eq_true, if_false]
  split <;> rfl

theorem QCtx.marks_eq_iff (c : QCtx) (tail head now : Nat) :
    c.marks = (tail, head, now) ↔ c.tail = tail ∧ c.head = head ∧ c.now = now := by
  simp only [QCtx.marks, Prod.mk.injEq]

/-- A context set to a state, or to take it when its move ends, shows it. -/
theorem QCtx.marks_setNow (c : QCtx) (n : Nat) (hn : n ≠ 4) : (c.setNow n).marks = (c.tail, c.head, n) := by
  simp only [QCtx.setNow]
  split
  next h => simp only [QCtx.marks, QCtx.now, h, if_true]
  next => simp only [QCtx.marks, QCtx.now, hn, if_false]

theorem State.qctx_setQctx_marks (s : State) (e q : Nat) (c : QCtx) : ((s.setQctx e q c).qctx e q).marks = c.marks := by
  rw [State.qctx_marks, State.setQctx, tget_tset_same]

/-- A queue that stops has nothing fetched; its context and every register stay. -/
theorem State.haltQueue_kept_parts (s : State) (e q : Nat) :
    (s.haltQueue e q).eng.ctx = s.eng.ctx ∧ (s.haltQueue e q).regs = s.regs := by
  simp only [State.haltQueue]
  split <;> exact ⟨rfl, rfl⟩

section Resident

variable (s : State) (e q tail sgen : Nat) (hres : s.resident e q = true)
include hres

theorem State.doorbell_of_resident :
    s.doorbell e q tail sgen =
      if sgen ≠ (s.qctx e q).sgen then s.rcInc F.ENG.DB_STALE_CNT e
      else if (s.qctx e q).st = 0 then s.rcInc F.ENG.DB_STRAY_CNT e
      else if signedDiff 16 tail (s.qctx e q).tail ≤ 0 then s.rcInc F.ENG.DB_OLD_CNT e
      else if 2 ^ (s.qctx e q).ring < wrapSub 16 tail (s.qctx e q).head then
        ((s.haltQueue e q).queueTo e q 3).dbReject e q tail 0
      else (s.setQctx e q { s.qctx e q with tail := tail }).engPump e := if_pos hres

/-- A newer tail that asks for more than the ring holds stops the queue and is recorded (R311). -/
theorem State.doorbell_overfull (hgen : sgen = (s.qctx e q).sgen) (hst : (s.qctx e q).st ≠ 0)
    (hnew : 0 < signedDiff 16 tail (s.qctx e q).tail) (hfull : 2 ^ (s.qctx e q).ring < wrapSub 16 tail (s.qctx e q).head) :
    ((s.doorbell e q tail sgen).qctx e q).marks = ((s.qctx e q).tail, (s.qctx e q).head, 3)
      ∧ (s.fget (F.HDR.PG_ERR_FIRST.CODE .eng) e = 0 →
          (s.doorbell e q tail sgen).fget (F.HDR.PG_ERR_FIRST.CODE .eng) e = 0x73) := by
  obtain ⟨hctx, hregs⟩ := s.haltQueue_kept_parts e q
  rw [State.doorbell_of_resident s e q tail sgen hres, if_neg (not_not_intro hgen), if_neg hst, if_neg (Int.not_le.mpr hnew),
    if_pos hfull]
  constructor
  · have heng : ((((s.haltQueue e q).queueTo e q 3).dbReject e q tail 0)).eng = ((s.haltQueue e q).queueTo e q 3).eng :=
      State.eng_of_core (State.core_record ..)
    have hnow : ((s.haltQueue e q).qctx e q).marks = (s.qctx e q).marks := by
      rw [State.qctx_marks, hctx, ← State.qctx_marks]
    rw [State.qctx_marks, heng, ← State.qctx_marks, State.queueTo, State.qctx_setQctx_marks,
      QCtx.marks_setNow _ _ (by decide)]
    obtain ⟨ht, hh, -⟩ := (QCtx.marks_eq_iff ..).mp hnow
    rw [ht, hh]
  · intro hfirst
    refine (State.fget_record_first _ _ _ _ _ _ _ _ ?_).trans rfl
    exact (State.fget_congr hregs _ _ _ _ _).trans hfirst

/-- A newer tail within the ring moves TAIL forward (R311). -/
theorem State.doorbell_forward (hgen : sgen = (s.qctx e q).sgen) (hst : (s.qctx e q).st ≠ 0)
    (hnew : 0 < signedDiff 16 tail (s.qctx e q).tail) (hroom : wrapSub 16 tail (s.qctx e q).head ≤ 2 ^ (s.qctx e q).ring) :
    ((s.doorbell e q tail sgen).qctx e q).marks = (tail, (s.qctx e q).head, (s.qctx e q).now) := by
  rw [State.doorbell_of_resident s e q tail sgen hres, if_neg (not_not_intro hgen), if_neg hst, if_neg (Int.not_le.mpr hnew),
    if_neg (Nat.not_lt.mpr hroom), (State.MarksKept.engPump _ e).shown, State.qctx_setQctx_marks]
  rfl

end Resident

section Absent

variable (s : State) (e q tail sgen : Nat) (habs : s.resident e q = false)
include habs

/-- An engine that keeps a stub of the queue sends the doorbell on (R327). -/
theorem State.doorbell_forwarded (x : Stub) (hx : s.stubOf e q = some x) :
    s.doorbell e q tail sgen = s.send (doorbellMsg x.toward (engStop e) q tail sgen) := by
  simp only [State.doorbell, habs, hx, Bool.false_eq_true, if_false]

/-- Another engine counts and records it (R311). -/
theorem State.doorbell_stray (hx : s.stubOf e q = none) :
    s.Raised (s.doorbell e q tail sgen) F.ENG.DB_STRAY_CNT e ∧ (s.doorbell e q tail sgen).units = s.units
      ∧ (s.fget (F.HDR.PG_ERR_FIRST.CODE .eng) e = 0 →
          (s.doorbell e q tail sgen).fget (F.HDR.PG_ERR_FIRST.CODE .eng) e = 0x73) := by
  simp only [State.doorbell, habs, hx, Bool.false_eq_true, if_false, State.dbReject]
  refine ⟨?_, (State.core_record ..).trans (State.core_rcInc ..), fun hfirst => ?_⟩
  · rw [State.Raised, State.fget_record _ _ _ _ _ _ _ _ _ _ _ _ _ (by decide), State.fget_rcInc_self _ _ _ _ _ (by decide)]
  · refine (State.fget_record_first _ _ _ _ _ _ _ _ ?_).trans rfl
    rw [State.fget_rcInc_header (errFirst_header .eng) _ _ _ _ _ _ _ _ (by decide), hfirst]

end Absent

end Sys2Proof.Machine
end
section
/-! Completion events and the interrupt of a slice (R317, R353). -/

namespace Sys2Proof.Machine

/-! ### The pending bits -/

theorem nbit_eq_testBit (v j : Nat) : nbit v j = v.testBit j := by
  rw [Nat.testBit_eq_decide_div_mod_eq, nbit, nbits, Nat.pow_one]
  rfl

/-- Adding a bit that is 0 sets it. -/
theorem nbit_add_two_pow (v j w : Nat) (hj : j < w) (h : nbit v j = false) : nbit ((v + 2 ^ j) % 2 ^ w) j = true := by
  rw [nbit_eq_testBit] at h ⊢
  rw [Nat.testBit_mod_two_pow, Nat.add_comm, Nat.testBit_two_pow_add_eq, h, decide_eq_true hj]
  rfl

/-- The registers EVT_PEND lie apart from the slice page's other fields. -/
theorem pend_place (g : Fld) (x i : Nat) (hi : i < 8) (hc : g.cls = .slice) (hg : g.off < 0x110 ∨ 0x130 ≤ g.off)
    (hl : g.lo < 32) : g.place x 0 ≠ F.SLICE.EVT_PEND.PEND.place x i := by
  refine Fld.place_off _ g x i 0 hc ?_
  simp only [Fld.offAt, Fld.loAt, F.SLICE.EVT_PEND.PEND, Nat.zero_div, Nat.zero_mod]
  omega

theorem State.fget_fset_pend (s : State) (g : Fld) (v x i : Nat) (hi : i < 8) (hc : g.cls = .slice)
    (hg : g.off < 0x110 ∨ 0x130 ≤ g.off) (hl : g.lo < 32) :
    (s.fset F.SLICE.EVT_PEND.PEND v x i).fget g x = s.fget g x :=
  State.fget_fset_place _ _ _ _ _ _ _ _ _ _ _ _ (pend_place g x i hi hc hg hl)

theorem State.fbit_fset_pend (s : State) (g : Fld) (v x i : Nat) (hi : i < 8) (hc : g.cls = .slice)
    (hg : g.off < 0x110 ∨ 0x130 ≤ g.off) (hl : g.lo < 32) :
    (s.fset F.SLICE.EVT_PEND.PEND v x i).fbit g x = s.fbit g x := by
  rw [State.fbit, State.fget_fset_pend s g v x i hi hc hg hl, State.fbit]

theorem State.fget_fput_armed_pend (s : State) (b : Bool) (x i : Nat) (hi : i < 8) :
    (s.fput F.SLICE.EVT_CFG.ARMED b x).fget F.SLICE.EVT_PEND.PEND x i = s.fget F.SLICE.EVT_PEND.PEND x i :=
  State.fget_fset_place _ _ _ _ _ _ _ _ _ _ _ _
    (pend_place F.SLICE.EVT_CFG.ARMED x i hi rfl (by decide) (by decide)).symm

/-! ### SLICE_IRQ -/

/-- A slice that is not LIVE, not enabled or not armed presents nothing. -/
theorem State.sliceIrq_quiet (s : State) (x : Nat)
    (h : s.sliceState x ≠ 1 ∨ s.fbit F.SLICE.EVT_CFG.EN x = false ∨ s.fbit F.SLICE.EVT_CFG.ARMED x = false) :
    s.sliceIrq x = s := by
  rcases h with h | h | h <;> simp [State.sliceIrq, h]

/-- An armed one disarms and waits for the interrupt group. -/
theorem State.sliceIrq_presents (s : State) (x : Nat) (hlive : s.sliceState x = 1)
    (hen : s.fbit F.SLICE.EVT_CFG.EN x = true) (harmed : s.fbit F.SLICE.EVT_CFG.ARMED x = true) :
    (s.sliceIrq x).fbit F.SLICE.EVT_CFG.ARMED x = false ∧ x ∈ (s.sliceIrq x).irq.slices := by
  have hoff : (s.fput F.SLICE.EVT_CFG.ARMED false x).fbit F.SLICE.EVT_CFG.ARMED x = false :=
    State.fbit_fput _ _ _ _ _ _ _ (by decide)
  simp only [State.sliceIrq, hlive, hen, harmed, decide_true, Bool.and_self, if_true]
  split
  next hin => exact ⟨hoff, List.contains_iff_mem.mp hin⟩
  next => exact ⟨hoff, List.mem_append_right _ (List.mem_singleton_self x)⟩

/-- Presenting leaves the pending events alone. -/
theorem State.fget_sliceIrq_pend (s : State) (x i : Nat) (hi : i < 8) :
    (s.sliceIrq x).fget F.SLICE.EVT_PEND.PEND x i = s.fget F.SLICE.EVT_PEND.PEND x i := by
  simp only [State.sliceIrq]
  split
  · split <;> exact State.fget_fput_armed_pend s false x i hi
  · rfl

/-- The event of a queue of the slice sets the queue's pending bit, or finds it set. -/
theorem State.evtPend_sets (s : State) (x q k : Nat) (hk : k = wrapSub 16 q (s.fget F.SLICE.ACC_Q.QBASE x)) (h : k < 256) :
    nbit ((s.evtPend x q).fget F.SLICE.EVT_PEND.PEND x (k / 32)) (k % 32) = true := by
  simp only [State.evtPend, ← hk, if_neg (Nat.not_le.mpr h)]
  split
  next hset => exact hset
  next hclear =>
    rw [State.fget_sliceIrq_pend _ _ _ (by omega), State.fget_fset]
    exact nbit_add_two_pow _ _ _ (Nat.mod_lt _ (by decide)) (Bool.eq_false_iff.mpr hclear)

/-- The event of a queue outside the slice's range sets none. -/
theorem State.evtPend_outside (s : State) (x q : Nat) (h : 256 ≤ wrapSub 16 q (s.fget F.SLICE.ACC_Q.QBASE x)) :
    s.evtPend x q = s := by
  simp only [State.evtPend, if_pos h]

/-- A slice that is not LIVE asks for no interrupt. -/
theorem State.evtPend_irq (s : State) (x q : Nat) (h : s.sliceState x ≠ 1) : (s.evtPend x q).irq = s.irq := by
  simp only [State.evtPend]
  split
  · rfl
  next hk =>
    split
    · rfl
    · rw [State.sliceIrq_quiet, State.fset_irq]
      left
      rw [State.sliceState, State.fget_fset_pend _ _ _ _ _ (by omega) rfl (by decide) (by decide)]
      exact h

/-- A new event of an armed slice presents its interrupt. -/
theorem State.evtPend_presents (s : State) (x q k : Nat) (hk : k = wrapSub 16 q (s.fget F.SLICE.ACC_Q.QBASE x)) (h : k < 256)
    (hclear : nbit (s.fget F.SLICE.EVT_PEND.PEND x (k / 32)) (k % 32) = false)
    (hlive : s.sliceState x = 1) (hen : s.fbit F.SLICE.EVT_CFG.EN x = true)
    (harmed : s.fbit F.SLICE.EVT_CFG.ARMED x = true) :
    (s.evtPend x q).fbit F.SLICE.EVT_CFG.ARMED x = false ∧ x ∈ (s.evtPend x q).irq.slices := by
  simp only [State.evtPend, ← hk, if_neg (Nat.not_le.mpr h), hclear, Bool.false_eq_true, if_false]
  have hi : k / 32 < 8 := by omega
  apply State.sliceIrq_presents
  · exact (State.fget_fset_pend _ F.SLICE.MSTS.STATE _ _ _ hi rfl (by decide) (by decide)).trans hlive
  · exact (State.fbit_fset_pend _ F.SLICE.EVT_CFG.EN _ _ _ hi rfl (by decide) (by decide)).trans hen
  · exact (State.fbit_fset_pend _ F.SLICE.EVT_CFG.ARMED _ _ _ hi rfl (by decide) (by decide)).trans harmed

/-- Events and interrupts concern neither the engines nor the ended reads. -/
theorem State.evtPend_eng_ord (s : State) (x q : Nat) :
    (s.evtPend x q).eng = s.eng ∧ (s.evtPend x q).ord = s.ord := by
  have hirq : ∀ a : State, (a.sliceIrq x).eng = a.eng ∧ (a.sliceIrq x).ord = a.ord := by
    intro a
    simp only [State.sliceIrq]
    split
    · split <;> exact ⟨rfl, rfl⟩
    · exact ⟨rfl, rfl⟩
  simp only [State.evtPend]
  split
  · exact ⟨rfl, rfl⟩
  · split
    · exact ⟨rfl, rfl⟩
    · exact hirq _

/-! ### COMPLETION_EVENT -/

/-- The only ended read of a stop is taken if it serves the purpose. -/
theorem State.takeDone_single (s : State) (k : Nat) (p : TagUse → Bool) (r : RdDone)
    (h : tget [] s.ord.rdDone k = [r]) (hp : p r.use = true) :
    s.takeDone k p = some (r, { s with ord := { s.ord with rdDone := tset [] s.ord.rdDone k [] } }) := by
  simp [State.takeDone, h, hp]

theorem State.takeDone_none (s : State) (k : Nat) (p : TagUse → Bool) (h : tget [] s.ord.rdDone k = []) :
    s.takeDone k p = none := by
  simp [State.takeDone, h]

/-- The state in which stop `k` has no ended read and engine `e` waits for no event read. -/
def State.eventTaken (s : State) (k e : Nat) : State :=
  { s with ord := { s.ord with rdDone := tset [] s.ord.rdDone k [] }
           eng := { s.eng with events := tset [] s.eng.events e [] } }

@[simp] theorem State.eventTaken_events (s : State) (k e : Nat) : tget [] (s.eventTaken k e).eng.events e = [] :=
  tget_tset_same [] s.eng.events e []

@[simp] theorem State.eventTaken_rdDone (s : State) (k e : Nat) : tget [] (s.eventTaken k e).ord.rdDone k = [] :=
  tget_tset_same [] s.ord.rdDone k []

/-- The engine's only event read has ended: it is taken, and the slice whose read it was learns its queue. -/
theorem State.completionEvent_single (s : State) (e n q : Nat) (r : RdDone)
    (hr : tget [] s.ord.rdDone (engStop e) = [r]) (hu : r.use = .chunk n) (he : tget [] s.eng.events e = [(n, q)]) :
    s.completionEvent e = (s.eventTaken (engStop e) e).evtPend (r.hdr.getD emptyFlit).slice.toNat q := by
  unfold State.completionEvent
  dsimp only
  rw [State.takeDone_single s (engStop e) _ r hr (by simp [hu, he])]
  simp [hu, he, State.eventTaken]

theorem State.completionEvent_none (s : State) (e : Nat) (h : tget [] s.ord.rdDone (engStop e) = []) :
    s.completionEvent e = s := by
  unfold State.completionEvent
  dsimp only
  rw [State.takeDone_none s _ _ h]

/-! ### ARMED written 1 -/

/-- An event waits exactly if a pending register is not 0. -/
theorem State.any_pend_armed (s : State) (x : Nat) :
    (List.range 8).any (fun i => (s.fput F.SLICE.EVT_CFG.ARMED true x).fget F.SLICE.EVT_PEND.PEND x i != 0) = true
      ↔ ∃ i : Fin 8, s.fget F.SLICE.EVT_PEND.PEND x i ≠ 0 := by
  rw [List.any_eq_true]
  constructor
  · rintro ⟨i, hi, hp⟩
    have hi8 := List.mem_range.mp hi
    rw [State.fget_fput_armed_pend s true x i hi8, bne_iff_ne] at hp
    exact ⟨⟨i, hi8⟩, hp⟩
  · rintro ⟨i, hp⟩
    refine ⟨i, List.mem_range.mpr i.isLt, ?_⟩
    rwa [State.fget_fput_armed_pend s true x i i.isLt, bne_iff_ne]

theorem State.sliceState_fput_armed (s : State) (b : Bool) (x : Nat) :
    (s.fput F.SLICE.EVT_CFG.ARMED b x).sliceState x = s.sliceState x :=
  State.fget_fput_apart s _ F.SLICE.MSTS.STATE b _ _ _ _ _ _ (by decide)

theorem State.fbit_en_fput_armed (s : State) (b : Bool) (x : Nat) :
    (s.fput F.SLICE.EVT_CFG.ARMED b x).fbit F.SLICE.EVT_CFG.EN x = s.fbit F.SLICE.EVT_CFG.EN x := by
  rw [State.fbit, State.fget_fput_apart _ _ _ _ _ _ _ _ _ _ (by decide), State.fbit]

/-- Without an event that waits, or where the slice presents no interrupt, the slice is armed. -/
theorem State.evtRearm_arms (s : State) (x : Nat) (h : (∀ i : Fin 8, s.fget F.SLICE.EVT_PEND.PEND x i = 0)
      ∨ s.sliceState x ≠ 1 ∨ s.fbit F.SLICE.EVT_CFG.EN x = false) :
    s.evtRearm x = s.fput F.SLICE.EVT_CFG.ARMED true x := by
  simp only [State.evtRearm, State.any_pend_armed]
  split
  next hsome =>
    obtain ⟨i, hi⟩ := hsome
    apply State.sliceIrq_quiet
    rw [State.sliceState_fput_armed, State.fbit_en_fput_armed]
    rcases h with h | h | h
    · exact absurd (h i) hi
    · exact .inl h
    · exact .inr (.inl h)
  next => rfl

/-- With one, it presents its interrupt at once. -/
theorem State.evtRearm_presents (s : State) (x : Nat) (i : Fin 8) (hp : s.fget F.SLICE.EVT_PEND.PEND x i ≠ 0)
    (hlive : s.sliceState x = 1) (hen : s.fbit F.SLICE.EVT_CFG.EN x = true) :
    (s.evtRearm x).fbit F.SLICE.EVT_CFG.ARMED x = false ∧ x ∈ (s.evtRearm x).irq.slices := by
  simp only [State.evtRearm, if_pos ((State.any_pend_armed s x).mpr ⟨i, hp⟩)]
  exact State.sliceIrq_presents _ x ((State.sliceState_fput_armed s true x).trans hlive)
    ((State.fbit_en_fput_armed s true x).trans hen) (State.fbit_fput _ _ _ _ _ _ _ (by decide))

end Sys2Proof.Machine
end
section
/-! Doorbells, completion events and re-arming, as the commands bring them. -/

namespace Sys2Proof.Machine

/-! ### DOORBELL and EVT_CFG written at the slice page -/

/-- A write to a slice page clears QUIET and leaves the page's other fields to its own rule (R527). -/
theorem State.fget_touch_slice (s : State) (x : Nat) (g : Fld) (hg : Fld.apart (F.HDR.PG_STS.QUIET .slice) g = true) :
    (s.touch .slice x).fget g x = s.fget g x :=
  State.fget_fput_apart s _ g false x 0 0 x 0 0 hg

theorem exec_doorbellWrite (x : SliceNo) (tail : BitVec 16) (o : BitVec 8) (s : State) :
    exec (.doorbellWrite x tail o) s = .next ((s.touch .slice x).doorbellWrite x tail.toNat o.toNat) := rfl

theorem fget_doorbell_written (x : SliceNo) (tail : BitVec 16) (o : BitVec 8) (s : State) :
    (s.doorbellWrite x tail.toNat o.toNat).fget F.SLICE.DOORBELL.TAIL x = tail.toNat
      ∧ (s.doorbellWrite x tail.toNat o.toNat).fget F.SLICE.DOORBELL.QOFF x = o.toNat := by
  obtain ⟨htail, hqoff⟩ := s.fget_doorbellWrite x tail.toNat o.toNat
  exact ⟨htail.trans (Nat.mod_eq_of_lt tail.isLt), hqoff.trans (Nat.mod_eq_of_lt o.isLt)⟩

theorem exec_doorbellWrite_outside (x : SliceNo) (tail : BitVec 16) (o : BitVec 8) (s : State)
    (h : s.fget F.SLICE.ACC_Q.QCNT x ≤ o.toNat) :
    ∃ t, exec (.doorbellWrite x tail o) s = .next t
      ∧ s.Raised t (F.HDR.PG_ERR_CNT.CNT .slice) x ∧ t.fget F.SLICE.DOORBELL.TAIL x = tail.toNat
      ∧ (∀ f ∈ t.net.flight, f ∉ s.net.flight → vbits f.msg 60 4 ≠ 9)
      ∧ (s.fget (F.HDR.PG_ERR_FIRST.CODE .slice) x = 0 → t.fget (F.HDR.PG_ERR_FIRST.CODE .slice) x = 0x82) := by
  rw [← s.fget_touch_slice x _ (by decide)] at h
  obtain ⟨hcount, hflight, hfirst⟩ := (s.touch .slice x).doorbellWrite_outside x tail.toNat o.toNat h
  rw [State.Raised, s.fget_touch_slice x _ (by decide)] at hcount
  rw [s.fget_touch_slice x _ (by decide)] at hfirst
  refine ⟨_, exec_doorbellWrite x tail o s, hcount, (fget_doorbell_written x tail o _).1, fun f hf hnew => ?_, hfirst⟩
  have htype : vbits f.msg 60 4 = 0xD := hflight f hf hnew
  rw [htype]
  decide

theorem exec_doorbellWrite_within (x : SliceNo) (tail : BitVec 16) (o : BitVec 8) (s : State) (q : Nat) (m : Msg)
    (h : o.toNat < s.fget F.SLICE.ACC_Q.QCNT x) (hq : q = (s.fget F.SLICE.ACC_Q.QBASE x + o.toNat) % 65536)
    (hm : m = doorbellMsg (s.qmapCopy q) 62 q tail.toNat (s.sliceGen x)) :
    ∃ t, exec (.doorbellWrite x tail o) s = .next t
      ∧ t.net.flight = s.net.flight ++ [msgToOne m] ∧ t.fget F.SLICE.DOORBELL.TAIL x = tail.toNat
      ∧ t.fget F.SLICE.DOORBELL.QOFF x = o.toNat ∧ t.units = s.units := by
  rw [← s.fget_touch_slice x _ (by decide)] at h hq
  obtain ⟨hflight, hunits⟩ := (s.touch .slice x).doorbellWrite_within x tail.toNat o.toNat h
  obtain ⟨htail, hqoff⟩ := fget_doorbell_written x tail o (s.touch .slice x)
  have hgen : (s.touch .slice x).sliceGen x = s.sliceGen x := s.fget_touch_slice x F.SLICE.MSTS.SGEN (by decide)
  refine ⟨_, exec_doorbellWrite x tail o s, ?_, htail, hqoff, hunits⟩
  rw [hflight, ← hq, hgen, hm]
  rfl

theorem exec_evtRearm (x : SliceNo) (s : State) :
    exec (.evtRearm x) s = .next ((s.touch .slice x).evtRearm x) := rfl

/-- What ARMED's rule reads is not QUIET. -/
theorem State.touch_slice_reads (s : State) (x : Nat) :
    (∀ i : Fin 8, (s.touch .slice x).fget F.SLICE.EVT_PEND.PEND x i = s.fget F.SLICE.EVT_PEND.PEND x i)
      ∧ (s.touch .slice x).sliceState x = s.sliceState x
      ∧ (s.touch .slice x).fbit F.SLICE.EVT_CFG.EN x = s.fbit F.SLICE.EVT_CFG.EN x :=
  ⟨fun i => State.fget_touch s .slice x _ x i 0 0 (by revert i; decide),
    s.fget_touch_slice x F.SLICE.MSTS.STATE (by decide),
    congrArg (· == 1) (s.fget_touch_slice x F.SLICE.EVT_CFG.EN (by decide))⟩

/-! ### DOORBELL at a node -/

theorem exec_doorbell_elsewhere (n : Node) (m : Msg) (s : State) (h : msgOk m = true) (hn : isEngStop n = false) :
    exec (.doorbell n m) s = .next (s.take n m) :=
  (execDoorbell_of_msgOk n m s h).trans (by rw [hn]; rfl)

theorem exec_doorbell_engine (n : Node) (m : Msg) (s : State) (h : msgOk m = true) (hn : isEngStop n = true) :
    exec (.doorbell n m) s
      = .next ((s.take n m).doorbell (n / 7) (vbits m 32 16) (vbits m 16 16) (vbits m 12 4)) :=
  (execDoorbell_of_msgOk n m s h).trans (by rw [hn]; rfl)

/-! ### COMPLETION_EVENT -/

theorem exec_completionEvent (e : EngNo) (s : State) : exec (.completionEvent e) s = .next (s.completionEvent e) := rfl

/-- Settles O47: the write at the slice page, the message at the engine, the ended event read and re-arming, each by the
rule of its operation. -/
theorem doorbellsAndEventsReachTheirOwner : Obligations.DoorbellsAndEventsReachTheirOwner := by
  unfold Obligations.DoorbellsAndEventsReachTheirOwner
  refine ⟨?write, exec_doorbell_elsewhere, ?engine, ?noEvent, ?event, ?rearm⟩
  case write =>
    exact fun x tail o s => ⟨exec_doorbellWrite_outside x tail o s, exec_doorbellWrite_within x tail o s⟩
  case engine =>
    intro n m s e q tail c hok hn he hq ht hc
    subst he hq ht hc
    rw [exec_doorbell_engine n m s hok hn]
    constructor
    · intro hres
      have hrule := (s.take n m).doorbell_of_resident _ _ (vbits m 16 16) (vbits m 12 4) hres
      refine ⟨fun hgen => ?_, fun hgen hst => ?_, fun hgen hst hold => ?_, fun hgen hst hnew hfull => ?_,
        fun hgen hst hnew hroom => ?_⟩
      · rw [hrule]
        exact congrArg _ (if_pos hgen)
      · rw [hrule]
        exact congrArg _ ((if_neg (not_not_intro hgen)).trans (if_pos hst))
      · rw [hrule]
        exact congrArg _ ((if_neg (not_not_intro hgen)).trans ((if_neg hst).trans (if_pos hold)))
      · obtain ⟨hmarks, hfirst⟩ := (s.take n m).doorbell_overfull _ _ _ _ hres hgen hst hnew hfull
        obtain ⟨htail, -, hnow⟩ := (QCtx.marks_eq_iff ..).mp hmarks
        exact ⟨_, rfl, hnow, htail, hfirst⟩
      · have hmarks := (s.take n m).doorbell_forward _ _ _ _ hres hgen hst hnew hroom
        exact ⟨_, rfl, (QCtx.marks_eq_iff ..).mp hmarks⟩
    · exact fun habs => ⟨fun x hx => congrArg _ ((s.take n m).doorbell_forwarded _ _ _ _ habs x hx),
        fun hx => ⟨_, rfl, (s.take n m).doorbell_stray _ _ _ _ habs hx⟩⟩
  case noEvent =>
    exact fun e s h => (exec_completionEvent e s).trans (congrArg _ (s.completionEvent_none e h))
  case event =>
    intro e s r n q x k hr hu hev hx hk
    have htaken := s.completionEvent_single e n q r hr hu hev
    rw [← hx] at htaken
    obtain ⟨heng, hord⟩ := (s.eventTaken (engStop e) e).evtPend_eng_ord x q
    refine ⟨_, (exec_completionEvent e s).trans (congrArg _ htaken), ?_, ?_, State.evtPend_sets _ x q k hk, fun h => ?_,
      State.evtPend_irq (s.eventTaken (engStop e) e) x q, State.evtPend_presents (s.eventTaken (engStop e) e) x q k hk⟩
    · rw [heng, State.eventTaken_events]
    · rw [hord, State.eventTaken_rdDone]
    · rw [State.evtPend_outside _ x q (hk ▸ h)]
      rfl
  case rearm =>
    intro x s
    obtain ⟨hpend, hstate, hen⟩ := s.touch_slice_reads x
    constructor
    · intro h
      refine (exec_evtRearm x s).trans (congrArg _ ((s.touch .slice x).evtRearm_arms x ?_))
      simpa only [hpend, hstate, hen] using h
    · intro i hp hlive hon
      rw [← hpend] at hp
      exact ⟨_, exec_evtRearm x s, (s.touch .slice x).evtRearm_presents x i hp (hstate.trans hlive) (hen.trans hon)⟩

end Sys2Proof.Machine
end
section
/-! What the operations of a sector's transitions leave to be read (15_power_sectors): the fields of PS_STS, the messages to
the sector's stops, and the refusal of a sleep (Table 15-2). -/

namespace Sys2Proof.Machine

/-! ### PHASE, STEP and RES -/

theorem State.fget_setPhase_apart (s : State) (x p : Nat) (g : Fld) (i b k : Nat)
    (hphase : Fld.apart F.PWR.PS_STS.PHASE g = true) (hstep : Fld.apart F.PWR.PS_STS.STEP g = true) :
    (s.setPhase x p).fget g i 0 b k = s.fget g i 0 b k := by
  rw [State.setPhase, State.fget_fset_apart _ _ _ _ _ _ _ _ _ _ hstep, State.fget_fset_apart _ _ _ _ _ _ _ _ _ _ hphase]

theorem State.pwrPhase_setPhase (s : State) (x p : Nat) (hp : p < 8) : (s.setPhase x p).pwrPhase x = p := by
  rw [State.pwrPhase, State.setPhase, State.fget_fset_apart _ _ _ _ _ _ _ _ _ _ (by decide), State.fget_fset]
  exact Nat.mod_eq_of_lt hp

theorem State.step_setPhase (s : State) (x p : Nat) : (s.setPhase x p).fget F.PWR.PS_STS.STEP x = 0 :=
  State.fget_fset ..

theorem State.sectorState_setPhase (s : State) (x p : Nat) : (s.setPhase x p).sectorState x = s.sectorState x :=
  s.fget_setPhase_apart x p _ _ _ _ (by decide) (by decide)

theorem State.sectorState_pwrRes (s : State) (x r : Nat) : (s.pwrRes x r).sectorState x = s.sectorState x :=
  s.fget_fset_apart _ _ _ _ _ _ _ _ _ (by decide)

theorem State.sectorState_record (s : State) (c : Cls) (i code u v x : Nat) :
    (s.record c i code u v).sectorState x = s.sectorState x :=
  State.fget_record s c i code u v 0 false F.PWR.PS_STS.STATE x 0 0 0 (by decide)

/-! ### PWR_CMD to the stops of a sector -/

theorem State.pwrCmdAll_eq_sends (s : State) (x op : Nat) (flag : Bool) (count : Nat) :
    s.pwrCmdAll x op flag count = ((sectorStops x).map (fun k =>
      mkCtrl 6 k (pwrNode x) [(42, 2, op), (41, 1, b2n flag), (25, 16, count)])).foldl State.send s :=
  List.foldl_map.symm

theorem State.pwrCmdAll_flight (s : State) (x op : Nat) (flag : Bool) (count : Nat) :
    (s.pwrCmdAll x op flag count).net.flight = s.net.flight ++ ((sectorStops x).map (fun k =>
      mkCtrl 6 k (pwrNode x) [(42, 2, op), (41, 1, b2n flag), (25, 16, count)])).map msgToOne := by
  rw [State.pwrCmdAll_eq_sends, State.sends_flight]

theorem State.pwrCmdAll_regs (s : State) (x op : Nat) (flag : Bool) (count : Nat) :
    (s.pwrCmdAll x op flag count).regs = s.regs := by
  rw [State.pwrCmdAll_eq_sends, State.sends_regs]

theorem State.pwr_of_core {s t : State} (h : t.core = s.core) : t.pwr = s.pwr := by
  have hp := congrArg State.pwr h
  exact hp

theorem State.nodeTick_of_core {s t : State} (h : t.core = s.core) (n : Nat) : t.nodeTick n = s.nodeTick n := by
  have ht := congrArg State.tick h
  exact congrArg (fun a => tget 0 a.nodeCount n) ht

theorem State.pwrCmdAll_pwr (s : State) (x op : Nat) (flag : Bool) (count : Nat) :
    (s.pwrCmdAll x op flag count).pwr = s.pwr := by
  rw [State.pwrCmdAll_eq_sends]
  exact State.pwr_of_core (State.core_sends _ s)

/-! ### The record of power alone -/

def State.setPwr (s : State) (p : PwrSt) : State := { s with pwr := p }

@[simp] theorem State.setPwr_pwr (s : State) (p : PwrSt) : (s.setPwr p).pwr = p := rfl
@[simp] theorem State.setPwr_regs (s : State) (p : PwrSt) : (s.setPwr p).regs = s.regs := rfl
@[simp] theorem State.setPwr_net (s : State) (p : PwrSt) : (s.setPwr p).net = s.net := rfl

/-! ### A transition starts -/

/-- The power record once a transition of sector `x` to state `t` starts at tick `now`. -/
def PwrSt.started (p : PwrSt) (x t now : Nat) : PwrSt :=
  { p with tgt := tset 0 p.tgt x t, trStart := tset 0 p.trStart x now, phaseAt := tset 0 p.phaseAt x 0 }

theorem State.startTr_pwr (s : State) (x t phase : Nat) :
    (s.startTr x t phase).pwr = s.pwr.started x t (s.nodeTick (pwrNode x)) := rfl

theorem State.startTr_regs (s : State) (x t phase : Nat) :
    (s.startTr x t phase).regs = ((s.setPhase x phase).fset F.PWR.TR_STS.LSG_WAIT 0 x).regs := rfl

theorem State.fget_startTr_apart (s : State) (x t phase : Nat) (g : Fld) (i b k : Nat)
    (h : Fld.apart F.PWR.TR_STS.LSG_WAIT g = true) :
    (s.startTr x t phase).fget g i 0 b k = (s.setPhase x phase).fget g i 0 b k :=
  (State.fget_congr (s.startTr_regs x t phase) ..).trans (State.fget_fset_apart _ _ _ _ _ _ _ _ _ _ h)

/-! ### The refusal of a sleep -/

/-- It looks at fields of other pages alone, outside their headers. -/
theorem State.sleepRefusal_congr {s t : State} (x : Nat)
    (h : ∀ (g : Fld) (i e : Nat), g.cls ≠ .pwr → g.plain e = true → t.fget g i e = s.fget g i e) :
    t.sleepRefusal x = s.sleepRefusal x := by
  have hrange : List.range 4 = [0, 1, 2, 3] := rfl
  simp only [State.sleepRefusal, State.fbit, hrange, List.any_cons, List.any_nil]
  simp (disch := decide) only [h]

theorem State.sleepRefusal_fset_pwr (s : State) (f : Fld) (v i x : Nat) (hf : f.cls = .pwr) (hoff : f.off < 4096)
    (hlo : f.lo < 32) : (s.fset f v i).sleepRefusal x = s.sleepRefusal x := by
  refine State.sleepRefusal_congr x fun g i' e hg hp => State.fget_fset_place _ _ _ _ _ _ _ _ _ _ _ _ ?_
  simp only [Fld.plain, Bool.and_eq_true, decide_eq_true_eq] at hp
  obtain ⟨⟨⟨⟨-, hgoff, hglo⟩, -⟩, -⟩, -⟩ := hp
  refine Fld.place_cls f g _ _ _ _ (by simpa [Fld.offAt] using hoff) (by simpa [Fld.loAt] using hlo) hgoff hglo ?_
  rw [hf]
  revert hg
  cases g.cls <;> decide

theorem State.sleepRefusal_record (s : State) (c : Cls) (i code u v x : Nat) :
    (s.record c i code u v).sleepRefusal x = s.sleepRefusal x :=
  State.sleepRefusal_congr x fun g i' e _ hp => State.fget_record s c i code u v 0 false g i' e 0 0 hp

theorem State.sleepRefusal_of_regs {s t : State} (h : t.regs = s.regs) (x : Nat) : t.sleepRefusal x = s.sleepRefusal x :=
  State.sleepRefusal_congr x fun _ _ _ _ _ => State.fget_congr h ..

/-! ### A sleep begins to close the sector -/

/-- The power record once a sleep to state `t` begins to close sector `x` at boundary `b`. -/
def PwrSt.closing (p : PwrSt) (x t b : Nat) : PwrSt :=
  { p with tgt := tset 0 p.tgt x t, closeAt := tset 0 p.closeAt x (1 + b), empty := tset 0 p.empty x 0 }

/-- A sleep that is not refused closes the sector from the next boundary on (R403). -/
theorem State.takeAwake_closes (s : State) (x t : Nat) (ht : 2 ≤ t) (hr : s.sleepRefusal x = 0) :
    s.takeAwake x t = (((s.pwrRes x 0).setPhase x 2).setPwr
      (s.pwr.closing x t (wrapAdd 48 (s.nodeTick (pwrNode x)) 1))).pwrCmdAll x 0 false
        (wrapAdd 48 (s.nodeTick (pwrNode x)) 1) := by
  rw [State.takeAwake, if_neg (Nat.not_lt.mpr ht), if_neg (not_not_intro hr)]
  rfl

theorem State.takeAwake_closes_regs (s : State) (x t : Nat) (ht : 2 ≤ t) (hr : s.sleepRefusal x = 0) :
    (s.takeAwake x t).regs = ((s.pwrRes x 0).setPhase x 2).regs := by
  rw [s.takeAwake_closes x t ht hr, State.pwrCmdAll_regs, State.setPwr_regs]

theorem State.takeAwake_closes_pwr (s : State) (x t : Nat) (ht : 2 ≤ t) (hr : s.sleepRefusal x = 0) :
    (s.takeAwake x t).pwr = s.pwr.closing x t (wrapAdd 48 (s.nodeTick (pwrNode x)) 1) := by
  rw [s.takeAwake_closes x t ht hr, State.pwrCmdAll_pwr, State.setPwr_pwr]

/-- The state of the sector stays, and so does a TARGET that waits. -/
theorem State.takeAwake_closes_reads (s : State) (x t : Nat) (ht : 2 ≤ t) (hr : s.sleepRefusal x = 0) :
    (s.takeAwake x t).pwrPhase x = 2 ∧ (s.takeAwake x t).pwrTgt x = t
      ∧ (s.takeAwake x t).pwr.pendTgt = s.pwr.pendTgt ∧ (s.takeAwake x t).sectorState x = s.sectorState x := by
  have hregs := s.takeAwake_closes_regs x t ht hr
  refine ⟨(State.fget_congr hregs ..).trans (State.pwrPhase_setPhase _ x 2 (by decide)), ?_, ?_,
    (State.fget_congr hregs ..).trans ((State.sectorState_setPhase _ x 2).trans (s.sectorState_pwrRes x 0))⟩
  · rw [State.pwrTgt, s.takeAwake_closes_pwr x t ht hr, PwrSt.closing, tget_tset_same]
  · rw [s.takeAwake_closes_pwr x t ht hr, PwrSt.closing]

/-! ### A close is given up -/

/-- The power record once the close of sector `x` is given up. -/
def PwrSt.givenUp (p : PwrSt) (x : Nat) : PwrSt :=
  { p with closeAt := tset 0 p.closeAt x 0, pendTgt := tset 0 p.pendTgt x 0 }

/-- What a close that is given up leaves before a TARGET that waits is taken (R405, Table 15-7). -/
def State.closeGivenUp (s : State) (x res : Nat) : State :=
  let s1 := ((s.pwrRes x res).setPhase x 0).pwrCmdAll x 1 false (s.nodeTick (pwrNode x))
  s1.setPwr (s1.pwr.givenUp x)

theorem State.abandonClose_of_no_target (s : State) (x res : Nat) (h : tget 0 s.pwr.pendTgt x = 0) :
    s.abandonClose x res = s.closeGivenUp x res :=
  if_neg (not_not_intro h)

theorem State.abandonClose_of_target (s : State) (x res p : Nat) (h : tget 0 s.pwr.pendTgt x = p + 1) :
    s.abandonClose x res = (s.closeGivenUp x res).takeAwake x p :=
  (if_pos (h ▸ Nat.succ_ne_zero p)).trans (by rw [h]; rfl)

theorem State.closeGivenUp_regs (s : State) (x res : Nat) :
    (s.closeGivenUp x res).regs = ((s.pwrRes x res).setPhase x 0).regs := by
  rw [State.closeGivenUp, State.setPwr_regs, State.pwrCmdAll_regs]

theorem State.closeGivenUp_pwr (s : State) (x res : Nat) : (s.closeGivenUp x res).pwr = s.pwr.givenUp x := by
  rw [State.closeGivenUp, State.setPwr_pwr, State.pwrCmdAll_pwr]
  rfl

theorem State.closeGivenUp_closeAt (s : State) (x res : Nat) : tget 0 (s.closeGivenUp x res).pwr.closeAt x = 0 := by
  rw [State.closeGivenUp_pwr, PwrSt.givenUp, tget_tset_same]

theorem State.closeGivenUp_pendTgt (s : State) (x res : Nat) : tget 0 (s.closeGivenUp x res).pwr.pendTgt x = 0 := by
  rw [State.closeGivenUp_pwr, PwrSt.givenUp, tget_tset_same]

theorem State.closeGivenUp_flight (s : State) (x res : Nat) :
    (s.closeGivenUp x res).net.flight = s.net.flight ++ ((sectorStops x).map (fun k =>
      mkCtrl 6 k (pwrNode x) [(42, 2, 1), (41, 1, 0), (25, 16, s.nodeTick (pwrNode x))])).map msgToOne := by
  rw [State.closeGivenUp, State.setPwr_net, State.pwrCmdAll_flight]
  rfl

theorem State.fget_closeGivenUp_apart (s : State) (x res : Nat) (g : Fld) (i b k : Nat)
    (hphase : Fld.apart F.PWR.PS_STS.PHASE g = true) (hstep : Fld.apart F.PWR.PS_STS.STEP g = true)
    (hres : Fld.apart F.PWR.PS_STS.RES g = true) : (s.closeGivenUp x res).fget g i 0 b k = s.fget g i 0 b k := by
  rw [State.fget_congr (s.closeGivenUp_regs x res), State.fget_setPhase_apart _ _ _ _ _ _ _ hphase hstep]
  exact State.fget_fset_apart _ _ _ _ _ _ _ _ _ _ hres

theorem State.sectorState_closeGivenUp (s : State) (x res : Nat) : (s.closeGivenUp x res).sectorState x = s.sectorState x :=
  s.fget_closeGivenUp_apart x res _ _ _ _ (by decide) (by decide) (by decide)

theorem State.pwrPhase_closeGivenUp (s : State) (x res : Nat) : (s.closeGivenUp x res).pwrPhase x = 0 :=
  (State.fget_congr (s.closeGivenUp_regs x res) ..).trans (State.pwrPhase_setPhase _ x 0 (by decide))

theorem State.res_closeGivenUp (s : State) (x res : Nat) (h : res < 8) :
    (s.closeGivenUp x res).fget F.PWR.PS_STS.RES x = res := by
  rw [State.fget_congr (s.closeGivenUp_regs x res), State.fget_setPhase_apart _ _ _ _ _ _ _ (by decide) (by decide),
    State.pwrRes, State.fget_fset]
  exact Nat.mod_eq_of_lt h

theorem State.sleepRefusal_closeGivenUp (s : State) (x res : Nat) :
    (s.closeGivenUp x res).sleepRefusal x = s.sleepRefusal x := by
  rw [State.sleepRefusal_of_regs (s.closeGivenUp_regs x res), State.setPhase, State.pwrRes,
    State.sleepRefusal_fset_pwr _ F.PWR.PS_STS.STEP _ _ _ rfl (by decide) (by decide),
    State.sleepRefusal_fset_pwr _ F.PWR.PS_STS.PHASE _ _ _ rfl (by decide) (by decide),
    State.sleepRefusal_fset_pwr _ F.PWR.PS_STS.RES _ _ _ rfl (by decide) (by decide)]

/-! ### The record of an error: its second word and the messages on the ring -/

/-- The first error of a page leaves its second word in PG_ERR_INFO1 (R529). -/
theorem State.fget_record_info1 (s : State) (c : Cls) (i code u v ident : Nat) (inj : Bool)
    (h : s.fget (F.HDR.PG_ERR_FIRST.CODE c) i = 0) :
    (s.record c i code u v ident inj).fget (F.HDR.PG_ERR_INFO1.INFO1 c) i = v % 2 ^ 32 := by
  simp only [State.record, State.fget_sillage, h, if_true]
  rw [State.fget_intSet_header (by cases c <;> decide), State.fget_fset]
  rfl

theorem State.sillage_flight_prefix (s : State) (n code info : Nat) (inj : Bool) :
    s.net.flight <+: (s.sillage n code info inj).net.flight := by
  simp only [State.sillage]
  split
  · exact List.prefix_rfl
  · split
    · exact List.prefix_rfl
    · rw [State.sends_flight]
      exact List.prefix_append ..

/-- A record adds messages behind those on the ring. -/
theorem State.record_flight_prefix (s : State) (c : Cls) (i code u v ident : Nat) (inj : Bool) :
    s.net.flight <+: (s.record c i code u v ident inj).net.flight := by
  refine List.IsPrefix.trans ?_ (State.sillage_flight_prefix ..)
  split <;> exact List.prefix_rfl

end Sys2Proof.Machine
end
section
/-! The close of a power sector (R144, R403-R405): the commands PWR_CMD, SECTOR_EMPTY and CLOSE_TIMEOUT. -/

namespace Sys2Proof.Machine

/-! ### PWR_CMD -/

theorem exec_pwrCmd (c : Stop → Msg → Instr) (hc : c ∈ [Instr.pwrCmdClose, .pwrCmdReopen, .pwrCmdEmpty]) (n : Stop)
    (m : Msg) (s : State) (h : msgOk m = true) : exec (c n m) s = .next ((s.take n m).pwrCmd n m) := by
  have hmsg : s.pwrCmdMsg n m = (s.take n m).pwrCmd n m := by
    simp only [State.pwrCmdMsg, h, Bool.not_true, Bool.false_eq_true, if_false]
  rw [← hmsg]
  simp only [List.mem_cons, List.not_mem_nil, or_false] at hc
  obtain rfl | rfl | rfl := hc <;> rfl

/-- CLOSE notes the boundary at which the stop begins to close (R403). -/
theorem State.pwrCmd_close (s : State) (n : Nat) (m : Msg) (h : vbits m 42 2 = 0) :
    s.pwrCmd n m = s.setPwr { s.pwr with closeReq := tset 0 s.pwr.closeReq n (1 + s.boundaryOf n (vbits m 25 16)) } := by
  simp only [State.pwrCmd, h, State.setPwr]

/-- REOPEN forgets a CLOSE that waits and opens the stop (R146). -/
theorem State.pwrCmd_reopen (s : State) (n : Nat) (m : Msg) (h : vbits m 42 2 = 1) :
    s.pwrCmd n m = (s.setPwr { s.pwr with closeReq := tset 0 s.pwr.closeReq n 0 }).reopen n (vbits m 41 1 == 1) := by
  simp only [State.pwrCmd, h, State.setPwr]

/-- The bits that EMPTY `m` leaves, those of another boundary forgotten (R404). -/
def emptyBits (old : Nat) (m : Msg) : Nat :=
  (if old / 256 = vbits m 25 16 then old % 256 else 0) ||| (if vbits m 41 1 = 1 then 2 ^ (msgSrc m % 7) else 0)

def State.setEmpty (s : State) (x v : Nat) : State := s.setPwr { s.pwr with empty := tset 0 s.pwr.empty x v }

/-- EMPTY is gathered at the owner, which looks whether all are empty (R404). -/
theorem State.pwrCmd_empty (s : State) (n : Nat) (m : Msg) (h : vbits m 42 2 = 2) :
    s.pwrCmd n m = (s.setEmpty (sectorOf n)
      (256 * vbits m 25 16 + emptyBits (tget 0 s.pwr.empty (sectorOf n)) m)).sectorEmpty (sectorOf n) := by
  simp only [State.pwrCmd, h, emptyBits, State.setEmpty, State.setPwr, beq_iff_eq, Nat.mul_comm 256]
  by_cases hflag : vbits m 41 1 = 1
  · rw [if_pos hflag, if_pos hflag]
  · rw [if_neg hflag, if_neg hflag, Nat.or_zero]

theorem b2n_vbits_one (m : Msg) (i : Nat) : b2n (vbits m i 1 == 1) = vbits m i 1 := by
  have h : vbits m i 1 < 2 := Nat.mod_lt _ (by decide)
  obtain h0 | h1 : vbits m i 1 = 0 ∨ vbits m i 1 = 1 := by omega
  · rw [h0]
    rfl
  · rw [h1]
    rfl

/-! ### Entry begins -/

theorem exec_sectorEmpty (x : Sector) (s : State) : exec (.sectorEmpty x) s = .next (s.sectorEmpty x) := rfl

theorem State.sectorEmpty_of_not (s : State) (x : Nat) (h : ¬(s.pwrPhase x = 2 ∧ tget 0 s.pwr.empty x % 128 = 127)) :
    s.sectorEmpty x = s := if_neg h

/-- The power record once sector `x` is entered: neither the gathering nor the close's time stands any more. -/
def PwrSt.entered (p : PwrSt) (x : Nat) : PwrSt :=
  { p with closeAt := tset 0 p.closeAt x 0, empty := tset 0 p.empty x 0 }

/-- Entry begins: a transition to the state that the close was for (R404). -/
theorem State.sectorEmpty_enters (s : State) (x : Nat) (h : s.pwrPhase x = 2 ∧ tget 0 s.pwr.empty x % 128 = 127) :
    s.sectorEmpty x = (s.startTr x (s.pwrTgt x) 3).setPwr ((s.startTr x (s.pwrTgt x) 3).pwr.entered x) := if_pos h

theorem State.sectorEmpty_pwr (s : State) (x : Nat) (h : s.pwrPhase x = 2 ∧ tget 0 s.pwr.empty x % 128 = 127) :
    (s.sectorEmpty x).pwrTgt x = s.pwrTgt x ∧ tget 0 (s.sectorEmpty x).pwr.closeAt x = 0
      ∧ tget 0 (s.sectorEmpty x).pwr.empty x = 0
      ∧ tget 0 (s.sectorEmpty x).pwr.trStart x = s.nodeTick (pwrNode x) := by
  rw [s.sectorEmpty_enters x h, State.pwrTgt, State.setPwr_pwr, State.startTr_pwr]
  simp only [PwrSt.entered, PwrSt.started, tget_tset_same, and_self]

theorem State.sectorEmpty_reads (s : State) (x : Nat) (h : s.pwrPhase x = 2 ∧ tget 0 s.pwr.empty x % 128 = 127) :
    (s.sectorEmpty x).pwrPhase x = 3 ∧ (s.sectorEmpty x).fget F.PWR.PS_STS.STEP x = 0
      ∧ (s.sectorEmpty x).sectorState x = s.sectorState x := by
  have hread : ∀ g, Fld.apart F.PWR.TR_STS.LSG_WAIT g = true → (s.sectorEmpty x).fget g x = (s.setPhase x 3).fget g x :=
    fun g hg => by
      rw [s.sectorEmpty_enters x h, State.fget_congr (State.setPwr_regs ..)]
      exact s.fget_startTr_apart _ _ _ g _ _ _ hg
  exact ⟨(hread _ (by decide)).trans (s.pwrPhase_setPhase x 3 (by decide)), (hread _ (by decide)).trans (s.step_setPhase x 3),
    (hread _ (by decide)).trans (s.sectorState_setPhase x 3)⟩

/-- An EMPTY gathered: with it entry begins, or its bits wait for those of the other stops. -/
theorem State.sectorEmpty_gathered (s t : State) (x cnt bits : Nat) (ht : t = (s.setEmpty x (256 * cnt + bits)).sectorEmpty x) :
    if s.pwrPhase x = 2 ∧ bits % 128 = 127 then t.pwrPhase x = 3 ∧ tget 0 t.pwr.empty x = 0
    else tget 0 t.pwr.empty x = 256 * cnt + bits ∧ t.regs = s.regs := by
  subst ht
  have hlow : bits % 128 = (256 * cnt + bits) % 128 := by omega
  rw [hlow]
  generalize 256 * cnt + bits = v
  have hgathered : tget 0 (s.setEmpty x v).pwr.empty x = v := by
    rw [State.setEmpty, State.setPwr_pwr, tget_tset_same]
  have hphase : (s.setEmpty x v).pwrPhase x = s.pwrPhase x := State.fget_congr (State.setPwr_regs ..) ..
  split
  case isTrue h =>
    have hall : (s.setEmpty x v).pwrPhase x = 2 ∧ tget 0 (s.setEmpty x v).pwr.empty x % 128 = 127 := by
      rwa [hphase, hgathered]
    obtain ⟨-, -, hempty, -⟩ := State.sectorEmpty_pwr _ x hall
    obtain ⟨hentering, -, -⟩ := State.sectorEmpty_reads _ x hall
    exact ⟨hentering, hempty⟩
  case isFalse h =>
    have hnot : ¬((s.setEmpty x v).pwrPhase x = 2 ∧ tget 0 (s.setEmpty x v).pwr.empty x % 128 = 127) := by
      rwa [hphase, hgathered]
    rw [State.sectorEmpty_of_not _ x hnot]
    exact ⟨hgathered, State.setPwr_regs ..⟩

/-! ### The close timeout -/

theorem exec_closeTimeout (x : Sector) (s : State) : exec (.closeTimeout x) s = .next (s.closeTimeout x) := rfl

/-- A close is recorded and given up when it lasts CLOSE_TO ticks after boundary `b` (R405). -/
theorem State.closeTimeout_recorded (s : State) (x b : Nat) (hphase : s.pwrPhase x = 2)
    (hat : tget 0 s.pwr.closeAt x = b + 1)
    (hpast : tickPast (s.nodeTick (pwrNode x)) b (max 1 (s.fget F.PWR.PS_CTL.CLOSE_TO x)) = true) :
    ∃ r, (∃ miss, r = s.record .pwr x 0xB3 miss (s.fget F.PWR.PS_CTL.TARGET x)) ∧ s.closeTimeout x = r.abandonClose x 6 := by
  refine ⟨_, ⟨_, rfl⟩, if_pos ⟨hphase, hat ▸ Nat.succ_ne_zero b, ?_⟩⟩
  rw [hat]
  exact hpast

theorem State.closeTimeout_early (s : State) (x b : Nat) (hat : tget 0 s.pwr.closeAt x = b + 1)
    (hpast : tickPast (s.nodeTick (pwrNode x)) b (max 1 (s.fget F.PWR.PS_CTL.CLOSE_TO x)) = false) :
    s.closeTimeout x = s := by
  refine if_neg fun ⟨_, _, h⟩ => ?_
  rw [hat] at h
  exact Bool.false_ne_true (hpast.symm.trans h)

theorem State.closeTimeout_open (s : State) (x : Nat) (h : s.pwrPhase x ≠ 2) : s.closeTimeout x = s :=
  if_neg fun hdue => h hdue.1

/-- The messages of a close that is given up stand behind those that its record adds. -/
theorem State.closeTimeout_flight (s : State) (x code u v res : Nat) :
    ((sectorStops x).map (fun k => mkCtrl 6 k (pwrNode x) [(42, 2, 1), (41, 1, 0), (25, 16, s.nodeTick (pwrNode x))])).map
      msgToOne <:+ ((s.record .pwr x code u v).closeGivenUp x res).net.flight.drop s.net.flight.length := by
  obtain ⟨sil, hsil⟩ := s.record_flight_prefix .pwr x code u v 0 false
  rw [State.closeGivenUp_flight, ← hsil, List.append_assoc, List.drop_left, State.nodeTick_of_core (State.core_record ..)]
  exact List.suffix_append ..

/-- Settles O32: the rule of each command, clause by clause. -/
theorem closesRunToTheirEnd : Obligations.ClosesRunToTheirEnd := by
  unfold Obligations.ClosesRunToTheirEnd
  refine ⟨?commands, ?enters, ?waits, ?retaken, ?givenUp, ?early, ?notClosing⟩
  case commands =>
    intro c hc n m s hok
    have hexec := exec_pwrCmd c hc n m s hok
    refine ⟨fun hop => ?close, fun hop => ?reopen, fun old bits hop hold hbits => ?empty⟩
    case close =>
      refine ⟨_, hexec.trans (congrArg _ ((s.take n m).pwrCmd_close n m hop)), ?_, State.setPwr_regs ..⟩
      rw [State.setPwr_pwr, tget_tset_same]
      rfl
    case reopen =>
      rw [hexec, State.pwrCmd_reopen _ _ _ hop, State.reopen, b2n_vbits_one]
      refine ⟨_, [], rfl, ?_, ?_, rfl, fun _ => rfl⟩
      · exact State.fbit_fput _ F.STOP.POOL_STS.CLOSING false n 0 0 0 (by decide)
      · rw [State.bcast_pwr, State.fput_pwr, State.setPwr_pwr, tget_tset_same]
    case empty =>
      subst hold hbits
      exact ⟨_, hexec.trans (congrArg _ ((s.take n m).pwrCmd_empty n m hop)), (s.take n m).sectorEmpty_gathered _ _ _ _ rfl⟩
  case enters =>
    intro x s hphase hall
    obtain ⟨htgt, hat, -, hstart⟩ := s.sectorEmpty_pwr x ⟨hphase, hall⟩
    obtain ⟨hentering, hstep, hstate⟩ := s.sectorEmpty_reads x ⟨hphase, hall⟩
    exact ⟨_, exec_sectorEmpty x s, hentering, hstep, htgt, hat, hstart, hstate⟩
  case waits =>
    exact fun x s h => (exec_sectorEmpty x s).trans (congrArg _ (s.sectorEmpty_of_not x h))
  case retaken =>
    intro x s b p hphase hat hpast _ hpend hp hrefuse
    obtain ⟨r, ⟨miss, hr⟩, hdue⟩ := s.closeTimeout_recorded x b hphase hat hpast
    have hrpend : tget 0 r.pwr.pendTgt x = p + 1 := by
      rw [hr, State.pwr_of_core (State.core_record ..), hpend]
    have hrefuse' : (r.closeGivenUp x 6).sleepRefusal x = 0 := by
      rw [State.sleepRefusal_closeGivenUp, hr, State.sleepRefusal_record, hrefuse]
    obtain ⟨hclosing, htgt, hkept, hstate⟩ := (r.closeGivenUp x 6).takeAwake_closes_reads x p hp hrefuse'
    refine ⟨_, (exec_closeTimeout x s).trans (congrArg _ (hdue.trans (r.abandonClose_of_target x 6 p hrpend))),
      hclosing, htgt, ?_, ?_⟩
    · rw [hkept, State.closeGivenUp_pendTgt]
    · rw [hstate, State.sectorState_closeGivenUp, hr, State.sectorState_record]
  case givenUp =>
    intro x s b hphase hat hpend hpast
    obtain ⟨r, ⟨miss, hr⟩, hdue⟩ := s.closeTimeout_recorded x b hphase hat hpast
    have hrpend : tget 0 r.pwr.pendTgt x = 0 := by
      rw [hr, State.pwr_of_core (State.core_record ..), hpend]
    refine ⟨_, (exec_closeTimeout x s).trans (congrArg _ (hdue.trans (r.abandonClose_of_no_target x 6 hrpend))),
      r.pwrPhase_closeGivenUp x 6, r.res_closeGivenUp x 6 (by decide), r.closeGivenUp_closeAt x 6, ?_,
      hr ▸ s.closeTimeout_flight x _ _ _ 6, fun hfirst => ⟨?_, ?_⟩⟩
    · rw [State.sectorState_closeGivenUp, hr, State.sectorState_record]
    · rw [State.fget_closeGivenUp_apart _ _ _ _ _ _ _ (by decide) (by decide) (by decide), hr]
      exact s.fget_record_first .pwr x _ _ _ 0 false hfirst
    · rw [State.fget_closeGivenUp_apart _ _ _ _ _ _ _ (by decide) (by decide) (by decide), hr]
      exact s.fget_record_info1 .pwr x _ _ _ 0 false hfirst
  case early =>
    exact fun x s b _ hat hpast => (exec_closeTimeout x s).trans (congrArg _ (s.closeTimeout_early x b hat hpast))
  case notClosing =>
    exact fun x s h => (exec_closeTimeout x s).trans (congrArg _ (s.closeTimeout_open x h))

end Sys2Proof.Machine
end
section
/-! What a memory stop's own work leaves alone (R284, R294-R298, R342): the accesses that a channel starts and the jobs that
it ends keep the fields of the table updates, their keys and entries, and an update whose first copy is being written. -/

namespace Sys2Proof.Machine

/-! ### What the pump keeps -/

/-- The tables' updates under way: their phases, keys and entries. -/
def MemSt.updates (m : MemSt) : Tbl Nat × Tbl Nat × Tbl Nat × Nat × Nat × Nat :=
  (m.upd, m.updKey, m.updVal, m.pbUpd, m.pbKey, m.pbVal)

/-- Channel `x`'s update is writing copy A or has it written (R284). -/
def MemSt.writesA (m : MemSt) (x : Nat) : Prop := tget 0 m.upd x = 1 ∨ tget 0 m.upd x = 4

/-- The binding update is writing its entry or has it written (R342). -/
def MemSt.writesPb (m : MemSt) : Prop := m.pbUpd = 1 ∨ m.pbUpd = 2

/-- A plain field other than the counters that a memory stop raises for its accesses (Table 10-7). -/
def Fld.uncounted (g : Fld) : Bool :=
  g.plain && Fld.apart F.MEM.ROW_WAIT_CNT g && Fld.apart F.MEM.POIS_CNT g && Fld.apart F.MEM.RECON_CNT g

/-- From `s` to `t` the updates of the tables keep their fields, keys and entries, and one whose first copy is being written or
has been written stays there. -/
structure State.UpdatesKept (s t : State) : Prop where
  fields : ∀ g : Fld, g.uncounted = true → ∀ i, t.fget g i = s.fget g i
  xltEntry : t.mem.updKey = s.mem.updKey ∧ t.mem.updVal = s.mem.updVal
  pbEntry : t.mem.pbKey = s.mem.pbKey ∧ t.mem.pbVal = s.mem.pbVal
  xlt : ∀ x, s.mem.writesA x → t.mem.writesA x
  pb : s.mem.writesPb → t.mem.writesPb

theorem State.mem_of_core {s t : State} (h : t.core = s.core) : t.mem = s.mem := by
  have hm := congrArg State.mem h
  exact hm

/-- The pages whose copy B a posted write fills are those that are writing it. -/
theorem State.copyBOf_writesB (s : State) (f : Flit) (h : s.copyBOf f ≠ 0) : tget 0 s.mem.upd (s.copyBOf f - 1) = 2 := by
  simp only [State.copyBOf] at h ⊢
  split at h
  next hb =>
    rw [if_pos hb]
    obtain ⟨_, _, _, hphase, _⟩ := hb
    exact hphase
  next => exact absurd rfl h

namespace State.UpdatesKept

variable {s t u : State}

theorem trans (h : UpdatesKept s t) (k : UpdatesKept t u) : UpdatesKept s u where
  fields g hg i := (k.fields g hg i).trans (h.fields g hg i)
  xltEntry := ⟨k.xltEntry.1.trans h.xltEntry.1, k.xltEntry.2.trans h.xltEntry.2⟩
  pbEntry := ⟨k.pbEntry.1.trans h.pbEntry.1, k.pbEntry.2.trans h.pbEntry.2⟩
  xlt x hx := k.xlt x (h.xlt x hx)
  pb hp := k.pb (h.pb hp)

/-- The updates are as they were, and so are their fields. -/
theorem of_updates (hm : t.mem.updates = s.mem.updates)
    (hf : ∀ g : Fld, g.uncounted = true → ∀ i, t.fget g i = s.fget g i) : UpdatesKept s t := by
  simp only [MemSt.updates, Prod.mk.injEq] at hm
  obtain ⟨hupd, hkey, hval, hpb, hpbKey, hpbVal⟩ := hm
  refine ⟨hf, ⟨hkey, hval⟩, ⟨hpbKey, hpbVal⟩, fun x hx => ?_, fun hp => ?_⟩
  · rwa [MemSt.writesA, hupd]
  · rwa [MemSt.writesPb, hpb]

theorem of_regs (hm : t.mem.updates = s.mem.updates) (hr : t.regs = s.regs) : UpdatesKept s t :=
  of_updates hm fun _ _ _ => State.fget_congr hr ..

theorem refl (s : State) : UpdatesKept s s := of_regs rfl rfl

theorem ite {p : Prop} [Decidable p] (h : UpdatesKept s t) (k : UpdatesKept s u) : UpdatesKept s (if p then t else u) := by
  split
  · exact h
  · exact k

theorem foldl {α : Type} (f : State → α → State) (l : List α) (hf : ∀ a, ∀ x ∈ l, UpdatesKept a (f a x)) :
    UpdatesKept s (l.foldl f s) :=
  List.foldlRecOn (motive := fun a => UpdatesKept s a) l f (refl s) (fun a ha x hx => ha.trans (hf a x hx))

/-- A page's phase changes: where it was at copy A it stays at copy A. -/
theorem setUpd (s : State) (x v : Nat) (h : s.mem.writesA x → v = 1 ∨ v = 4) :
    UpdatesKept s { s with mem := { s.mem with upd := tset 0 s.mem.upd x v } } := by
  refine ⟨fun _ _ _ => rfl, ⟨rfl, rfl⟩, ⟨rfl, rfl⟩, fun y hy => ?_, id⟩
  simp only [MemSt.writesA]
  by_cases hyx : y = x
  · subst hyx
    simpa only [tget_tset_same] using h hy
  · rwa [tget_tset_ne _ _ _ _ _ hyx]

theorem pbWritten (s : State) : UpdatesKept s { s with mem := { s.mem with pbUpd := 2 } } :=
  ⟨fun _ _ _ => rfl, ⟨rfl, rfl⟩, ⟨rfl, rfl⟩, fun _ => id, fun _ => .inr rfl⟩

/-! ### Counts and records -/

theorem rcInc (s : State) (f : Fld) (x : Nat) (hf : f ∈ [F.MEM.ROW_WAIT_CNT, F.MEM.POIS_CNT, F.MEM.RECON_CNT]) :
    UpdatesKept s (s.rcInc f x) := by
  refine of_updates (congrArg _ (State.mem_of_core (State.core_rcInc ..))) fun g hg i => ?_
  simp only [Fld.uncounted, Bool.and_eq_true] at hg
  obtain ⟨⟨⟨hplain, hwait⟩, hpois⟩, hrecon⟩ := hg
  refine State.fget_rcInc s f x 1 false g i 0 0 ?_ hplain
  simp only [List.mem_cons, List.not_mem_nil, or_false] at hf
  rcases hf with rfl | rfl | rfl
  · exact hwait
  · exact hpois
  · exact hrecon

theorem record (s : State) (c : Cls) (i code u v ident : Nat) : UpdatesKept s (s.record c i code u v ident) := by
  refine of_updates (congrArg _ (State.mem_of_core (State.core_record ..))) fun g hg j => ?_
  simp only [Fld.uncounted, Bool.and_eq_true] at hg
  obtain ⟨⟨⟨hplain, _⟩, _⟩, _⟩ := hg
  exact State.fget_record _ _ _ _ _ _ _ _ _ _ _ _ _ hplain

theorem memUe (s : State) (c : Nat) (j : MJob) (a : MAcc) : UpdatesKept s (s.memUe c j a) :=
  ite (record ..) (record ..)

theorem readCounts (s : State) (c : Nat) (j : MJob) : UpdatesKept s (s.readCounts c j) := by
  unfold State.readCounts
  split
  · exact (rcInc s _ c (by decide)).trans (memUe ..)
  · exact ite (rcInc s _ c (by decide)) (refl s)

theorem countWaits (s : State) (c : Nat) : UpdatesKept s (s.countWaits c) := by
  refine foldl _ _ fun a x _ => ite ?_ (refl a)
  have hset : UpdatesKept a (a.setAcc c x.1.id x.2.1 { x.2.2 with waited := true }) := of_regs rfl rfl
  exact hset.trans (rcInc _ _ c (by decide))

/-! ### Jobs end -/

theorem rowReleases (s : State) (c row : Nat) : UpdatesKept s (s.rowReleases c row) :=
  foldl _ _ fun _ _ _ => of_regs rfl rfl

theorem ownDone (s : State) (c what : Nat) : UpdatesKept s (s.ownDone c what) := by
  unfold State.ownDone
  split
  · exact ite (setUpd s c 4 fun _ => .inr rfl) (refl s)
  · exact ite (pbWritten s) (refl s)
  · exact refl s

/-- A posted write that fills a page's copy B finds that page's copy A written before. -/
theorem postDone (s : State) (f : Flit) (v : Nat) :
    UpdatesKept s (if s.copyBOf f ≠ 0 then { s with mem := { s.mem with upd := tset 0 s.mem.upd (s.copyBOf f - 1) v } }
      else s) := by
  split
  next h =>
    refine setUpd s _ v fun hx => ?_
    rw [MemSt.writesA, s.copyBOf_writesB f h] at hx
    omega
  next => exact refl s

/-- The end of every job but a direct read, whose answer is read from registers of its own. -/
theorem finishJob (s : State) (c : Nat) (j : MJob) (hj : j.kind ≠ .direct) : UpdatesKept s (s.finishJob c j) := by
  have hleft : UpdatesKept s (s.setJobs c ((s.jobs c).filter (fun x => x.id != j.id))) := of_regs rfl rfl
  refine hleft.trans ?_
  unfold State.finishJob
  generalize s.setJobs c ((s.jobs c).filter (fun x => x.id != j.id)) = a
  dsimp only
  split
  case h_1 => exact postDone ..
  case h_2 => exact (readCounts a c j).trans (of_regs rfl rfl)
  case h_3 => exact (readCounts a c j).trans (of_regs rfl rfl)
  case h_4 =>
    split <;> exact of_regs rfl rfl
  case h_5 => exact ownDone ..
  case h_6 hk => exact absurd hk hj
  case h_7 => exact rowReleases ..
  case h_8 => exact (readCounts a c j).trans (of_regs rfl rfl)

theorem finishAll (s : State) (c : Nat) : UpdatesKept s (s.finishAll c) := by
  refine foldl _ _ fun a j hj => finishJob a c j ?_
  have hp := (List.mem_filter.mp hj).2
  simp only [Bool.and_eq_true, bne_iff_ne] at hp
  obtain ⟨⟨hkind, _⟩, _⟩ := hp
  exact hkind

/-! ### Accesses start -/

section Access

variable (s : State) (c : Nat) (j : MJob) (i : Nat) (a : MAcc)

theorem setAcc (b : MAcc) : UpdatesKept s (s.setAcc c j.id i b) := of_regs rfl rfl

theorem rowReads : UpdatesKept s (s.rowReads c j i a) :=
  (setAcc s c j i _).trans (foldl _ _ fun _ _ _ => of_regs rfl rfl)

theorem sendDelta (new : Nat) : UpdatesKept s (s.sendDelta c a new) := ite (refl s) (of_regs rfl rfl)

theorem startWrite : UpdatesKept s (s.startWrite c j i a) := by
  refine ite (setAcc ..) (ite (trans (ite (sendDelta ..) (refl s)) (setAcc ..)) ?_)
  split
  · exact setAcc ..
  · exact refl s

theorem startAcc : UpdatesKept s (s.startAcc c j i a) := by
  refine ite (startWrite ..) (ite (rowReads ..) (ite (ite (rowReads ..) (of_regs rfl rfl)) (ite (setAcc ..)
    (ite (setAcc ..) (ite (setAcc ..) (ite (ite (setAcc ..) (rowReads ..)) ?_))))))
  split
  · exact refl s
  · exact setAcc ..

end Access

theorem memPump (s : State) (c n : Nat) : UpdatesKept s (s.memPump c n) := by
  induction n generalizing s with
  | zero => exact finishAll s c
  | succ n ih =>
    unfold State.memPump
    split
    next => exact finishAll s c
    next => exact ((startAcc s c ..).trans (finishAll _ c)).trans (ih _)

/-- A page's own write joins its channel's work. -/
theorem localWrite (s : State) (c what fma n v : Nat) : UpdatesKept s (s.localWrite c what fma n v) := by
  have hjoins : ∀ hdr accs, UpdatesKept s (s.addJob c (.own what) hdr 0 accs) := fun _ _ => of_regs rfl rfl
  exact (hjoins ..).trans ((countWaits ..).trans (memPump ..))

end State.UpdatesKept

end Sys2Proof.Machine
end
section
/-! The updates of the translation and the binding table (R284, R342, R343, R507): a write of GO, and the acknowledgements of
the invalidation. -/

namespace Sys2Proof.Machine

/-! ### The status of an update -/

/-- The fields of XLT_STS or PB_STS. -/
structure UpdSts where
  busy : Fld
  done : Fld
  res : Fld
  acks : Fld

def xltSts : UpdSts := ⟨F.MEM.XLT_STS.BUSY, F.MEM.XLT_STS.DONE, F.MEM.XLT_STS.RES, F.MEM.XLT_STS.ACKS⟩
def pbSts : UpdSts := ⟨F.GLB.PB_STS.BUSY, F.GLB.PB_STS.DONE, F.GLB.PB_STS.RES, F.GLB.PB_STS.ACKS⟩

/-- The fields lie apart from each other and hold a bit at least, and a memory stop's own work leaves them alone. -/
def UpdSts.distinct (f : UpdSts) : Bool :=
  decide (∀ g ∈ [f.acks, f.done, f.busy, f.res], g.uncounted = true ∧ g.width ≠ 0)
    && decide ([f.acks, f.done, f.busy, f.res].Pairwise (fun g h => Fld.apart g h = true ∧ Fld.apart h g = true))

/-- The status as an update begins. -/
def State.stsBegun (s : State) (f : UpdSts) (x : Nat) : State :=
  (((s.fset f.res 0 x).fput f.busy true x).fput f.done false x).fset f.acks 0 x

/-- The status at the last acknowledgement, number `a`. -/
def State.stsEnded (s : State) (f : UpdSts) (x a : Nat) : State :=
  ((s.fset f.acks a x).fput f.busy false x).fput f.done true x

section Status

variable {f : UpdSts} (hf : f.distinct = true) (s : State) (x : Nat)
include hf

theorem State.stsBegun_reads : (s.stsBegun f x).fget f.busy x = 1 ∧ (s.stsBegun f x).fget f.done x = 0
    ∧ (s.stsBegun f x).fget f.res x = 0 ∧ (s.stsBegun f x).fget f.acks x = 0 := by
  simp only [UpdSts.distinct, Bool.and_eq_true, decide_eq_true_eq, List.forall_mem_cons, List.pairwise_cons] at hf
  obtain ⟨⟨_, ⟨_, hdone⟩, ⟨_, hbusy⟩, _⟩, ⟨had, hab, har, _⟩, ⟨hdb, hdr, _⟩, ⟨hbr, _⟩, _⟩ := hf
  refine ⟨?_, ?_, ?_, (State.fget_fset ..).trans (Nat.zero_mod _)⟩
  · rw [State.stsBegun, State.fget_fset_apart _ _ _ _ _ _ _ _ _ _ hab.1, State.fget_fput_apart _ _ _ _ _ _ _ _ _ _ hdb.1,
      State.fget_fput _ _ _ _ _ _ _ hbusy]
    rfl
  · rw [State.stsBegun, State.fget_fset_apart _ _ _ _ _ _ _ _ _ _ had.1, State.fget_fput _ _ _ _ _ _ _ hdone]
    rfl
  · rw [State.stsBegun, State.fget_fset_apart _ _ _ _ _ _ _ _ _ _ har.1, State.fget_fput_apart _ _ _ _ _ _ _ _ _ _ hdr.1,
      State.fget_fput_apart _ _ _ _ _ _ _ _ _ _ hbr.1, State.fget_fset, Nat.zero_mod]

theorem State.stsEnded_reads (a : Nat) : (s.stsEnded f x a).fget f.acks x = a % 2 ^ f.acks.width
    ∧ (s.stsEnded f x a).fget f.done x = 1 ∧ (s.stsEnded f x a).fget f.busy x = 0 := by
  simp only [UpdSts.distinct, Bool.and_eq_true, decide_eq_true_eq, List.forall_mem_cons, List.pairwise_cons] at hf
  obtain ⟨⟨_, ⟨_, hdone⟩, ⟨_, hbusy⟩, _⟩, ⟨had, hab, _⟩, ⟨hdb, _⟩, _⟩ := hf
  refine ⟨?_, State.fget_fput _ _ _ _ _ _ _ hdone, ?_⟩
  · rw [State.stsEnded, State.fget_fput_apart _ _ _ _ _ _ _ _ _ _ had.2,
      State.fget_fput_apart _ _ _ _ _ _ _ _ _ _ hab.2, State.fget_fset]
  · rw [State.stsEnded, State.fget_fput_apart _ _ _ _ _ _ _ _ _ _ hdb.1, State.fget_fput _ _ _ _ _ _ _ hbusy]
    rfl

/-- A memory stop's own work after an update began leaves the status of its beginning. -/
theorem State.UpdatesKept.begun {s r t : State} {x : Nat} (h : UpdatesKept r t) (hr : r.regs = (s.stsBegun f x).regs) :
    t.fget f.busy x = 1 ∧ t.fget f.done x = 0 ∧ t.fget f.res x = 0 ∧ t.fget f.acks x = 0 := by
  have hreads := State.stsBegun_reads hf s x
  simp only [UpdSts.distinct, Bool.and_eq_true, decide_eq_true_eq, List.forall_mem_cons] at hf
  obtain ⟨⟨⟨hacks, _⟩, ⟨hdone, _⟩, ⟨hbusy, _⟩, ⟨hres, _⟩, _⟩, _⟩ := hf
  rwa [h.fields _ hbusy, h.fields _ hdone, h.fields _ hres, h.fields _ hacks, State.fget_congr hr, State.fget_congr hr,
    State.fget_congr hr, State.fget_congr hr]

end Status

/-! ### Whether a write of GO is performed (R507) -/

theorem State.updates_open (s : State)
    (h : s.fbit F.PAIR.PAIR_CTL.MIRROR = false ∨ s.fbit F.PAIR.PAIR_CTL.PRIMARY = true) :
    (s.fbit F.PAIR.PAIR_CTL.MIRROR && !s.fbit F.PAIR.PAIR_CTL.PRIMARY) = false := by
  rcases h with h | h <;> simp [h]

theorem State.updates_held (s : State) (hm : s.fbit F.PAIR.PAIR_CTL.MIRROR = true)
    (hp : s.fbit F.PAIR.PAIR_CTL.PRIMARY = false) :
    (s.fbit F.PAIR.PAIR_CTL.MIRROR && !s.fbit F.PAIR.PAIR_CTL.PRIMARY) = true := by
  simp [hm, hp]

/-- A write to a page leaves a one-bit plain field alone. -/
theorem State.fbit_touch (s : State) (c : Cls) (i : Nat) (g : Fld) (i' : Nat) (h : g.plain = true) :
    (s.touch c i).fbit g i' = s.fbit g i' :=
  congrArg (· == 1) (s.fget_touch c i g i' 0 0 0 h)

/-! ### GO of a translation update -/

theorem exec_xltUpdate (c : Chan) (s : State) : exec (.xltUpdate c) s = .next ((s.touch .mem c).xltUpdate c) := rfl

theorem State.xltData_touch (s : State) (c : Cls) (i x : Nat) : (s.touch c i).xltData x = s.xltData x := by
  have hdata : ∀ e ∈ List.range 4, (s.touch c i).fget F.MEM.XLT_DATA.DATA x e = s.fget F.MEM.XLT_DATA.DATA x e :=
    fun e he => s.fget_touch c i _ x e 0 0 (by revert e; decide)
  exact congrArg packBits (List.map_congr_left fun e he => by rw [hdata e he])

/-- The page when an update of `key` begins, before the write of copy A (R284). -/
def State.xltBegun (s : State) (c key val : Nat) (mir : Bool) : State :=
  { s.stsBegun xltSts c with mem := { s.mem with
    upd := tset 0 s.mem.upd c 1, updKey := tset 0 s.mem.updKey c key, updVal := tset 0 s.mem.updVal c val,
    updMir := tset 0 s.mem.updMir c (b2n mir) } }

theorem State.xltBegun_regs (s : State) (c key val : Nat) (mir : Bool) :
    (s.xltBegun c key val mir).regs = (s.stsBegun xltSts c).regs := rfl

theorem State.xltStart_eq (s : State) (c key val : Nat) (mir : Bool) :
    s.xltStart c key val mir = (s.xltBegun c key val mir).localWrite c 1 (xltFma false key) 16 val := rfl

theorem State.xltBegun_updatesKept (s : State) (c key val : Nat) (mir : Bool) :
    (s.xltBegun c key val mir).UpdatesKept (s.xltStart c key val mir) :=
  s.xltStart_eq c key val mir ▸ State.UpdatesKept.localWrite ..

/-- A started update holds its key and entry, and copy A is written first. -/
theorem State.xltStart_mem (s : State) (c key val : Nat) (mir : Bool) :
    tget 0 (s.xltStart c key val mir).mem.updKey c = key ∧ tget 0 (s.xltStart c key val mir).mem.updVal c = val
      ∧ (s.xltStart c key val mir).mem.writesA c := by
  have hkept := s.xltBegun_updatesKept c key val mir
  obtain ⟨hkey, hval⟩ := hkept.xltEntry
  rw [hkey, hval]
  exact ⟨tget_tset_same 0 s.mem.updKey c key, tget_tset_same 0 s.mem.updVal c val,
    hkept.xlt c (.inl (tget_tset_same 0 s.mem.upd c 1))⟩

theorem exec_xltUpdate_held (c : Chan) (s : State) (hm : s.fbit F.PAIR.PAIR_CTL.MIRROR = true)
    (hp : s.fbit F.PAIR.PAIR_CTL.PRIMARY = false) :
    exec (.xltUpdate c) s = .next ((s.touch .mem c).pgErr .mem c 0x194) := by
  rw [← s.fbit_touch .mem c _ _ (by decide)] at hm hp
  exact (exec_xltUpdate c s).trans (congrArg _ (if_pos (State.updates_held _ hm hp)))

/-- A write of GO that is performed looks at the key's channel and at BUSY. -/
theorem exec_xltUpdate_performed (c : Chan) (s : State)
    (hopen : s.fbit F.PAIR.PAIR_CTL.MIRROR = false ∨ s.fbit F.PAIR.PAIR_CTL.PRIMARY = true) :
    exec (.xltUpdate c) s = .next (
      if (fmaLoc (xltFma false (s.fget F.MEM.XLT_KEY.KEY c))).1 ≠ c then (s.touch .mem c).fset F.MEM.XLT_STS.RES 1 c
      else if s.fbit F.MEM.XLT_STS.BUSY c then (s.touch .mem c).fset F.MEM.XLT_STS.RES 2 c
      else (s.touch .mem c).xltStart c (s.fget F.MEM.XLT_KEY.KEY c) (s.xltData c) false) := by
  rw [← s.fbit_touch .mem c _ _ (by decide), ← s.fbit_touch .mem c F.PAIR.PAIR_CTL.PRIMARY _ (by decide)] at hopen
  rw [exec_xltUpdate, State.xltUpdate, State.updates_open _ hopen, s.fbit_touch .mem c _ _ (by decide), s.xltData_touch,
    s.fget_touch .mem c F.MEM.XLT_KEY.KEY _ _ _ _ (by decide)]
  rfl

/-! ### GO of a binding update -/

theorem exec_pbUpdate (s : State) : exec .pbUpdate s = .next (s.touch .glb 0).pbUpdate := rfl

theorem State.pbData_touch (s : State) (c : Cls) (i : Nat) : (s.touch c i).pbData = s.pbData := by
  simp (disch := decide) only [State.pbData, State.fget_touch]

theorem State.pbIdx_touch (s : State) (c : Cls) (i : Nat) : (s.touch c i).pbIdx = s.pbIdx := by
  simp (disch := decide) only [State.pbIdx, State.fget_touch]

theorem State.pbRefusal_touch (s : State) (c : Cls) (i : Nat) : (s.touch c i).pbRefusal = s.pbRefusal := by
  simp (disch := decide) only [State.pbRefusal, State.pbData_touch, State.fget_touch, State.fbit_touch]

/-- The fabric when a binding update begins, before the write of the entry (R342). -/
def State.pbBegun (s : State) (i val : Nat) (mir : Bool) : State :=
  { s.stsBegun pbSts 0 with mem := { s.mem with pbUpd := 1, pbKey := i, pbVal := val, pbMir := mir } }

theorem State.pbBegun_regs (s : State) (i val : Nat) (mir : Bool) :
    (s.pbBegun i val mir).regs = (s.stsBegun pbSts 0).regs := rfl

theorem State.pbStart_eq (s : State) (i val : Nat) (mir : Bool) :
    s.pbStart i val mir = (s.pbBegun i val mir).localWrite (fmaLoc (bindFma i)).1 2 (bindFma i) 32 val := rfl

theorem State.pbBegun_updatesKept (s : State) (i val : Nat) (mir : Bool) :
    (s.pbBegun i val mir).UpdatesKept (s.pbStart i val mir) :=
  s.pbStart_eq i val mir ▸ State.UpdatesKept.localWrite ..

theorem exec_pbUpdate_held (s : State) (hm : s.fbit F.PAIR.PAIR_CTL.MIRROR = true)
    (hp : s.fbit F.PAIR.PAIR_CTL.PRIMARY = false) : exec .pbUpdate s = .next ((s.touch .glb 0).pgErr .glb 0 0x1E0) := by
  rw [← s.fbit_touch .glb 0 _ _ (by decide)] at hm hp
  exact (exec_pbUpdate s).trans (congrArg _ (if_pos (State.updates_held _ hm hp)))

/-- A write of GO that is performed is refused with a code, or starts. -/
theorem exec_pbUpdate_performed (s : State)
    (hopen : s.fbit F.PAIR.PAIR_CTL.MIRROR = false ∨ s.fbit F.PAIR.PAIR_CTL.PRIMARY = true) :
    exec .pbUpdate s = .next (if s.pbRefusal ≠ 0 then (s.touch .glb 0).fset F.GLB.PB_STS.RES s.pbRefusal
      else (s.touch .glb 0).pbStart s.pbIdx s.pbData false) := by
  rw [← s.fbit_touch .glb 0 _ _ (by decide), ← s.fbit_touch .glb 0 F.PAIR.PAIR_CTL.PRIMARY _ (by decide)] at hopen
  rw [exec_pbUpdate, State.pbUpdate, State.updates_open _ hopen, s.pbRefusal_touch, s.pbIdx_touch, s.pbData_touch]
  rfl

/-! ### Acknowledgements -/

/-- Mirroring an event changes what waits for the partner alone (R508). -/
theorem State.mirror_pair (s : State) (l : List MirItem) : ∃ p, s.mirror l = { s with pair := p } := by
  simp only [State.mirror]
  split
  · exact ⟨_, rfl⟩
  · exact ⟨s.pair, rfl⟩

/-- What an acknowledgement does to the update that the page of channel `c` has under way (R284). -/
def State.xltAck (s : State) (c : Nat) : State :=
  let a := s.fget F.MEM.XLT_STS.ACKS c + 1
  if a = 8 then
    let t : State := { s.stsEnded xltSts c a with mem := { s.mem with upd := tset 0 s.mem.upd c 0 } }
    if tget 0 s.mem.updMir c = 1 then { t with pair := { t.pair with curSt := 3 } }
    else t.mirror [.xlt (tget 0 s.mem.updKey c) (tget 0 s.mem.updVal c)]
  else s.fset F.MEM.XLT_STS.ACKS a c

theorem exec_invAck_xlt (n : Node) (m : Msg) (s : State) (hok : msgOk m = true) (hxlt : vbits m 43 1 = 0) :
    exec (.invAck n m) s = .next (if isMemStop n && tget 0 s.mem.upd (sectorOf n) == 3 then (s.take n m).xltAck (sectorOf n)
      else s.take n m) :=
  congrArg _ ((if_neg (by simp [hok])).trans (if_pos hxlt))

theorem State.xltAck_counted (s : State) (c : Nat) (h : s.fget F.MEM.XLT_STS.ACKS c + 1 ≠ 8) :
    s.xltAck c = s.fset F.MEM.XLT_STS.ACKS (s.fget F.MEM.XLT_STS.ACKS c + 1) c := if_neg h

/-- The eighth acknowledgement ends the update; beside that it changes what the pair holds alone (R508). -/
theorem State.xltAck_last (s : State) (c : Nat) (h : s.fget F.MEM.XLT_STS.ACKS c + 1 = 8) :
    ∃ p, s.xltAck c = { s.stsEnded xltSts c 8 with mem := { s.mem with upd := tset 0 s.mem.upd c 0 }, pair := p } := by
  simp only [State.xltAck, h, if_true]
  split
  · exact ⟨_, rfl⟩
  · exact State.mirror_pair ..

theorem exec_invAck_pb (n : Node) (m : Msg) (s : State) (hok : msgOk m = true) (hpb : vbits m 43 1 = 1) :
    exec (.invAck n m) s = .next (if vbits m 42 1 = 0 then (s.take n m).pbAck else s.take n m) :=
  congrArg _ ((if_neg (by simp [hok])).trans (if_neg (by omega)))

theorem State.pbAck_stray (s : State) (h : s.mem.pbUpd ≠ 3) : s.pbAck = s := if_pos h

theorem State.pbAck_counted (s : State) (hinv : s.mem.pbUpd = 3) (h : s.fget F.GLB.PB_STS.ACKS + 1 ≠ 8) :
    s.pbAck = s.fset F.GLB.PB_STS.ACKS (s.fget F.GLB.PB_STS.ACKS + 1) :=
  (if_neg (not_not_intro hinv)).trans (if_neg h)

theorem State.pbAck_last (s : State) (hinv : s.mem.pbUpd = 3) (h : s.fget F.GLB.PB_STS.ACKS + 1 = 8) :
    ∃ p, s.pbAck = { s.stsEnded pbSts 0 8 with mem := { s.mem with pbUpd := 0 }, pair := p } := by
  simp only [State.pbAck, hinv, h, ne_eq, not_true_eq_false, if_false, if_true]
  split
  · exact ⟨_, rfl⟩
  · exact State.mirror_pair ..

/-- Settles O45: GO as its checks decide, and each acknowledgement as its count decides. -/
theorem tableUpdatesRunToDone : Obligations.TableUpdatesRunToDone := by
  unfold Obligations.TableUpdatesRunToDone
  refine ⟨?xltGo, ?xltAck, ?pbAck, exec_pbUpdate_held, ?pbGo⟩
  case xltGo =>
    rintro c s key rfl
    refine ⟨exec_xltUpdate_held c s, fun hopen => ?_⟩
    have hgo := exec_xltUpdate_performed c s hopen
    refine ⟨fun hfar => ?_, fun hown hbusy => ?_, fun hown hidle => ?_⟩
    · rw [hgo, if_pos hfar]
    · rw [hgo, if_neg (not_not_intro hown), if_pos hbusy]
    · rw [hgo, if_neg (not_not_intro hown), if_neg (Bool.eq_false_iff.mp hidle)]
      obtain ⟨hbusy, hdone, hres, hacks⟩ := (State.xltBegun_updatesKept (s.touch .mem c) c
        (s.fget F.MEM.XLT_KEY.KEY c) (s.xltData c) false).begun (f := xltSts) (by decide) (State.xltBegun_regs ..)
      exact ⟨_, rfl, hbusy, hdone, hres, hacks, State.xltStart_mem ..⟩
  case xltAck =>
    intro n m s hok hxlt
    have hack := exec_invAck_xlt n m s hok hxlt
    refine ⟨fun h => ?_, ?_⟩
    · rw [hack, h, if_neg Bool.false_ne_true]
    · rintro a hstop hinv rfl
      rw [if_pos (by rw [hstop, hinv]; rfl)] at hack
      by_cases h8 : s.fget F.MEM.XLT_STS.ACKS (sectorOf n) + 1 = 8
      · obtain ⟨p, hlast⟩ := (s.take n m).xltAck_last (sectorOf n) h8
        obtain ⟨hacks, hdone, hbusy⟩ := State.stsEnded_reads (f := xltSts) (by decide) (s.take n m) (sectorOf n) 8
        rw [hlast] at hack
        exact ⟨_, hack, h8 ▸ hacks, fun _ => ⟨hdone, hbusy, tget_tset_same 0 s.mem.upd (sectorOf n) 0⟩,
          fun h => absurd h8 h⟩
      · rw [(s.take n m).xltAck_counted _ h8] at hack
        exact ⟨_, hack, State.fget_fset .., fun h => absurd h h8,
          fun _ => ⟨rfl, State.fget_fset_apart (s.take n m) _ _ _ _ _ _ _ _ _ (by decide)⟩⟩
  case pbAck =>
    intro n m s hok hpb
    have hack := exec_invAck_pb n m s hok hpb
    refine ⟨fun h => ?_, ?_⟩
    · rw [hack]
      split
      next hentry => rw [(s.take n m).pbAck_stray (h.resolve_left (by omega))]
      next => rfl
    · rintro a hentry hinv rfl
      rw [if_pos hentry] at hack
      by_cases h8 : s.fget F.GLB.PB_STS.ACKS + 1 = 8
      · obtain ⟨p, hlast⟩ := (s.take n m).pbAck_last hinv h8
        obtain ⟨hacks, hdone, hbusy⟩ := State.stsEnded_reads (f := pbSts) (by decide) (s.take n m) 0 8
        rw [hlast] at hack
        exact ⟨_, hack, h8 ▸ hacks, fun _ => ⟨hdone, hbusy, rfl⟩, fun h => absurd h8 h⟩
      · rw [(s.take n m).pbAck_counted hinv h8] at hack
        exact ⟨_, hack, State.fget_fset .., fun h => absurd h h8, fun _ => rfl⟩
  case pbGo =>
    intro s hopen
    have hgo := exec_pbUpdate_performed s hopen
    refine ⟨fun hrefused => ?_, fun hfree => ?_⟩
    · rw [hgo, if_pos hrefused]
    · rw [hgo, if_neg (not_not_intro hfree)]
      have hkept := State.pbBegun_updatesKept (s.touch .glb 0) s.pbIdx s.pbData false
      obtain ⟨hbusy, hdone, hres, hacks⟩ := hkept.begun (f := pbSts) (by decide) (State.pbBegun_regs ..)
      obtain ⟨hkey, hval⟩ := hkept.pbEntry
      exact ⟨_, rfl, hbusy, hdone, hres, hacks, hkey, hval, hkept.pb (.inl rfl)⟩

end Sys2Proof.Machine
end
